-- ==== Sys2Proof/Word.lean ====
section
/-!
DEFINITION. The word types of the Viqua Ashal (spec 00, R6): registers are 32 bits wide, memory is addressed in bytes.
-/
namespace Sys2Proof

/-- A register word: 32 bits (00 R6). -/
abbrev Word := BitVec 32

/-- A byte of memory. -/
abbrev Byte := BitVec 8

/-- The 64-bit word of banks, ruling-table entries, stamps and core queues. -/
abbrev DWord := BitVec 64

end Sys2Proof
end

