-- ==== Sys2Proof/Syntax.lean ====
section
/-!
DEFINITION. The commands of the block: one constructor of Instr per row of the spec's table of operations and events
(opcode_table.json), with the operands the row's rule gives it. A command is a register write, a bus or protocol
operation, a pin or link event or a timer of the device.
-/
namespace Sys2Proof

/-- The power domains of 01 R17. -/
inductive Dom where
  | quill (g : Fin 16)
  | bundle (n : Fin 48)
  | near (c : Fin 36)
  | cave (p : Fin 16)
  | hoop (n : Fin 192)
  | iob (n : Fin 13)
  | alwaysOn
  | coreServices
  | config (n : Fin 2)
  | memoryLayer
  deriving DecidableEq, Repr

/-- The status of a response (11 R346). -/
inductive Status where
  | ok | decode | denied | busy | domainOff | fault | integrity | keyExhausted | nocTimeout
  deriving DecidableEq, Repr

/-- A span segment of the fabric (04 R137, R143): layer, direction, span index, segment along the span, row or column. -/
structure Seg where
  layer : Fin 2
  vertical : Bool
  span : Fin 16
  segment : Fin 16
  line : Fin 480
  deriving DecidableEq, Repr

/-- Who issues a request (01 R26, 11 R340). -/
inductive Requester where
  | core (n : Fin 128)
  | fabPort (i : Fin 16)
  | writer (i : Fin 16)
  | pmu (c : Fin 4)
  | scrub (e : Fin 2)
  | lookback (e : Fin 4)
  | lbtx (t : Fin 2)
  | host
  | debug
  | sceum
  | loader
  | engine
  | collector
  | migration
  | ethernet
  | exchange
  deriving DecidableEq, Repr

/-- A byte access to memory: a read of `len` bytes, a write of bytes under byte enables with their poison mark, or an
atomic operation (11 R345). -/
inductive MemAcc where
  | read (len : Nat)
  | write (data : List Byte) (be : List Bool) (poison : Bool)
  | atomic (aop : Fin 16) (size : Nat) (operand : DWord)
  deriving DecidableEq, Repr

/-- A port of a block bank. -/
inductive BankPort where
  | a | b
  deriving DecidableEq, Repr

/-- A bank: one of the 8,192 block banks or of the 256 scratch banks. -/
inductive BankId where
  | block (n : Fin 8192)
  | scratch (n : Fin 256)
  deriving DecidableEq, Repr

/-- The pins of an arithmetic slice at one edge (06 R196). -/
structure SlicePins where
  opa : BitVec 24
  opb : BitVec 24
  ope : BitVec 24
  opw : BitVec 64
  en : Bool
  zero : Bool
  neg : Bool
  deriving DecidableEq, Repr

/-- What user logic of a region drives on a block-bank port with MB_EN = 1 at one edge of its clock, the `edge`-th since the
last crossing boundary (08 R244). -/
structure PortAcc where
  region : Nat
  edge : Nat
  addr : Nat
  we : Byte
  data : DWord
  poison : Bool
  deriving DecidableEq, Repr

/-- A cell of the boundary register by the pin it covers (19 R584): a user I/O pin; a near-store channel's DQ, DQS, CA, CS
and CKE pins by group and number; SRST_N, PGOOD, the straps; XO_IN, MCLK and ORB, which are observed only; a lane of a bundle
and of an Ethernet port, by direction. -/
inductive BsCell where
  | userIo (p : Fin 416)
  | near (c : Fin 36) (group : Fin 5) (i : Fin 16)
  | srstN
  | pgood
  | strap (i : Fin 14)
  | xoIn
  | mclk (negative : Bool)
  | orb (negative : Bool)
  | lane (n : Fin 48) (tx : Bool) (m : Fin 10)
  | sfi (port : Fin 2) (tx : Bool)
  deriving DecidableEq, Repr

/-- What an engine meets in one line access (10 R319, R330, R335, R336): symbols of the line that are upset in the memory before
it, by their place in the code word (0 to 63 the ciphertext, 64 to 66 the tag, 67 the minor counter, 68 to 71 the check);
another content, tag and minor counter that the memory gives in place of the line as stored; a counter-table line that fails
its check; misses of the counter cache and of the metadata cache. -/
structure EngFetch where
  upsets : List (Fin 72 × Byte)
  other : Option (List Byte × BitVec 24 × Byte)
  tableFail : Bool
  ctrMiss : Bool
  metaMiss : Bool
  deriving DecidableEq, Repr

/-- Where a head flit has waited for 10 µs (11 R356): at an input of a router, with the NI and the transaction of its packet if
it is a request, or in its source NI. -/
inductive StallAt where
  | router (r : Fin 144) (req : Option (Fin 288 × Nat))
  | ni (n : Fin 288)
  deriving DecidableEq, Repr

/-- The registers of the ring (09 R299). -/
inductive RingReg where
  | ctrl | nbase | nlen | idxBase | idxLen
  deriving DecidableEq, Repr

/-- Where a packet of a partner comes from (14 R444): IPv6 or not, IP address, UDP port, Ethernet address. -/
structure Peer where
  v6 : Bool := false
  ip : Nat := 0
  port : Nat := 0
  mac : Nat := 0
  deriving DecidableEq, Repr

/-- A UDP packet as received (14 R443 to R446): Ethernet port, source, destination address and port, VLAN id (0
untagged), whether it uses only supported features and its checksum is correct, payload. -/
structure VcpPacket where
  eth : Bool
  peer : Peer
  dst : Nat
  dport : Nat
  vlan : Nat
  plain : Bool
  bytes : List Byte
  deriving DecidableEq, Repr

/-- A network control frame (14 R443): ARP, ICMP echo, neighbour solicitation, ICMPv6 echo, or one that uses an
unsupported feature. -/
inductive CtlKind where
  | arp | icmp | neighbour | icmp6 | unsupported
  deriving DecidableEq, Repr

/-- A network control frame as received: Ethernet port, kind, the address it asks for or goes to, source. -/
structure CtlFrame where
  eth : Bool
  kind : CtlKind
  dst : Nat
  peer : Peer
  deriving DecidableEq, Repr

/-- A calibration item (15 R493): a lane's sampler, a receiver's termination, the internal oscillator, the voltage
references. -/
inductive CalItem where
  | sampler (n : Fin 48) (m : Fin 9)
  | termination (r : Fin 896)
  | oscillator
  | references
  deriving DecidableEq, Repr

/-- A self-test failure (15 R498): block type code, test phase, block index, failing word, row or frame, failing bit. -/
structure SelfFail where
  block : Nat
  phase : Nat
  index : Nat
  place : Nat
  bit : Nat
  deriving DecidableEq, Repr

/-- A spare that is tested in service (15 R501). -/
inductive SpareId where
  | block (s : Fin 128)
  | scratch (t : Fin 16)
  | crossbar (r : Fin 144)
  deriving DecidableEq, Repr

/-- Who waits for the end of an ACCEPTED command: a session (slot, id, sequence), or a cascade's master for a relayed one
(source member, tag) (14 R457, 18 R578). -/
inductive Origin where
  | session (slot : Fin 1024) (id seq : Nat)
  | relay (member tag : Nat)
  deriving DecidableEq, Repr


/-- The commands, one constructor per row of the table, in the table's order. -/
inductive Instr where
  /-- REG_WRITE (R8): A write to a register field that has no row of its own takes effect according to its access code. -/
  | regWrite (addr : Nat) (len : Nat) (v : Word)
  /-- RC_READ (R8): A read of an RC field returns the field and then clears it, except through the debug port. -/
  | rcRead (addr : Nat) (len : Nat) (quiet : Bool)
  /-- DOMAIN_SWITCH_OFF (R18): A switch-off request for a switchable domain is accepted in ON, latched in POWERING_UP, or refused where the domain cannot be switched. -/
  | domainSwitchOff (d : Dom)
  /-- DOMAIN_ENABLE (R18): An enable request starts POWERING_UP from OFF, or is latched as PENDING_ENABLE in POWERING_DOWN. -/
  | domainEnable (d : Dom)
  /-- DOMAIN_GATING_DONE (R18): Gating of a powering-down domain completes, and the domain enters OFF or, with an enable latched, POWERING_UP. -/
  | domainGatingDone (d : Dom)
  /-- DOMAIN_POWER_UP_DONE (R18): The power-up condition of a domain is met, and it enters ON, lifting its fence, or passes to POWERING_DOWN if a switch-off is latched. -/
  | domainPowerUpDone (d : Dom)
  /-- MTIME_SRC_CHANGE (R30): A write of MTIME_CTRL.src changes the machine-time source through the glitch-free switch and enters ACQUIRE or FREE. -/
  | mtimeSrcChange (src : BitVec 2)
  /-- MTIME_REALIGN (R44): A write of MTIME_CTRL.realign puts machine time into ACQUIRE to realign the crossing counter. -/
  | mtimeRealign
  /-- MTIME_ORBIT_LOAD (R39): A write of MTIME_CTRL.orbit_load arranges for the orbit counter to take MTIME_ORBIT_LOAD at the next crossing 0. -/
  | mtimeOrbitLoad
  /-- MTIME_NOM_PERIOD_WRITE (R48): A write of MTIME_NOM_PERIOD sets the nominal period, or is refused with bad_period when out of range. -/
  | mtimeNomPeriodWrite (v : Word)
  /-- CROSSING_BOUNDARY (R37): The tracking generator makes a crossing boundary: the crossing counter advances and the entry for that crossing takes effect. -/
  | crossingBoundary (ck : BitVec 16)
  /-- ORBIT_START (R37): The crossing counter returns to 0, the orbit counter increments or loads, and orbit-boundary actions apply. -/
  | orbitStart (ck : BitVec 16)
  /-- ORBIT_MARKER (R32): An orbit marker is sampled and checked against the expected index according to the machine-time state. -/
  | orbitMarker (wide : Bool)
  /-- CLOCK_QUALIFIED (R41): A machine clock within 200 ppm of nominal for 1,024 consecutive periods moves FREE to ACQUIRE or starts a return from COASTING. -/
  | clockQualified (measured : Nat)
  /-- PHASE_LOCK (R633): The generator's phase pull-in reaches lock, clearing the coasting flag and starting the marker search or the check on return. -/
  | phaseLock
  /-- MARKER_SEARCH_TIMEOUT (R42): 65,536 crossings from phase lock pass without two markers one orbit apart, setting marker_missing and raising MTIME_NO_MARKER. -/
  | markerSearchTimeout
  /-- COAST_RETURN_TIMEOUT (R47): No two markers arrive within 65,536 crossings of phase lock on return from COASTING, and the state becomes SLIPPED. -/
  | coastReturnTimeout
  /-- MACHINE_CLOCK_LOSS (R45): No machine clock edge within 1.5 periods declares loss, writes MTIME_COAST_T and enters COASTING. -/
  | machineClockLoss (begun : Bool)
  /-- FREQ_WINDOW_END (R45): At the end of a 1,024-period averaging window, a frequency more than 200 ppm from nominal declares loss of the machine clock. -/
  | freqWindowEnd (measured : Nat)
  /-- RT_SHADOW_WRITE (R57): A write to the shadow window merges one half of an entry with fresh check bits, or receives BUSY while a swap is pending. -/
  | rtShadowWrite (half : Fin 32768) (v : Word)
  /-- RT_SWAP_REQUEST (R58): A write of MTIME_RT_CTRL.swap requests a bank swap, refused with bad_len for a short orbit. -/
  | rtSwapRequest (v : Word)
  /-- RT_SWAP_COMMIT (R58): A pending swap is committed at the boundary of crossing L-2, and the banks exchange roles at the next crossing 0. -/
  | rtSwapCommit
  /-- STEAL_WINDOW_WRITE (R54): A write of MTIME_STEAL0-3 defines a stolen window that takes effect at the next crossing 0. -/
  | stealWindowWrite (i : Fin 4) (v : Word)
  /-- EVT_TARGET_WRITE (R64): A write of an event comparator's target while armed clears arm without firing. -/
  | evtTargetWrite (n : Fin 16) (high : Bool) (v : Word)
  /-- EVENT_COMPARATOR_FIRE (R62): An armed comparator reaches its target, carries out its actions, sets fired and late as needed, and clears arm. -/
  | eventComparatorFire (n : Fin 16)
  /-- MTIME_SNAP (R68): A write of MTIME_SNAP captures the machine-time stamp and powered time together. -/
  | mtimeSnap
  /-- LANE_CFG_WRITE (R75): A write of LANE_CFG sets mode, rate and layers while the lanes are OFF, or receives BUSY or DENIED under the limits. -/
  | laneCfgWrite (n : Fin 48) (v : Word)
  /-- LANE_ENABLE (R98): A LANE_CMD enable starts a lane's bring-up in DETECT, or is latched while the lane is STOPPING. -/
  | laneEnable (n : Fin 48) (m : Fin 9)
  /-- LANE_DISABLE (R98): A LANE_CMD disable moves a lane into STOPPING. -/
  | laneDisable (n : Fin 48) (m : Fin 9)
  /-- LANE_RETRAIN (R98): A LANE_CMD retrain moves an ACTIVE or STANDBY lane into RETRAIN. -/
  | laneRetrain (n : Fin 48) (m : Fin 9)
  /-- LANE_REINSTATE (R113): A write of LANE_REINSTATE takes a RETIRED lane back to DETECT. -/
  | laneReinstate (n : Fin 48) (m : Fin 9)
  /-- DETECT_POLL (R98): Every 100 us a DETECT lane tests for the far receiver and enters TRAIN once signal has been present for 10 us. -/
  | detectPoll (n : Fin 48) (m : Fin 9) (found : Bool) (signal : Bool)
  /-- TRAIN_BIT_LOCK (R98): Training reaches bit lock and the lane enters ALIGN. -/
  | trainBitLock (n : Fin 48) (m : Fin 9) (slice : Fin 4)
  /-- TRAIN_TIMEOUT (R98): 4 ms pass in TRAIN without bit lock, and the lane counts an attempt and returns to DETECT. -/
  | trainTimeout (n : Fin 48) (m : Fin 9)
  /-- ALIGN_TIMEOUT (R98): 200 us pass in ALIGN without 8 good frames, and the lane counts an attempt and returns to DETECT. -/
  | alignTimeout (n : Fin 48) (m : Fin 9)
  /-- CAPS_TIMEOUT (R98): 2 ms pass in CAPS without a completed exchange, and the lane counts an attempt and returns to DETECT. -/
  | capsTimeout (n : Fin 48) (m : Fin 9)
  /-- RX_FRAME (R82): A crossing frame is received whole, descrambled and checked for sync, CRC and tag, and it drives alignment, capability and spare logic. -/
  | rxFrame (n : Fin 48) (m : Fin 9) (frame : Nat) (margin : Int)
  /-- RX_SLOT_DELIVERY (R88): At a lane's delivery slot the waiting frame, or a missing-frame indication, is presented to user logic. -/
  | rxSlotDelivery (n : Fin 48) (m : Fin 8)
  /-- TX_PORT_WRITE (R86): User logic writes a word to a transmit lane port for the frame of the next eligible boundary. -/
  | txPortWrite (layer : Fin 2) (n : Fin 48) (m : Fin 8) (phase : Nat) (data : Nat) (user : Bool) (poison : Bool)
  /-- TX_FRAME_LAUNCH (R85): A transmit frame, written or empty, is launched at a crossing boundary with its local tag. -/
  | txFrameLaunch (n : Fin 48) (m : Fin 10)
  /-- BYPASS_FRAME (R97): A bypass transmit lane relaunches its source frame 768 UI + 8.0 ns after arrival. -/
  | bypassFrame (n : Fin 48) (m : Fin 8) (typ : Byte) (payload : Nat)
  /-- LOSS_OF_LOCK (R99): A lane loses clock recovery lock or sees 4 consecutive sync errors and enters RETRAIN. -/
  | lossOfLock (n : Fin 48) (m : Fin 9) (recovery : Bool)
  /-- RETRAIN_DONE (R98): A retraining lane regains frame lock with non-negative margin and returns to its previous state. -/
  | retrainDone (n : Fin 48) (m : Fin 9) (margin : Int)
  /-- RETRAIN_TIMEOUT (R108): A lane fails to leave RETRAIN within 10 us and is retired, or returns to DETECT while coasting. -/
  | retrainTimeout (n : Fin 48) (m : Fin 9)
  /-- LANE_STOP_DONE (R98): A STOPPING lane finishes clearing and enters OFF, or DETECT if an enable is latched. -/
  | laneStopDone (n : Fin 48) (m : Fin 9)
  /-- CK_LANE_LOSS (R84): The receive .CK lane fails, and receivers fall back to the local reference with ck_lost set. -/
  | ckLaneLoss (n : Fin 48) (begun : Bool)
  /-- LANE_EYE_START (R118): A write of LANE_EYE_CTRL with start = 1 starts a scan point, or receives BUSY while one runs. -/
  | laneEyeStart (n : Fin 48) (v : Word)
  /-- EYE_SCAN_ABORT (R117): A write of LANE_EYE_CTRL with start = 0 during a scan, or the lane leaving service, aborts the scan. -/
  | eyeScanAbort (n : Fin 48) (write : Option Word)
  /-- EYE_SCAN_DONE (R117): The scan's bit count is reached and the disagreement count is stored with state done. -/
  | eyeScanDone (n : Fin 48) (count : Nat)
  /-- SPAN_CONTENTION (R143): A segment's contention detector fires and the segment enters CUT, or STUCK on the third entry within 1 s. -/
  | spanContention (seg : Seg) (driver : Fin 42)
  /-- SPAN_REENABLE (R143): A cut segment's frames are corrected or found clean, and its drivers are re-enabled at the next crossing boundary. -/
  | spanReenable (seg : Seg) (corrected : Bool)
  /-- FCLK_CTRL_WRITE (R150): A write of FAB_FCLK_CTRL sets the fabric clock multiples before global start, or is refused with BUSY or bad_k. -/
  | fclkCtrlWrite (v : Word)
  /-- IOD_WRITE (R157): A write of FAB_IOD sets a pin's input delay, moved one tap per word clock, and its slip at the next word boundary. -/
  | iodWrite (p : Fin 416) (v : Word)
  /-- GRP_SWITCH_REQUEST (R166): A write of FAB_GRP req requests a context switch for the second crossing boundary after the write. -/
  | grpSwitchRequest (g : Fin 8) (v : Word)
  /-- GRP_REQUEST_APPLY (R167): At its boundary a pending group request is carried out, or discarded when the ruling table switches the group there. -/
  | grpRequestApply (g : Fin 8)
  /-- HOOP_CFG_WRITE (R165): A write of FAB_HOOP_CFG sets its fields, or receives BUSY if it would change grp in a forbidden state. -/
  | hoopCfgWrite (n : Fin 192) (v : Word)
  /-- HOOP_RELEASE (R183): A release command for a hoop acts according to its state: release at the next boundary, latch, no effect or refusal. -/
  | hoopRelease (n : Fin 192)
  /-- HOOP_STOP (R183): A stop command for a hoop enters STOPPING, withdraws a pending release, or is refused while LOADING. -/
  | hoopStop (n : Fin 192)
  /-- HOOP_STOP_EDGE (R181): At the crossing boundary after a stop the hoop clamps, gates and resets. -/
  | hoopStopEdge (n : Fin 192)
  /-- HOOP_STOP_COMPLETE (R181): A stopping hoop finishes clearing and enters HELD, or RUN if a release is latched. -/
  | hoopStopComplete (n : Fin 192)
  /-- HOOP_RELEASE_EDGE (R182): At the release edge a hoop enters RUN, its clamp releases and its hard blocks are checked. -/
  | hoopReleaseEdge (n : Fin 192)
  /-- HOOP_REPAIR_RESUME (R181): Once every affected frame is rewritten, a hoop in REPAIR resumes RUN at the next crossing boundary. -/
  | hoopRepairResume (n : Fin 192)
  /-- GLOBAL_START (R189): At the start edge every group takes its context, fixed regions start and eligible hoops enter RUN, unless start is refused. -/
  | globalStart
  /-- SLICE_SAMPLE (R198): An enabled arithmetic slice samples its operands and later captures Y plus or minus T, or a compare-select pair, into ACC. -/
  | sliceSample (i : Fin 12288) (edge : Nat) (pins : SlicePins)
  /-- RANK_SET (R208): A rank unit samples a set of 64 candidates with RK_GO and ranks the best 16. -/
  | rankSet (r : Fin 192) (cands : List Word) (go : Bool)
  /-- RANK_RESULT (R210): Twelve cycles after a set was sampled, the rank unit presents its outputs and RK_DONE. -/
  | rankResult (r : Fin 192)
  /-- PM_SEARCH (R219): A pattern match array samples a key with PM_GO and compares it with every row under the set selection in force. -/
  | pmSearch (a : Fin 256) (key : DWord) (kpoison : Bool) (tag : BitVec 16) (upsets : List (Fin 32768 × Fin 148))
  /-- PM_SEARCH_RESULT (R225): Ten cycles after a search, the array presents the hit list, count, poison and PM_DONE. -/
  | pmSearchResult (a : Fin 256)
  /-- PMU_WRITE (R228): A go write with op WRITE starts a pattern update channel writing rows from fetched records. -/
  | pmuWrite (c : Fin 4) (v : Word)
  /-- PMU_INVALIDATE (R228): A go write with op INVALIDATE starts writing rows all-zero and invalid. -/
  | pmuInvalidate (c : Fin 4) (v : Word)
  /-- PMU_READ (R228): A go write with op READ starts reading, checking and storing rows as records. -/
  | pmuRead (c : Fin 4) (v : Word)
  /-- PMU_SCRUB (R228): A go write with op SCRUB starts checking and correcting rows and writing a summary. -/
  | pmuScrub (c : Fin 4) (v : Word)
  /-- PMU_SETSEL (R234): A go write with op SETSEL puts the channel into WAIT_SET for the chosen boundary. -/
  | pmuSetsel (c : Fin 4) (v : Word)
  /-- PMU_ABORT (R233): A write of abort ends a busy or waiting channel's operation with status ABORTED. -/
  | pmuAbort (c : Fin 4)
  /-- PMU_ROW (R231): A channel completes one row at an edge of the array's clock, handling poison, ECC and access errors. -/
  | pmuRow (c : Fin 4) (upsets : List (Fin 32768 × Fin 148))
  /-- PMU_SETSEL_APPLY (R234): At its boundary a waiting SETSEL changes the array's set_en. -/
  | pmuSetselApply (c : Fin 4)
  /-- PMU_COMPLETE (R235): A channel leaves BUSY or WAIT_SET, writes its completion word and optionally posts it as a token. -/
  | pmuComplete (c : Fin 4)
  /-- BANK_PORT_ACCESS (R245): A block-bank port samples a read or write, handling ECC, poison, write modes and collisions. -/
  | bankPortAccess (b : Fin 8192) (port : BankPort) (acc : PortAcc)
  /-- BANK_PORT_RESULT (R245): A port's read result appears on MB_RDATA and MB_POISON after its latency. -/
  | bankPortResult (b : Fin 8192) (port : BankPort)
  /-- BANK_HANDOVER_REQUEST (R250): A write of MEMB_BOWN req requests an owner change for the second boundary after it, or is refused. -/
  | bankHandoverRequest (b : Fin 8192) (v : Word)
  /-- BANK_HANDOVER (R251): At the handover edge MB_OWN moves from the old owner's ports to the new owner's. -/
  | bankHandover (b : Fin 8192)
  /-- BANK_WINDOW_ACCESS (R252): A window or scrub access to a block bank is served at an idle port edge, or refused when win_en is 0. -/
  | bankWindowAccess (addr : Nat) (edge : Nat) (acc : MemAcc)
  /-- BANK_WINDOW_TIMEOUT (R253): A window access not served within 8 us receives BUSY. -/
  | bankWindowTimeout (b : Fin 8192)
  /-- SCRATCH_ACCESS (R254): A scratch bank grants one access per Quill clock, alternating paths, and completes it 2 clocks later. -/
  | scratchAccess (b : Fin 256) (offset : Nat) (acc : MemAcc)
  /-- BANK_POWER_TARGET (R263): A write of a bank's power target starts LOWERING or WAKING, is latched during a transition, or is refused. -/
  | bankPowerTarget (id : BankId) (v : BitVec 2)
  /-- BANK_LOWERING_DONE (R261): A lowering bank finishes and enters RETENTION or OFF, or applies its latched target. -/
  | bankLoweringDone (id : BankId)
  /-- BANK_WAKING_DONE (R261): A waking bank finishes restoring supply and enters ON. -/
  | bankWakingDone (id : BankId)
  /-- BANK_CLEARING_DONE (R261): A clearing bank finishes writing zeros and enters ON. -/
  | bankClearingDone (id : BankId)
  /-- BANK_ULOL_WRITE (R265): A write that sets ulol from 0 to 1 writes a blotter record, and the change applies at the next wake from OFF. -/
  | bankUlolWrite (id : BankId) (v : Word)
  /-- SCRUB_START (R268): A go write starts a memory scrub pass, or is refused for a bad descriptor. -/
  | scrubStart (e : Fin 2)
  /-- SCRUB_WORD (R269): A scrub engine reads one word and corrects, poisons, counts or skips it. -/
  | scrubWord (e : Fin 2) (timeout : Bool) (raced : Bool)
  /-- SCRUB_ABORT (R270): A write of abort ends a scrub pass after the word in progress. -/
  | scrubAbort (e : Fin 2)
  /-- SCRUB_COMPLETE (R270): A scrub pass ends, writes its summary record and completion word, and optionally posts a token. -/
  | scrubComplete (e : Fin 2)
  /-- NEAR_CTRL_WRITE (R274): A write of NEAR_CTRL sets rate, capacity and mirroring, leaving an unsupported density unchanged. -/
  | nearCtrlWrite (v : Word)
  /-- NEAR_TRAINING_DONE (R276): A near-store channel finishes training on FSP0 and FSP1 and starts its fill, or enters FAILED. -/
  | nearTrainingDone (c : Fin 36) (ok : Bool)
  /-- NEAR_FILL_DONE (R306): A channel finishes writing every line with the unwritten value. -/
  | nearFillDone (c : Fin 36)
  /-- DQS_DRIFT_CHECK (R276): Every 1 ms per rank the DQS oscillator is read and the DQ delays are adjusted in a short pause. -/
  | dqsDriftCheck (c : Fin 36) (rank : Fin 2) (delta : Int)
  /-- ZQ_CALIBRATION (R273): Every 32 ms per rank the controller issues ZQCal start and latch. -/
  | zqCalibration (c : Fin 36) (rank : Fin 2)
  /-- NEAR_REFRESH (R276): The controller issues a per-bank refresh at the rate given by mode register 4. -/
  | nearRefresh (c : Fin 36) (rank : Fin 2) (bank : Fin 8)
  /-- NEAR_ACCESS (R278): A request to a near-store offset is placed on its channel and page and served through the encryption engine. -/
  | nearAccess (req : Requester) (addr : BitVec 48) (acc : MemAcc) (fetch : List EngFetch)
  /-- NEAR_PLL_LOSS_TIMEOUT (R308): A channel's PHY PLL has not relocked within 10 us and the channel is retired. -/
  | nearPllLossTimeout (c : Fin 36)
  /-- NEAR_MIRROR_COPY_DONE (R311): The background copy of a reinstated mirror channel completes and reads may use it again. -/
  | nearMirrorCopyDone (c : Fin 36)
  /-- CAVE_PORT_ENABLE (R281): Enabling a cave port binds it to its bundle and enters LINKING, or is refused. -/
  | cavePortEnable (p : Fin 16)
  /-- CAVE_PORT_DISABLE (R282): Disabling a READY cave port enters STOPPING. -/
  | cavePortDisable (p : Fin 16)
  /-- CAVE_REINSTATE (R311): A write of CAVE_PCFG.reinstate moves a RETIRED port to LINKING. -/
  | caveReinstate (p : Fin 16)
  /-- CAVE_POWER_WRITE (R289): A write of CAVE_PCFG.power sends a POWER message to move the bridge between ACTIVE, IDLE and OFF. -/
  | cavePowerWrite (p : Fin 16) (v : BitVec 2)
  /-- CAVE_LINKING_DONE (R282): All eight data lanes are ACTIVE after capability exchange with a VQB18, and the port enters PROBE. -/
  | caveLinkingDone (p : Fin 16)
  /-- CAVE_LINK_TIMEOUT (R282): 50 ms pass in LINKING, and the port returns to DOWN with link_fail. -/
  | caveLinkTimeout (p : Fin 16)
  /-- CAVE_PROBE_DONE (R282): The bridge registers are read, and the port enters FILLING or returns to DOWN with probe_fail. -/
  | caveProbeDone (p : Fin 16)
  /-- CAVE_STOP_DONE (R282): A stopping cave port completes or discards its outstanding work and enters DOWN or LINKING. -/
  | caveStopDone (p : Fin 16)
  /-- CAVE_BLOCK_RX (R284): A link block arrives whole, is checked, sequenced and acknowledged, and its messages are taken out. -/
  | caveBlockRx (p : Fin 16)
  /-- CAVE_REPLAY_TIMEOUT (R284): Ack has not advanced for 512 crossings with blocks outstanding, and the sender replays. -/
  | caveReplayTimeout (p : Fin 16)
  /-- CAVE_ACCESS (R290): A request to a cave offset is sent to its port as WRITE or READ within credits, or answered by port state. -/
  | caveAccess (req : Requester) (addr : BitVec 48) (acc : MemAcc)
  /-- CAVE_RDATA (R285): An RDATA message from the bridge delivers lines with their metadata and poison bitmap. -/
  | caveRdata (p : Fin 16)
  /-- CAVE_WDONE (R285): A WDONE message completes a cave write, OK or with an address error. -/
  | caveWdone (p : Fin 16)
  /-- CAVE_CREG_RSP (R285): A CREG_RSP message returns a bridge register value. -/
  | caveCregRsp (p : Fin 16)
  /-- CAVE_STATUS (R285): A STATUS message reports fill done, alarm, uncorrectable line, fatal or lost capacity. -/
  | caveStatus (p : Fin 16)
  /-- CAVE_CREDIT (R287): A CREDIT message returns write and read credits. -/
  | caveCredit (p : Fin 16)
  /-- CAVE_LINK_SILENCE (R310): Fewer than eight lanes active, or no good block, for 10 us retires the port. -/
  | caveLinkSilence (p : Fin 16)
  /-- HW_LINE (R291): A history writer port accepts a line, or drops it while HW_READY is 0, and closes records. -/
  | hwLine (i : Fin 16) (data : List Byte) (first : Bool) (last : Bool) (cross : BitVec 14) (poison : Bool)
  /-- COLLECTOR_RECORD (R293): The ring collector receives a record and appends it with an index entry, or drops it. -/
  | collectorRecord (i : Fin 16)
  /-- MIGRATE_PAGE (R296): The migration engine copies a ring page the head has left to its cave slot. -/
  | migratePage
  /-- RING_CTRL_WRITE (R299): A write to the ring registers enables, stops or reconfigures the ring, or receives BUSY. -/
  | ringCtrlWrite (reg : RingReg) (v : Word)
  /-- RING_OPEN (R299): The ring's segments and ports are filled and ready, and the ring enters OPEN. -/
  | ringOpen
  /-- RING_STOP_DONE (R299): A stopping ring has written every accepted record and enters OFF or WAIT_FILL. -/
  | ringStopDone
  /-- LOOKBACK_PUSH (R300): A write of NEAR_LB_D7 pushes a look-back descriptor into the FIFO, or is refused. -/
  | lookbackPush (v : Word)
  /-- LOOKBACK_START (R301): A free look-back engine takes the next descriptor and searches the index. -/
  | lookbackStart (e : Fin 4)
  /-- LOOKBACK_COMPLETE (R304): A look-back engine finishes, writes its result header and optionally posts a token. -/
  | lookbackComplete (e : Fin 4) (fault : Bool)
  /-- LBTX_SEND (R305): A go write starts a look-back transmit channel sending bytes on its bundle. -/
  | lbtxSend (t : Fin 2) (v : Word)
  /-- LBTX_DONE (R305): A look-back transmit channel has sent its last frame. -/
  | lbtxDone (t : Fin 2)
  /-- KEY_ERASE (R317): A write of XCR_KEY_ERASE empties key slots after accesses already accepted. -/
  | keyErase (v : Word)
  /-- LINE_READ (R330): An engine decrypts and checks a line read, giving data, poison or an integrity failure. -/
  | lineRead (e : Fin 52) (addr : BitVec 48) (fetch : EngFetch)
  /-- LINE_WRITE (R333): An engine encrypts and tags a line write, initialising its page first if needed. -/
  | lineWrite (e : Fin 52) (addr : BitVec 48) (data : List Byte) (be : List Bool) (poison : Bool) (fetch : EngFetch)
  /-- RELEASE_START (R334): A go write to XCR_REL_CTRL starts releasing pages, or is refused. -/
  | releaseStart (v : Word)
  /-- RELEASE_DONE (R334): A release finishes returning its pages to the filled state. -/
  | releaseDone
  /-- NOC_READ (R345): A source NI accepts a READ request, decodes it and sends it on VC0. -/
  | nocRead (ni : Fin 288) (req : Requester) (addr : BitVec 48) (len : Nat)
  /-- NOC_WRITE (R345): A source NI accepts a non-posted WRITE request and sends it on VC0. -/
  | nocWrite (ni : Fin 288) (req : Requester) (addr : BitVec 48) (data : List Byte) (be : List Bool) (poison : Bool)
  /-- NOC_PWRITE (R345): A source NI accepts a posted write, or drops it when its address decodes as DECODE. -/
  | nocPwrite (ni : Fin 288) (req : Requester) (addr : BitVec 48) (data : List Byte) (be : List Bool) (poison : Bool)
  /-- NOC_ATOMIC (R345): A source NI accepts an ATOMIC request, which only scratch banks and core memories carry out. -/
  | nocAtomic (ni : Fin 288) (req : Requester) (addr : BitVec 48) (aop : Fin 16) (size : Nat) (operand : DWord)
  /-- NOC_TOKEN (R341): A source NI sends a TOKEN packet to the Work Exchange without decoding it. -/
  | nocToken (ni : Fin 288) (queue : BitVec 14) (v : DWord)
  /-- NOC_RESP (R358): A response reaches its source NI, is matched to its request or discarded as late. -/
  | nocResp (ni : Fin 288) (txn : Nat) (status : Status) (data : List Byte) (poison : Bool)
  /-- REGISTER_PORT_ACCESS (R639): The register port serves a register access in arrival order within 24 NoC clocks. -/
  | registerPortAccess (addr : Nat) (len : Nat) (write : Option Word)
  /-- FLIT_CRC_ERROR (R355): A flit arrives with a CRC error and the upstream port replays from it. -/
  | flitCrcError (r : Fin 144) (dir : Fin 4) (again : Bool)
  /-- NOC_STALL_TIMEOUT (R356): A head flit cannot advance for 10 us, and its packet is discarded or its request refused. -/
  | nocStallTimeout (at_ : StallAt)
  /-- NOC_RESPONSE_TIMEOUT (R357): A non-posted request gets no response within rto and is re-issued or returned with E_NOC_TIMEOUT. -/
  | nocResponseTimeout (ni : Fin 288) (txn : Nat)
  /-- XBAR_PARITY_ERROR (R361): A crossbar parity error discards its packet, and a second within 1 s drains the router. -/
  | xbarParityError (r : Fin 144) (req : Option (Fin 288 × Nat))
  /-- ROUTER_DRAIN (R360): A drain command or fault rule starts DRAIN, or is latched behind another router's drain. -/
  | routerDrain (r : Fin 144)
  /-- ROUTER_DRAIN_END (R359): A draining router becomes empty or reaches 7.5 us, discards what remains and enters RECONF. -/
  | routerDrainEnd (r : Fin 144) (discarded : List (Option (Fin 288 × Nat)))
  /-- ROUTER_RECONF_DONE (R359): A reconfiguring router switches to spares and returns to RUN, or becomes DEAD. -/
  | routerReconfDone (r : Fin 144) (wires : Nat) (xbar : Fin 3)
  /-- ROUTER_REINSTATE (R363): A write of NOC_RTR_CMD.reinstate drains and reconfigures a DEAD router. -/
  | routerReinstate (r : Fin 144)
  /-- VCDEPTH_WRITE (R350): A write of NOC_RTR_VCDEPTH sets the division applied at the next RECONF, or is refused. -/
  | vcdepthWrite (r : Fin 144) (v : Word)
  /-- CORE_INSTRUCTION (R367): A Quill core executes an RV32IMAC instruction with no behaviour of its own here. -/
  | coreInstruction (n : Fin 128)
  /-- CORE_LOAD (R373): A core issues a load to its own memory, a window or on-chip space. -/
  | coreLoad (n : Fin 128)
  /-- LOAD_RESPONSE (R378): A load's response returns data, raises poisoned-load or access fault. -/
  | loadResponse (n : Fin 128)
  /-- CORE_STORE (R373): A core issues a store, with up to 8 outstanding. -/
  | coreStore (n : Fin 128)
  /-- STORE_ERROR_RESPONSE (R377): An error response to a store records it and raises the store-error interrupt, or is only counted. -/
  | storeErrorResponse (n : Fin 128)
  /-- CORE_AMO (R374): A core issues an AMO to its own memory or through ATOMIC, or faults on another target. -/
  | coreAmo (n : Fin 128)
  /-- CORE_LR (R374): A core executes LR and sets a reservation on an allowed target. -/
  | coreLr (n : Fin 128)
  /-- CORE_SC (R374): A core executes SC, which succeeds only with its reservation intact. -/
  | coreSc (n : Fin 128)
  /-- CORE_FENCE (R373): A FENCE waits until every older request has its response. -/
  | coreFence (n : Fin 128)
  /-- CORE_FENCE_I (R369): FENCE.I waits for older instruction-memory stores and refetches. -/
  | coreFenceI (n : Fin 128)
  /-- CORE_ECALL (R376): ECALL traps with cause 8 or 11. -/
  | coreEcall (n : Fin 128)
  /-- CORE_EBREAK (R599): EBREAK halts the core with a debugger attached and enabled, and traps with cause 3 otherwise. -/
  | coreEbreak (n : Fin 128)
  /-- WX_NEXT (R380): WX.NEXT completes the current item with OK and waits for the next. -/
  | wxNext (n : Fin 128)
  /-- WX_POST (R380): WX.POST posts a 64-byte item to a queue and returns a handle or status. -/
  | wxPost (n : Fin 128)
  /-- WX_TOKEN (R380): WX.TOKEN sends a token value to a queue and returns a status. -/
  | wxToken (n : Fin 128)
  /-- WX_CANCEL (R397): WX.CANCEL cancels a held item or reports RUNNING or UNKNOWN. -/
  | wxCancel (n : Fin 128)
  /-- WX_QSTAT (R380): WX.QSTAT returns a queue's status word. -/
  | wxQstat (n : Fin 128)
  /-- WX_SELF (R380): WX.SELF returns the handle of the current item. -/
  | wxSelf (n : Fin 128)
  /-- WX_POST_WINDOW (R384): A 64-byte write to WX_POST posts an item for a non-core requester, or is refused. -/
  | wxPostWindow (addr : Nat) (item : List Byte)
  /-- WX_CANCEL_WRITE (R397): A write of a handle to WX_CANCEL cancels an item and records the result. -/
  | wxCancelWrite (handle : Word)
  /-- WX_TOKEN_ARRIVE (R386): A token reaches the Work Exchange and goes to the oldest waiting item, is held, or is dropped. -/
  | wxTokenArrive (q : BitVec 14) (v : DWord)
  /-- WX_DISPATCH (R388): The Work Exchange gives a ready head item to an eligible core by priority, round robin and wait. -/
  | wxDispatch
  /-- ITEM_DELIVERED (R391): A dispatched item reaches the core's slot and WX.NEXT retires with its handle, or the item returns to its queue. -/
  | itemDelivered (n : Fin 128)
  /-- AFFINITY_WAIT_EXPIRY (R389): A head waiting for its remembered core exceeds aff_wait and may go to any eligible core. -/
  | affinityWaitExpiry (q : BitVec 14)
  /-- PREEMPTION (R392): A priority-3 head with no eligible core pre-empts the core running the lowest-priority item. -/
  | preemption
  /-- PREEMPT_SWITCH (R393): A pre-empted core finishes outstanding work and switches to its urgent bank. -/
  | preemptSwitch (n : Fin 128)
  /-- DELAY_LIST_TICK (R395): A delay list counts a tick of its source. -/
  | delayListTick (l : Fin 4)
  /-- DELAY_DUE (R396): A delayed item's due count is reached and it enters its queue. -/
  | delayDue (l : Fin 4)
  /-- ITEM_COMPLETION (R399): An item completes and its completion record is written. -/
  | itemCompletion (slot : Fin 32768)
  /-- COMPLETION_TOKEN (R399): After the record write's response, a completion token enters matching and the slot is freed. -/
  | completionToken (slot : Fin 32768) (status : Status)
  /-- CORE_RELEASE (R401): A QC_CMD release moves a HELD core to BOOT, or is latched while the domain is not ON. -/
  | coreRelease (n : Fin 128)
  /-- CORE_REINSTATE (R403): A QC_CMD reinstate moves a RETIRED core to HELD. -/
  | coreReinstate (n : Fin 128)
  /-- WATCHDOG_EXPIRY (R404): A core watchdog expires, raising the warning first and forcing an end at the second expiry. -/
  | watchdogExpiry (n : Fin 128)
  /-- SHADOW_MISMATCH (R407): The shadow detects a divergence, suppresses requests, ends the item with FAULT and retires on repeat. -/
  | shadowMismatch (g : Fin 16)
  /-- SHADOW_REINSTATE (R408): A write of QC_SHADOW.reinstate restores a retired shadow. -/
  | shadowReinstate (g : Fin 16)
  /-- LOAD_FULL (R431): A go_full write starts a full load from the chosen source, or is refused. -/
  | loadFull (src : BitVec 3)
  /-- LOAD_HOOP (R433): A go_hoop write starts a hoop load from memory, or is refused. -/
  | loadHoop (src : BitVec 3) (hoop : BitVec 8)
  /-- LOAD_CANCEL (R430): A cancel write ends a load in FAILED with ABORTED. -/
  | loadCancel
  /-- POWER_ON_LOAD (R428): The loader begins the power-on load of the update or golden folio. -/
  | powerOnLoad
  /-- LOADER_HEADER_DONE (R429): The header and bounding list are read and checked, and the load enters PREPARE or FAILED. -/
  | loaderHeaderDone
  /-- IMAGE_FILL_WAIT_TIMEOUT (R431): An image region is not filled within 1.5 s and the load proceeds without that copy. -/
  | imageFillWaitTimeout
  /-- LOADER_PREPARE_DONE (R429): The target is stopped or reset and its frames cleared, and the load enters STREAM. -/
  | loaderPrepareDone
  /-- FRAME_RUN (R418): A frame run is written to the layer and to both image copies. -/
  | frameRun
  /-- MBLOCK_RECORD (R419): An MBLOCK record configures one bank, rank unit or pattern array. -/
  | mblockRecord
  /-- BANKINIT_RECORD (R420): A BANKINIT record writes a bank's initial contents after bringing it ON. -/
  | bankinitRecord
  /-- REGS_RECORD (R421): A REGS record is buffered for application after verification. -/
  | regsRecord
  /-- SEGMENT_END (R423): A segment ends and its GCM tag is checked. -/
  | segmentEnd
  /-- FLASH_READ_TIMEOUT (R435): A folio read from flash gets no data within 1 ms and the load fails with SOURCE_ERROR. -/
  | flashReadTimeout
  /-- LOADER_VERIFY_DONE (R429): Signature, contention and content checks complete and REGS records are applied, or the load fails. -/
  | loaderVerifyDone
  /-- LOADER_START_DONE (R429): The load ends with global start or the hoop leaving LOADING, and the loader returns to IDLE. -/
  | loaderStartDone
  /-- SCRUB_FRAME_READ (R414): A column scrubber reads one frame and corrects it or reports it for rewrite. -/
  | scrubFrameRead (fa : Word) (upsets : List (Fin 4128))
  /-- FRAME_REWRITE_START (R438): A queued frame rewrite starts from an image copy, moving a hoop to REPAIR when repair_clamp is set. -/
  | frameRewriteStart
  /-- FRAME_REWRITE_DONE (R438): A rewrite finishes its read-back and flags the frame, or fails with both copies bad. -/
  | frameRewriteDone
  /-- VCP_PACKET_RX (R446): A UDP packet is authenticated and either dropped or handled as a request under the sequence rule. -/
  | vcpPacketRx (pkt : VcpPacket)
  /-- NETWORK_CONTROL_FRAME (R443): An ARP, neighbour discovery or ICMP echo frame is answered, or an unsupported frame is dropped. -/
  | networkControlFrame (frame : CtlFrame)
  /-- ETH_FAILOVER (R442): The active port lost block lock for 10 ms with the standby locked, and the device switches ports. -/
  | ethFailover
  /-- ETH_ACTIVE_WRITE (R442): A write of ETH_CTRL.active switches the Ethernet port. -/
  | ethActiveWrite (v : Bool)
  /-- SESSION_IDLE_TIMEOUT (R452): A session's idle timer expires and the session ends. -/
  | sessionIdleTimeout (slot : Fin 1024)
  /-- SESSION_FIRST_REQUEST_TIMEOUT (R452): No request arrives within 5 s of the OPEN reply and the session ends. -/
  | sessionFirstRequestTimeout (slot : Fin 1024)
  /-- OP_SESSION_OPEN (R449): Opens an authenticated session and derives its keys. -/
  | opSessionOpen (slot : Fin 1024)
  /-- OP_SESSION_CLOSE (R458): Ends the session after the reply. -/
  | opSessionClose (slot : Fin 1024)
  /-- OP_PING (R458): Returns powered time. -/
  | opPing (slot : Fin 1024)
  /-- OP_REPLY_RESEND (R455): Resends the stored reply segments named in the bitmap. -/
  | opReplyResend (slot : Fin 1024)
  /-- OP_SESSION_LIST (R460): Returns one entry per session not FREE. -/
  | opSessionList (slot : Fin 1024)
  /-- OP_EVENT_SUBSCRIBE (R474): Replaces the session's event class mask. -/
  | opEventSubscribe (slot : Fin 1024)
  /-- OP_EVENT_READ (R471): Returns event-log entries from a given number. -/
  | opEventRead (slot : Fin 1024)
  /-- OP_DEVICE_INFO (R459): Returns identity, key slots, build, times and firmware. -/
  | opDeviceInfo (slot : Fin 1024)
  /-- OP_TIME_SNAP (R458): Captures and returns a machine-time and powered-time snapshot. -/
  | opTimeSnap (slot : Fin 1024)
  /-- OP_REG_READ (R462): Reads registers over the management ring. -/
  | opRegRead (slot : Fin 1024)
  /-- OP_REG_WRITE (R462): Writes registers over the management ring. -/
  | opRegWrite (slot : Fin 1024)
  /-- OP_MEM_READ (R463): Reads system memory from the Ethernet NI. -/
  | opMemRead (slot : Fin 1024)
  /-- OP_MEM_WRITE (R463): Writes system memory from the Ethernet NI. -/
  | opMemWrite (slot : Fin 1024)
  /-- OP_FOLIO_LOAD (R466): Starts a full folio load and reports its end in CMD_DONE. -/
  | opFolioLoad (slot : Fin 1024)
  /-- OP_HOOP_LOAD (R466): Starts a hoop load and reports its end in CMD_DONE. -/
  | opHoopLoad (slot : Fin 1024)
  /-- OP_HOOP_CMD (R465): Releases or stops a hoop. -/
  | opHoopCmd (slot : Fin 1024)
  /-- OP_DOMAIN_SET (R464): Switches a switchable domain on or off. -/
  | opDomainSet (slot : Fin 1024)
  /-- OP_REINSTATE (R558): Reinstates a retired object through its own procedure. -/
  | opReinstate (slot : Fin 1024)
  /-- OP_LOOKBACK (R458): Pushes a look-back descriptor through Sceum. -/
  | opLookback (slot : Fin 1024)
  /-- OP_FLASH_READ (R458): Reads configuration flash. -/
  | opFlashRead (slot : Fin 1024)
  /-- OP_FLASH_WRITE (R467): Programs and reads back flash, subject to the area rights. -/
  | opFlashWrite (slot : Fin 1024)
  /-- OP_FLASH_ERASE (R467): Erases flash sectors in ascending order. -/
  | opFlashErase (slot : Fin 1024)
  /-- OP_KEY_LOAD (R316): Unwraps a key and loads it into an empty encryption key slot. -/
  | opKeyLoad (slot : Fin 1024)
  /-- OP_KEY_ERASE (R317): Erases encryption key slots named in a mask. -/
  | opKeyErase (slot : Fin 1024)
  /-- OP_OPKEY_ADD (R448): Programs an operator key slot with a subset of the session's rights. -/
  | opOpkeyAdd (slot : Fin 1024) (ok : Bool)
  /-- OP_OPKEY_REVOKE (R448): Revokes an operator key slot and ends its sessions. -/
  | opOpkeyRevoke (slot : Fin 1024)
  /-- OP_VKEY_WRITE (R468): Programs an LMS verification key slot. -/
  | opVkeyWrite (slot : Fin 1024) (ok : Bool)
  /-- OP_VKEY_REVOKE (R458): Revokes a verification key slot. -/
  | opVkeyRevoke (slot : Fin 1024)
  /-- OP_FKEY_WRITE (R458): Programs a folio decryption key slot. -/
  | opFkeyWrite (slot : Fin 1024) (ok : Bool)
  /-- OP_POLICY_SET (R468): Sets require_enc in CFG_POLICY for ever. -/
  | opPolicySet (slot : Fin 1024) (ok : Bool)
  /-- OP_SENSOR_READ (R511): Returns the round number, broken sensors and all channel values. -/
  | opSensorRead (slot : Fin 1024)
  /-- OP_SENSOR_REINSTATE (R491): Reinstates a broken temperature sensor. -/
  | opSensorReinstate (slot : Fin 1024)
  /-- OP_TRIP_CLEAR (R490): Clears a latched trip unless a junction was at 100 C or more. -/
  | opTripClear (slot : Fin 1024)
  /-- OP_CAL_READ (R511): Returns calibration counts and status. -/
  | opCalRead (slot : Fin 1024)
  /-- OP_SELFTEST_READ (R498): Returns self-test results. -/
  | opSelftestRead (slot : Fin 1024)
  /-- OP_REPAIR_APPLY (R500): Applies spare-block entries of the repair map at once. -/
  | opRepairApply (slot : Fin 1024)
  /-- OP_BLOTTER_READ (R511): Returns blotter records from a given number. -/
  | opBlotterRead (slot : Fin 1024)
  /-- OP_FW_ACTIVATE (R507): Verifies a firmware slot, marks it TRIAL and restarts Sceum. -/
  | opFwActivate (slot : Fin 1024)
  /-- OP_FW_CONFIRM (R507): Marks the trial slot GOOD and raises the minimum security version. -/
  | opFwConfirm (slot : Fin 1024)
  /-- OP_FW_STATUS (R511): Returns the state of both firmware slots. -/
  | opFwStatus (slot : Fin 1024)
  /-- OP_QUILL_LOAD (R512): Copies images into the memories of HELD cores and optionally releases them. -/
  | opQuillLoad (slot : Fin 1024)
  /-- OP_ATTEST (R510): Signs an attestation report with the next identity leaf. -/
  | opAttest (slot : Fin 1024)
  /-- OP_IDENTITY (R508): Returns the identity public key and leaves left. -/
  | opIdentity (slot : Fin 1024)
  /-- COMMAND_DONE (R457): An ACCEPTED command ends and CMD_DONE goes to its session and the event log. -/
  | commandDone (who : Origin)
  /-- ETH_SEND (R475): A 32-byte write to ETH_SEND queues a data stream, or is refused. -/
  | ethSend (offset : Nat) (desc : List Byte)
  /-- STREAM_END (R476): A data stream ends, sent, session gone or read error, and optionally posts a token. -/
  | streamEnd
  /-- HK_CONVERSION (R485): The sequencer converts one housekeeping channel every 10 us. -/
  | hkConversion (value : BitVec 16)
  /-- HK_ROUND_END (R487): At the end of a round the limit checks, cross-check, trip check and compensation run. -/
  | hkRoundEnd
  /-- TRIP_FABRIC_RESET (R489): At the next crossing boundary after a trip the fabric returns to reset and lanes send poisoned empty frames. -/
  | tripFabricReset
  /-- CAL_ITEM_DUE (R493): A calibration item's period expires and it is due for measurement. -/
  | calItemDue (item : CalItem)
  /-- CAL_MEASUREMENT_DONE (R494): Both measurements of an item are complete and compared. -/
  | calMeasurementDone (item : CalItem) (first : List Int) (second : List Int) (sel : Nat)
  /-- CAL_APPLY (R494): An agreed calibration selection takes effect at the next crossing 0. -/
  | calApply (item : CalItem)
  /-- CAL_RESULT_TIMEOUT (R494): Both results are not complete within 10 s and are discarded. -/
  | calResultTimeout (item : CalItem)
  /-- SCM_CAL_DEFERRED (R496): A due item finds no gap crossing within 1 s and is deferred. -/
  | scmCalDeferred (item : CalItem)
  /-- SELFTEST_DONE (R497): Power-on self-test completes, repairing or disabling failing blocks. -/
  | selftestDone (fails : List SelfFail)
  /-- SPARE_TEST (R501): Sceum tests an unused spare bank or crossbar and marks it unusable if it fails. -/
  | spareTest (spare : SpareId) (ok : Bool)
  /-- BLOTTER_PROGRAM (R503): A flash program operation writes 1 to 8 buffered blotter records, erasing the next sector when entering one. -/
  | blotterProgram (count : Nat)
  /-- SCEUM_WATCHDOG_EXPIRY (R482): The 100 ms Sceum watchdog expires and Sceum restarts. -/
  | sceumWatchdogExpiry
  /-- SCEUM_RESTART (R481): Sceum restarts, ending its commands and pausing calibration. -/
  | sceumRestart
  /-- BOOT_ROM_START (R506): The boot ROM chooses, verifies and starts a firmware slot. -/
  | bootRomStart
  /-- FW_TRIAL_TIMEOUT (R507): A trial slot not confirmed within 600 s is marked BAD and Sceum falls back. -/
  | fwTrialTimeout
  /-- XO_LOSS (R528): XO_IN is lost, and the root switches to the ITO or stops. -/
  | xoLoss
  /-- XO_VALID (R516): XO_IN has 4,096 valid cycles and is valid. -/
  | xoValid
  /-- PLL_UNLOCK (R526): A synthesiser loses lock and its blocks are held. -/
  | pllUnlock (p : Fin 10)
  /-- PLL_RELOCK (R527): A synthesiser regains lock and its held blocks resume. -/
  | pllRelock (p : Fin 10)
  /-- PLL_FAIL_TIMEOUT (R527): A synthesiser has not relocked within 100 us and is declared failed. -/
  | pllFailTimeout (p : Fin 10)
  /-- CLK_NOC_WRITE (R520): A write of CLK_NOC selects the NoC source or sets its multiplier and divider. -/
  | clkNocWrite (v : Word)
  /-- CLK_QPLL_WRITE (R521): A write of CLK_QPLL sets a QPLL multiplier, or receives BUSY while in use. -/
  | clkQpllWrite (q : Fin 4) (v : Word)
  /-- CLK_GRP_WRITE (R521): A write of CLK_GRP selects a group's QPLL or sets its dividers. -/
  | clkGrpWrite (g : Fin 16) (v : Word)
  /-- CLK_NCTL_WRITE (R522): A write of CLK_NCTL sets the near-store controller clock or MPLL choice. -/
  | clkNctlWrite (v : Word)
  /-- ROOT_SELECT_WRITE (R528): A write of CLK_CTRL.root_sel switches the root through the glitch-free switch. -/
  | rootSelectWrite (v : Word)
  /-- CLOCK_SWITCH_DONE (R523): A glitch-free switch completes at the new clock's first rising edge. -/
  | clockSwitchDone (mux : Fin 32)
  /-- CLK_FORCED (R524): A switch waits 64 new-clock cycles without an old-clock falling edge and is forced. -/
  | clkForced (mux : Fin 32)
  /-- POWER_ON_RESET (R532): PGOOD low or a supply monitor starts a power-on reset. -/
  | powerOnReset
  /-- PGOOD_FALL (R617): PGOOD falls and the device enters power-on reset within 1 us. -/
  | pgoodFall
  /-- SUPPLY_MONITOR_FALL (R616): VCC_AUX or VCC_B falls below its threshold and causes a power-on reset. -/
  | supplyMonitorFall
  /-- POWER_STABLE (R536): PGOOD high and monitors in range for 1 ms move start-up to WAIT_XO. -/
  | powerStable
  /-- CLOCKS_PHASE_DONE (R536): PPLL locks and start-up enters BOOT. -/
  | clocksPhaseDone (unlocked : BitVec 10)
  /-- ONCHIP_FILL_DONE (R266): The power-on fill of memories ends and latched Quill releases take effect. -/
  | onchipFillDone
  /-- SRST_ASSERT (R534): SRST_N low for 1 us or more starts a system reset. -/
  | srstAssert
  /-- SYS_RST_WRITE (R534): A keyed write of SYS_RST starts a system reset after its response. -/
  | sysRstWrite (v : Word)
  /-- SYSTEM_RESET (R533): A system reset resets everything except what it keeps. -/
  | systemReset
  /-- SYSTEM_RESET_RELEASE (R534): A system reset is released and start-up proceeds from WAIT_XO. -/
  | systemResetRelease
  /-- BANK_SPARE_COPY_START (R549): Within 0.5 us of a bank's retirement rule the spare enters COPYING. -/
  | bankSpareCopyStart (id : BankId)
  /-- BANK_COPY_DONE (R549): The copy to the spare ends and takeover waits for its switch point. -/
  | bankCopyDone (id : BankId)
  /-- BANK_TAKEOVER (R549): The spare takes over the bank number and the original is retired. -/
  | bankTakeover (id : BankId)
  /-- BANK_MARCH_DONE (R559): The reinstatement march of a retired bank ends, passing or failing. -/
  | bankMarchDone (id : BankId) (pass : Bool)
  /-- BANK_RETURN_DONE (R559): The return copy or clearing ends and the original answers to the bank number again. -/
  | bankReturnDone (id : BankId)
  /-- CASC_LINK_WRITE (R565): A write of CASC_LINK enables a cascade link, or is refused. -/
  | cascLinkWrite (l : Fin 15) (v : Word)
  /-- CASC_REJOIN (R572): A write of rejoin moves a member from MISMATCH or HOLD to JOINING. -/
  | cascRejoin
  /-- SERVICE_BLOCK_RX (R571): A service block arrives, is sequenced and compared with the slot's crossing number. -/
  | serviceBlockRx (l : Fin 15)
  /-- CASC_REQ (R576): A REQ message makes the member execute a relayed opcode, or is forwarded. -/
  | cascReq (l : Fin 15)
  /-- CASC_RSP (R576): An RSP message becomes the reply to a relayed request. -/
  | cascRsp (l : Fin 15)
  /-- CASC_DONE (R578): A DONE message becomes CMD_DONE for the issuing session. -/
  | cascDone (l : Fin 15)
  /-- CASC_ROLL (R573): A ROLL message updates the master's present and aligned bits. -/
  | cascRoll (l : Fin 15)
  /-- ROLL_TIMER (R570): Every 100 us a member sends ROLL to the master. -/
  | rollTimer
  /-- CASC_MEMBER_LOST (R573): No ROLL from a member for 300 us, or no good block for 10 us, marks it lost. -/
  | cascMemberLost (m : Fin 16)
  /-- CASC_MASTER_LOST (R574): A member's up link has no good block or only up_ok = 0 for 10 us, and it enters HOLD. -/
  | cascMasterLost
  /-- RELAY_TIMEOUT (R578): A relayed command gets no RSP or DONE within 100 ms and ends with E_ABORTED_FAULT. -/
  | relayTimeout
  /-- TAP_RESET (R581): TRST_N low or Test-Logic-Reset resets the TAP, ending attachment and unlock. -/
  | tapReset
  /-- EXTEST (R585): The boundary register takes over every pin it covers. -/
  | extest (pins : List (BsCell × Bool)) (shift : List (BsCell × Bool))
  /-- SAMPLE_PRELOAD (R582): The boundary register samples or preloads pin values. -/
  | samplePreload (pins : List (BsCell × Bool)) (shift : List (BsCell × Bool))
  /-- IDCODE (R583): The identification register is selected and reads 0x10A4_956B. -/
  | idcode
  /-- EXTEST_PULSE (R585): IEEE 1149.6 pulse test of AC-coupled lanes. -/
  | extestPulse (pins : List (BsCell × Bool)) (shift : List (BsCell × Bool))
  /-- EXTEST_TRAIN (R585): IEEE 1149.6 train test of AC-coupled lanes. -/
  | extestTrain (pins : List (BsCell × Bool)) (shift : List (BsCell × Bool))
  /-- BYPASS (R582): The one-bit bypass register is selected. -/
  | bypass
  /-- DBG_READ (R589): A debug READ performs a quiet 32-bit read. -/
  | dbgRead (addr : BitVec 48)
  /-- DBG_WRITE (R587): A debug WRITE performs a 32-bit write. -/
  | dbgWrite (addr : BitVec 48) (v : Word)
  /-- DBG_CONSUME (R590): A debug CONSUME performs an ordinary read with its side effects. -/
  | dbgConsume (addr : BitVec 48)
  /-- DBG_NOP (R586): A NOP captures the result of the last command. -/
  | dbgNop
  /-- DBG_ACCESS_TIMEOUT (R587): A debug access has no result within 100 us and ends with E_NOC_TIMEOUT. -/
  | dbgAccessTimeout
  /-- DBG_CONNECT (R592): A write of the connect register sets halt, hold and attach for the next reset release. -/
  | dbgConnect (v : BitVec 4)
  /-- DBG_UNLOCK_SELECT (R604): Selecting DBG_UNLOCK loads a fresh nonce. -/
  | dbgUnlockSelect
  /-- DBG_UNLOCK_ANSWER (R604): Storing answer word 3 checks the answer and unlocks or counts a failure. -/
  | dbgUnlockAnswer (i : Fin 4) (v : Word)
  /-- DBG_ATTACH (R591): A write of DBG_CTRL.attach attaches or detaches a debugger. -/
  | dbgAttach (v : Word)
  /-- DBG_SYSRST_REQ (R594): A write of DBG_CTRL.sysrst_req starts a system reset. -/
  | dbgSysrstReq (v : Word)
  /-- DBG_HALT (R595): A halt command halts a core, or is latched for a core not running. -/
  | dbgHalt (n : Fin 129)
  /-- CORE_HALTED (R595): A halting core finishes outstanding work and stops. -/
  | coreHalted (n : Fin 129)
  /-- DBG_RESUME (R598): A resume command restarts a halted core and its watchdogs. -/
  | dbgResume (n : Fin 129)
  /-- DBG_STEP (R598): A step command runs one retired instruction and halts with cause 3. -/
  | dbgStep (n : Fin 129)
  /-- DBG_REG_READ (R600): Reads a register of a halted core into DBG_QC_DATA. -/
  | dbgRegRead
  /-- DBG_REG_WRITE (R600): Writes DBG_QC_DATA to a register of a halted core. -/
  | dbgRegWrite
  /-- DBG_FREEZE_WRITE (R602): A write of DBG_FREEZE freezes or releases the selected background engines. -/
  | dbgFreezeWrite (v : Word)
  /-- MON_HELP (R606): Monitor HELP lists the commands served. -/
  | monHelp
  /-- MON_STATUS (R606): Monitor STATUS prints system, Sceum, loader and firmware status. -/
  | monStatus
  /-- MON_SENSORS (R606): Monitor SENSORS prints the values in use. -/
  | monSensors
  /-- MON_BLOTTER (R606): Monitor BLOTTER prints the last records. -/
  | monBlotter (n : Nat)
  /-- MON_BAUD (R605): Monitor BAUD sets the UART rate after its reply. -/
  | monBaud (rate : Nat)
  /-- MON_RD (R606): Monitor RD performs a 32-bit read. -/
  | monRd (addr : Nat)
  /-- MON_WR (R606): Monitor WR performs a 32-bit write. -/
  | monWr (addr : Nat) (v : Word)
  /-- MON_OWNERKEY (R448): Monitor OWNERKEY programs and verifies operator slot 0. -/
  | monOwnerkey (key : List Byte) (ok : Bool)
  /-- MON_LOCKOUT (R603): Monitor LOCKOUT sets the production lock-out bit. -/
  | monLockout (serial : Nat)
  /-- MON_RESET (R606): Monitor RESET starts a system reset. -/
  | monReset
  /-- CASC_CTRL_WRITE (R572): A write of CASC_CTRL.en, with member, moves the cascade controller from OFF to JOINING or MASTER, back to OFF, or leaves it in OFF with CASC_ERR.protocol for a bad configuration. -/
  | cascCtrlWrite (v : Word)
  /-- CORE_MEMORY_NET_ACCESS (R637): A network read, write or ATOMIC reaches a core's instruction or data memory and is granted within 3 Quill clocks, stalling the core, and completes 2 or 3 clocks after its grant. -/
  | coreMemoryNetAccess (n : Fin 128) (offset : Nat) (acc : MemAcc)
  /-- RESERVE_FILL_DONE (R431): A near-store channel finishes filling the Sceum reserve, making the image regions ready so that a loader waiting in PREPARE proceeds with both copies. -/
  | reserveFillDone (c : Fin 36)
  /-- PCS_BLOCK_LOCK_CHANGE (R442): An Ethernet port gains or loses PCS block lock, updating link0 or link1 and starting or stopping the 10 ms failover timer. -/
  | pcsBlockLockChange (port : Fin 2) (locked : Bool)
  /-- PHY_PLL_LOCK_LOSS (R308): A near-store channel's PHY PLL loses lock, starting the 10 us window after which the channel is retired unless lock returns. -/
  | phyPllLockLoss (c : Fin 36)
  /-- SERVICE_REPLAY_TIMEOUT (R568): On a cascade service lane, ack has not advanced for 512 crossings with data blocks outstanding, and the sender replays from ack + 1. -/
  | serviceReplayTimeout (l : Fin 15)
  /-- USER_IO_WORD (R156): At a word-clock edge a user I/O serialiser takes the word written by user logic for its pin, and a deserialiser delivers a received word two word clocks after its boundary. -/
  | userIoWord (layer : Fin 2) (p : Fin 416) (tx : Byte) (oe : Bool) (rx : Byte)
  /-- CK_LANE_RETURN (R84): A failed receive .CK lane locks again, ck_locked reads 1, and the bundle's receivers take it again as their frequency reference. -/
  | ckLaneReturn (n : Fin 48)
  deriving DecidableEq, Repr

end Sys2Proof
end

