-- ==== Sys2Proof/Decode.lean ====
section
/-!
DEFINITION. The spec's table of operations and events gives no row any bits: the device takes its commands on buses,
links and pins, each with a form of its own, and no word spells a command. So no word decodes to one.
-/
namespace Sys2Proof

/-- The command a word spells by the table's bits: none, since the table gives no row bits. -/
def decodeTableWord (_nbits _w : Nat) : Option Instr := none

end Sys2Proof
end

