-- ==== Sys2Proof/Machine/Crypto.lean ====
section
/-!
DEFINITION. The cryptographic functions that the spec names: AES-256, GHASH and AES-256-GCM (NIST SP 800-38D), AES key
unwrap, SHA-256, HMAC-SHA-256 and the verification of an LMS signature (RFC 8554). Blocks are lists of bytes as
numbers, first byte first.
-/
namespace Sys2Proof.Crypto

/-! ### AES-256 -/

/-- The S-box. -/
def sboxA : List Nat :=
  [0x63, 0x7c, 0x77, 0x7b, 0xf2, 0x6b, 0x6f, 0xc5, 0x30, 0x01, 0x67, 0x2b, 0xfe, 0xd7, 0xab, 0x76] ++
  [0xca, 0x82, 0xc9, 0x7d, 0xfa, 0x59, 0x47, 0xf0, 0xad, 0xd4, 0xa2, 0xaf, 0x9c, 0xa4, 0x72, 0xc0] ++
  [0xb7, 0xfd, 0x93, 0x26, 0x36, 0x3f, 0xf7, 0xcc, 0x34, 0xa5, 0xe5, 0xf1, 0x71, 0xd8, 0x31, 0x15] ++
  [0x04, 0xc7, 0x23, 0xc3, 0x18, 0x96, 0x05, 0x9a, 0x07, 0x12, 0x80, 0xe2, 0xeb, 0x27, 0xb2, 0x75] ++
  [0x09, 0x83, 0x2c, 0x1a, 0x1b, 0x6e, 0x5a, 0xa0, 0x52, 0x3b, 0xd6, 0xb3, 0x29, 0xe3, 0x2f, 0x84] ++
  [0x53, 0xd1, 0x00, 0xed, 0x20, 0xfc, 0xb1, 0x5b, 0x6a, 0xcb, 0xbe, 0x39, 0x4a, 0x4c, 0x58, 0xcf] ++
  [0xd0, 0xef, 0xaa, 0xfb, 0x43, 0x4d, 0x33, 0x85, 0x45, 0xf9, 0x02, 0x7f, 0x50, 0x3c, 0x9f, 0xa8] ++
  [0x51, 0xa3, 0x40, 0x8f, 0x92, 0x9d, 0x38, 0xf5, 0xbc, 0xb6, 0xda, 0x21, 0x10, 0xff, 0xf3, 0xd2]

/-- The S-box, upper half. -/
def sboxB : List Nat :=
  [0xcd, 0x0c, 0x13, 0xec, 0x5f, 0x97, 0x44, 0x17, 0xc4, 0xa7, 0x7e, 0x3d, 0x64, 0x5d, 0x19, 0x73] ++
  [0x60, 0x81, 0x4f, 0xdc, 0x22, 0x2a, 0x90, 0x88, 0x46, 0xee, 0xb8, 0x14, 0xde, 0x5e, 0x0b, 0xdb] ++
  [0xe0, 0x32, 0x3a, 0x0a, 0x49, 0x06, 0x24, 0x5c, 0xc2, 0xd3, 0xac, 0x62, 0x91, 0x95, 0xe4, 0x79] ++
  [0xe7, 0xc8, 0x37, 0x6d, 0x8d, 0xd5, 0x4e, 0xa9, 0x6c, 0x56, 0xf4, 0xea, 0x65, 0x7a, 0xae, 0x08] ++
  [0xba, 0x78, 0x25, 0x2e, 0x1c, 0xa6, 0xb4, 0xc6, 0xe8, 0xdd, 0x74, 0x1f, 0x4b, 0xbd, 0x8b, 0x8a] ++
  [0x70, 0x3e, 0xb5, 0x66, 0x48, 0x03, 0xf6, 0x0e, 0x61, 0x35, 0x57, 0xb9, 0x86, 0xc1, 0x1d, 0x9e] ++
  [0xe1, 0xf8, 0x98, 0x11, 0x69, 0xd9, 0x8e, 0x94, 0x9b, 0x1e, 0x87, 0xe9, 0xce, 0x55, 0x28, 0xdf] ++
  [0x8c, 0xa1, 0x89, 0x0d, 0xbf, 0xe6, 0x42, 0x68, 0x41, 0x99, 0x2d, 0x0f, 0xb0, 0x54, 0xbb, 0x16]

/-- Substitute a byte. -/
def sub (b : Nat) : Nat := if b < 128 then sboxA.getD b 0 else sboxB.getD (b - 128) 0

/-- The inverse of the S-box. -/
def invSub (b : Nat) : Nat := ((List.range 256).find? (fun x => sub x == b)).getD 0

/-- Multiply a byte by x in the field of AES. -/
def xtime (b : Nat) : Nat := if 128 ≤ b then (2 * b) % 256 ^^^ 0x1b else 2 * b

/-- Multiply two bytes in the field of AES, over `n` bits of the second. -/
def fieldMul (a b : Nat) : Nat → Nat
  | 0 => 0
  | n + 1 => (if b % 2 = 1 then a else 0) ^^^ fieldMul (xtime a) (b / 2) n

/-- XOR of two lists of bytes. -/
def xorBytes (a b : List Nat) : List Nat := List.zipWith (· ^^^ ·) a b

/-- The key schedule of AES-256 from word `i` on: the words so far, newest first. -/
def keyWords (i : Nat) (ws : List (List Nat)) : Nat → List (List Nat)
  | 0 => ws
  | n + 1 =>
    let prev := ws.headD []
    let t :=
      if i % 8 = 0 then
        let r := (prev.drop 1 ++ prev.take 1).map sub
        xorBytes r [2 ^ (i / 8 - 1), 0, 0, 0]
      else if i % 8 = 4 then prev.map sub
      else prev
    keyWords (i + 1) (xorBytes t (ws.getD 7 []) :: ws) n

/-- Split a list into pieces of `k`, `n` of them. -/
def pieces (k : Nat) : Nat → List Nat → List (List Nat)
  | 0, _ => []
  | n + 1, l => l.take k :: pieces k n (l.drop k)

/-- The 15 round keys of a 32-byte key. -/
def roundKeys (key : List Nat) : List (List Nat) :=
  let ws := (keyWords 8 (pieces 4 8 key).reverse 52).reverse
  (List.range 15).map (fun r => ((ws.drop (4 * r)).take 4).flatten)

/-- Byte `r` of column `c` of a state moves from column c + r. -/
def shiftRows (b : List Nat) : List Nat := (List.range 16).map (fun k => b.getD ((k + 4 * (k % 4)) % 16) 0)

/-- The inverse of `shiftRows`. -/
def invShiftRows (b : List Nat) : List Nat := (List.range 16).map (fun k => b.getD ((k + 16 - 4 * (k % 4)) % 16) 0)

/-- Multiply the columns of a state by the circulant with first row `m`. -/
def mixWith (m : List Nat) (b : List Nat) : List Nat :=
  (List.range 16).map (fun k =>
    (List.range 4).foldl (fun acc j => acc ^^^ fieldMul (b.getD (k / 4 * 4 + j) 0) (m.getD ((j + 4 - k % 4) % 4) 0) 4) 0)

/-- The rounds of encryption. -/
def encRounds : List (List Nat) → List Nat → List Nat
  | [], b => b
  | [k], b => xorBytes (shiftRows (b.map sub)) k
  | k :: ks, b => encRounds ks (xorBytes (mixWith [2, 3, 1, 1] (shiftRows (b.map sub))) k)

/-- AES-256 of a 16-byte block. -/
def aes (key block : List Nat) : List Nat :=
  match roundKeys key with
  | k :: ks => encRounds ks (xorBytes block k)
  | [] => block

/-- The rounds of decryption, last round key first. -/
def decRounds : List (List Nat) → List Nat → List Nat
  | [], b => b
  | [k], b => xorBytes ((invShiftRows b).map invSub) k
  | k :: ks, b => decRounds ks (mixWith [14, 11, 13, 9] (xorBytes ((invShiftRows b).map invSub) k))

/-- The inverse of AES-256 on a 16-byte block. -/
def aesInv (key block : List Nat) : List Nat :=
  match (roundKeys key).reverse with
  | k :: ks => decRounds ks (xorBytes block k)
  | [] => block

/-! ### Numbers and bytes -/

/-- A number as `n` bytes, most significant first. -/
def beBytes (v : Nat) : Nat → List Nat
  | 0 => []
  | n + 1 => v / 256 ^ n % 256 :: beBytes v n

/-- The number of a list of bytes, most significant first. -/
def beNat (b : List Nat) : Nat := b.foldl (fun acc x => acc * 256 + x) 0

/-! ### GHASH and GCM (NIST SP 800-38D) -/

/-- Multiply in the field of GHASH: bit 127 of a block is its first bit. -/
def gfMul (x : Nat) (v : Nat) : Nat → Nat
  | 0 => 0
  | n + 1 =>
    let next := if v % 2 = 1 then v / 2 ^^^ (0xe1 * 2 ^ 120) else v / 2
    (if x.testBit n then v else 0) ^^^ gfMul x next n

/-- GHASH under H over blocks, each as a number. -/
def ghash (h : Nat) (blocks : List Nat) : Nat := blocks.foldl (fun y b => gfMul (y ^^^ b) h 128) 0

/-- Bytes as 16-byte blocks, the last padded with zeros. -/
def blocksOf (b : List Nat) : List Nat :=
  (pieces 16 ((b.length + 15) / 16) b).map (fun p => beNat (p ++ List.replicate (16 - p.length) 0))

/-- The keystream of counter mode: `n` blocks from a counter block. -/
def ctrStream (key : List Nat) (iv : List Nat) (c : Nat) : Nat → List Nat
  | 0 => []
  | n + 1 => aes key (iv ++ beBytes c 4) ++ ctrStream key iv (c + 1) n

/-- AES-256-GCM with a 12-byte nonce: the text under the keystream; encryption and decryption are the same. -/
def gcmText (key iv text : List Nat) : List Nat := xorBytes text (ctrStream key iv 2 ((text.length + 15) / 16))

/-- The 16-byte tag of AES-256-GCM over additional data and ciphertext. -/
def gcmTag (key iv aad cipher : List Nat) : List Nat :=
  let h := beNat (aes key (List.replicate 16 0))
  let s := ghash h (blocksOf aad ++ blocksOf cipher ++ [8 * aad.length * 2 ^ 64 + 8 * cipher.length])
  beBytes (s ^^^ beNat (aes key (iv ++ [0, 0, 0, 1]))) 16

/-! ### AES key unwrap (RFC 3394) -/

/-- The steps of unwrapping four 8-byte registers, from step `t` down to 1. -/
def unwrapSteps (key : List Nat) (a : List Nat) (r : List (List Nat)) : Nat → List Nat × List (List Nat)
  | 0 => (a, r)
  | t + 1 =>
    let i := t % 4
    let b := aesInv key (xorBytes a (beBytes (t + 1) 8) ++ r.getD i [])
    unwrapSteps key (b.take 8) (r.set i (b.drop 8)) t

/-- Unwrap a 32-byte key from 40 bytes: none where the integrity value is wrong. -/
def keyUnwrap (kek wrapped : List Nat) : Option (List Nat) :=
  let r := unwrapSteps kek (wrapped.take 8) (pieces 8 4 (wrapped.drop 8)) 24
  if wrapped.length = 40 ∧ r.1 = List.replicate 8 0xA6 then some r.2.flatten else none

/-! ### SHA-256 and HMAC -/

/-- The round constants of SHA-256. -/
def shaK : List Nat :=
  [0x428a2f98, 0x71374491, 0xb5c0fbcf, 0xe9b5dba5, 0x3956c25b, 0x59f111f1, 0x923f82a4, 0xab1c5ed5] ++
  [0xd807aa98, 0x12835b01, 0x243185be, 0x550c7dc3, 0x72be5d74, 0x80deb1fe, 0x9bdc06a7, 0xc19bf174] ++
  [0xe49b69c1, 0xefbe4786, 0x0fc19dc6, 0x240ca1cc, 0x2de92c6f, 0x4a7484aa, 0x5cb0a9dc, 0x76f988da] ++
  [0x983e5152, 0xa831c66d, 0xb00327c8, 0xbf597fc7, 0xc6e00bf3, 0xd5a79147, 0x06ca6351, 0x14292967] ++
  [0x27b70a85, 0x2e1b2138, 0x4d2c6dfc, 0x53380d13, 0x650a7354, 0x766a0abb, 0x81c2c92e, 0x92722c85] ++
  [0xa2bfe8a1, 0xa81a664b, 0xc24b8b70, 0xc76c51a3, 0xd192e819, 0xd6990624, 0xf40e3585, 0x106aa070] ++
  [0x19a4c116, 0x1e376c08, 0x2748774c, 0x34b0bcb5, 0x391c0cb3, 0x4ed8aa4a, 0x5b9cca4f, 0x682e6ff3] ++
  [0x748f82ee, 0x78a5636f, 0x84c87814, 0x8cc70208, 0x90befffa, 0xa4506ceb, 0xbef9a3f7, 0xc67178f2]

/-- The initial hash value of SHA-256. -/
def shaH : List Nat :=
  [0x6a09e667, 0xbb67ae85, 0x3c6ef372, 0xa54ff53a, 0x510e527f, 0x9b05688c, 0x1f83d9ab, 0x5be0cd19]

/-- Rotate a 32-bit number right. -/
def rotr (x n : Nat) : Nat := x / 2 ^ n + x % 2 ^ n * 2 ^ (32 - n)

/-- The message schedule: the words so far, newest first. -/
def shaWords (ws : List Nat) : Nat → List Nat
  | 0 => ws
  | n + 1 =>
    let w2 := ws.getD 1 0
    let w15 := ws.getD 14 0
    let s1 := rotr w2 17 ^^^ rotr w2 19 ^^^ w2 / 2 ^ 10
    let s0 := rotr w15 7 ^^^ rotr w15 18 ^^^ w15 / 2 ^ 3
    shaWords ((ws.getD 15 0 + s0 + ws.getD 6 0 + s1) % 2 ^ 32 :: ws) n

/-- One round over the eight working variables. -/
def shaRound (v : List Nat) (kw : Nat × Nat) : List Nat :=
  match v with
  | [a, b, c, d, e, f, g, h] =>
    let s1 := rotr e 6 ^^^ rotr e 11 ^^^ rotr e 25
    let ch := (e &&& f) ^^^ ((2 ^ 32 - 1 - e) &&& g)
    let t1 := h + s1 + ch + kw.1 + kw.2
    let s0 := rotr a 2 ^^^ rotr a 13 ^^^ rotr a 22
    let maj := (a &&& b) ^^^ (a &&& c) ^^^ (b &&& c)
    [(t1 + s0 + maj) % 2 ^ 32, a, b, c, (d + t1) % 2 ^ 32, e, f, g]
  | v => v

/-- The compression of a 64-byte block. -/
def shaBlock (h : List Nat) (block : List Nat) : List Nat :=
  let ws := (shaWords ((pieces 4 16 block).map beNat).reverse 48).reverse
  List.zipWith (fun a b => (a + b) % 2 ^ 32) h ((shaK.zip ws).foldl shaRound h)

/-- SHA-256: 32 bytes. -/
def sha256 (m : List Nat) : List Nat :=
  let pad := (119 - m.length % 64) % 64
  let text := m ++ 0x80 :: List.replicate pad 0 ++ beBytes (8 * m.length) 8
  ((pieces 64 (text.length / 64) text).foldl shaBlock shaH).flatMap (fun w => beBytes w 4)

/-- HMAC-SHA-256. -/
def hmac (key m : List Nat) : List Nat :=
  let k := if 64 < key.length then sha256 key else key
  let k := k ++ List.replicate (64 - k.length) 0
  sha256 (k.map (· ^^^ 0x5c) ++ sha256 (k.map (· ^^^ 0x36) ++ m))

/-! ### LMS_SHA256_M32_H15 with LMOTS_SHA256_N32_W8 (RFC 8554) -/

/-- One chain of the one-time signature: hashes from step `j`, `n` of them. -/
def otsChain (pre : List Nat) (i j : Nat) (y : List Nat) : Nat → List Nat
  | 0 => y
  | n + 1 => otsChain pre i (j + 1) (sha256 (pre ++ beBytes i 2 ++ [j] ++ y)) n

/-- The path to the root: node number and value, over the remaining path. -/
def lmsPath (ident : List Nat) (node : Nat) (v : List Nat) : List (List Nat) → List Nat
  | [] => v
  | p :: ps =>
    let pair := if node % 2 = 1 then p ++ v else v ++ p
    lmsPath ident (node / 2) (sha256 (ident ++ beBytes (node / 2) 4 ++ [0x83, 0x83] ++ pair)) ps

/-- Verify a signature of a message: the public key is type (7 for M32_H15), one-time type (4 for N32_W8), the 16-byte
identifier and the 32-byte root. -/
def lmsVerify (pub msg sig : List Nat) : Bool :=
  let ident := (pub.drop 8).take 16
  let root := (pub.drop 24).take 32
  let q := beNat (sig.take 4)
  let c := (sig.drop 8).take 32
  let ys := pieces 32 34 (sig.drop 40)
  let rest := sig.drop (40 + 32 * 34)
  let path := pieces 32 15 (rest.drop 4)
  let pre := ident ++ beBytes q 4
  let h := sha256 (pre ++ [0x81, 0x81] ++ c ++ msg)
  let digits := h ++ beBytes ((h.map (fun x => 255 - x)).sum) 2
  let ends := (List.range 34).map (fun i => otsChain pre i (digits.getD i 0) (ys.getD i []) (255 - digits.getD i 0))
  let kc := sha256 (pre ++ [0x80, 0x80] ++ ends.flatten)
  let leaf := sha256 (ident ++ beBytes (2 ^ 15 + q) 4 ++ [0x82, 0x82] ++ kc)
  pub.length == 56 && sig.length == 4 + 4 + 32 + 32 * 34 + 4 + 32 * 15
    && beNat (pub.take 4) == 7 && beNat ((pub.drop 4).take 4) == 4
    && beNat ((sig.drop 4).take 4) == 4 && beNat (rest.take 4) == 7 && decide (q < 2 ^ 15)
    && lmsPath ident (2 ^ 15 + q) leaf path == root

end Sys2Proof.Crypto
end

