-- ==== Sys2Proof/Config.lean ====
section
/-!
DEFINITION. What the spec leaves open or fixes per device: constants with no body, so that nothing can be proved of
their value, and the free values of results the spec leaves undefined.
-/
namespace Sys2Proof.Config

/-- The k-th free value: stands for a value the spec leaves undefined or does not state. It has no body; the machine
applies it to a counter of State, so every use is a fresh value. -/
opaque freeValue : Nat → Nat

/-- Byte `i` of line `la` of the near store after the `j`-th loss of its contents (19 R585): a free value. -/
opaque junkByte : Nat → Nat → Nat → BitVec 8

/-- Speed grade of the part: true for S2, false for S1 (00 R1). Marked on the part, not set by the spec. -/
opaque speedS2 : Bool

/-- Junction range of the part: true for X, false for E (00 R1). -/
opaque rangeX : Bool

/-- Low word of the MAC address in one-time-programmable storage (14 R478). -/
opaque macLow : BitVec 32

/-- High word of the MAC address (14 R478). -/
opaque macHigh : BitVec 32

/-- Device serial in one-time-programmable storage (15 R514). -/
opaque serialLow : BitVec 32

/-- High word of the device serial (15 R514). -/
opaque serialHigh : BitVec 32

/-- SCM_LEAF as one-time-programmable storage holds it: blocks left and leaves used (15 R514). -/
opaque leafState : BitVec 32

/-- SYS_STRAP: the straps as sampled at power-on (16 R541). -/
opaque straps : BitVec 32

/-- Limits of a DQ delay correction on a near-store channel, in delay steps (09 R308); the spec does not give them. -/
opaque dqsLow : Int
opaque dqsHigh : Int

/-- What a configuration frame holds, by field (04 R124 to R138, 05 R178, R188, 13 R412). Cells are numbered 0 to 15 in
their cluster; flip-flop 0 is FF_F and 1 is FF_G; line 0 of a pair is A and 1 is B. -/
inductive FabField where
  /-- Of a cell: 1 for the dual five-input mode; its 64 table bits; the multiplexer of input `i` (I1 to I6, DF, DG). -/
  | dual (cell : Nat) | table (cell : Nat) | input (cell i : Nat)
  /-- Of a flip-flop: 1 for the bypass input as its data source; its clock selection, enable and set-reset line. -/
  | ffBypass (cell g : Nat) | ffClock (cell g : Nat) | ffEnable (cell g : Nat) | ffSetReset (cell g : Nat)
  /-- Of a cluster: the carry-in of its cell 0; the fabric clock of CK_A and CK_B; the multiplexers of CE_A and CE_B, of
  SR_A and SR_B; 1 for an asynchronous set-reset line; its 32 outputs; its 64 routing inputs; its wires by direction. -/
  | carryIn | clock (l : Nat) | enable (l : Nat) | setReset (l : Nat) | setAsync (l : Nat)
  | output (i : Nat) | pick (i : Nat) | wire (dir j : Nat)
  /-- Of a column: the driver of a span segment; the drive of a riser wire and its riser register at the receiving end. -/
  | span (vertical : Bool) (i : Nat)
  | riser (w : Nat) | riserReg (w : Nat) | riserClock (w : Nat) | riserEnable (w : Nat)
  /-- Of a fixed area: a joint buffer, by the key of the joint's higher segment and whether it drives that one; the clamp
  mode of a boundary wire. -/
  | joint (key : Nat) (up : Bool) | clamp (key : Nat)
  /-- Of a column: initial values and set-reset values. -/
  | initial (cell g : Nat) | setValue (cell g : Nat) | riserInitial (w : Nat)
  deriving DecidableEq, Repr

/-- A field of a configuration frame for a row of its band: the Lemian device database gives the place of each bit (13
R412). The field of a multiplexer is 0 where it is off and k + 1 where it takes its k-th source. An empty frame is not
asked: all its fields are 0 (13 R413). -/
opaque fabField : FabField → Nat → Nat → Nat

/-- The column, of the 3,840 of a layer's fixed areas, whose part 20 holds a joint or a clamp mode (13 R412). -/
opaque fixedColumn : FabField → Nat

/-- What the decoder of a line makes of more than two symbols in error: none where it finds the line uncorrectable, else the
symbols that differ from the stored line after its wrong correction (10 R319 gives the code no polynomial). -/
opaque rsDecode : List (Nat × BitVec 8) → Option (List (Nat × BitVec 8))

/-- How the fixed subset of the crossbar sources of an input is turned against that of the first one (04 R130). -/
opaque crossbarTurn : Nat → Nat

/-- A signal that a port hands to the fabric (04 R123, R149). -/
inductive PortSig where
  /-- Bit `i` of a field of the time port (02 R52), by field number. -/
  | time (field i : Nat)
  /-- Bit `i` of a signal of a lane's receive port (03 R93), by signal number; RX_STB and TX_LAST of a bundle. -/
  | rx (n m sig i : Nat) | rxStb (n : Nat) | txLast (n : Nat)
  /-- HOOP_LIVE of a hoop (05 R180); bit `i` of the word a user I/O pin delivers (R156). -/
  | hoopLive (n : Nat) | pin (p i : Nat)
  /-- HW_READY of a history writer port (09 R291), FP_TX_RDY of a fabric packet port (11). -/
  | hwReady (i : Nat) | fpReady (i : Nat)
  /-- Bit `i` of the cascade signals by number: CASC_UP_OK, CASC_PRESENT, CASC_ALIGNED, CASC_LINK_OK (18 R575). -/
  | casc (sig i : Nat)
  /-- Bit `i` of a slice's accumulator and of its flags (06 R194); of a rank unit's outputs by position, its done and flag
  outputs (06 R209); of an array's hit words, its count and done outputs (07 R221). -/
  | slice (k i : Nat) | sliceFlag (k i : Nat) | rank (r slot i : Nat) | rankFlag (r i : Nat)
  | array (a i : Nat) | arrayFlag (a i : Nat)
  /-- Bit `i` of MB_RDATA of a bank's port, its MB_POISON and MB_READY (08 R244). -/
  | bank (b port i : Nat) | bankFlag (b port i : Nat)
  deriving DecidableEq, Repr, Inhabited

/-- The signal of a port that the `k`-th port source of a cluster's multiplexers is: the device database gives the place of
ports on the grid. -/
opaque portAt : Nat → Nat → PortSig

/-- The carry-out of a cell in six-input mode, which the spec does not state (04 R128), by cluster, cell and context. -/
opaque sixCarry : Nat → Nat → Nat → Bool

/-- The trim that the firmware aims at for an element at the values in use of the sensors (15 R492): which sensors are nearest
and what follows from them is not in the spec. -/
opaque trimTarget : Nat → List Nat → Int

/-- The column, of 40, whose part 20 holds a slice's configuration (13 R412). -/
opaque sliceColumn : Nat → Nat

/-- A slice's configuration as a frame of its column gives it, packed as `decodeSlice` reads it: the device database gives
the place of its bits (13 R412). -/
opaque sliceWord : Nat → Nat → Nat

/-- Byte `i` of a slot state record as the firmware writes it (15 R506): sequence, state, attempts. The spec gives the
record's contents and length, not its layout. -/
opaque recordByte : Nat → Nat → Nat → Nat → BitVec 8

/-- The slot state record that 32 bytes not written by the firmware are, if they are a valid one (15 R506). -/
opaque recordOf : Nat → Option (Nat × Nat × Nat)

/-- Byte `i` of what OP_FW_STATUS returns for a slot: latest state record (sequence, state, attempts), release, security
version (15 R511). The spec gives the contents and the length, not the layout. -/
opaque fwStatusByte : Option (Nat × Nat × Nat) → Nat → Nat → Nat → Nat

/-- A block of leaves whose bit fails its read-back (15 R509). -/
opaque leafBlockBad : Nat → Bool

/-- Byte `i` of the signature of a report under a leaf of the device identity key, whose seed nothing can read (15 R508,
R510). -/
opaque signByte : Nat → List Nat → Nat → Nat

/-- Byte `i` of the identity public key (15 R508). -/
opaque identityByte : Nat → Nat

end Sys2Proof.Config
end

