-- ==== Sys2Proof/Machine/RegMap.lean ====
section
/-!
DEFINITION. The register map of the device: every register block of 01 R29 with the registers, resets, access codes
and fields of the chapters' own register tables (02 R69, 03 R119, 04 R160-R161, 05 R192, 06 R214, 07 R239, 08 R272,
09 R312-R313, 10 R337, 11 R366, 12 R409-R410, 13 R440, 14 R478, 15 R514, 16 R540-R541, 17 R561, 18 R580, 19 R608).
A register family that repeats (per bundle, per lane, per hoop) is one name with up to two indices.
-/
namespace Sys2Proof.Machine

/-- Every register the chapters define, in the order of their tables. -/
inductive RegName where
  /-- MTIME_CTRL, 02 R69. -/
  | mtimeCtrl
  /-- MTIME_STATUS, 02 R69. -/
  | mtimeStatus
  /-- MTIME_ERR, 02 R69. -/
  | mtimeErr
  /-- MTIME_NOM_PERIOD, 02 R69. -/
  | mtimeNomPeriod
  /-- MTIME_MEAS_PERIOD, 02 R69. -/
  | mtimeMeasPeriod
  /-- MTIME_ORBIT_LEN, 02 R69. -/
  | mtimeOrbitLen
  /-- MTIME_ORBIT_OFS, 02 R69. -/
  | mtimeOrbitOfs
  /-- MTIME_SNAP, 02 R69. -/
  | mtimeSnap
  /-- MTIME_SNAP_T_LO, 02 R69. -/
  | mtimeSnapTLo
  /-- MTIME_SNAP_T_HI, 02 R69. -/
  | mtimeSnapTHi
  /-- MTIME_SNAP_PT_LO, 02 R69. -/
  | mtimeSnapPtLo
  /-- MTIME_SNAP_PT_HI, 02 R69. -/
  | mtimeSnapPtHi
  /-- MTIME_COAST_T_LO, 02 R69. -/
  | mtimeCoastTLo
  /-- MTIME_COAST_T_HI, 02 R69. -/
  | mtimeCoastTHi
  /-- MTIME_ORBIT_LOAD_LO, 02 R69. -/
  | mtimeOrbitLoadLo
  /-- MTIME_ORBIT_LOAD_HI, 02 R69. -/
  | mtimeOrbitLoadHi
  /-- MTIME_RT_CTRL, 02 R69. -/
  | mtimeRtCtrl
  /-- MTIME_RT_STATUS, 02 R69. -/
  | mtimeRtStatus
  /-- MTIME_STEAL, 02 R69. -/
  | mtimeSteal
  /-- MTIME_EVT_CTRL, 02 R69. -/
  | mtimeEvtCtrl
  /-- MTIME_EVT_T_LO, 02 R69. -/
  | mtimeEvtTLo
  /-- MTIME_EVT_T_HI, 02 R69. -/
  | mtimeEvtTHi
  /-- LANE_CFG, 03 R119. -/
  | laneCfg
  /-- LANE_STATUS, 03 R119. -/
  | laneStatus
  /-- LANE_ERR, 03 R119. -/
  | laneErr
  /-- LANE_RXDLY, 03 R119. -/
  | laneRxdly
  /-- LANE_GANG, 03 R119. -/
  | laneGang
  /-- LANE_LINK_ID, 03 R119. -/
  | laneLinkId
  /-- LANE_CMD, 03 R119. -/
  | laneCmd
  /-- LANE_REINSTATE, 03 R119. -/
  | laneReinstate
  /-- LANE_BYPASS, 03 R119. -/
  | laneBypass
  /-- LANE_EYE_CTRL, 03 R119. -/
  | laneEyeCtrl
  /-- LANE_EYE_STAT, 03 R119. -/
  | laneEyeStat
  /-- LANE_EYE_ERR, 03 R119. -/
  | laneEyeErr
  /-- LANE_LST, 03 R119. -/
  | laneLst
  /-- LANE_LCTRL, 03 R119. -/
  | laneLctrl
  /-- LANE_MARGIN, 03 R119. -/
  | laneMargin
  /-- LANE_BADCNT, 03 R119. -/
  | laneBadcnt
  /-- LANE_ORBBAD, 03 R119. -/
  | laneOrbbad
  /-- LANE_CAPS_LO, 03 R119. -/
  | laneCapsLo
  /-- LANE_CAPS_HI, 03 R119. -/
  | laneCapsHi
  /-- LANE_SLICE, 03 R119. -/
  | laneSlice
  /-- LANE_GCTRL, 03 R119. -/
  | laneGctrl
  /-- LANE_GSTAT, 03 R119. -/
  | laneGstat
  /-- FAB_FCLK_CTRL, 04 R160. -/
  | fabFclkCtrl
  /-- FAB_FCLK_STATUS, 04 R160. -/
  | fabFclkStatus
  /-- FAB_SPAN_STAT, 04 R160. -/
  | fabSpanStat
  /-- FAB_SPAN_LOG, 04 R160. -/
  | fabSpanLog
  /-- FAB_SPAN_ERR, 04 R160. -/
  | fabSpanErr
  /-- FAB_IOB_CFG, 04 R160. -/
  | fabIobCfg
  /-- FAB_IOB_STATUS, 04 R160. -/
  | fabIobStatus
  /-- FAB_IOD, 04 R160. -/
  | fabIod
  /-- FAB_CTRL, 05 R192. -/
  | fabCtrl
  /-- FAB_CTX_ERR, 05 R192. -/
  | fabCtxErr
  /-- FAB_CTX_CNT, 05 R192. -/
  | fabCtxCnt
  /-- FAB_GRP, 05 R192. -/
  | fabGrp
  /-- FAB_FIX_GRP, 05 R192. -/
  | fabFixGrp
  /-- FAB_HOOP_CFG, 05 R192. -/
  | fabHoopCfg
  /-- FAB_HOOP_STATUS, 05 R192. -/
  | fabHoopStatus
  /-- FAB_HOOP_CMD, 05 R192. -/
  | fabHoopCmd
  /-- FAB_HOOP_FLAG, 05 R192. -/
  | fabHoopFlag
  /-- FAB_BIND_AS, 05 R192. -/
  | fabBindAs
  /-- FAB_BIND_RU, 05 R192. -/
  | fabBindRu
  /-- FAB_BIND_PM, 05 R192. -/
  | fabBindPm
  /-- FAB_HB_HOLD_AS, 06 R214. -/
  | fabHbHoldAs
  /-- FAB_HB_HOLD_RU, 06 R214. -/
  | fabHbHoldRu
  /-- FAB_HB_ERR, 06 R214. -/
  | fabHbErr
  /-- FAB_HB_CNT, 06 R214. -/
  | fabHbCnt
  /-- FAB_PM_CFG, 07 R239. -/
  | fabPmCfg
  /-- FAB_PM_FLD_LO, 07 R239. -/
  | fabPmFldLo
  /-- FAB_PM_FLD_HI, 07 R239. -/
  | fabPmFldHi
  /-- FAB_PM_SET, 07 R239. -/
  | fabPmSet
  /-- FAB_PM_ECC, 07 R239. -/
  | fabPmEcc
  /-- FAB_PMU_CTRL, 07 R239. -/
  | fabPmuCtrl
  /-- FAB_PMU_FIRST, 07 R239. -/
  | fabPmuFirst
  /-- FAB_PMU_COUNT, 07 R239. -/
  | fabPmuCount
  /-- FAB_PMU_ADDR_LO, 07 R239. -/
  | fabPmuAddrLo
  /-- FAB_PMU_ADDR_HI, 07 R239. -/
  | fabPmuAddrHi
  /-- FAB_PMU_WXQ, 07 R239. -/
  | fabPmuWxq
  /-- FAB_PMU_STATUS, 07 R239. -/
  | fabPmuStatus
  /-- FAB_PMU_LAST, 07 R239. -/
  | fabPmuLast
  /-- FAB_HB_HOLD_PM, 07 R239. -/
  | fabHbHoldPm
  /-- FAB_PM_ERR, 07 R239. -/
  | fabPmErr
  /-- FAB_PM_CNT, 07 R239. -/
  | fabPmCnt
  /-- MEMB_CTRL, 08 R272. -/
  | membCtrl
  /-- MEMB_ERR, 08 R272. -/
  | membErr
  /-- MEMB_STAT, 08 R272. -/
  | membStat
  /-- MEMB_BCFG, 08 R272. -/
  | membBcfg
  /-- MEMB_BOWN, 08 R272. -/
  | membBown
  /-- MEMB_BPWR, 08 R272. -/
  | membBpwr
  /-- MEMB_BECC, 08 R272. -/
  | membBecc
  /-- MEMB_SPWR, 08 R272. -/
  | membSpwr
  /-- MEMB_SECC, 08 R272. -/
  | membSecc
  /-- MEMB_SCR_CTRL, 08 R272. -/
  | membScrCtrl
  /-- MEMB_SCR_BASE_LO, 08 R272. -/
  | membScrBaseLo
  /-- MEMB_SCR_BASE_HI, 08 R272. -/
  | membScrBaseHi
  /-- MEMB_SCR_LEN, 08 R272. -/
  | membScrLen
  /-- MEMB_SCR_DEST_LO, 08 R272. -/
  | membScrDestLo
  /-- MEMB_SCR_DEST_HI, 08 R272. -/
  | membScrDestHi
  /-- MEMB_SCR_WXQ, 08 R272. -/
  | membScrWxq
  /-- MEMB_SCR_STATUS, 08 R272. -/
  | membScrStatus
  /-- MEMB_SCR_LAST, 08 R272. -/
  | membScrLast
  /-- NEAR_CTRL, 09 R312. -/
  | nearCtrl
  /-- NEAR_STATUS, 09 R312. -/
  | nearStatus
  /-- NEAR_ERR, 09 R312. -/
  | nearErr
  /-- NEAR_RING_CTRL, 09 R312. -/
  | nearRingCtrl
  /-- NEAR_RING_STATUS, 09 R312. -/
  | nearRingStatus
  /-- NEAR_RING_NBASE, 09 R312. -/
  | nearRingNbase
  /-- NEAR_RING_NLEN, 09 R312. -/
  | nearRingNlen
  /-- NEAR_IDX_BASE, 09 R312. -/
  | nearIdxBase
  /-- NEAR_IDX_LEN, 09 R312. -/
  | nearIdxLen
  /-- NEAR_RING_HEAD_LO, 09 R312. -/
  | nearRingHeadLo
  /-- NEAR_RING_HEAD_HI, 09 R312. -/
  | nearRingHeadHi
  /-- NEAR_RING_DROP, 09 R312. -/
  | nearRingDrop
  /-- NEAR_LB_D, 09 R312. -/
  | nearLbD
  /-- NEAR_LB_STATUS, 09 R312. -/
  | nearLbStatus
  /-- NEAR_LB_LAST, 09 R312. -/
  | nearLbLast
  /-- NEAR_LBTX_CFG, 09 R312. -/
  | nearLbtxCfg
  /-- NEAR_LBTX_ADDR_LO, 09 R312. -/
  | nearLbtxAddrLo
  /-- NEAR_LBTX_ADDR_HI, 09 R312. -/
  | nearLbtxAddrHi
  /-- NEAR_LBTX_LEN, 09 R312. -/
  | nearLbtxLen
  /-- NEAR_LBTX_CTRL, 09 R312. -/
  | nearLbtxCtrl
  /-- NEAR_CH_STATUS, 09 R312. -/
  | nearChStatus
  /-- NEAR_CH_ECC, 09 R312. -/
  | nearChEcc
  /-- NEAR_CH_FILL, 09 R312. -/
  | nearChFill
  /-- CAVE_CTRL, 09 R313. -/
  | caveCtrl
  /-- CAVE_ERR, 09 R313. -/
  | caveErr
  /-- CAVE_RING_PAGES, 09 R313. -/
  | caveRingPages
  /-- CAVE_RING_MASK, 09 R313. -/
  | caveRingMask
  /-- CAVE_PCFG, 09 R313. -/
  | cavePcfg
  /-- CAVE_PSTATUS, 09 R313. -/
  | cavePstatus
  /-- CAVE_PRETRY, 09 R313. -/
  | cavePretry
  /-- CAVE_PECC, 09 R313. -/
  | cavePecc
  /-- CAVE_PCAP, 09 R313. -/
  | cavePcap
  /-- XCR_CTRL, 10 R337. -/
  | xcrCtrl
  /-- XCR_ERR, 10 R337. -/
  | xcrErr
  /-- XCR_KEY_VALID, 10 R337. -/
  | xcrKeyValid
  /-- XCR_KEY_ERASE, 10 R337. -/
  | xcrKeyErase
  /-- XCR_HWM_LO, 10 R337. -/
  | xcrHwmLo
  /-- XCR_HWM_HI, 10 R337. -/
  | xcrHwmHi
  /-- XCR_FAIL_ADDR_LO, 10 R337. -/
  | xcrFailAddrLo
  /-- XCR_FAIL_ADDR_HI, 10 R337. -/
  | xcrFailAddrHi
  /-- XCR_REL_CTRL, 10 R337. -/
  | xcrRelCtrl
  /-- XCR_REL_PAGE, 10 R337. -/
  | xcrRelPage
  /-- XCR_REL_COUNT, 10 R337. -/
  | xcrRelCount
  /-- XCR_REL_STATUS, 10 R337. -/
  | xcrRelStatus
  /-- XCR_KCV, 10 R337. -/
  | xcrKcv
  /-- XCR_ENG_INT, 10 R337. -/
  | xcrEngInt
  /-- XCR_ENG_POIS, 10 R337. -/
  | xcrEngPois
  /-- XCR_ENG_REENC, 10 R337. -/
  | xcrEngReenc
  /-- XCR_ENG_CACHE, 10 R337. -/
  | xcrEngCache
  /-- NOC_CTRL, 11 R366. -/
  | nocCtrl
  /-- NOC_ERR, 11 R366. -/
  | nocErr
  /-- NOC_STAT, 11 R366. -/
  | nocStat
  /-- NOC_RTR_STATUS, 11 R366. -/
  | nocRtrStatus
  /-- NOC_RTR_CMD, 11 R366. -/
  | nocRtrCmd
  /-- NOC_RTR_VCDEPTH, 11 R366. -/
  | nocRtrVcdepth
  /-- NOC_RTR_ERRCNT, 11 R366. -/
  | nocRtrErrcnt
  /-- NOC_NI_CFG, 11 R366. -/
  | nocNiCfg
  /-- NOC_NI_REG, 11 R366. -/
  | nocNiReg
  /-- NOC_NI_CNT, 11 R366. -/
  | nocNiCnt
  /-- WX_CTRL, 12 R409. -/
  | wxCtrl
  /-- WX_ERR, 12 R409. -/
  | wxErr
  /-- WX_STAT0, 12 R409. -/
  | wxStat0
  /-- WX_STAT1, 12 R409. -/
  | wxStat1
  /-- WX_CNT, 12 R409. -/
  | wxCnt
  /-- WX_CANCEL, 12 R409. -/
  | wxCancel
  /-- WX_CANCEL_RES, 12 R409. -/
  | wxCancelRes
  /-- WX_DLNOW, 12 R409. -/
  | wxDlnow
  /-- WX_DLLEN, 12 R409. -/
  | wxDllen
  /-- WX_POST, 12 R409. -/
  | wxPost
  /-- WX_QCFG, 12 R409. -/
  | wxQcfg
  /-- WX_QSTAT, 12 R409. -/
  | wxQstat
  /-- QC_CTRL, 12 R410. -/
  | qcCtrl
  /-- QC_ERR, 12 R410. -/
  | qcErr
  /-- QC_STAT, 12 R410. -/
  | qcStat
  /-- QC_STATUS, 12 R410. -/
  | qcStatus
  /-- QC_CMD, 12 R410. -/
  | qcCmd
  /-- QC_WDOG, 12 R410. -/
  | qcWdog
  /-- QC_CNT, 12 R410. -/
  | qcCnt
  /-- QC_SHADOW, 12 R410. -/
  | qcShadow
  /-- QC_SHSTAT, 12 R410. -/
  | qcShstat
  /-- CFG_CTRL, 13 R440. -/
  | cfgCtrl
  /-- CFG_ID, 13 R440. -/
  | cfgId
  /-- CFG_STATUS, 13 R440. -/
  | cfgStatus
  /-- CFG_ERR, 13 R440. -/
  | cfgErr
  /-- CFG_FAIL_FRAME, 13 R440. -/
  | cfgFailFrame
  /-- CFG_FAIL_OFS, 13 R440. -/
  | cfgFailOfs
  /-- CFG_POLICY, 13 R440. -/
  | cfgPolicy
  /-- CFG_LOAD_ADDR_LO, 13 R440. -/
  | cfgLoadAddrLo
  /-- CFG_LOAD_ADDR_HI, 13 R440. -/
  | cfgLoadAddrHi
  /-- CFG_LOAD_LEN, 13 R440. -/
  | cfgLoadLen
  /-- CFG_LOAD_CMD, 13 R440. -/
  | cfgLoadCmd
  /-- CFG_BUILD_LO, 13 R440. -/
  | cfgBuildLo
  /-- CFG_BUILD_HI, 13 R440. -/
  | cfgBuildHi
  /-- CFG_RW_STAT, 13 R440. -/
  | cfgRwStat
  /-- CFG_RW_LOG, 13 R440. -/
  | cfgRwLog
  /-- CFG_HBUILD_LO, 13 R440. -/
  | cfgHbuildLo
  /-- CFG_HBUILD_HI, 13 R440. -/
  | cfgHbuildHi
  /-- ETH_CTRL, 14 R478. -/
  | ethCtrl
  /-- ETH_STATUS, 14 R478. -/
  | ethStatus
  /-- ETH_ERR, 14 R478. -/
  | ethErr
  /-- ETH_MAC_LO, 14 R478. -/
  | ethMacLo
  /-- ETH_MAC_HI, 14 R478. -/
  | ethMacHi
  /-- ETH_IP4, 14 R478. -/
  | ethIp4
  /-- ETH_UDP, 14 R478. -/
  | ethUdp
  /-- ETH_NET, 14 R478. -/
  | ethNet
  /-- ETH_IP6_, 14 R478. -/
  | ethIp6
  /-- ETH_RATE, 14 R478. -/
  | ethRate
  /-- ETH_CNT0, 14 R478. -/
  | ethCnt0
  /-- ETH_CNT1, 14 R478. -/
  | ethCnt1
  /-- ETH_EVT_NEXT, 14 R478. -/
  | ethEvtNext
  /-- ETH_SEND, 14 R478. -/
  | ethSend
  /-- ETH_SEND_STAT, 14 R478. -/
  | ethSendStat
  /-- ETH_SESS_ID, 14 R478. -/
  | ethSessId
  /-- ETH_SESS_INFO, 14 R478. -/
  | ethSessInfo
  /-- SCM_CTRL, 15 R514. -/
  | scmCtrl
  /-- SCM_STATUS, 15 R514. -/
  | scmStatus
  /-- SCM_ERR, 15 R514. -/
  | scmErr
  /-- SCM_TLIM, 15 R514. -/
  | scmTlim
  /-- SCM_SHED, 15 R514. -/
  | scmShed
  /-- SCM_CAL, 15 R514. -/
  | scmCal
  /-- SCM_CALCNT, 15 R514. -/
  | scmCalcnt
  /-- SCM_STCNT, 15 R514. -/
  | scmStcnt
  /-- SCM_BROKEN_LO, 15 R514. -/
  | scmBrokenLo
  /-- SCM_BROKEN_HI, 15 R514. -/
  | scmBrokenHi
  /-- SCM_SERIAL_LO, 15 R514. -/
  | scmSerialLo
  /-- SCM_SERIAL_HI, 15 R514. -/
  | scmSerialHi
  /-- SCM_FW, 15 R514. -/
  | scmFw
  /-- SCM_LEAF, 15 R514. -/
  | scmLeaf
  /-- SCM_BLOT_NEXT, 15 R514. -/
  | scmBlotNext
  /-- SCM_BLOT_DROP, 15 R514. -/
  | scmBlotDrop
  /-- SCM_CH, 15 R514. -/
  | scmCh
  /-- CLK_CTRL, 16 R540. -/
  | clkCtrl
  /-- CLK_STATUS, 16 R540. -/
  | clkStatus
  /-- CLK_ERR, 16 R540. -/
  | clkErr
  /-- CLK_NOC, 16 R540. -/
  | clkNoc
  /-- CLK_QPLL, 16 R540. -/
  | clkQpll
  /-- CLK_GRP, 16 R540. -/
  | clkGrp
  /-- CLK_NCTL, 16 R540. -/
  | clkNctl
  /-- SYS_STATUS, 16 R541. -/
  | sysStatus
  /-- SYS_RST, 16 R541. -/
  | sysRst
  /-- SYS_RSTCAUSE, 16 R541. -/
  | sysRstcause
  /-- SYS_STRAP, 16 R541. -/
  | sysStrap
  /-- SYS_TRUN_LO, 16 R541. -/
  | sysTrunLo
  /-- SYS_TRUN_HI, 16 R541. -/
  | sysTrunHi
  /-- MEMB_SPMAP_B, 17 R561. -/
  | membSpmapB
  /-- MEMB_SPMAP_S, 17 R561. -/
  | membSpmapS
  /-- MEMB_BRET, 17 R561. -/
  | membBret
  /-- MEMB_SRET, 17 R561. -/
  | membSret
  /-- MEMB_RETCNT, 17 R561. -/
  | membRetcnt
  /-- CASC_CTRL, 18 R580. -/
  | cascCtrl
  /-- CASC_STATUS, 18 R580. -/
  | cascStatus
  /-- CASC_ERR, 18 R580. -/
  | cascErr
  /-- CASC_MEMBERS, 18 R580. -/
  | cascMembers
  /-- CASC_ROUTE0, 18 R580. -/
  | cascRoute0
  /-- CASC_ROUTE1, 18 R580. -/
  | cascRoute1
  /-- CASC_LINK, 18 R580. -/
  | cascLink
  /-- CASC_LSTAT, 18 R580. -/
  | cascLstat
  /-- CASC_LCNT, 18 R580. -/
  | cascLcnt
  /-- DBG_CTRL, 19 R608. -/
  | dbgCtrl
  /-- DBG_STATUS, 19 R608. -/
  | dbgStatus
  /-- DBG_FREEZE, 19 R608. -/
  | dbgFreeze
  /-- DBG_CONNECT, 19 R608. -/
  | dbgConnect
  /-- DBG_QC_SEL, 19 R608. -/
  | dbgQcSel
  /-- DBG_QC_CMD, 19 R608. -/
  | dbgQcCmd
  /-- DBG_QC_REGNO, 19 R608. -/
  | dbgQcRegno
  /-- DBG_QC_DATA, 19 R608. -/
  | dbgQcData
  /-- DBG_QC_STAT, 19 R608. -/
  | dbgQcStat
  /-- DBG_HMASK, 19 R608. -/
  | dbgHmask
  /-- DBG_CHAL, 19 R608. -/
  | dbgChal
  deriving DecidableEq, Repr

/-- Where a register lies, what it holds after reset and which of its bits follow which access code of 00 R8.
Bits in no mask are read-only, write-only or reserved. -/
structure RegInfo where
  /-- Absolute on-chip address of index (0, 0). -/
  base : Nat
  /-- Address step and number of the first index. -/
  step1 : Nat := 0
  count1 : Nat := 1
  /-- Address step and number of the second index. -/
  step2 : Nat := 0
  count2 : Nat := 1
  reset : Nat := 0
  /-- RW bits. -/
  rw : Nat := 0
  /-- RWL bits: as RW until the block's lock bit is set. -/
  rwl : Nat := 0
  /-- W1C bits. -/
  w1c : Nat := 0
  /-- W1S bits. -/
  w1s : Nat := 0
  /-- RC bits: cleared by a read that is not quiet. -/
  rc : Nat := 0
  deriving DecidableEq, Repr

/-- The table of the registers, from the chapters' own tables. -/
def RegName.info : RegName → RegInfo
  | .mtimeCtrl => { base := 0x200000, rwl := 0x3f03, w1s := 0x80 }
  | .mtimeStatus => { base := 0x200004, reset := 0x3 }
  | .mtimeErr => { base := 0x200008, w1c := 0x1ff }
  | .mtimeNomPeriod => { base := 0x20000c, reset := 0x17d7840, rwl := 0xffffffff }
  | .mtimeMeasPeriod => { base := 0x200010 }
  | .mtimeOrbitLen => { base := 0x200014, reset := 0xfff }
  | .mtimeOrbitOfs => { base := 0x200018, rw := 0x3fff }
  | .mtimeSnap => { base := 0x20001c }
  | .mtimeSnapTLo => { base := 0x200020 }
  | .mtimeSnapTHi => { base := 0x200024 }
  | .mtimeSnapPtLo => { base := 0x200028 }
  | .mtimeSnapPtHi => { base := 0x20002c }
  | .mtimeCoastTLo => { base := 0x200030 }
  | .mtimeCoastTHi => { base := 0x200034 }
  | .mtimeOrbitLoadLo => { base := 0x200038, rw := 0xffffffff }
  | .mtimeOrbitLoadHi => { base := 0x20003c, rw := 0xffff }
  | .mtimeRtCtrl => { base := 0x200040, reset := 0xfff0000, rw := 0x3fff0700, w1s := 0x80000000 }
  | .mtimeRtStatus => { base := 0x200044 }
  | .mtimeSteal => { base := 0x200050, step1 := 0x4, count1 := 4, rw := 0x8fffffff }
  | .mtimeEvtCtrl => { base := 0x200100, step1 := 0x10, count1 := 16, rw := 0x80000007, w1c := 0x300 }
  | .mtimeEvtTLo => { base := 0x200104, step1 := 0x10, count1 := 16, rw := 0xffffffff }
  | .mtimeEvtTHi => { base := 0x200108, step1 := 0x10, count1 := 16, rw := 0xffffffff }
  | .laneCfg => { base := 0x300000, step1 := 0x1000, count1 := 48, reset := 0x320000, rw := 0x1, rwl := 0x37f0302 }
  | .laneStatus => { base := 0x300004, step1 := 0x1000, count1 := 48 }
  | .laneErr => { base := 0x300008, step1 := 0x1000, count1 := 48, w1c := 0x3ff }
  | .laneRxdly => { base := 0x30000c, step1 := 0x1000, count1 := 48, rwl := 0x7f001f }
  | .laneGang => { base := 0x300010, step1 := 0x1000, count1 := 48, rwl := 0x77 }
  | .laneLinkId => { base := 0x300014, step1 := 0x1000, count1 := 48, rwl := 0xffff }
  | .laneCmd => { base := 0x300018, step1 := 0x1000, count1 := 48 }
  | .laneReinstate => { base := 0x30001c, step1 := 0x1000, count1 := 48 }
  | .laneBypass => { base := 0x300020, step1 := 0x1000, count1 := 48, step2 := 0x4, count2 := 8, rwl := 0x80003f07 }
  | .laneEyeCtrl => { base := 0x300040, step1 := 0x1000, count1 := 48, rw := 0x1ff03fbf, w1s := 0x80000000 }
  | .laneEyeStat => { base := 0x300044, step1 := 0x1000, count1 := 48 }
  | .laneEyeErr => { base := 0x300048, step1 := 0x1000, count1 := 48 }
  | .laneLst => { base := 0x300100, step1 := 0x1000, count1 := 48, step2 := 0x20, count2 := 9 }
  | .laneLctrl => { base := 0x300104, step1 := 0x1000, count1 := 48, step2 := 0x20, count2 := 9, rwl := 0x3 }
  | .laneMargin => { base := 0x300108, step1 := 0x1000, count1 := 48, step2 := 0x20, count2 := 9, reset := 0x8000 }
  | .laneBadcnt => { base := 0x30010c, step1 := 0x1000, count1 := 48, step2 := 0x20, count2 := 9, rc := 0xffffffff }
  | .laneOrbbad => { base := 0x300110, step1 := 0x1000, count1 := 48, step2 := 0x20, count2 := 9 }
  | .laneCapsLo => { base := 0x300114, step1 := 0x1000, count1 := 48, step2 := 0x20, count2 := 9 }
  | .laneCapsHi => { base := 0x300118, step1 := 0x1000, count1 := 48, step2 := 0x20, count2 := 9 }
  | .laneSlice => { base := 0x30011c, step1 := 0x1000, count1 := 48, step2 := 0x20, count2 := 9, reset := 0xf0 }
  | .laneGctrl => { base := 0x330000, w1s := 0x1 }
  | .laneGstat => { base := 0x330004 }
  | .fabFclkCtrl => { base := 0x5c0000, rwl := 0x1f1f1f1f }
  | .fabFclkStatus => { base := 0x5c0004 }
  | .fabSpanStat => { base := 0x5c0008 }
  | .fabSpanLog => { base := 0x5c000c }
  | .fabSpanErr => { base := 0x5c0010, w1c := 0x3 }
  | .fabIobCfg => { base := 0x5c0100, step1 := 0x4, count1 := 13, rwl := 0x30f0f }
  | .fabIobStatus => { base := 0x5c0180, step1 := 0x4, count1 := 13 }
  | .fabIod => { base := 0x5c1000, step1 := 0x4, count1 := 416, rw := 0x7007f }
  | .fabCtrl => { base := 0x500000, w1s := 0x1 }
  | .fabCtxErr => { base := 0x500004, w1c := 0x7 }
  | .fabCtxCnt => { base := 0x500008 }
  | .fabGrp => { base := 0x500020, step1 := 0x4, count1 := 8, rw := 0x30000100, rwl := 0x3, w1s := 0x80000000 }
  | .fabFixGrp => { base := 0x500040, rwl := 0x77 }
  | .fabHoopCfg => { base := 0x501000, step1 := 0x10, count1 := 192, reset := 0x100, rw := 0x307 }
  | .fabHoopStatus => { base := 0x501004, step1 := 0x10, count1 := 192, reset := 0x10000000 }
  | .fabHoopCmd => { base := 0x501008, step1 := 0x10, count1 := 192 }
  | .fabHoopFlag => { base := 0x50100c, step1 := 0x10, count1 := 192, w1c := 0xf }
  | .fabBindAs => { base := 0x520000, step1 := 0x4, count1 := 12288 }
  | .fabBindRu => { base := 0x530000, step1 := 0x4, count1 := 192 }
  | .fabBindPm => { base := 0x531000, step1 := 0x4, count1 := 256 }
  | .fabHbHoldAs => { base := 0x532000, step1 := 0x4, count1 := 384 }
  | .fabHbHoldRu => { base := 0x532800, step1 := 0x4, count1 := 6 }
  | .fabHbErr => { base := 0x532900, w1c := 0x3 }
  | .fabHbCnt => { base := 0x532904 }
  | .fabPmCfg => { base := 0x534000, step1 := 0x20, count1 := 256 }
  | .fabPmFldLo => { base := 0x534004, step1 := 0x20, count1 := 256, reset := 0x1 }
  | .fabPmFldHi => { base := 0x534008, step1 := 0x20, count1 := 256 }
  | .fabPmSet => { base := 0x53400c, step1 := 0x20, count1 := 256, reset := 0x1 }
  | .fabPmEcc => { base := 0x534010, step1 := 0x20, count1 := 256 }
  | .fabPmuCtrl => { base := 0x536000, step1 := 0x40, count1 := 4, rw := 0x3f0000ff, w1s := 0xc0000000 }
  | .fabPmuFirst => { base := 0x536004, step1 := 0x40, count1 := 4, rw := 0x7fff }
  | .fabPmuCount => { base := 0x536008, step1 := 0x40, count1 := 4, rw := 0x7fff }
  | .fabPmuAddrLo => { base := 0x53600c, step1 := 0x40, count1 := 4, rw := 0xffffffff }
  | .fabPmuAddrHi => { base := 0x536010, step1 := 0x40, count1 := 4, rw := 0xffff }
  | .fabPmuWxq => { base := 0x536014, step1 := 0x40, count1 := 4, rw := 0x80003fff }
  | .fabPmuStatus => { base := 0x536018, step1 := 0x40, count1 := 4 }
  | .fabPmuLast => { base := 0x53601c, step1 := 0x40, count1 := 4 }
  | .fabHbHoldPm => { base := 0x536200, step1 := 0x4, count1 := 8 }
  | .fabPmErr => { base := 0x536220, w1c := 0xf }
  | .fabPmCnt => { base := 0x536224 }
  | .membCtrl => { base := 0x600000, w1s := 0x1 }
  | .membErr => { base := 0x600004, w1c := 0x1f }
  | .membStat => { base := 0x600008 }
  | .membBcfg => { base := 0x610000, step1 := 0x10, count1 := 8192 }
  | .membBown => { base := 0x610004, step1 := 0x10, count1 := 8192, rw := 0xff0000, w1s := 0x80000000 }
  | .membBpwr => { base := 0x610008, step1 := 0x10, count1 := 8192, rw := 0x10003, w1s := 0x20000 }
  | .membBecc => { base := 0x61000c, step1 := 0x10, count1 := 8192 }
  | .membSpwr => { base := 0x640000, step1 := 0x10, count1 := 256, rw := 0x10003, w1s := 0x20000 }
  | .membSecc => { base := 0x640004, step1 := 0x10, count1 := 256 }
  | .membScrCtrl => { base := 0x650000, step1 := 0x40, count1 := 2, w1s := 0xc0000000 }
  | .membScrBaseLo => { base := 0x650004, step1 := 0x40, count1 := 2, rw := 0xffffffff }
  | .membScrBaseHi => { base := 0x650008, step1 := 0x40, count1 := 2, rw := 0xffff }
  | .membScrLen => { base := 0x65000c, step1 := 0x40, count1 := 2, rw := 0xffffff }
  | .membScrDestLo => { base := 0x650010, step1 := 0x40, count1 := 2, rw := 0xffffffff }
  | .membScrDestHi => { base := 0x650014, step1 := 0x40, count1 := 2, rw := 0xffff }
  | .membScrWxq => { base := 0x650018, step1 := 0x40, count1 := 2, rw := 0x80003fff }
  | .membScrStatus => { base := 0x65001c, step1 := 0x40, count1 := 2 }
  | .membScrLast => { base := 0x650020, step1 := 0x40, count1 := 2 }
  | .nearCtrl => { base := 0x700000, reset := 0x32, rwl := 0x137, w1s := 0x80000000 }
  | .nearStatus => { base := 0x700004 }
  | .nearErr => { base := 0x700008, w1c := 0x1f }
  | .nearRingCtrl => { base := 0x700010, rw := 0x8000031f }
  | .nearRingStatus => { base := 0x700014 }
  | .nearRingNbase => { base := 0x700018, rw := 0x7ffffff }
  | .nearRingNlen => { base := 0x70001c, rw := 0x7ffffff }
  | .nearIdxBase => { base := 0x700020, rw := 0x7ffffff }
  | .nearIdxLen => { base := 0x700024, rw := 0x7ffffff }
  | .nearRingHeadLo => { base := 0x700028 }
  | .nearRingHeadHi => { base := 0x70002c }
  | .nearRingDrop => { base := 0x700030 }
  | .nearLbD => { base := 0x700040, step1 := 0x4, count1 := 8 }
  | .nearLbStatus => { base := 0x700060 }
  | .nearLbLast => { base := 0x700064 }
  | .nearLbtxCfg => { base := 0x700080, step1 := 0x20, count1 := 2, rw := 0x8000003f }
  | .nearLbtxAddrLo => { base := 0x700084, step1 := 0x20, count1 := 2, rw := 0xffffffff }
  | .nearLbtxAddrHi => { base := 0x700088, step1 := 0x20, count1 := 2, rw := 0xffff }
  | .nearLbtxLen => { base := 0x70008c, step1 := 0x20, count1 := 2, rw := 0xfffffff }
  | .nearLbtxCtrl => { base := 0x700090, step1 := 0x20, count1 := 2, rw := 0x3fffffff, w1s := 0x80000000 }
  | .nearChStatus => { base := 0x701000, step1 := 0x40, count1 := 36 }
  | .nearChEcc => { base := 0x701004, step1 := 0x40, count1 := 36 }
  | .nearChFill => { base := 0x701008, step1 := 0x40, count1 := 36 }
  | .caveCtrl => { base := 0x800000, w1s := 0x1 }
  | .caveErr => { base := 0x800004, w1c := 0xf }
  | .caveRingPages => { base := 0x800008, reset := 0x2000000, rwl := 0x3ffffff }
  | .caveRingMask => { base := 0x80000c, rwl := 0xffff }
  | .cavePcfg => { base := 0x801000, step1 := 0x100, count1 := 16, rw := 0x80000300, rwl := 0x3f }
  | .cavePstatus => { base := 0x801004, step1 := 0x100, count1 := 16 }
  | .cavePretry => { base := 0x801008, step1 := 0x100, count1 := 16 }
  | .cavePecc => { base := 0x80100c, step1 := 0x100, count1 := 16 }
  | .cavePcap => { base := 0x801010, step1 := 0x100, count1 := 16 }
  | .xcrCtrl => { base := 0x900000, reset := 0x1000, rwl := 0xff00, w1s := 0x1 }
  | .xcrErr => { base := 0x900004, w1c := 0x1f }
  | .xcrKeyValid => { base := 0x900008 }
  | .xcrKeyErase => { base := 0x90000c }
  | .xcrHwmLo => { base := 0x900010 }
  | .xcrHwmHi => { base := 0x900014 }
  | .xcrFailAddrLo => { base := 0x900018 }
  | .xcrFailAddrHi => { base := 0x90001c }
  | .xcrRelCtrl => { base := 0x900020, rw := 0x1f000000, w1s := 0x80000000 }
  | .xcrRelPage => { base := 0x900024, rw := 0x3ffffff }
  | .xcrRelCount => { base := 0x900028, rw := 0xfffff }
  | .xcrRelStatus => { base := 0x90002c }
  | .xcrKcv => { base := 0x900100, step1 := 0x4, count1 := 32 }
  | .xcrEngInt => { base := 0x901000, step1 := 0x10, count1 := 52 }
  | .xcrEngPois => { base := 0x901004, step1 := 0x10, count1 := 52 }
  | .xcrEngReenc => { base := 0x901008, step1 := 0x10, count1 := 52 }
  | .xcrEngCache => { base := 0x90100c, step1 := 0x10, count1 := 52 }
  | .nocCtrl => { base := 0xa00000, w1s := 0x1 }
  | .nocErr => { base := 0xa00004, w1c := 0x7f }
  | .nocStat => { base := 0xa00008 }
  | .nocRtrStatus => { base := 0xa01000, step1 := 0x20, count1 := 144 }
  | .nocRtrCmd => { base := 0xa01004, step1 := 0x20, count1 := 144 }
  | .nocRtrVcdepth => { base := 0xa01008, step1 := 0x20, count1 := 144, reset := 0x10101010, rw := 0xffffffff }
  | .nocRtrErrcnt => { base := 0xa0100c, step1 := 0x20, count1 := 144 }
  | .nocNiCfg => { base := 0xa04000, step1 := 0x10, count1 := 288, reset := 0x30040, rwl := 0x303ff }
  | .nocNiReg => { base := 0xa04004, step1 := 0x10, count1 := 288, reset := 0x40, rw := 0xffff00ff }
  | .nocNiCnt => { base := 0xa04008, step1 := 0x10, count1 := 288 }
  | .wxCtrl => { base := 0xb00000, reset := 0xa00, rw := 0xff00, rwl := 0xff0000, w1s := 0x1 }
  | .wxErr => { base := 0xb00004, w1c := 0x3f }
  | .wxStat0 => { base := 0xb00008 }
  | .wxStat1 => { base := 0xb0000c }
  | .wxCnt => { base := 0xb00010 }
  | .wxCancel => { base := 0xb00020 }
  | .wxCancelRes => { base := 0xb00024 }
  | .wxDlnow => { base := 0xb00040, step1 := 0x4, count1 := 4 }
  | .wxDllen => { base := 0xb00050, step1 := 0x4, count1 := 4 }
  | .wxPost => { base := 0xb08000, step1 := 0x4, count1 := 16 }
  | .wxQcfg => { base := 0xb10000, step1 := 0x4, count1 := 16384, reset := 0xc000ffff, rw := 0xc000ffff }
  | .wxQstat => { base := 0xb20000, step1 := 0x4, count1 := 16384 }
  | .qcCtrl => { base := 0xc00000, w1s := 0x1 }
  | .qcErr => { base := 0xc00004, w1c := 0x1f }
  | .qcStat => { base := 0xc00008 }
  | .qcStatus => { base := 0xc01000, step1 := 0x20, count1 := 128, reset := 0x10000000 }
  | .qcCmd => { base := 0xc01004, step1 := 0x20, count1 := 128 }
  | .qcWdog => { base := 0xc01008, step1 := 0x20, count1 := 128, reset := 0x3e8, rwl := 0x80ffffff }
  | .qcCnt => { base := 0xc0100c, step1 := 0x20, count1 := 128 }
  | .qcShadow => { base := 0xc02000, step1 := 0x10, count1 := 16, reset := 0x80000010, rw := 0x800000ff }
  | .qcShstat => { base := 0xc02004, step1 := 0x10, count1 := 16 }
  | .cfgCtrl => { base := 0x400000, w1s := 0x1 }
  | .cfgId => { base := 0x400004 }
  | .cfgStatus => { base := 0x400008 }
  | .cfgErr => { base := 0x40000c, w1c := 0x3f }
  | .cfgFailFrame => { base := 0x400010, reset := 0xffffffff }
  | .cfgFailOfs => { base := 0x400014 }
  | .cfgPolicy => { base := 0x400018 }
  | .cfgLoadAddrLo => { base := 0x400020, rw := 0xffffffff }
  | .cfgLoadAddrHi => { base := 0x400024, rw := 0xffff }
  | .cfgLoadLen => { base := 0x400028, rw := 0xffffffff }
  | .cfgLoadCmd => { base := 0x40002c }
  | .cfgBuildLo => { base := 0x400030 }
  | .cfgBuildHi => { base := 0x400034 }
  | .cfgRwStat => { base := 0x400040 }
  | .cfgRwLog => { base := 0x400044 }
  | .cfgHbuildLo => { base := 0x401000, step1 := 0x8, count1 := 192 }
  | .cfgHbuildHi => { base := 0x401004, step1 := 0x8, count1 := 192 }
  | .ethCtrl => { base := 0xd00000, reset := 0xe00, rw := 0x300, rwl := 0xc00, w1s := 0x1 }
  | .ethStatus => { base := 0xd00004 }
  | .ethErr => { base := 0xd00008, w1c := 0x1f }
  | .ethMacLo => { base := 0xd0000c }
  | .ethMacHi => { base := 0xd00010 }
  | .ethIp4 => { base := 0xd00014, rwl := 0xffffffff }
  | .ethUdp => { base := 0xd00018, reset := 0xa000, rwl := 0xffff }
  | .ethNet => { base := 0xd0001c, reset := 0x5dc, rwl := 0xfff3fff }
  | .ethIp6 => { base := 0xd00020, step1 := 0x4, count1 := 4, rwl := 0xffffffff }
  | .ethRate => { base := 0xd00030, reset := 0x3e807d0, rw := 0xffffffff }
  | .ethCnt0 => { base := 0xd00034 }
  | .ethCnt1 => { base := 0xd00038 }
  | .ethEvtNext => { base := 0xd0003c }
  | .ethSend => { base := 0xd00100, step1 := 0x4, count1 := 8 }
  | .ethSendStat => { base := 0xd00120 }
  | .ethSessId => { base := 0xd10000, step1 := 0x8, count1 := 1024 }
  | .ethSessInfo => { base := 0xd10004, step1 := 0x8, count1 := 1024 }
  | .scmCtrl => { base := 0xe00000, reset := 0x30, rw := 0x30, rwl := 0x300, w1s := 0x1 }
  | .scmStatus => { base := 0xe00004 }
  | .scmErr => { base := 0xe00008, w1c := 0xff }
  | .scmTlim => { base := 0xe0000c, reset := 0x695f, rwl := 0xffff }
  | .scmShed => { base := 0xe00010, rw := 0xffff00ff }
  | .scmCal => { base := 0xe00014, reset := 0x3c, rw := 0xffff }
  | .scmCalcnt => { base := 0xe00018 }
  | .scmStcnt => { base := 0xe0001c }
  | .scmBrokenLo => { base := 0xe00020 }
  | .scmBrokenHi => { base := 0xe00024 }
  | .scmSerialLo => { base := 0xe00028 }
  | .scmSerialHi => { base := 0xe0002c }
  | .scmFw => { base := 0xe00030 }
  | .scmLeaf => { base := 0xe00034 }
  | .scmBlotNext => { base := 0xe00038 }
  | .scmBlotDrop => { base := 0xe0003c }
  | .scmCh => { base := 0xe00100, step1 := 0x4, count1 := 128 }
  | .clkCtrl => { base := 0x100000, reset := 0x2, rw := 0x4, rwl := 0x2, w1s := 0x1 }
  | .clkStatus => { base := 0x100004 }
  | .clkErr => { base := 0x100008, w1c := 0x1f }
  | .clkNoc => { base := 0x100010, reset := 0xc00003, rw := 0x80ff000f }
  | .clkQpll => { base := 0x100020, step1 := 0x4, count1 := 4, reset := 0xc00000, rw := 0xff0000 }
  | .clkGrp => { base := 0x100040, step1 := 0x4, count1 := 16, rw := 0x3000f0f }
  | .clkNctl => { base := 0x100080, reset := 0x30, rw := 0x330 }
  | .sysStatus => { base := 0x0, reset := 0x20000000 }
  | .sysRst => { base := 0x4 }
  | .sysRstcause => { base := 0x8, reset := 0x1, w1c := 0x1f }
  | .sysStrap => { base := 0xc }
  | .sysTrunLo => { base := 0x10 }
  | .sysTrunHi => { base := 0x14 }
  | .membSpmapB => { base := 0x660000, step1 := 0x4, count1 := 128 }
  | .membSpmapS => { base := 0x660200, step1 := 0x4, count1 := 16 }
  | .membBret => { base := 0x661000, step1 := 0x4, count1 := 256 }
  | .membSret => { base := 0x661400, step1 := 0x4, count1 := 8 }
  | .membRetcnt => { base := 0x661800 }
  | .cascCtrl => { base := 0x1000000, reset := 0x10000, rwl := 0x1f100, w1s := 0x1 }
  | .cascStatus => { base := 0x1000004 }
  | .cascErr => { base := 0x1000008, w1c := 0xff }
  | .cascMembers => { base := 0x100000c }
  | .cascRoute0 => { base := 0x1000010, reset := 0xffffffff, rwl := 0xffffffff }
  | .cascRoute1 => { base := 0x1000014, reset := 0xffffffff, rwl := 0xffffffff }
  | .cascLink => { base := 0x1000100, step1 := 0x10, count1 := 15, rwl := 0xc000073f }
  | .cascLstat => { base := 0x1000104, step1 := 0x10, count1 := 15 }
  | .cascLcnt => { base := 0x1000108, step1 := 0x10, count1 := 15 }
  | .dbgCtrl => { base := 0xf00000, rw := 0x119 }
  | .dbgStatus => { base := 0xf00004 }
  | .dbgFreeze => { base := 0xf00008, rw := 0x8001003f }
  | .dbgConnect => { base := 0xf0000c, rw := 0xf }
  | .dbgQcSel => { base := 0xf00010, rw := 0x1ff }
  | .dbgQcCmd => { base := 0xf00014 }
  | .dbgQcRegno => { base := 0xf00018, rw := 0xffff }
  | .dbgQcData => { base := 0xf0001c, rw := 0xffffffff }
  | .dbgQcStat => { base := 0xf00020 }
  | .dbgHmask => { base := 0xf00040, step1 := 0x4, count1 := 5, rw := 0xffffffff }
  | .dbgChal => { base := 0xf00060, step1 := 0x4, count1 := 4 }

/-- The register blocks of 01 R29. -/
inductive Block where
  | sys | clk | mtime | lane | cfg | fab | memb | near | cave | xcr | noc | wx | qc | eth | scm | dbg | casc
  deriving DecidableEq, Repr

/-- The registers of the SYS block. -/
def regsSys : List RegName :=
  [.sysStatus, .sysRst, .sysRstcause, .sysStrap, .sysTrunLo, .sysTrunHi]

/-- The registers of the CLK block. -/
def regsClk : List RegName :=
  [.clkCtrl, .clkStatus, .clkErr, .clkNoc, .clkQpll, .clkGrp, .clkNctl]

/-- The registers of the MTIME block. -/
def regsMtime : List RegName :=
  [.mtimeCtrl, .mtimeStatus, .mtimeErr, .mtimeNomPeriod, .mtimeMeasPeriod, .mtimeOrbitLen, .mtimeOrbitOfs,
   .mtimeSnap, .mtimeSnapTLo, .mtimeSnapTHi, .mtimeSnapPtLo, .mtimeSnapPtHi, .mtimeCoastTLo, .mtimeCoastTHi,
   .mtimeOrbitLoadLo, .mtimeOrbitLoadHi, .mtimeRtCtrl, .mtimeRtStatus, .mtimeSteal, .mtimeEvtCtrl, .mtimeEvtTLo,
   .mtimeEvtTHi]

/-- The registers of the LANE block. -/
def regsLane : List RegName :=
  [.laneCfg, .laneStatus, .laneErr, .laneRxdly, .laneGang, .laneLinkId, .laneCmd, .laneReinstate, .laneBypass,
   .laneEyeCtrl, .laneEyeStat, .laneEyeErr, .laneLst, .laneLctrl, .laneMargin, .laneBadcnt, .laneOrbbad,
   .laneCapsLo, .laneCapsHi, .laneSlice, .laneGctrl, .laneGstat]

/-- The registers of the CFG block. -/
def regsCfg : List RegName :=
  [.cfgCtrl, .cfgId, .cfgStatus, .cfgErr, .cfgFailFrame, .cfgFailOfs, .cfgPolicy, .cfgLoadAddrLo, .cfgLoadAddrHi,
   .cfgLoadLen, .cfgLoadCmd, .cfgBuildLo, .cfgBuildHi, .cfgRwStat, .cfgRwLog, .cfgHbuildLo, .cfgHbuildHi]

/-- The registers of the FAB block. -/
def regsFab : List RegName :=
  [.fabFclkCtrl, .fabFclkStatus, .fabSpanStat, .fabSpanLog, .fabSpanErr, .fabIobCfg, .fabIobStatus, .fabIod,
   .fabCtrl, .fabCtxErr, .fabCtxCnt, .fabGrp, .fabFixGrp, .fabHoopCfg, .fabHoopStatus, .fabHoopCmd, .fabHoopFlag,
   .fabBindAs, .fabBindRu, .fabBindPm, .fabHbHoldAs, .fabHbHoldRu, .fabHbErr, .fabHbCnt, .fabPmCfg, .fabPmFldLo,
   .fabPmFldHi, .fabPmSet, .fabPmEcc, .fabPmuCtrl, .fabPmuFirst, .fabPmuCount, .fabPmuAddrLo, .fabPmuAddrHi,
   .fabPmuWxq, .fabPmuStatus, .fabPmuLast, .fabHbHoldPm, .fabPmErr, .fabPmCnt]

/-- The registers of the MEMB block. -/
def regsMemb : List RegName :=
  [.membCtrl, .membErr, .membStat, .membBcfg, .membBown, .membBpwr, .membBecc, .membSpwr, .membSecc,
   .membScrCtrl, .membScrBaseLo, .membScrBaseHi, .membScrLen, .membScrDestLo, .membScrDestHi, .membScrWxq,
   .membScrStatus, .membScrLast, .membSpmapB, .membSpmapS, .membBret, .membSret, .membRetcnt]

/-- The registers of the NEAR block. -/
def regsNear : List RegName :=
  [.nearCtrl, .nearStatus, .nearErr, .nearRingCtrl, .nearRingStatus, .nearRingNbase, .nearRingNlen, .nearIdxBase,
   .nearIdxLen, .nearRingHeadLo, .nearRingHeadHi, .nearRingDrop, .nearLbD, .nearLbStatus, .nearLbLast,
   .nearLbtxCfg, .nearLbtxAddrLo, .nearLbtxAddrHi, .nearLbtxLen, .nearLbtxCtrl, .nearChStatus, .nearChEcc,
   .nearChFill]

/-- The registers of the CAVE block. -/
def regsCave : List RegName :=
  [.caveCtrl, .caveErr, .caveRingPages, .caveRingMask, .cavePcfg, .cavePstatus, .cavePretry, .cavePecc,
   .cavePcap]

/-- The registers of the XCR block. -/
def regsXcr : List RegName :=
  [.xcrCtrl, .xcrErr, .xcrKeyValid, .xcrKeyErase, .xcrHwmLo, .xcrHwmHi, .xcrFailAddrLo, .xcrFailAddrHi,
   .xcrRelCtrl, .xcrRelPage, .xcrRelCount, .xcrRelStatus, .xcrKcv, .xcrEngInt, .xcrEngPois, .xcrEngReenc,
   .xcrEngCache]

/-- The registers of the NOC block. -/
def regsNoc : List RegName :=
  [.nocCtrl, .nocErr, .nocStat, .nocRtrStatus, .nocRtrCmd, .nocRtrVcdepth, .nocRtrErrcnt, .nocNiCfg,
   .nocNiReg, .nocNiCnt]

/-- The registers of the WX block. -/
def regsWx : List RegName :=
  [.wxCtrl, .wxErr, .wxStat0, .wxStat1, .wxCnt, .wxCancel, .wxCancelRes, .wxDlnow, .wxDllen, .wxPost,
   .wxQcfg, .wxQstat]

/-- The registers of the QC block. -/
def regsQc : List RegName :=
  [.qcCtrl, .qcErr, .qcStat, .qcStatus, .qcCmd, .qcWdog, .qcCnt, .qcShadow, .qcShstat]

/-- The registers of the ETH block. -/
def regsEth : List RegName :=
  [.ethCtrl, .ethStatus, .ethErr, .ethMacLo, .ethMacHi, .ethIp4, .ethUdp, .ethNet, .ethIp6, .ethRate,
   .ethCnt0, .ethCnt1, .ethEvtNext, .ethSend, .ethSendStat, .ethSessId, .ethSessInfo]

/-- The registers of the SCM block. -/
def regsScm : List RegName :=
  [.scmCtrl, .scmStatus, .scmErr, .scmTlim, .scmShed, .scmCal, .scmCalcnt, .scmStcnt, .scmBrokenLo, .scmBrokenHi,
   .scmSerialLo, .scmSerialHi, .scmFw, .scmLeaf, .scmBlotNext, .scmBlotDrop, .scmCh]

/-- The registers of the DBG block. -/
def regsDbg : List RegName :=
  [.dbgCtrl, .dbgStatus, .dbgFreeze, .dbgConnect, .dbgQcSel, .dbgQcCmd, .dbgQcRegno, .dbgQcData, .dbgQcStat,
   .dbgHmask, .dbgChal]

/-- The registers of the CASC block. -/
def regsCasc : List RegName :=
  [.cascCtrl, .cascStatus, .cascErr, .cascMembers, .cascRoute0, .cascRoute1, .cascLink, .cascLstat, .cascLcnt]

/-- Base address of a block (01 R29). -/
def Block.base : Block → Nat
  | .sys => 0x0
  | .clk => 0x100000
  | .mtime => 0x200000
  | .lane => 0x300000
  | .cfg => 0x400000
  | .fab => 0x500000
  | .memb => 0x600000
  | .near => 0x700000
  | .cave => 0x800000
  | .xcr => 0x900000
  | .noc => 0xa00000
  | .wx => 0xb00000
  | .qc => 0xc00000
  | .eth => 0xd00000
  | .scm => 0xe00000
  | .dbg => 0xf00000
  | .casc => 0x1000000

/-- The registers of a block. -/
def Block.regs : Block → List RegName
  | .sys => regsSys
  | .clk => regsClk
  | .mtime => regsMtime
  | .lane => regsLane
  | .cfg => regsCfg
  | .fab => regsFab
  | .memb => regsMemb
  | .near => regsNear
  | .cave => regsCave
  | .xcr => regsXcr
  | .noc => regsNoc
  | .wx => regsWx
  | .qc => regsQc
  | .eth => regsEth
  | .scm => regsScm
  | .dbg => regsDbg
  | .casc => regsCasc

/-- The block a register stands in. -/
def RegName.block : RegName → Block
  | .sysStatus => .sys
  | .sysRst => .sys
  | .sysRstcause => .sys
  | .sysStrap => .sys
  | .sysTrunLo => .sys
  | .sysTrunHi => .sys
  | .clkCtrl => .clk
  | .clkStatus => .clk
  | .clkErr => .clk
  | .clkNoc => .clk
  | .clkQpll => .clk
  | .clkGrp => .clk
  | .clkNctl => .clk
  | .mtimeCtrl => .mtime
  | .mtimeStatus => .mtime
  | .mtimeErr => .mtime
  | .mtimeNomPeriod => .mtime
  | .mtimeMeasPeriod => .mtime
  | .mtimeOrbitLen => .mtime
  | .mtimeOrbitOfs => .mtime
  | .mtimeSnap => .mtime
  | .mtimeSnapTLo => .mtime
  | .mtimeSnapTHi => .mtime
  | .mtimeSnapPtLo => .mtime
  | .mtimeSnapPtHi => .mtime
  | .mtimeCoastTLo => .mtime
  | .mtimeCoastTHi => .mtime
  | .mtimeOrbitLoadLo => .mtime
  | .mtimeOrbitLoadHi => .mtime
  | .mtimeRtCtrl => .mtime
  | .mtimeRtStatus => .mtime
  | .mtimeSteal => .mtime
  | .mtimeEvtCtrl => .mtime
  | .mtimeEvtTLo => .mtime
  | .mtimeEvtTHi => .mtime
  | .laneCfg => .lane
  | .laneStatus => .lane
  | .laneErr => .lane
  | .laneRxdly => .lane
  | .laneGang => .lane
  | .laneLinkId => .lane
  | .laneCmd => .lane
  | .laneReinstate => .lane
  | .laneBypass => .lane
  | .laneEyeCtrl => .lane
  | .laneEyeStat => .lane
  | .laneEyeErr => .lane
  | .laneLst => .lane
  | .laneLctrl => .lane
  | .laneMargin => .lane
  | .laneBadcnt => .lane
  | .laneOrbbad => .lane
  | .laneCapsLo => .lane
  | .laneCapsHi => .lane
  | .laneSlice => .lane
  | .laneGctrl => .lane
  | .laneGstat => .lane
  | .cfgCtrl => .cfg
  | .cfgId => .cfg
  | .cfgStatus => .cfg
  | .cfgErr => .cfg
  | .cfgFailFrame => .cfg
  | .cfgFailOfs => .cfg
  | .cfgPolicy => .cfg
  | .cfgLoadAddrLo => .cfg
  | .cfgLoadAddrHi => .cfg
  | .cfgLoadLen => .cfg
  | .cfgLoadCmd => .cfg
  | .cfgBuildLo => .cfg
  | .cfgBuildHi => .cfg
  | .cfgRwStat => .cfg
  | .cfgRwLog => .cfg
  | .cfgHbuildLo => .cfg
  | .cfgHbuildHi => .cfg
  | .fabFclkCtrl => .fab
  | .fabFclkStatus => .fab
  | .fabSpanStat => .fab
  | .fabSpanLog => .fab
  | .fabSpanErr => .fab
  | .fabIobCfg => .fab
  | .fabIobStatus => .fab
  | .fabIod => .fab
  | .fabCtrl => .fab
  | .fabCtxErr => .fab
  | .fabCtxCnt => .fab
  | .fabGrp => .fab
  | .fabFixGrp => .fab
  | .fabHoopCfg => .fab
  | .fabHoopStatus => .fab
  | .fabHoopCmd => .fab
  | .fabHoopFlag => .fab
  | .fabBindAs => .fab
  | .fabBindRu => .fab
  | .fabBindPm => .fab
  | .fabHbHoldAs => .fab
  | .fabHbHoldRu => .fab
  | .fabHbErr => .fab
  | .fabHbCnt => .fab
  | .fabPmCfg => .fab
  | .fabPmFldLo => .fab
  | .fabPmFldHi => .fab
  | .fabPmSet => .fab
  | .fabPmEcc => .fab
  | .fabPmuCtrl => .fab
  | .fabPmuFirst => .fab
  | .fabPmuCount => .fab
  | .fabPmuAddrLo => .fab
  | .fabPmuAddrHi => .fab
  | .fabPmuWxq => .fab
  | .fabPmuStatus => .fab
  | .fabPmuLast => .fab
  | .fabHbHoldPm => .fab
  | .fabPmErr => .fab
  | .fabPmCnt => .fab
  | .membCtrl => .memb
  | .membErr => .memb
  | .membStat => .memb
  | .membBcfg => .memb
  | .membBown => .memb
  | .membBpwr => .memb
  | .membBecc => .memb
  | .membSpwr => .memb
  | .membSecc => .memb
  | .membScrCtrl => .memb
  | .membScrBaseLo => .memb
  | .membScrBaseHi => .memb
  | .membScrLen => .memb
  | .membScrDestLo => .memb
  | .membScrDestHi => .memb
  | .membScrWxq => .memb
  | .membScrStatus => .memb
  | .membScrLast => .memb
  | .membSpmapB => .memb
  | .membSpmapS => .memb
  | .membBret => .memb
  | .membSret => .memb
  | .membRetcnt => .memb
  | .nearCtrl => .near
  | .nearStatus => .near
  | .nearErr => .near
  | .nearRingCtrl => .near
  | .nearRingStatus => .near
  | .nearRingNbase => .near
  | .nearRingNlen => .near
  | .nearIdxBase => .near
  | .nearIdxLen => .near
  | .nearRingHeadLo => .near
  | .nearRingHeadHi => .near
  | .nearRingDrop => .near
  | .nearLbD => .near
  | .nearLbStatus => .near
  | .nearLbLast => .near
  | .nearLbtxCfg => .near
  | .nearLbtxAddrLo => .near
  | .nearLbtxAddrHi => .near
  | .nearLbtxLen => .near
  | .nearLbtxCtrl => .near
  | .nearChStatus => .near
  | .nearChEcc => .near
  | .nearChFill => .near
  | .caveCtrl => .cave
  | .caveErr => .cave
  | .caveRingPages => .cave
  | .caveRingMask => .cave
  | .cavePcfg => .cave
  | .cavePstatus => .cave
  | .cavePretry => .cave
  | .cavePecc => .cave
  | .cavePcap => .cave
  | .xcrCtrl => .xcr
  | .xcrErr => .xcr
  | .xcrKeyValid => .xcr
  | .xcrKeyErase => .xcr
  | .xcrHwmLo => .xcr
  | .xcrHwmHi => .xcr
  | .xcrFailAddrLo => .xcr
  | .xcrFailAddrHi => .xcr
  | .xcrRelCtrl => .xcr
  | .xcrRelPage => .xcr
  | .xcrRelCount => .xcr
  | .xcrRelStatus => .xcr
  | .xcrKcv => .xcr
  | .xcrEngInt => .xcr
  | .xcrEngPois => .xcr
  | .xcrEngReenc => .xcr
  | .xcrEngCache => .xcr
  | .nocCtrl => .noc
  | .nocErr => .noc
  | .nocStat => .noc
  | .nocRtrStatus => .noc
  | .nocRtrCmd => .noc
  | .nocRtrVcdepth => .noc
  | .nocRtrErrcnt => .noc
  | .nocNiCfg => .noc
  | .nocNiReg => .noc
  | .nocNiCnt => .noc
  | .wxCtrl => .wx
  | .wxErr => .wx
  | .wxStat0 => .wx
  | .wxStat1 => .wx
  | .wxCnt => .wx
  | .wxCancel => .wx
  | .wxCancelRes => .wx
  | .wxDlnow => .wx
  | .wxDllen => .wx
  | .wxPost => .wx
  | .wxQcfg => .wx
  | .wxQstat => .wx
  | .qcCtrl => .qc
  | .qcErr => .qc
  | .qcStat => .qc
  | .qcStatus => .qc
  | .qcCmd => .qc
  | .qcWdog => .qc
  | .qcCnt => .qc
  | .qcShadow => .qc
  | .qcShstat => .qc
  | .ethCtrl => .eth
  | .ethStatus => .eth
  | .ethErr => .eth
  | .ethMacLo => .eth
  | .ethMacHi => .eth
  | .ethIp4 => .eth
  | .ethUdp => .eth
  | .ethNet => .eth
  | .ethIp6 => .eth
  | .ethRate => .eth
  | .ethCnt0 => .eth
  | .ethCnt1 => .eth
  | .ethEvtNext => .eth
  | .ethSend => .eth
  | .ethSendStat => .eth
  | .ethSessId => .eth
  | .ethSessInfo => .eth
  | .scmCtrl => .scm
  | .scmStatus => .scm
  | .scmErr => .scm
  | .scmTlim => .scm
  | .scmShed => .scm
  | .scmCal => .scm
  | .scmCalcnt => .scm
  | .scmStcnt => .scm
  | .scmBrokenLo => .scm
  | .scmBrokenHi => .scm
  | .scmSerialLo => .scm
  | .scmSerialHi => .scm
  | .scmFw => .scm
  | .scmLeaf => .scm
  | .scmBlotNext => .scm
  | .scmBlotDrop => .scm
  | .scmCh => .scm
  | .dbgCtrl => .dbg
  | .dbgStatus => .dbg
  | .dbgFreeze => .dbg
  | .dbgConnect => .dbg
  | .dbgQcSel => .dbg
  | .dbgQcCmd => .dbg
  | .dbgQcRegno => .dbg
  | .dbgQcData => .dbg
  | .dbgQcStat => .dbg
  | .dbgHmask => .dbg
  | .dbgChal => .dbg
  | .cascCtrl => .casc
  | .cascStatus => .casc
  | .cascErr => .casc
  | .cascMembers => .casc
  | .cascRoute0 => .casc
  | .cascRoute1 => .casc
  | .cascLink => .casc
  | .cascLstat => .casc
  | .cascLcnt => .casc

/-- A named field of a register: bits [hi:lo]. -/
structure Fld where
  reg : RegName
  hi : Nat
  lo : Nat
  deriving DecidableEq, Repr

/-- The width of a field in bits. -/
def Fld.width (f : Fld) : Nat := f.hi + 1 - f.lo

/-- The whole register as one field. -/
def RegName.whole (r : RegName) : Fld := ⟨r, 31, 0⟩

namespace F

def mtimeCtrlRealign : Fld := ⟨.mtimeCtrl, 31, 31⟩
def mtimeCtrlOrbitLoad : Fld := ⟨.mtimeCtrl, 30, 30⟩
def mtimeCtrlTbundle : Fld := ⟨.mtimeCtrl, 13, 8⟩
def mtimeCtrlLock : Fld := ⟨.mtimeCtrl, 7, 7⟩
def mtimeCtrlSrc : Fld := ⟨.mtimeCtrl, 1, 0⟩
def mtimeStatusState : Fld := ⟨.mtimeStatus, 31, 29⟩
def mtimeStatusPtInternal : Fld := ⟨.mtimeStatus, 16, 16⟩
def mtimeStatusFreqMismatch : Fld := ⟨.mtimeStatus, 8, 8⟩
def mtimeStatusSrcPresent : Fld := ⟨.mtimeStatus, 4, 4⟩
def mtimeStatusUnaligned : Fld := ⟨.mtimeStatus, 1, 1⟩
def mtimeStatusCoasting : Fld := ⟨.mtimeStatus, 0, 0⟩
def mtimeErrRtMergeUe : Fld := ⟨.mtimeErr, 8, 8⟩
def mtimeErrBadPeriod : Fld := ⟨.mtimeErr, 7, 7⟩
def mtimeErrBadLen : Fld := ⟨.mtimeErr, 6, 6⟩
def mtimeErrEvtLate : Fld := ⟨.mtimeErr, 5, 5⟩
def mtimeErrRtUncorrectable : Fld := ⟨.mtimeErr, 4, 4⟩
def mtimeErrClkLost : Fld := ⟨.mtimeErr, 3, 3⟩
def mtimeErrMarkerMisplaced : Fld := ⟨.mtimeErr, 2, 2⟩
def mtimeErrMarkerWide : Fld := ⟨.mtimeErr, 1, 1⟩
def mtimeErrMarkerMissing : Fld := ⟨.mtimeErr, 0, 0⟩
def mtimeNomPeriodVal : Fld := ⟨.mtimeNomPeriod, 31, 0⟩
def mtimeMeasPeriodVal : Fld := ⟨.mtimeMeasPeriod, 31, 0⟩
def mtimeOrbitLenVal : Fld := ⟨.mtimeOrbitLen, 13, 0⟩
def mtimeOrbitOfsVal : Fld := ⟨.mtimeOrbitOfs, 13, 0⟩
def mtimeSnapGo : Fld := ⟨.mtimeSnap, 0, 0⟩
def mtimeSnapTLoVal : Fld := ⟨.mtimeSnapTLo, 31, 0⟩
def mtimeSnapTHiVal : Fld := ⟨.mtimeSnapTHi, 31, 0⟩
def mtimeSnapPtLoVal : Fld := ⟨.mtimeSnapPtLo, 31, 0⟩
def mtimeSnapPtHiVal : Fld := ⟨.mtimeSnapPtHi, 31, 0⟩
def mtimeCoastTLoVal : Fld := ⟨.mtimeCoastTLo, 31, 0⟩
def mtimeCoastTHiVal : Fld := ⟨.mtimeCoastTHi, 31, 0⟩
def mtimeOrbitLoadLoVal : Fld := ⟨.mtimeOrbitLoadLo, 31, 0⟩
def mtimeOrbitLoadHiVal : Fld := ⟨.mtimeOrbitLoadHi, 15, 0⟩
def mtimeRtCtrlSwap : Fld := ⟨.mtimeRtCtrl, 31, 31⟩
def mtimeRtCtrlShadowLen : Fld := ⟨.mtimeRtCtrl, 29, 16⟩
def mtimeRtCtrlFallbackClass : Fld := ⟨.mtimeRtCtrl, 10, 8⟩
def mtimeRtStatusSwapPending : Fld := ⟨.mtimeRtStatus, 31, 31⟩
def mtimeRtStatusActiveBank : Fld := ⟨.mtimeRtStatus, 30, 30⟩
def mtimeRtStatusUncorrectable : Fld := ⟨.mtimeRtStatus, 23, 12⟩
def mtimeRtStatusCorrected : Fld := ⟨.mtimeRtStatus, 11, 0⟩
def mtimeStealEn : Fld := ⟨.mtimeSteal, 31, 31⟩
def mtimeStealCount : Fld := ⟨.mtimeSteal, 27, 14⟩
def mtimeStealStart : Fld := ⟨.mtimeSteal, 13, 0⟩
def mtimeEvtCtrlArm : Fld := ⟨.mtimeEvtCtrl, 31, 31⟩
def mtimeEvtCtrlLate : Fld := ⟨.mtimeEvtCtrl, 9, 9⟩
def mtimeEvtCtrlFired : Fld := ⟨.mtimeEvtCtrl, 8, 8⟩
def mtimeEvtCtrlActHost : Fld := ⟨.mtimeEvtCtrl, 2, 2⟩
def mtimeEvtCtrlActIrq : Fld := ⟨.mtimeEvtCtrl, 1, 1⟩
def mtimeEvtCtrlActFabric : Fld := ⟨.mtimeEvtCtrl, 0, 0⟩
def mtimeEvtTLoVal : Fld := ⟨.mtimeEvtTLo, 31, 0⟩
def mtimeEvtTHiVal : Fld := ⟨.mtimeEvtTHi, 31, 0⟩
def laneCfgMode : Fld := ⟨.laneCfg, 25, 24⟩
def laneCfgMult : Fld := ⟨.laneCfg, 22, 16⟩
def laneCfgTxLayer : Fld := ⟨.laneCfg, 9, 9⟩
def laneCfgRxLayer : Fld := ⟨.laneCfg, 8, 8⟩
def laneCfgCapsReq : Fld := ⟨.laneCfg, 1, 1⟩
def laneCfgEn : Fld := ⟨.laneCfg, 0, 0⟩
def laneStatusReversed : Fld := ⟨.laneStatus, 13, 13⟩
def laneStatusCkLocked : Fld := ⟨.laneStatus, 12, 12⟩
def laneStatusSpareRx : Fld := ⟨.laneStatus, 11, 8⟩
def laneStatusSteerTx : Fld := ⟨.laneStatus, 7, 4⟩
def laneStatusSpareUsed : Fld := ⟨.laneStatus, 0, 0⟩
def laneErrKindErr : Fld := ⟨.laneErr, 9, 9⟩
def laneErrTxOverwrite : Fld := ⟨.laneErr, 8, 8⟩
def laneErrBypassSrc : Fld := ⟨.laneErr, 7, 7⟩
def laneErrPolaritySeen : Fld := ⟨.laneErr, 6, 6⟩
def laneErrCapsMismatch : Fld := ⟨.laneErr, 5, 5⟩
def laneErrCkLost : Fld := ⟨.laneErr, 4, 4⟩
def laneErrSlotClip : Fld := ⟨.laneErr, 3, 3⟩
def laneErrUnspared : Fld := ⟨.laneErr, 2, 2⟩
def laneErrRateHigh : Fld := ⟨.laneErr, 1, 1⟩
def laneErrBadCfg : Fld := ⟨.laneErr, 0, 0⟩
def laneRxdlyCross : Fld := ⟨.laneRxdly, 22, 16⟩
def laneRxdlyPhase : Fld := ⟨.laneRxdly, 4, 0⟩
def laneGangSize : Fld := ⟨.laneGang, 6, 4⟩
def laneGangPos : Fld := ⟨.laneGang, 2, 0⟩
def laneLinkIdVal : Fld := ⟨.laneLinkId, 15, 0⟩
def laneCmdRetrain : Fld := ⟨.laneCmd, 26, 18⟩
def laneCmdDisable : Fld := ⟨.laneCmd, 17, 9⟩
def laneCmdEnable : Fld := ⟨.laneCmd, 8, 0⟩
def laneReinstateLanes : Fld := ⟨.laneReinstate, 8, 0⟩
def laneBypassEn : Fld := ⟨.laneBypass, 31, 31⟩
def laneBypassSrcBundle : Fld := ⟨.laneBypass, 13, 8⟩
def laneBypassSrcLane : Fld := ⟨.laneBypass, 2, 0⟩
def laneEyeCtrlStart : Fld := ⟨.laneEyeCtrl, 31, 31⟩
def laneEyeCtrlDwell : Fld := ⟨.laneEyeCtrl, 28, 24⟩
def laneEyeCtrlLane : Fld := ⟨.laneEyeCtrl, 23, 20⟩
def laneEyeCtrlVolt : Fld := ⟨.laneEyeCtrl, 13, 7⟩
def laneEyeCtrlPhase : Fld := ⟨.laneEyeCtrl, 5, 0⟩
def laneEyeStatState : Fld := ⟨.laneEyeStat, 31, 30⟩
def laneEyeErrVal : Fld := ⟨.laneEyeErr, 31, 0⟩
def laneLstState : Fld := ⟨.laneLst, 31, 28⟩
def laneLstPendingEnable : Fld := ⟨.laneLst, 27, 27⟩
def laneLstPolInv : Fld := ⟨.laneLst, 26, 26⟩
def laneLstAttempts : Fld := ⟨.laneLst, 23, 16⟩
def laneLstFarLane : Fld := ⟨.laneLst, 15, 12⟩
def laneLctrlTxInv : Fld := ⟨.laneLctrl, 1, 1⟩
def laneLctrlRxInv : Fld := ⟨.laneLctrl, 0, 0⟩
def laneMarginVal : Fld := ⟨.laneMargin, 15, 0⟩
def laneBadcntVal : Fld := ⟨.laneBadcnt, 31, 0⟩
def laneOrbbadConsec : Fld := ⟨.laneOrbbad, 17, 16⟩
def laneOrbbadBad : Fld := ⟨.laneOrbbad, 15, 0⟩
def laneCapsLoVal : Fld := ⟨.laneCapsLo, 31, 0⟩
def laneCapsHiVal : Fld := ⟨.laneCapsHi, 31, 0⟩
def laneSliceUsable : Fld := ⟨.laneSlice, 7, 4⟩
def laneSliceActive : Fld := ⟨.laneSlice, 1, 0⟩
def laneGctrlLock : Fld := ⟨.laneGctrl, 0, 0⟩
def laneGstatCasc : Fld := ⟨.laneGstat, 20, 16⟩
def laneGstatCave : Fld := ⟨.laneGstat, 4, 0⟩
def fabFclkCtrlK3 : Fld := ⟨.fabFclkCtrl, 28, 24⟩
def fabFclkCtrlK2 : Fld := ⟨.fabFclkCtrl, 20, 16⟩
def fabFclkCtrlK1 : Fld := ⟨.fabFclkCtrl, 12, 8⟩
def fabFclkCtrlK0 : Fld := ⟨.fabFclkCtrl, 4, 0⟩
def fabFclkStatusBadK : Fld := ⟨.fabFclkStatus, 12, 12⟩
def fabFclkStatusOver : Fld := ⟨.fabFclkStatus, 11, 8⟩
def fabFclkStatusK0Zero : Fld := ⟨.fabFclkStatus, 4, 4⟩
def fabFclkStatusRun : Fld := ⟨.fabFclkStatus, 3, 0⟩
def fabSpanStatDetections : Fld := ⟨.fabSpanStat, 31, 16⟩
def fabSpanStatDisabled : Fld := ⟨.fabSpanStat, 11, 0⟩
def fabSpanLogLayer : Fld := ⟨.fabSpanLog, 31, 31⟩
def fabSpanLogVertical : Fld := ⟨.fabSpanLog, 30, 30⟩
def fabSpanLogContext : Fld := ⟨.fabSpanLog, 29, 28⟩
def fabSpanLogSpan : Fld := ⟨.fabSpanLog, 27, 24⟩
def fabSpanLogSegment : Fld := ⟨.fabSpanLog, 23, 20⟩
def fabSpanLogLine : Fld := ⟨.fabSpanLog, 8, 0⟩
def fabSpanErrStuck : Fld := ⟨.fabSpanErr, 1, 1⟩
def fabSpanErrDetected : Fld := ⟨.fabSpanErr, 0, 0⟩
def fabIobCfgLayer : Fld := ⟨.fabIobCfg, 17, 17⟩
def fabIobCfgEn : Fld := ⟨.fabIobCfg, 16, 16⟩
def fabIobCfgWclk : Fld := ⟨.fabIobCfg, 11, 10⟩
def fabIobCfgRatio : Fld := ⟨.fabIobCfg, 9, 8⟩
def fabIobCfgPullKeep : Fld := ⟨.fabIobCfg, 3, 3⟩
def fabIobCfgStd : Fld := ⟨.fabIobCfg, 2, 0⟩
def fabIobStatusVccio18 : Fld := ⟨.fabIobStatus, 3, 3⟩
def fabIobStatusRateHigh : Fld := ⟨.fabIobStatus, 2, 2⟩
def fabIobStatusMismatch : Fld := ⟨.fabIobStatus, 1, 1⟩
def fabIobStatusActive : Fld := ⟨.fabIobStatus, 0, 0⟩
def fabIodSlip : Fld := ⟨.fabIod, 18, 16⟩
def fabIodTaps : Fld := ⟨.fabIod, 6, 0⟩
def fabCtrlStarted : Fld := ⟨.fabCtrl, 31, 31⟩
def fabCtrlFixBadL2 : Fld := ⟨.fabCtrl, 2, 2⟩
def fabCtrlFixBadL1 : Fld := ⟨.fabCtrl, 1, 1⟩
def fabCtrlLock : Fld := ⟨.fabCtrl, 0, 0⟩
def fabCtxErrEmptyCtx : Fld := ⟨.fabCtxErr, 2, 2⟩
def fabCtxErrReqLost : Fld := ⟨.fabCtxErr, 1, 1⟩
def fabCtxErrCmdRefused : Fld := ⟨.fabCtxErr, 0, 0⟩
def fabCtxCntReqLost : Fld := ⟨.fabCtxCnt, 31, 16⟩
def fabCtxCntEmptySwitches : Fld := ⟨.fabCtxCnt, 15, 0⟩
def fabGrpReq : Fld := ⟨.fabGrp, 31, 31⟩
def fabGrpReqCtx : Fld := ⟨.fabGrp, 29, 28⟩
def fabGrpCur : Fld := ⟨.fabGrp, 25, 24⟩
def fabGrpMode : Fld := ⟨.fabGrp, 8, 8⟩
def fabGrpInit : Fld := ⟨.fabGrp, 1, 0⟩
def fabFixGrpGrpL2 : Fld := ⟨.fabFixGrp, 6, 4⟩
def fabFixGrpGrpL1 : Fld := ⟨.fabFixGrp, 2, 0⟩
def fabHoopCfgCtxValid : Fld := ⟨.fabHoopCfg, 15, 12⟩
def fabHoopCfgRepairClamp : Fld := ⟨.fabHoopCfg, 9, 9⟩
def fabHoopCfgAutoRun : Fld := ⟨.fabHoopCfg, 8, 8⟩
def fabHoopCfgGrp : Fld := ⟨.fabHoopCfg, 2, 0⟩
def fabHoopStatusState : Fld := ⟨.fabHoopStatus, 31, 28⟩
def fabHoopStatusPendingEnable : Fld := ⟨.fabHoopStatus, 27, 27⟩
def fabHoopStatusIdle : Fld := ⟨.fabHoopStatus, 26, 26⟩
def fabHoopStatusCur : Fld := ⟨.fabHoopStatus, 25, 24⟩
def fabHoopCmdStop : Fld := ⟨.fabHoopCmd, 1, 1⟩
def fabHoopCmdRelease : Fld := ⟨.fabHoopCmd, 0, 0⟩
def fabHoopFlagIncomplete : Fld := ⟨.fabHoopFlag, 3, 3⟩
def fabHoopFlagSpan : Fld := ⟨.fabHoopFlag, 2, 2⟩
def fabHoopFlagFrame : Fld := ⟨.fabHoopFlag, 1, 1⟩
def fabHoopFlagEmptyCtx : Fld := ⟨.fabHoopFlag, 0, 0⟩
def fabBindAsOwner : Fld := ⟨.fabBindAs, 23, 16⟩
def fabBindAsBind : Fld := ⟨.fabBindAs, 2, 0⟩
def fabBindRuOwner : Fld := ⟨.fabBindRu, 23, 16⟩
def fabBindRuBind : Fld := ⟨.fabBindRu, 2, 0⟩
def fabBindPmOwner : Fld := ⟨.fabBindPm, 23, 16⟩
def fabBindPmBind : Fld := ⟨.fabBindPm, 2, 0⟩
def fabHbHoldAsHeld : Fld := ⟨.fabHbHoldAs, 31, 0⟩
def fabHbHoldRuHeld : Fld := ⟨.fabHbHoldRu, 31, 0⟩
def fabHbErrRuHeld : Fld := ⟨.fabHbErr, 1, 1⟩
def fabHbErrAsHeld : Fld := ⟨.fabHbErr, 0, 0⟩
def fabHbCntRu : Fld := ⟨.fabHbCnt, 23, 16⟩
def fabHbCntAs : Fld := ⟨.fabHbCnt, 13, 0⟩
def fabPmCfgNfld : Fld := ⟨.fabPmCfg, 19, 16⟩
def fabPmCfgMissMax : Fld := ⟨.fabPmCfg, 10, 8⟩
def fabPmCfgOrder : Fld := ⟨.fabPmCfg, 4, 4⟩
def fabPmCfgClk : Fld := ⟨.fabPmCfg, 1, 0⟩
def fabPmFldLoVal : Fld := ⟨.fabPmFldLo, 31, 0⟩
def fabPmFldHiVal : Fld := ⟨.fabPmFldHi, 31, 0⟩
def fabPmSetPending : Fld := ⟨.fabPmSet, 31, 31⟩
def fabPmSetSetEn : Fld := ⟨.fabPmSet, 1, 0⟩
def fabPmEccPoisoned : Fld := ⟨.fabPmEcc, 31, 16⟩
def fabPmEccCorrected : Fld := ⟨.fabPmEcc, 15, 0⟩
def fabPmuCtrlGo : Fld := ⟨.fabPmuCtrl, 31, 31⟩
def fabPmuCtrlAbort : Fld := ⟨.fabPmuCtrl, 30, 30⟩
def fabPmuCtrlOp : Fld := ⟨.fabPmuCtrl, 29, 27⟩
def fabPmuCtrlAt : Fld := ⟨.fabPmuCtrl, 26, 26⟩
def fabPmuCtrlNewSet : Fld := ⟨.fabPmuCtrl, 25, 24⟩
def fabPmuCtrlArray : Fld := ⟨.fabPmuCtrl, 7, 0⟩
def fabPmuFirstVal : Fld := ⟨.fabPmuFirst, 14, 0⟩
def fabPmuCountVal : Fld := ⟨.fabPmuCount, 14, 0⟩
def fabPmuAddrLoVal : Fld := ⟨.fabPmuAddrLo, 31, 0⟩
def fabPmuAddrHiVal : Fld := ⟨.fabPmuAddrHi, 15, 0⟩
def fabPmuWxqEn : Fld := ⟨.fabPmuWxq, 31, 31⟩
def fabPmuWxqQueue : Fld := ⟨.fabPmuWxq, 13, 0⟩
def fabPmuStatusState : Fld := ⟨.fabPmuStatus, 31, 30⟩
def fabPmuStatusBadDesc : Fld := ⟨.fabPmuStatus, 29, 29⟩
def fabPmuStatusProgress : Fld := ⟨.fabPmuStatus, 15, 0⟩
def fabPmuLastVal : Fld := ⟨.fabPmuLast, 31, 0⟩
def fabHbHoldPmHeld : Fld := ⟨.fabHbHoldPm, 31, 0⟩
def fabPmErrAccessErr : Fld := ⟨.fabPmErr, 3, 3⟩
def fabPmErrSrcPoison : Fld := ⟨.fabPmErr, 2, 2⟩
def fabPmErrUncorrectable : Fld := ⟨.fabPmErr, 1, 1⟩
def fabPmErrPmHeld : Fld := ⟨.fabPmErr, 0, 0⟩
def fabPmCntPm : Fld := ⟨.fabPmCnt, 8, 0⟩
def membCtrlLock : Fld := ⟨.membCtrl, 0, 0⟩
def membErrCompatUsed : Fld := ⟨.membErr, 4, 4⟩
def membErrHandoverRefused : Fld := ⟨.membErr, 3, 3⟩
def membErrSleepAccess : Fld := ⟨.membErr, 2, 2⟩
def membErrUncorrectable : Fld := ⟨.membErr, 1, 1⟩
def membErrCollision : Fld := ⟨.membErr, 0, 0⟩
def membStatCompatWakes : Fld := ⟨.membStat, 31, 24⟩
def membStatCollisions : Fld := ⟨.membStat, 23, 12⟩
def membStatSleepAccess : Fld := ⟨.membStat, 11, 0⟩
def membBcfgHeldB : Fld := ⟨.membBcfg, 27, 27⟩
def membBcfgHeldA : Fld := ⟨.membBcfg, 26, 26⟩
def membBcfgPmode : Fld := ⟨.membBcfg, 25, 24⟩
def membBcfgWinEn : Fld := ⟨.membBcfg, 21, 21⟩
def membBcfgOregB : Fld := ⟨.membBcfg, 20, 20⟩
def membBcfgWmodeB : Fld := ⟨.membBcfg, 19, 18⟩
def membBcfgWidthB : Fld := ⟨.membBcfg, 17, 16⟩
def membBcfgClkB : Fld := ⟨.membBcfg, 15, 14⟩
def membBcfgOregA : Fld := ⟨.membBcfg, 6, 6⟩
def membBcfgWmodeA : Fld := ⟨.membBcfg, 5, 4⟩
def membBcfgWidthA : Fld := ⟨.membBcfg, 3, 2⟩
def membBcfgClkA : Fld := ⟨.membBcfg, 1, 0⟩
def membBownReq : Fld := ⟨.membBown, 31, 31⟩
def membBownReqOwner : Fld := ⟨.membBown, 23, 16⟩
def membBownOwner : Fld := ⟨.membBown, 7, 0⟩
def membBpwrState : Fld := ⟨.membBpwr, 31, 28⟩
def membBpwrPendingEnable : Fld := ⟨.membBpwr, 27, 27⟩
def membBpwrPendingDown : Fld := ⟨.membBpwr, 26, 26⟩
def membBpwrUlolInit : Fld := ⟨.membBpwr, 17, 17⟩
def membBpwrUlol : Fld := ⟨.membBpwr, 16, 16⟩
def membBpwrTarget : Fld := ⟨.membBpwr, 1, 0⟩
def membBeccUncorrectable : Fld := ⟨.membBecc, 31, 24⟩
def membBeccPoisoned : Fld := ⟨.membBecc, 23, 16⟩
def membBeccCorrected : Fld := ⟨.membBecc, 15, 0⟩
def membSpwrState : Fld := ⟨.membSpwr, 31, 28⟩
def membSpwrPendingEnable : Fld := ⟨.membSpwr, 27, 27⟩
def membSpwrPendingDown : Fld := ⟨.membSpwr, 26, 26⟩
def membSpwrUlolInit : Fld := ⟨.membSpwr, 17, 17⟩
def membSpwrUlol : Fld := ⟨.membSpwr, 16, 16⟩
def membSpwrTarget : Fld := ⟨.membSpwr, 1, 0⟩
def membSeccUncorrectable : Fld := ⟨.membSecc, 31, 24⟩
def membSeccPoisoned : Fld := ⟨.membSecc, 23, 16⟩
def membSeccCorrected : Fld := ⟨.membSecc, 15, 0⟩
def membScrCtrlGo : Fld := ⟨.membScrCtrl, 31, 31⟩
def membScrCtrlAbort : Fld := ⟨.membScrCtrl, 30, 30⟩
def membScrBaseLoVal : Fld := ⟨.membScrBaseLo, 31, 0⟩
def membScrBaseHiVal : Fld := ⟨.membScrBaseHi, 15, 0⟩
def membScrLenVal : Fld := ⟨.membScrLen, 23, 0⟩
def membScrDestLoVal : Fld := ⟨.membScrDestLo, 31, 0⟩
def membScrDestHiVal : Fld := ⟨.membScrDestHi, 15, 0⟩
def membScrWxqEn : Fld := ⟨.membScrWxq, 31, 31⟩
def membScrWxqQueue : Fld := ⟨.membScrWxq, 13, 0⟩
def membScrStatusState : Fld := ⟨.membScrStatus, 31, 30⟩
def membScrStatusBadDesc : Fld := ⟨.membScrStatus, 29, 29⟩
def membScrStatusProgress : Fld := ⟨.membScrStatus, 23, 0⟩
def membScrLastVal : Fld := ⟨.membScrLast, 31, 0⟩
def nearCtrlLock : Fld := ⟨.nearCtrl, 31, 31⟩
def nearCtrlMirror : Fld := ⟨.nearCtrl, 8, 8⟩
def nearCtrlRate : Fld := ⟨.nearCtrl, 5, 4⟩
def nearCtrlRanks : Fld := ⟨.nearCtrl, 2, 2⟩
def nearCtrlDensity : Fld := ⟨.nearCtrl, 1, 0⟩
def nearStatusDegraded : Fld := ⟨.nearStatus, 1, 1⟩
def nearStatusFilled : Fld := ⟨.nearStatus, 0, 0⟩
def nearErrBadCfg : Fld := ⟨.nearErr, 4, 4⟩
def nearErrLag : Fld := ⟨.nearErr, 3, 3⟩
def nearErrRingDrop : Fld := ⟨.nearErr, 2, 2⟩
def nearErrRetired : Fld := ⟨.nearErr, 1, 1⟩
def nearErrFailed : Fld := ⟨.nearErr, 0, 0⟩
def nearRingCtrlEn : Fld := ⟨.nearRingCtrl, 31, 31⟩
def nearRingCtrlMode : Fld := ⟨.nearRingCtrl, 9, 8⟩
def nearRingCtrlKey : Fld := ⟨.nearRingCtrl, 4, 0⟩
def nearRingStatusState : Fld := ⟨.nearRingStatus, 31, 29⟩
def nearRingStatusPendingEnable : Fld := ⟨.nearRingStatus, 28, 28⟩
def nearRingStatusEpoch : Fld := ⟨.nearRingStatus, 3, 0⟩
def nearRingNbaseVal : Fld := ⟨.nearRingNbase, 26, 0⟩
def nearRingNlenVal : Fld := ⟨.nearRingNlen, 26, 0⟩
def nearIdxBaseVal : Fld := ⟨.nearIdxBase, 26, 0⟩
def nearIdxLenVal : Fld := ⟨.nearIdxLen, 26, 0⟩
def nearRingHeadLoVal : Fld := ⟨.nearRingHeadLo, 31, 0⟩
def nearRingHeadHiVal : Fld := ⟨.nearRingHeadHi, 15, 0⟩
def nearRingDropClosed : Fld := ⟨.nearRingDrop, 31, 24⟩
def nearRingDropLate : Fld := ⟨.nearRingDrop, 23, 16⟩
def nearRingDropFull : Fld := ⟨.nearRingDrop, 15, 8⟩
def nearRingDropLag : Fld := ⟨.nearRingDrop, 7, 0⟩
def nearLbDVal : Fld := ⟨.nearLbD, 31, 0⟩
def nearLbStatusQueued : Fld := ⟨.nearLbStatus, 22, 16⟩
def nearLbStatusBusy : Fld := ⟨.nearLbStatus, 3, 0⟩
def nearLbLastVal : Fld := ⟨.nearLbLast, 31, 0⟩
def nearLbtxCfgEn : Fld := ⟨.nearLbtxCfg, 31, 31⟩
def nearLbtxCfgBundle : Fld := ⟨.nearLbtxCfg, 5, 0⟩
def nearLbtxAddrLoVal : Fld := ⟨.nearLbtxAddrLo, 31, 0⟩
def nearLbtxAddrHiVal : Fld := ⟨.nearLbtxAddrHi, 15, 0⟩
def nearLbtxLenVal : Fld := ⟨.nearLbtxLen, 27, 0⟩
def nearLbtxCtrlGo : Fld := ⟨.nearLbtxCtrl, 31, 31⟩
def nearLbtxCtrlQueue : Fld := ⟨.nearLbtxCtrl, 29, 16⟩
def nearLbtxCtrlReq : Fld := ⟨.nearLbtxCtrl, 15, 0⟩
def nearChStatusState : Fld := ⟨.nearChStatus, 31, 28⟩
def nearChEccUncorrectable : Fld := ⟨.nearChEcc, 31, 16⟩
def nearChEccCorrected : Fld := ⟨.nearChEcc, 15, 0⟩
def nearChFillVal : Fld := ⟨.nearChFill, 20, 0⟩
def caveCtrlLock : Fld := ⟨.caveCtrl, 0, 0⟩
def caveErrRetired : Fld := ⟨.caveErr, 3, 3⟩
def caveErrProtocol : Fld := ⟨.caveErr, 2, 2⟩
def caveErrProbeFail : Fld := ⟨.caveErr, 1, 1⟩
def caveErrLinkFail : Fld := ⟨.caveErr, 0, 0⟩
def caveRingPagesVal : Fld := ⟨.caveRingPages, 25, 0⟩
def caveRingMaskVal : Fld := ⟨.caveRingMask, 15, 0⟩
def cavePcfgEn : Fld := ⟨.cavePcfg, 31, 31⟩
def cavePcfgReinstate : Fld := ⟨.cavePcfg, 30, 30⟩
def cavePcfgPower : Fld := ⟨.cavePcfg, 9, 8⟩
def cavePcfgBundle : Fld := ⟨.cavePcfg, 5, 0⟩
def cavePstatusState : Fld := ⟨.cavePstatus, 31, 29⟩
def cavePstatusPendingEnable : Fld := ⟨.cavePstatus, 28, 28⟩
def cavePstatusRcred : Fld := ⟨.cavePstatus, 27, 16⟩
def cavePstatusWcred : Fld := ⟨.cavePstatus, 15, 0⟩
def cavePretryReplays : Fld := ⟨.cavePretry, 31, 16⟩
def cavePretryBad : Fld := ⟨.cavePretry, 15, 0⟩
def cavePeccUncorrectable : Fld := ⟨.cavePecc, 31, 16⟩
def cavePeccProtocol : Fld := ⟨.cavePecc, 15, 0⟩
def cavePcapVal : Fld := ⟨.cavePcap, 31, 0⟩
def xcrCtrlBlotLimit : Fld := ⟨.xcrCtrl, 15, 8⟩
def xcrCtrlLock : Fld := ⟨.xcrCtrl, 0, 0⟩
def xcrErrTableFail : Fld := ⟨.xcrErr, 4, 4⟩
def xcrErrExhausted : Fld := ⟨.xcrErr, 3, 3⟩
def xcrErrKeyMismatch : Fld := ⟨.xcrErr, 2, 2⟩
def xcrErrPartialPoisoned : Fld := ⟨.xcrErr, 1, 1⟩
def xcrErrIntegrity : Fld := ⟨.xcrErr, 0, 0⟩
def xcrKeyValidVal : Fld := ⟨.xcrKeyValid, 31, 0⟩
def xcrKeyEraseKeys : Fld := ⟨.xcrKeyErase, 31, 0⟩
def xcrHwmLoVal : Fld := ⟨.xcrHwmLo, 31, 0⟩
def xcrHwmHiVal : Fld := ⟨.xcrHwmHi, 15, 0⟩
def xcrFailAddrLoVal : Fld := ⟨.xcrFailAddrLo, 31, 0⟩
def xcrFailAddrHiVal : Fld := ⟨.xcrFailAddrHi, 15, 0⟩
def xcrRelCtrlGo : Fld := ⟨.xcrRelCtrl, 31, 31⟩
def xcrRelCtrlTier : Fld := ⟨.xcrRelCtrl, 28, 28⟩
def xcrRelCtrlPort : Fld := ⟨.xcrRelCtrl, 27, 24⟩
def xcrRelPageVal : Fld := ⟨.xcrRelPage, 25, 0⟩
def xcrRelCountVal : Fld := ⟨.xcrRelCount, 19, 0⟩
def xcrRelStatusState : Fld := ⟨.xcrRelStatus, 31, 30⟩
def xcrRelStatusBadDesc : Fld := ⟨.xcrRelStatus, 29, 29⟩
def xcrRelStatusProgress : Fld := ⟨.xcrRelStatus, 20, 0⟩
def xcrKcvVal : Fld := ⟨.xcrKcv, 31, 0⟩
def xcrEngIntIntegrity : Fld := ⟨.xcrEngInt, 31, 16⟩
def xcrEngIntMismatch : Fld := ⟨.xcrEngInt, 15, 0⟩
def xcrEngPoisReads : Fld := ⟨.xcrEngPois, 31, 16⟩
def xcrEngPoisPartial : Fld := ⟨.xcrEngPois, 15, 0⟩
def xcrEngReencVal : Fld := ⟨.xcrEngReenc, 31, 0⟩
def xcrEngCacheCtr : Fld := ⟨.xcrEngCache, 31, 16⟩
def xcrEngCacheMeta : Fld := ⟨.xcrEngCache, 15, 0⟩
def nocCtrlLock : Fld := ⟨.nocCtrl, 0, 0⟩
def nocErrDecodeDrop : Fld := ⟨.nocErr, 6, 6⟩
def nocErrDead : Fld := ⟨.nocErr, 5, 5⟩
def nocErrRetired : Fld := ⟨.nocErr, 4, 4⟩
def nocErrDrainDiscard : Fld := ⟨.nocErr, 3, 3⟩
def nocErrStallDiscard : Fld := ⟨.nocErr, 2, 2⟩
def nocErrLinkReplay : Fld := ⟨.nocErr, 1, 1⟩
def nocErrFencedDrop : Fld := ⟨.nocErr, 0, 0⟩
def nocStatDead : Fld := ⟨.nocStat, 31, 24⟩
def nocStatSpareXbar : Fld := ⟨.nocStat, 23, 16⟩
def nocStatDecodeDrop : Fld := ⟨.nocStat, 15, 8⟩
def nocStatQueued : Fld := ⟨.nocStat, 7, 0⟩
def nocRtrStatusState : Fld := ⟨.nocRtrStatus, 31, 30⟩
def nocRtrStatusPendingDrain : Fld := ⟨.nocRtrStatus, 29, 29⟩
def nocRtrStatusSpareXbar : Fld := ⟨.nocRtrStatus, 28, 28⟩
def nocRtrStatusRemapped : Fld := ⟨.nocRtrStatus, 27, 24⟩
def nocRtrStatusDeadLink : Fld := ⟨.nocRtrStatus, 23, 20⟩
def nocRtrCmdReinstate : Fld := ⟨.nocRtrCmd, 1, 1⟩
def nocRtrCmdDrain : Fld := ⟨.nocRtrCmd, 0, 0⟩
def nocRtrVcdepthD3 : Fld := ⟨.nocRtrVcdepth, 31, 24⟩
def nocRtrVcdepthD2 : Fld := ⟨.nocRtrVcdepth, 23, 16⟩
def nocRtrVcdepthD1 : Fld := ⟨.nocRtrVcdepth, 15, 8⟩
def nocRtrVcdepthD0 : Fld := ⟨.nocRtrVcdepth, 7, 0⟩
def nocRtrErrcntXbar : Fld := ⟨.nocRtrErrcnt, 31, 24⟩
def nocRtrErrcntReplays : Fld := ⟨.nocRtrErrcnt, 23, 16⟩
def nocRtrErrcntDiscards : Fld := ⟨.nocRtrErrcnt, 15, 0⟩
def nocNiCfgRetries : Fld := ⟨.nocNiCfg, 17, 16⟩
def nocNiCfgRto : Fld := ⟨.nocNiCfg, 9, 0⟩
def nocNiRegRate : Fld := ⟨.nocNiReg, 31, 16⟩
def nocNiRegBurst : Fld := ⟨.nocNiReg, 7, 0⟩
def nocNiCntTimeouts : Fld := ⟨.nocNiCnt, 31, 24⟩
def nocNiCntReissues : Fld := ⟨.nocNiCnt, 23, 16⟩
def nocNiCntFenced : Fld := ⟨.nocNiCnt, 15, 8⟩
def nocNiCntLate : Fld := ⟨.nocNiCnt, 7, 0⟩
def wxCtrlMarkMask : Fld := ⟨.wxCtrl, 23, 16⟩
def wxCtrlAffWait : Fld := ⟨.wxCtrl, 15, 8⟩
def wxCtrlLock : Fld := ⟨.wxCtrl, 0, 0⟩
def wxErrCplErr : Fld := ⟨.wxErr, 5, 5⟩
def wxErrTokenDrop : Fld := ⟨.wxErr, 4, 4⟩
def wxErrTokenDiscard : Fld := ⟨.wxErr, 3, 3⟩
def wxErrStoreFull : Fld := ⟨.wxErr, 2, 2⟩
def wxErrBadItem : Fld := ⟨.wxErr, 1, 1⟩
def wxErrPinnedFault : Fld := ⟨.wxErr, 0, 0⟩
def wxStat0Ready : Fld := ⟨.wxStat0, 31, 16⟩
def wxStat0Held : Fld := ⟨.wxStat0, 15, 0⟩
def wxStat1CplErrors : Fld := ⟨.wxStat1, 31, 24⟩
def wxStat1Tokens : Fld := ⟨.wxStat1, 16, 0⟩
def wxCntTokensDropped : Fld := ⟨.wxCnt, 31, 16⟩
def wxCntTokensDiscarded : Fld := ⟨.wxCnt, 15, 0⟩
def wxCancelHandle : Fld := ⟨.wxCancel, 31, 0⟩
def wxCancelResVal : Fld := ⟨.wxCancelRes, 31, 0⟩
def wxDlnowVal : Fld := ⟨.wxDlnow, 31, 0⟩
def wxDllenVal : Fld := ⟨.wxDllen, 15, 0⟩
def wxPostVal : Fld := ⟨.wxPost, 31, 0⟩
def wxQcfgEn : Fld := ⟨.wxQcfg, 31, 31⟩
def wxQcfgAff : Fld := ⟨.wxQcfg, 30, 30⟩
def wxQcfgLast : Fld := ⟨.wxQcfg, 22, 16⟩
def wxQcfgGmask : Fld := ⟨.wxQcfg, 15, 0⟩
def wxQstatReady : Fld := ⟨.wxQstat, 31, 16⟩
def wxQstatTokens : Fld := ⟨.wxQstat, 15, 0⟩
def qcCtrlLock : Fld := ⟨.qcCtrl, 0, 0⟩
def qcErrShadowRetired : Fld := ⟨.qcErr, 4, 4⟩
def qcErrRetired : Fld := ⟨.qcErr, 3, 3⟩
def qcErrMismatch : Fld := ⟨.qcErr, 2, 2⟩
def qcErrWatchdog : Fld := ⟨.qcErr, 1, 1⟩
def qcErrStoreErr : Fld := ⟨.qcErr, 0, 0⟩
def qcStatRetired : Fld := ⟨.qcStat, 23, 16⟩
def qcStatWait : Fld := ⟨.qcStat, 7, 0⟩
def qcStatusState : Fld := ⟨.qcStatus, 31, 28⟩
def qcStatusPendingEnable : Fld := ⟨.qcStatus, 27, 27⟩
def qcStatusHalted : Fld := ⟨.qcStatus, 26, 26⟩
def qcStatusPrio : Fld := ⟨.qcStatus, 25, 24⟩
def qcStatusQueue : Fld := ⟨.qcStatus, 13, 0⟩
def qcCmdReinstate : Fld := ⟨.qcCmd, 1, 1⟩
def qcCmdRelease : Fld := ⟨.qcCmd, 0, 0⟩
def qcWdogEn : Fld := ⟨.qcWdog, 31, 31⟩
def qcWdogPeriod : Fld := ⟨.qcWdog, 23, 0⟩
def qcCntItems : Fld := ⟨.qcCnt, 31, 16⟩
def qcCntStoreErr : Fld := ⟨.qcCnt, 15, 12⟩
def qcCntWdog : Fld := ⟨.qcCnt, 11, 8⟩
def qcCntMismatch : Fld := ⟨.qcCnt, 7, 0⟩
def qcShadowEn : Fld := ⟨.qcShadow, 31, 31⟩
def qcShadowReinstate : Fld := ⟨.qcShadow, 30, 30⟩
def qcShadowItems : Fld := ⟨.qcShadow, 7, 0⟩
def qcShstatRetired : Fld := ⟨.qcShstat, 31, 31⟩
def qcShstatChecking : Fld := ⟨.qcShstat, 30, 30⟩
def qcShstatTarget : Fld := ⟨.qcShstat, 22, 16⟩
def qcShstatWindows : Fld := ⟨.qcShstat, 15, 0⟩
def cfgCtrlLock : Fld := ⟨.cfgCtrl, 0, 0⟩
def cfgIdDevice : Fld := ⟨.cfgId, 31, 20⟩
def cfgIdStepping : Fld := ⟨.cfgId, 19, 16⟩
def cfgIdGrade : Fld := ⟨.cfgId, 1, 0⟩
def cfgStatusState : Fld := ⟨.cfgStatus, 31, 29⟩
def cfgStatusCode : Fld := ⟨.cfgStatus, 28, 24⟩
def cfgStatusSrc : Fld := ⟨.cfgStatus, 23, 22⟩
def cfgStatusKind : Fld := ⟨.cfgStatus, 21, 21⟩
def cfgStatusImg1Ok : Fld := ⟨.cfgStatus, 20, 20⟩
def cfgStatusImg0Ok : Fld := ⟨.cfgStatus, 19, 19⟩
def cfgStatusHoop : Fld := ⟨.cfgStatus, 7, 0⟩
def cfgErrNoFolio : Fld := ⟨.cfgErr, 5, 5⟩
def cfgErrImageLost : Fld := ⟨.cfgErr, 4, 4⟩
def cfgErrRewriteFail : Fld := ⟨.cfgErr, 3, 3⟩
def cfgErrRewriteDrop : Fld := ⟨.cfgErr, 2, 2⟩
def cfgErrFellBack : Fld := ⟨.cfgErr, 1, 1⟩
def cfgErrLoadFail : Fld := ⟨.cfgErr, 0, 0⟩
def cfgFailFrameVal : Fld := ⟨.cfgFailFrame, 31, 0⟩
def cfgFailOfsVal : Fld := ⟨.cfgFailOfs, 31, 0⟩
def cfgPolicyRequireEnc : Fld := ⟨.cfgPolicy, 16, 16⟩
def cfgPolicyFkPresent : Fld := ⟨.cfgPolicy, 11, 8⟩
def cfgPolicyVkRevoked : Fld := ⟨.cfgPolicy, 7, 4⟩
def cfgPolicyVkPresent : Fld := ⟨.cfgPolicy, 3, 0⟩
def cfgLoadAddrLoVal : Fld := ⟨.cfgLoadAddrLo, 31, 0⟩
def cfgLoadAddrHiVal : Fld := ⟨.cfgLoadAddrHi, 15, 0⟩
def cfgLoadLenVal : Fld := ⟨.cfgLoadLen, 31, 0⟩
def cfgLoadCmdGoFull : Fld := ⟨.cfgLoadCmd, 31, 31⟩
def cfgLoadCmdGoHoop : Fld := ⟨.cfgLoadCmd, 30, 30⟩
def cfgLoadCmdCancel : Fld := ⟨.cfgLoadCmd, 29, 29⟩
def cfgLoadCmdSrc : Fld := ⟨.cfgLoadCmd, 25, 24⟩
def cfgLoadCmdHoop : Fld := ⟨.cfgLoadCmd, 7, 0⟩
def cfgBuildLoVal : Fld := ⟨.cfgBuildLo, 31, 0⟩
def cfgBuildHiVal : Fld := ⟨.cfgBuildHi, 31, 0⟩
def cfgRwStatDone : Fld := ⟨.cfgRwStat, 31, 16⟩
def cfgRwStatFailed : Fld := ⟨.cfgRwStat, 15, 8⟩
def cfgRwStatDropped : Fld := ⟨.cfgRwStat, 7, 0⟩
def cfgRwLogVal : Fld := ⟨.cfgRwLog, 31, 0⟩
def cfgHbuildLoVal : Fld := ⟨.cfgHbuildLo, 31, 0⟩
def cfgHbuildHiVal : Fld := ⟨.cfgHbuildHi, 31, 0⟩
def ethCtrlIp6En : Fld := ⟨.ethCtrl, 11, 11⟩
def ethCtrlIp4En : Fld := ⟨.ethCtrl, 10, 10⟩
def ethCtrlAuto : Fld := ⟨.ethCtrl, 9, 9⟩
def ethCtrlActive : Fld := ⟨.ethCtrl, 8, 8⟩
def ethCtrlLock : Fld := ⟨.ethCtrl, 0, 0⟩
def ethStatusSessions : Fld := ⟨.ethStatus, 31, 16⟩
def ethStatusActive : Fld := ⟨.ethStatus, 2, 2⟩
def ethStatusLink1 : Fld := ⟨.ethStatus, 1, 1⟩
def ethStatusLink0 : Fld := ⟨.ethStatus, 0, 0⟩
def ethErrFailover : Fld := ⟨.ethErr, 4, 4⟩
def ethErrRate : Fld := ⟨.ethErr, 3, 3⟩
def ethErrAuthFail : Fld := ⟨.ethErr, 2, 2⟩
def ethErrUnsupported : Fld := ⟨.ethErr, 1, 1⟩
def ethErrSequence : Fld := ⟨.ethErr, 0, 0⟩
def ethMacLoVal : Fld := ⟨.ethMacLo, 31, 0⟩
def ethMacHiVal : Fld := ⟨.ethMacHi, 15, 0⟩
def ethIp4Val : Fld := ⟨.ethIp4, 31, 0⟩
def ethUdpVal : Fld := ⟨.ethUdp, 15, 0⟩
def ethNetVlan : Fld := ⟨.ethNet, 27, 16⟩
def ethNetMtu : Fld := ⟨.ethNet, 13, 0⟩
def ethIp6Val : Fld := ⟨.ethIp6, 31, 0⟩
def ethRateSess : Fld := ⟨.ethRate, 31, 16⟩
def ethRateDev : Fld := ⟨.ethRate, 15, 0⟩
def ethCnt0AuthFail : Fld := ⟨.ethCnt0, 31, 16⟩
def ethCnt0Dropped : Fld := ⟨.ethCnt0, 15, 0⟩
def ethCnt1Rate : Fld := ⟨.ethCnt1, 31, 16⟩
def ethCnt1Duplicates : Fld := ⟨.ethCnt1, 15, 0⟩
def ethEvtNextVal : Fld := ⟨.ethEvtNext, 31, 0⟩
def ethSendVal : Fld := ⟨.ethSend, 31, 0⟩
def ethSendStatQueued : Fld := ⟨.ethSendStat, 22, 16⟩
def ethSendStatEnded : Fld := ⟨.ethSendStat, 15, 0⟩
def ethSessIdVal : Fld := ⟨.ethSessId, 31, 0⟩
def ethSessInfoState : Fld := ⟨.ethSessInfo, 31, 30⟩
def ethSessInfoSlot : Fld := ⟨.ethSessInfo, 29, 26⟩
def ethSessInfoData : Fld := ⟨.ethSessInfo, 25, 25⟩
def ethSessInfoIdle : Fld := ⟨.ethSessInfo, 11, 0⟩
def scmCtrlAlarmAct : Fld := ⟨.scmCtrl, 9, 8⟩
def scmCtrlCalEn : Fld := ⟨.scmCtrl, 5, 5⟩
def scmCtrlSpareEn : Fld := ⟨.scmCtrl, 4, 4⟩
def scmCtrlLock : Fld := ⟨.scmCtrl, 0, 0⟩
def scmStatusRunning : Fld := ⟨.scmStatus, 31, 31⟩
def scmStatusTrip : Fld := ⟨.scmStatus, 30, 30⟩
def scmStatusAlarm : Fld := ⟨.scmStatus, 29, 29⟩
def scmStatusWarn : Fld := ⟨.scmStatus, 28, 28⟩
def scmStatusCalDeferred : Fld := ⟨.scmStatus, 27, 27⟩
def scmStatusBlind : Fld := ⟨.scmStatus, 26, 26⟩
def scmStatusBroken : Fld := ⟨.scmStatus, 5, 0⟩
def scmErrBlotterDrop : Fld := ⟨.scmErr, 7, 7⟩
def scmErrRepairRejected : Fld := ⟨.scmErr, 6, 6⟩
def scmErrSelftestFail : Fld := ⟨.scmErr, 5, 5⟩
def scmErrCalDiscard : Fld := ⟨.scmErr, 4, 4⟩
def scmErrSensorBroken : Fld := ⟨.scmErr, 3, 3⟩
def scmErrVolt : Fld := ⟨.scmErr, 2, 2⟩
def scmErrRise : Fld := ⟨.scmErr, 1, 1⟩
def scmErrTemp : Fld := ⟨.scmErr, 0, 0⟩
def scmTlimAlarm : Fld := ⟨.scmTlim, 15, 8⟩
def scmTlimWarn : Fld := ⟨.scmTlim, 7, 0⟩
def scmShedQ : Fld := ⟨.scmShed, 31, 16⟩
def scmShedGrp : Fld := ⟨.scmShed, 7, 0⟩
def scmCalPeriod : Fld := ⟨.scmCal, 15, 0⟩
def scmCalcntDiscarded : Fld := ⟨.scmCalcnt, 31, 16⟩
def scmCalcntApplied : Fld := ⟨.scmCalcnt, 15, 0⟩
def scmStcntPowerOn : Fld := ⟨.scmStcnt, 31, 16⟩
def scmStcntSpare : Fld := ⟨.scmStcnt, 15, 0⟩
def scmBrokenLoVal : Fld := ⟨.scmBrokenLo, 31, 0⟩
def scmBrokenHiVal : Fld := ⟨.scmBrokenHi, 15, 0⟩
def scmSerialLoVal : Fld := ⟨.scmSerialLo, 31, 0⟩
def scmSerialHiVal : Fld := ⟨.scmSerialHi, 31, 0⟩
def scmFwSlotB : Fld := ⟨.scmFw, 31, 31⟩
def scmFwTrial : Fld := ⟨.scmFw, 30, 30⟩
def scmFwSecver : Fld := ⟨.scmFw, 23, 16⟩
def scmFwRelease : Fld := ⟨.scmFw, 15, 0⟩
def scmLeafBlocks : Fld := ⟨.scmLeaf, 26, 16⟩
def scmLeafLeaves : Fld := ⟨.scmLeaf, 9, 0⟩
def scmBlotNextVal : Fld := ⟨.scmBlotNext, 31, 0⟩
def scmBlotDropVal : Fld := ⟨.scmBlotDrop, 31, 0⟩
def scmChReplaced : Fld := ⟨.scmCh, 31, 31⟩
def scmChValid : Fld := ⟨.scmCh, 30, 30⟩
def scmChValue : Fld := ⟨.scmCh, 15, 0⟩
def clkCtrlRootSel : Fld := ⟨.clkCtrl, 2, 2⟩
def clkCtrlRootAuto : Fld := ⟨.clkCtrl, 1, 1⟩
def clkCtrlLock : Fld := ⟨.clkCtrl, 0, 0⟩
def clkStatusForced : Fld := ⟨.clkStatus, 31, 31⟩
def clkStatusRootIto : Fld := ⟨.clkStatus, 30, 30⟩
def clkStatusXoOk : Fld := ⟨.clkStatus, 29, 29⟩
def clkStatusNocPpll : Fld := ⟨.clkStatus, 28, 28⟩
def clkStatusPpllLock : Fld := ⟨.clkStatus, 24, 24⟩
def clkStatusNpllLock : Fld := ⟨.clkStatus, 23, 23⟩
def clkStatusNpllFail : Fld := ⟨.clkStatus, 22, 22⟩
def clkStatusMpllLock : Fld := ⟨.clkStatus, 21, 20⟩
def clkStatusMpllFail : Fld := ⟨.clkStatus, 19, 18⟩
def clkStatusQpllLock : Fld := ⟨.clkStatus, 15, 12⟩
def clkStatusQpllFail : Fld := ⟨.clkStatus, 11, 8⟩
def clkStatusLastMux : Fld := ⟨.clkStatus, 4, 0⟩
def clkErrBadFreq : Fld := ⟨.clkErr, 4, 4⟩
def clkErrForced : Fld := ⟨.clkErr, 3, 3⟩
def clkErrPllFail : Fld := ⟨.clkErr, 2, 2⟩
def clkErrPllUnlock : Fld := ⟨.clkErr, 1, 1⟩
def clkErrXoFail : Fld := ⟨.clkErr, 0, 0⟩
def clkNocSel : Fld := ⟨.clkNoc, 31, 31⟩
def clkNocN : Fld := ⟨.clkNoc, 23, 16⟩
def clkNocD : Fld := ⟨.clkNoc, 3, 0⟩
def clkQpllN : Fld := ⟨.clkQpll, 23, 16⟩
def clkGrpSrc : Fld := ⟨.clkGrp, 25, 24⟩
def clkGrpSdiv : Fld := ⟨.clkGrp, 11, 8⟩
def clkGrpQdiv : Fld := ⟨.clkGrp, 3, 0⟩
def clkNctlSrcB : Fld := ⟨.clkNctl, 9, 9⟩
def clkNctlSrcA : Fld := ⟨.clkNctl, 8, 8⟩
def clkNctlSel : Fld := ⟨.clkNctl, 5, 4⟩
def sysStatusPhase : Fld := ⟨.sysStatus, 31, 29⟩
def sysStatusSelftestDone : Fld := ⟨.sysStatus, 3, 3⟩
def sysStatusOnchipFilled : Fld := ⟨.sysStatus, 2, 2⟩
def sysStatusLoaderDone : Fld := ⟨.sysStatus, 1, 1⟩
def sysStatusStarted : Fld := ⟨.sysStatus, 0, 0⟩
def sysRstKey : Fld := ⟨.sysRst, 31, 20⟩
def sysRstSys : Fld := ⟨.sysRst, 0, 0⟩
def sysRstcausePll : Fld := ⟨.sysRstcause, 4, 4⟩
def sysRstcauseDebug : Fld := ⟨.sysRstcause, 3, 3⟩
def sysRstcauseRegister : Fld := ⟨.sysRstcause, 2, 2⟩
def sysRstcausePin : Fld := ⟨.sysRstcause, 1, 1⟩
def sysRstcausePowerOn : Fld := ⟨.sysRstcause, 0, 0⟩
def sysStrapCascMaster : Fld := ⟨.sysStrap, 16, 16⟩
def sysStrapPsel : Fld := ⟨.sysStrap, 12, 0⟩
def sysTrunLoVal : Fld := ⟨.sysTrunLo, 31, 0⟩
def sysTrunHiVal : Fld := ⟨.sysTrunHi, 31, 0⟩
def membSpmapBState : Fld := ⟨.membSpmapB, 31, 29⟩
def membSpmapBPendingEnable : Fld := ⟨.membSpmapB, 28, 28⟩
def membSpmapBBank : Fld := ⟨.membSpmapB, 12, 0⟩
def membSpmapSState : Fld := ⟨.membSpmapS, 31, 29⟩
def membSpmapSPendingEnable : Fld := ⟨.membSpmapS, 28, 28⟩
def membSpmapSBank : Fld := ⟨.membSpmapS, 12, 0⟩
def membBretRetired : Fld := ⟨.membBret, 31, 0⟩
def membSretRetired : Fld := ⟨.membSret, 31, 0⟩
def membRetcntScratch : Fld := ⟨.membRetcnt, 24, 16⟩
def membRetcntBlock : Fld := ⟨.membRetcnt, 13, 0⟩
def cascCtrlRejoin : Fld := ⟨.cascCtrl, 31, 31⟩
def cascCtrlAutoOrbit : Fld := ⟨.cascCtrl, 16, 16⟩
def cascCtrlMember : Fld := ⟨.cascCtrl, 15, 12⟩
def cascCtrlEn : Fld := ⟨.cascCtrl, 8, 8⟩
def cascCtrlLock : Fld := ⟨.cascCtrl, 0, 0⟩
def cascStatusState : Fld := ⟨.cascStatus, 31, 29⟩
def cascStatusMaster : Fld := ⟨.cascStatus, 28, 28⟩
def cascStatusUpOk : Fld := ⟨.cascStatus, 27, 27⟩
def cascStatusMember : Fld := ⟨.cascStatus, 23, 20⟩
def cascErrMemberLost : Fld := ⟨.cascErr, 7, 7⟩
def cascErrRelayTimeout : Fld := ⟨.cascErr, 6, 6⟩
def cascErrProtocol : Fld := ⟨.cascErr, 5, 5⟩
def cascErrDupMember : Fld := ⟨.cascErr, 4, 4⟩
def cascErrTwoMasters : Fld := ⟨.cascErr, 3, 3⟩
def cascErrMasterLost : Fld := ⟨.cascErr, 2, 2⟩
def cascErrOrbitDiff : Fld := ⟨.cascErr, 1, 1⟩
def cascErrCrossMismatch : Fld := ⟨.cascErr, 0, 0⟩
def cascMembersAligned : Fld := ⟨.cascMembers, 31, 16⟩
def cascMembersPresent : Fld := ⟨.cascMembers, 15, 0⟩
def cascRoute0Val : Fld := ⟨.cascRoute0, 31, 0⟩
def cascRoute1Val : Fld := ⟨.cascRoute1, 31, 0⟩
def cascLinkEn : Fld := ⟨.cascLink, 31, 31⟩
def cascLinkUp : Fld := ⟨.cascLink, 30, 30⟩
def cascLinkSvc : Fld := ⟨.cascLink, 10, 8⟩
def cascLinkBundle : Fld := ⟨.cascLink, 5, 0⟩
def cascLstatLive : Fld := ⟨.cascLstat, 31, 31⟩
def cascLstatAligned : Fld := ⟨.cascLstat, 30, 30⟩
def cascLstatPeerMaster : Fld := ⟨.cascLstat, 29, 29⟩
def cascLstatPeerUpOk : Fld := ⟨.cascLstat, 28, 28⟩
def cascLstatPeerMember : Fld := ⟨.cascLstat, 27, 24⟩
def cascLcntReplays : Fld := ⟨.cascLcnt, 31, 16⟩
def cascLcntProtocol : Fld := ⟨.cascLcnt, 15, 8⟩
def cascLcntMismatched : Fld := ⟨.cascLcnt, 7, 0⟩
def dbgCtrlSysrstReq : Fld := ⟨.dbgCtrl, 31, 31⟩
def dbgCtrlStepie : Fld := ⟨.dbgCtrl, 8, 8⟩
def dbgCtrlEbreakU : Fld := ⟨.dbgCtrl, 4, 4⟩
def dbgCtrlEbreakM : Fld := ⟨.dbgCtrl, 3, 3⟩
def dbgCtrlAttach : Fld := ⟨.dbgCtrl, 0, 0⟩
def dbgStatusLocked : Fld := ⟨.dbgStatus, 31, 31⟩
def dbgStatusUnlocked : Fld := ⟨.dbgStatus, 30, 30⟩
def dbgStatusAttached : Fld := ⟨.dbgStatus, 29, 29⟩
def dbgStatusConnectPending : Fld := ⟨.dbgStatus, 28, 28⟩
def dbgStatusUnlockFail : Fld := ⟨.dbgStatus, 25, 24⟩
def dbgStatusHalted : Fld := ⟨.dbgStatus, 7, 0⟩
def dbgFreezeOn : Fld := ⟨.dbgFreeze, 31, 31⟩
def dbgFreezeTrig : Fld := ⟨.dbgFreeze, 16, 16⟩
def dbgFreezeSceumCal : Fld := ⟨.dbgFreeze, 5, 5⟩
def dbgFreezeLookback : Fld := ⟨.dbgFreeze, 4, 4⟩
def dbgFreezePmu : Fld := ⟨.dbgFreeze, 3, 3⟩
def dbgFreezeScrub : Fld := ⟨.dbgFreeze, 2, 2⟩
def dbgFreezeWxDelay : Fld := ⟨.dbgFreeze, 1, 1⟩
def dbgFreezeWxDispatch : Fld := ⟨.dbgFreeze, 0, 0⟩
def dbgConnectAttach : Fld := ⟨.dbgConnect, 3, 3⟩
def dbgConnectHoldLoad : Fld := ⟨.dbgConnect, 2, 2⟩
def dbgConnectHoldSceum : Fld := ⟨.dbgConnect, 1, 1⟩
def dbgConnectHaltQuill : Fld := ⟨.dbgConnect, 0, 0⟩
def dbgQcSelBank : Fld := ⟨.dbgQcSel, 8, 8⟩
def dbgQcSelCore : Fld := ⟨.dbgQcSel, 7, 0⟩
def dbgQcCmdRegWr : Fld := ⟨.dbgQcCmd, 5, 5⟩
def dbgQcCmdRegRd : Fld := ⟨.dbgQcCmd, 4, 4⟩
def dbgQcCmdStep : Fld := ⟨.dbgQcCmd, 3, 3⟩
def dbgQcCmdResume : Fld := ⟨.dbgQcCmd, 2, 2⟩
def dbgQcCmdHalt : Fld := ⟨.dbgQcCmd, 1, 1⟩
def dbgQcCmdMask : Fld := ⟨.dbgQcCmd, 0, 0⟩
def dbgQcRegnoVal : Fld := ⟨.dbgQcRegno, 15, 0⟩
def dbgQcDataVal : Fld := ⟨.dbgQcData, 31, 0⟩
def dbgQcStatResult : Fld := ⟨.dbgQcStat, 31, 30⟩
def dbgQcStatHalted : Fld := ⟨.dbgQcStat, 29, 29⟩
def dbgQcStatHaltPending : Fld := ⟨.dbgQcStat, 28, 28⟩
def dbgQcStatCause : Fld := ⟨.dbgQcStat, 27, 24⟩
def dbgHmaskVal : Fld := ⟨.dbgHmask, 31, 0⟩
def dbgChalVal : Fld := ⟨.dbgChal, 31, 0⟩

end F

end Sys2Proof.Machine
end

