-- ==== Sys2Proof/Machine/State.lean ====
section
/-!
DEFINITION. The state of the block: its registers, memories, queues and engines as plain data, the machine after
reset, and the outcome types.
-/
namespace Sys2Proof.Machine

/-- Why a step could stop with a fault. The device answers every command by a rule of its own (an error response, a
flag, no effect), so there is no such reason: nothing raises a fault. -/
inductive Fault where
  deriving DecidableEq, Repr

/-- Why a command has no meaning. -/
inductive Refusal where
  /-- The command has no meaning yet: raised by its arm of `exec` alone. Safe. -/
  | notModelled (mnemonic : String)
  deriving DecidableEq, Repr

/-! ### Power domains (01 R17 to R21) -/

/-- The states of a switchable domain (01 R18). -/
inductive DState where
  | on | poweringDown | off | poweringUp
  deriving DecidableEq, Repr

/-- A domain: its state and the requests latched under 01 R19 and R20. -/
structure DomSt where
  st : DState := .on
  pendingEnable : Bool := false
  pendingOff : Bool := false
  deriving DecidableEq, Repr

/-! ### Machine time (02) -/

/-- An entry of the ruling table as stored: 64 data bits and 8 check bits (02 R61). -/
abbrev RtWord := DWord × Byte

/-- Machine time beyond its registers. -/
structure MtState where
  /-- Crossing counter and orbit counter (R37). -/
  cross : Nat := 0
  orbit : Nat := 0
  /-- The generator's pull-in is under way, and phase lock has been reached (R633). -/
  pullIn : Bool := false
  locked : Bool := false
  /-- The clock was lost while machine time was ACQUIRE (R47). -/
  lostInAcquire : Bool := false
  /-- The check of R47 is under way, and the markers it has found at the expected index. -/
  returnCheck : Bool := false
  checked : Nat := 0
  /-- Crossings since the search for markers began, for R42 and R47, and whether R42 has been reported for it. -/
  searchCross : Nat := 0
  searchLate : Bool := false
  /-- Crossings since each marker of the search, newest first, of those no more than an orbit old (R41). -/
  markerAges : List Nat := []
  /-- The crossing that begins at the next boundary carries a marker: none, misplaced (false) or expected (true). -/
  markerNext : Option Bool := none
  /-- Markers of the running orbit: an expected one, a misplaced one (R43). -/
  seenGood : Bool := false
  seenBad : Bool := false
  /-- Orbits in a row with a misplaced marker, and with the marker at the expected index (R43). -/
  badRun : Nat := 0
  goodRun : Nat := 0
  /-- The index the crossing counter takes at the next boundary (R41). -/
  renumber : Option Nat := none
  /-- The orbit counter takes MTIME_ORBIT_LOAD at the next return to 0 (R39). -/
  orbitLoad : Bool := false
  /-- The two banks of the ruling table (R56). -/
  bank0 : Tab RtWord := []
  bank1 : Tab RtWord := []
  /-- The boundary of crossing L - 2 has come with a swap pending, and the swap has been committed (R58). -/
  swapDue : Bool := false
  swapCommitted : Bool := false
  /-- The entries read ahead for the next crossing and the one after it (R61). -/
  ahead1 : DWord := 0
  ahead2 : DWord := 0
  /-- The entry in effect (R51). -/
  entry : DWord := 0
  /-- The stolen windows in force: the values of MTIME_STEALn taken at the last crossing 0 (R54). -/
  steal : List Word := [0, 0, 0, 0]
  /-- TP_EVENT (R52): one bit per comparator that fired in this crossing. -/
  tpEvent : BitVec 16 := 0
  /-- Timing-mode symbol errors (R33). -/
  symErr : Nat := 0
  /-- Boundaries since power-on, the model's own count: names the frames and actions of later boundaries. -/
  boundary : Nat := 0
  /-- How far the fabric clocks of the present crossing have been made, in `fabGrid`-ths of the crossing: the edges up to
  there have come (04 R146, R148). -/
  fabTick : Nat := 0
  /-- Nanoseconds since the last boundary. -/
  fabNs : Nat := 0
  /-- Length of the previous orbit (03 R91). -/
  prevLen : Nat := 4096
  /-- The clock has been lost since an orbit last started in ALIGNED (03 R109). -/
  heldLanes : Bool := false
  deriving DecidableEq, Repr

/-! ### Bundles and lanes (03) -/

/-- A received frame taken apart (R76 to R82): sync word, tag, type, descrambled payload, whether its CRC was correct. -/
structure RxFrame where
  sync : Nat := 0
  tag : Nat
  typ : Nat
  payload : Nat
  crcOk : Bool
  deriving DecidableEq, Repr

/-- What a slot presents on the receive port (R90, R93). -/
structure Slot where
  data : Nat := 0
  kind : Nat := 1
  user : Nat := 0
  poison : Bool := true
  bad : Bool := true
  deriving DecidableEq, Repr

/-- A word waiting for a frame (R86): payload, user bit, poison, and whether it is a link frame of a cave or cascade
bundle. -/
structure TxWord where
  data : Nat
  user : Bool
  poison : Bool
  link : Bool := false
  deriving DecidableEq, Repr

/-- A lane beyond its registers. The state of its receiver is LANE_LST.state. -/
structure LaneSt where
  /-- An enable has been given (it waits for global start and LANE_CFG.en, R98). -/
  wanted : Bool := false
  /-- RETRAIN was entered from STANDBY. -/
  fromStandby : Bool := false
  /-- DETECT has found the far receiver. -/
  farFound : Bool := false
  /-- ALIGN: good frames with rising tags, frames with falling tags, the last tag (R98, R105). -/
  rising : Nat := 0
  falling : Nat := 0
  lastTag : Option Nat := none
  /-- Bring-up attempts that failed beside an ACTIVE neighbour, but for a capability mismatch (R102). -/
  fails : Nat := 0
  /-- CAPS: good capability frames in a row, whether 3 in a row have come, compatible ones with seen = 1 in a row, own
  frames sent with seen = 1, a mismatch in this attempt, the far word's mapping is reversed, a far word has been received,
  CAPS has been passed (R98 to R104). -/
  goodCaps : Nat := 0
  seen : Bool := false
  compatSeen : Nat := 0
  sentSeen : Nat := 0
  mismatch : Bool := false
  reversed : Bool := false
  capsKnown : Bool := false
  passed : Bool := false
  /-- Sync errors in a row (R99). -/
  syncErr : Nat := 0
  /-- The alignment buffer, oldest first (R88). -/
  buf : List RxFrame := []
  /-- Frames discarded as late and as tag errors (R89). -/
  late : Nat := 0
  tagErr : Nat := 0
  /-- The content of the last slot at the lane's receive port (R90); of a service lane, what the cascade controller takes (18
  R566). -/
  slot : Slot := {}
  service : Slot := {}
  /-- Bad frames of the running orbit (R107), and its smallest margin (R89). -/
  badOrbit : Nat := 0
  minMargin : Option Int := none
  /-- The last frame received, for the bypass (R96). -/
  lastRx : Option RxFrame := none
  /-- Words waiting in the transmit port, by number of the boundary they leave at (R86). -/
  tx : Tab TxWord := []
  deriving DecidableEq, Repr

/-- A bundle beyond its registers. -/
structure BundleSt where
  /-- Crossing number of the last slot: RX_ORBIT and RX_CROSS (R91, R93). -/
  rxOrbit : Nat := 0
  rxCross : Nat := 0
  /-- The data lane whose slots the spare fills, and the one it has been requested for (R110). -/
  spareCarries : Option Nat := none
  steerFor : Option Nat := none
  /-- Recognising the far end's request: the boundary being voted on, good frames, votes by value, the majority of the
  crossing before and its boundary (R110). -/
  voteAt : Nat := 0
  voteGood : Nat := 0
  votes : List (Nat × Nat) := []
  lastMajority : Nat := 0
  lastVoteAt : Nat := 0
  /-- The steer request being acted on: 8 + the lane carried on the transmitted .SP, 0 for none (R110). -/
  steerIn : Nat := 0
  /-- The rate is within 32 Gb/s (R71). -/
  rateOk : Bool := true
  /-- Global start has taken place, and no full load has stopped the bundle since (R98, 05 R188, 13 R431). -/
  live : Bool := false
  /-- The classification of the gang, once its first lane has passed CAPS (R104); kept with the gang's first bundle. -/
  gangReversed : Option Bool := none
  deriving DecidableEq, Repr

/-! ### Fabric and hoops (04, 05) -/

/-- The states of a span segment (04 R143). -/
inductive SpanSt where
  | driven | cut | stuck
  deriving DecidableEq, Repr

/-- A span segment: its state, whether its drivers are re-enabled at the next boundary, and the powered times of its
last entries to CUT (04 R143); until when, in `fabGrid`-ths of the present crossing, its level is undefined (R144). -/
structure Span where
  st : SpanSt := .driven
  reopen : Bool := false
  cuts : List Nat := []
  openTo : Nat := 0
  deriving DecidableEq, Repr

/-- A user I/O pin (04 R156, R157): the delay in force, the slip in force, and the words on their way out (with output
enable) and in, newest first; the word being driven, none while the output is disabled; the word delivered. -/
structure IoPin where
  taps : Nat := 0
  slip : Nat := 0
  tx : List (Nat × Bool) := []
  rx : List Nat := []
  now : Option Nat := none
  got : Nat := 0
  deriving DecidableEq, Repr

/-- Why a hoop is STOPPING: what follows (05 R181, R185, R187; `failed`: a reload that ended before its stop did). -/
inductive StopFor where
  | command | load | switchOff | failed
  deriving DecidableEq, Repr

/-- A hoop beyond its registers (05 R180 to R187). Boundaries are numbered by `mt.boundary`. -/
structure HoopSt where
  /-- HOOP_LIVE; the clamp is engaged while it is 0. -/
  live : Bool := false
  /-- The boundary of the pending release edge. -/
  releaseAt : Option Nat := none
  /-- The boundary of the pending stop edge, and the boundary it came at. -/
  stopAt : Option Nat := none
  stopped : Option Nat := none
  stopFor : StopFor := .command
  /-- In REPAIR: the boundary at which the hoop may resume, once every affected frame is rewritten, and the frames of
  this hoop still to rewrite. -/
  resumeAt : Option Nat := none
  /-- A rewrite of one of its frames has failed since it entered REPAIR (13 R439). -/
  rewriteFailed : Bool := false
  /-- The wires leaving it, by key, that carried 1 in the last fabric clock of the crossing before, of those whose clamp
  holds (R178). -/
  carried : List Nat := []
  deriving DecidableEq, Repr

/-! ### Arithmetic slices and rank units (06) -/

/-- A slice's configuration in one context (06 R195). -/
structure SliceCfg where
  mode : Nat := 0
  preEn : Bool := false
  preNeg : Bool := false
  bSrc : Bool := false
  accSrc : Nat := 0
  sat : Bool := false
  stOp : Bool := false
  stProd : Bool := false
  clk : Nat := 0
  csKw : Nat := 0
  csSigned : Bool := false
  deriving DecidableEq, Repr

/-- A sample in the operand stage of a slice (06 R202). -/
structure SliceOp where
  a : Nat := 0
  b : Nat := 0
  e : Nat := 0
  w : Nat := 0
  zero : Bool := false
  neg : Bool := false
  deriving DecidableEq, Repr

/-- A sample in the product stage of a slice: the product term as 64 bits split into lanes, and what travels with it
(06 R196, R202). -/
structure SliceProd where
  t : Nat := 0
  w : Nat := 0
  zero : Bool := false
  neg : Bool := false
  presat : Bool := false
  /-- Of compare-select: the ordered pair and SWAP (R200). -/
  pair : Nat := 0
  swap : Bool := false
  deriving DecidableEq, Repr

/-- A slice's registers and outputs (06 R194, R202). -/
structure SliceSt where
  op : SliceOp := {}
  prod : SliceProd := {}
  acc : Nat := 0
  ovf : Nat := 0
  presat : Bool := false
  swap : Bool := false
  /-- OPB as its port presents it, and the second operand, from the port or OPBI, at the last command of its clock while it
  ran (06 R201). -/
  port : Nat := 0
  second : Nat := 0
  /-- The last edge it was clocked at, as boundary, edge and edges per crossing, and ACC and the staged second operand
  before that edge, which a slice clocked at the same edge takes. -/
  lastEdge : Option (Nat × Nat × Nat) := none
  accBefore : Nat := 0
  opBefore : Nat := 0
  deriving DecidableEq, Repr

/-- A rank unit's configuration (06 R206). -/
structure RankCfg where
  clk : Nat := 0
  kw : Bool := false
  asc : Bool := false
  chain : Bool := false
  deriving DecidableEq, Repr

/-- The outputs of a rank unit (06 R209): RK_OUT and RK_SLOT by position, RK_COUNT, RK_FLAGANY. -/
structure RankOut where
  out : List (Nat × Nat) := []
  count : Nat := 0
  flagany : Bool := false
  deriving DecidableEq, Repr

/-- A rank unit: sets in the pipeline, oldest first (none for RK_GO = 0), outputs, RK_DONE (06 R209, R210). -/
structure RankSt where
  cfg : RankCfg := {}
  pipe : List (Option RankOut) := []
  outs : RankOut := {}
  done : Bool := false
  deriving DecidableEq, Repr

/-! ### Pattern match arrays (07) -/

/-- A row of a pattern match array as it is stored (07 R217); `err` has a bit set for each of its 139 bits (in this order, from
bit 0) and its 9 check bits (139 to 147) that is not as it was written. -/
structure PmRow where
  value : Nat := 0
  care : Nat := 0
  dc : Nat := 0
  set : Bool := false
  valid : Bool := false
  poison : Bool := false
  err : Nat := 0
  deriving DecidableEq, Repr

/-- The outputs of a search (07 R221): hit words, count, poison, tag. -/
structure PmOut where
  hits : List Nat := []
  count : Nat := 0
  poison : Bool := false
  tag : Nat := 0
  deriving DecidableEq, Repr

/-- A pattern match array: rows, searches in the pipeline, oldest first, outputs, PM_DONE, and the set selection that
its owner's load left for the start or release edge (07 R220, R225; 13 R419). -/
structure PmArr where
  rows : Tab PmRow := []
  pipe : List PmOut := []
  outs : PmOut := {}
  done : Bool := false
  setAtStart : Option Nat := none
  deriving DecidableEq, Repr

/-- A pattern update channel (07 R230 to R235): the boundary its SETSEL was accepted at, whether a record came poisoned,
and the completion status once its operation has ended. -/
structure PmuSt where
  accepted : Nat := 0
  srcPoison : Bool := false
  /-- Of a SCRUB: rows corrected, uncorrectable, found poisoned, first and last failing row. -/
  corrected : Nat := 0
  uncorrectable : Nat := 0
  poisoned : Nat := 0
  first : Option Nat := none
  last : Option Nat := none
  finished : Option Nat := none
  deriving DecidableEq, Repr

/-! ### Banks (08, 17) -/

/-- A write at a bank port, kept until the next one: word, edge as boundary, edge and edges per crossing, the stored
word and syndrome before it, byte enables, data and poison (08 R248, R249). -/
structure WriteMark where
  word : Nat
  edge : Nat × Nat × Nat
  oldData : DWord
  oldSyn : Byte
  mask : Nat
  data : DWord
  poison : Bool
  deriving DecidableEq, Repr

/-- A bank port (08 R245, R246, R251, R253): results on their way, oldest first, each with the region it is delivered to,
data and poison; MB_RDATA and MB_POISON of the owner; the result just delivered to a region that owned the bank before; its
last write; the last edge with MB_EN, as boundary, edge and edges per crossing, and how many edges in a row had it. -/
structure PortSt where
  pipe : List (Nat × Nat × Bool) := []
  rdata : Nat := 0
  poison : Bool := false
  late : Option (Nat × Nat × Bool) := none
  last : Option WriteMark := none
  lastEn : Option (Nat × Nat × Nat) := none
  enRun : Nat := 0
  deriving DecidableEq, Repr

/-- A bank beyond its registers. -/
structure BankSt where
  /-- Uncorrectable errors of the last second: word and powered time (17 R545). -/
  errs : List (Nat × Nat) := []
  /-- The bank woke from OFF in compatible mode (08 R264). -/
  compat : Bool := false
  /-- LOWERING leads to OFF; WAKING comes from OFF (08 R261). -/
  toOff : Bool := false
  fromOff : Bool := false
  /-- The target latched in a transition (08 R263). -/
  latched : Option Nat := none
  /-- A block bank's ports see it not ON; a change reaches them at the next boundary (08 R261). -/
  portOff : Bool := false
  portChange : Bool := false
  /-- The boundary of the pending handover edge (08 R250). -/
  handAt : Option Nat := none
  /-- The rule of 17 R545 is met and the copy has not begun; the copy has ended, at this boundary; the bank is retired
  without a spare. -/
  faulty : Bool := false
  copied : Option Nat := none
  unspared : Bool := false
  /-- A reinstatement runs: latched, marching, returning or clearing (17 R559, R560). -/
  reinst : Nat := 0
  a : PortSt := {}
  b : PortSt := {}
  deriving DecidableEq, Repr

/-- A scrub engine's pass (08 R269 to R271): words done, counts, first and last failing address, counts by bank
(bank, skipped, corrected, uncorrectable, poisoned), the status once it has ended. -/
structure ScrubSt where
  read : Nat := 0
  corrected : Nat := 0
  uncorrectable : Nat := 0
  poisoned : Nat := 0
  first : Option Nat := none
  last : Option Nat := none
  banks : List (Nat × Nat × Nat × Nat × Nat) := []
  finished : Option Nat := none
  deriving DecidableEq, Repr

/-! ### Inline encryption (10) -/

/-- A line as memory holds it: ciphertext, tag, minor counter. Unwritten: all zero (10 R318, R320). -/
structure Line where
  ct : List Byte := List.replicate 64 0
  tag : Nat := 0
  minor : Nat := 0
  /-- The symbols of its Reed–Solomon code word that differ from what was stored: place and difference (10 R319). -/
  err : Tab Byte := []
  deriving DecidableEq, Repr

/-- A counter-table entry (10 R324). -/
structure PageEnt where
  major : Nat := 0
  key : Nat := 0
  touched : Bool := false
  exhausted : Bool := false
  deriving DecidableEq, Repr

/-- A root counter (10 R325). -/
structure RootEnt where
  major : Nat := 0
  touched : Bool := false
  exhausted : Bool := false
  deriving DecidableEq, Repr

/-- Encryption beyond its registers. Pages are keyed by near page p, or 2^27 + cave page (10 R324). -/
structure XcrState where
  /-- Keys by slot, 256 bits, most significant byte first (10 R314). -/
  keys : Tab Nat := []
  pages : Tab PageEnt := []
  /-- Root counters by table block, and minor counters by table line (10 R325). -/
  roots : Tab RootEnt := []
  tminor : Tab Nat := []
  /-- Table lines that have failed their check (10 R335). -/
  tfail : List Nat := []
  /-- Powered times of each engine's integrity blotter entries of the last second (10 R331). -/
  blots : Tab (List Nat) := []
  deriving DecidableEq, Repr

/-! ### Near store and cave (09) -/

/-- A near-store channel beyond its registers: uncorrectable lines of the last second by page and time, PHY PLL lock
lost, the copy from its partner under way, DQ delay corrections of its ranks (09 R276, R308, R311). -/
structure NearSt where
  errs : List (Nat × Nat) := []
  pllLost : Bool := false
  copying : Bool := false
  /-- A reinstatement is under way. -/
  reinst : Bool := false
  /-- Not 0: its contents are lost since the boundary register owned its pins, and which free values stand for them (19
  R585). -/
  junk : Nat := 0
  delay0 : Int := 0
  delay1 : Int := 0
  /-- Frequency set point of its memory: FSP0 for boot training, FSP1 once trained at the operating rate (09 R273, R276). -/
  fsp1 : Bool := false
  deriving DecidableEq, Repr

/-- A line of an RDATA message (09 R285): its bytes, its metadata and its poison bit. -/
structure CaveLine where
  data : List Byte
  tag : BitVec 24
  minor : Byte
  poison : Bool
  deriving DecidableEq, Repr

/-- What a cave port waits for under a tag (09 R285, R287). -/
inductive CavePend where
  /-- A read of a request: system address and length in bytes. -/
  | read (addr : Nat) (len : Nat)
  /-- The read of a partial write: request, the line's system address, data and byte enables of the whole line, poison. -/
  | merge (req : Nat) (addr : Nat) (data : List Byte) (be : List Bool) (poison : Bool)
  /-- A bridge register read. -/
  | creg (index : Nat)
  deriving DecidableEq, Repr

/-- A write request at a cave port: its number, messages still to complete, its status so far. -/
structure CaveReq where
  id : Nat
  left : Nat
  status : Status
  deriving DecidableEq, Repr

/-- A cave port beyond its registers (09 R281 to R289, R310). -/
structure CaveSt where
  /-- Messages waiting: write credits and read credits each needs, and its bytes. Bytes of the message stream to send. -/
  waiting : List (Nat × Nat × List Byte) := []
  stream : List Byte := []
  /-- Data blocks sent and not acknowledged, oldest first: number, body, replays. Blocks still to be sent again. -/
  unacked : List (Nat × List Byte × Nat) := []
  resend : List (Nat × List Byte) := []
  nextSeq : Nat := 0
  /-- Number of the next data block expected, and whether a replay is to be asked for. -/
  rxNext : Nat := 0
  nakDue : Bool := false
  /-- Bytes of the incoming stream not yet taken as a message, and messages taken out and not yet acted on. -/
  rxStream : List Byte := []
  inbox : List (List Byte) := []
  /-- Outstanding reads by tag; WRITE messages waiting for WDONE, by tag and request; write requests. -/
  pend : List (Nat × CavePend) := []
  writes : List (Nat × Nat) := []
  reqs : List CaveReq := []
  nextTag : Nat := 0
  nextReq : Nat := 0
  /-- Bridge registers as last read (09 R288). -/
  bridge : Tab Nat := []
  /-- The bridge has been OFF and its contents are lost (09 R289). -/
  lost : Bool := false
  /-- Uncorrectable lines of the last second by address and time (09 R310). -/
  errs : List (Nat × Nat) := []
  deriving DecidableEq, Repr

/-- A record of a history writer port (09 R292): stamp, lines with poison, continuation, dropped as late. -/
structure HwRecord where
  stamp : Nat
  lines : List (List Byte × Bool)
  cont : Bool
  late : Bool
  deriving DecidableEq, Repr

/-- A history writer port: the record being taken, and records closed and not yet at the collector, oldest first. -/
structure HwSt where
  cur : Option HwRecord := none
  closed : List HwRecord := []
  deriving DecidableEq, Repr

/-- An index entry of the ring (09 R293). -/
structure IdxEntry where
  stamp : Nat
  pos : Nat
  len : Nat
  port : Nat
  poison : Bool
  cont : Bool
  epoch : Nat
  deriving DecidableEq, Repr

/-- The ring beyond its registers (09 R293 to R299): index entries held, oldest first, and their count since the ring
was set up; the next page to migrate; skip bits by cave slot page (port x 2^25 + bridge page); enabled before. -/
structure RingSt where
  index : List IdxEntry := []
  entries : Nat := 0
  migrated : Nat := 0
  skip : List Nat := []
  /-- Ring pages skipped by the collector and not reached by the head again, and pages lost (09 R297). -/
  lost : List Nat := []
  enabledOnce : Bool := false
  /-- The collector's FIFO of 2 MiB: records received and not yet written, with their port, oldest first (09 R298). -/
  fifo : List (Nat × HwRecord) := []
  /-- The head and the index are to be reset at the next enable. -/
  fresh : Bool := true
  deriving DecidableEq, Repr

/-- A look-back engine: its descriptor words (09 R300, R301). -/
structure LbEng where
  busy : Bool := false
  words : List Nat := []
  deriving DecidableEq, Repr

/-- A look-back transmit channel: the next frame number, bytes left to send with their poison (09 R305). -/
structure LbtxSt where
  frame : Nat := 0
  data : List (List Byte × Bool) := []
  deriving DecidableEq, Repr

/-! ### Packet network (11) -/

/-- A non-posted request that its source NI waits a response for (11 R345, R357): transaction, command, system address,
payload, length, byte enables, atomic operation, poison, virtual channel, re-issues so far. -/
structure NocReq where
  req : Requester
  txn : Nat := 0
  cmd : Nat
  addr : Nat
  payload : List Byte := []
  len : Nat
  be : List Bool := []
  aop : Nat := 0
  poison : Bool := false
  vc : Nat := 0
  tries : Nat := 0
  deriving DecidableEq, Repr

/-- A network interface: outstanding requests; packets that wait in it to start, oldest first (11 R356); transaction ids not to be used before a powered time (11 R358); the balance of
its injection regulator and the powered time of its last increase (11 R354). -/
structure NiSt where
  outs : List NocReq := []
  wait : List NocReq := []
  held : List (Nat × Nat) := []
  balance : Int := 0
  balanceAt : Nat := 0
  deriving DecidableEq, Repr

/-- Why a router drains (11 R360, R361, R363). -/
inductive DrainFor where
  | crossbar | link (dir : Nat) | command | reinstate
  deriving DecidableEq, Repr

/-- The network beyond its registers: interfaces; latched drains in the order they are carried out and the one under way;
depths in force by router (11 R350); powered times of replays by input of the last millisecond and replays of one flit in
succession (R361); powered times of crossbar errors. -/
structure NocSt where
  nis : Tab NiSt := []
  latched : List (Nat × DrainFor) := []
  active : Option (Nat × DrainFor) := none
  depth : Tab Nat := []
  replays : Tab (List Nat) := []
  again : Tab Nat := []
  parity : Tab (List Nat) := []
  deriving DecidableEq, Repr

/-! ### Quill cores and the Work Exchange (12) -/

/-- The registers that each bank of a core has of its own (12 R393): x1 to x31, pc, privilege mode (true: U), mstatus,
mepc, mcause, mtval. -/
structure CoreBank where
  x : Tab Nat := []
  pc : Nat := 0x30000000
  user : Bool := false
  mstatus : Nat := 0
  mepc : Nat := 0
  mcause : Nat := 0
  mtval : Nat := 0
  deriving DecidableEq, Repr

/-- What a core waits for from the network: a load with its size in bytes, or an AMO; with its
destination, core address and the address of the next instruction. -/
inductive CorePend where
  | load (size : Nat) (unsigned : Bool) (rd addr next : Nat)
  | amo (rd addr next : Nat)
  deriving DecidableEq, Repr

/-- A core beyond its registers (12 R367 to R405, 19 R593 to R598). -/
structure CoreSt where
  norm : CoreBank := {}
  urg : CoreBank := {}
  /-- CSRs shared by both banks, by number; an unlisted one holds its reset value. -/
  csrs : Tab Nat := []
  minstret : Nat := 0
  pend : Option CorePend := none
  /-- The response to the outstanding load or AMO, come to the core and not yet taken: status, data, poison. -/
  answer : Option (Status × Nat × Bool) := none
  /-- Outstanding stores: core address and system address; error responses to stores not yet taken: system address, status. -/
  stores : List (Nat × Nat) := []
  storeErrs : List (Nat × Status) := []
  /-- Item slots of the items of the normal and the urgent bank; an item on its way; the item that pre-empts. -/
  slot : Option Nat := none
  urgSlot : Option Nat := none
  sent : Option Nat := none
  preempt : Option Nat := none
  /-- Order in which cores began to wait, and began to run their item (12 R388, R392). -/
  waitOrder : Nat := 0
  runOrder : Nat := 0
  /-- Watchdog stages of the banks: a first expiry has come (12 R404). -/
  warned : Bool := false
  urgWarned : Bool := false
  /-- Debug: a halt requested and not yet carried out, one latched for the next release, a step under way, halt cause. -/
  haltReq : Bool := false
  haltPending : Bool := false
  stepping : Bool := false
  haltCause : Nat := 0
  deriving DecidableEq, Repr

/-- Where an item is (12 R384 to R399): on a delay list until a count, waiting for tokens, ready, on its way to a core,
running, or completed with status, result and core. -/
inductive ItemSt where
  | delayed (due : Nat)
  | waiting
  | ready
  | sent (core : Nat)
  | running (core : Nat)
  | done (status result : Nat) (core : Option Nat)
  deriving DecidableEq, Repr

/-- An item of the item store: its 64 bytes, its sequence, where it is, tokens given, its places in the orders of posting
and of becoming ready, its affinity wait over, its completion record written with this status. -/
structure Item where
  bytes : List Byte := []
  seq : Nat := 0
  st : ItemSt := .waiting
  given : Nat := 0
  posted : Nat := 0
  order : Nat := 0
  waited : Bool := false
  record : Option Status := none
  deriving DecidableEq, Repr

/-- The Work Exchange beyond its registers: items by slot, last sequence of every slot used, unmatched tokens by queue,
counts of the delay lists, a running number, last queue served by priority, queues with a remembered core. -/
structure WxSt where
  items : Tab Item := []
  seqs : Tab Nat := []
  tokens : Tab (List Nat) := []
  counts : Tab Nat := []
  tick : Nat := 0
  served : Tab Nat := []
  remembered : List Nat := []
  deriving DecidableEq, Repr

/-- The shadow check of a group (12 R406 to R408): items done in the window; mismatches of the last second by core and
powered time. -/
structure ShadowSt where
  items : Nat := 0
  mismatches : List (Nat × Nat) := []
  deriving DecidableEq, Repr

/-- The debug function beyond its registers (19): TAP instruction; the Sceum core halted, a halt of it latched, its halt
cause, a step of it under way; answer words stored since the last check; read index of the nonce; the access under way
(system address, transaction; transaction 1024 where nothing has been sent); the result to be captured: status, data, poison. -/
structure DbgSt where
  ir : Nat := 2
  sceumHalted : Bool := false
  sceumPending : Bool := false
  sceumCause : Nat := 0
  sceumStep : Bool := false
  answer : Tab Nat := []
  readIndex : Nat := 0
  running : Option (Nat × Nat) := none
  result : Nat × Nat × Bool := (0, 0, false)
  /-- The boundary register (19 R584): the levels its last scan captured, and the values its cells hold for their pins. -/
  captured : List (BsCell × Bool) := []
  cells : List (BsCell × Bool) := []
  deriving DecidableEq, Repr

/-! ### Folios (13) -/

/-- A segment being streamed: offset of its header in the folio, type, body length (13 R417). -/
structure Segment where
  start : Nat
  typ : Nat
  len : Nat
  deriving DecidableEq, Repr

/-- The loader beyond its registers (13 R429 to R439). -/
structure LoaderSt where
  /-- The load began at power-on, or is a golden fall-back (R432); a session waits for its end (14 R466). -/
  powerOn : Bool := false
  host : Bool := false
  fallback : Bool := false
  /-- Flash offset or system address of the folio, and the bytes available there. -/
  base : Nat := 0
  limit : Nat := 0
  /-- The bytes read so far. -/
  bytes : List Byte := []
  /-- Key and number of the segment being streamed, and the segment once its header is read. -/
  key : List Nat := []
  seg : Nat := 0
  cur : Option Segment := none
  /-- The wait for the image regions is over (R431). -/
  waited : Bool := false
  /-- REGS records, oldest first: offset in the folio, on-chip offset, value (R421). -/
  regs : List (Nat × Nat × Nat) := []
  /-- Blocks given a record: offset in the folio, kind, index (R419). -/
  blocks : List (Nat × Nat × Nat) := []
  /-- The offset of the first record that gives a value the loader refuses (R429). -/
  refused : Option Nat := none
  /-- Contexts given a frame with a non-zero bit, one mask per region (R422). -/
  valid : Tab Nat := []
  /-- Frames waiting for a rewrite, oldest first, and the one being rewritten (R438). -/
  queue : List Nat := []
  rewriting : Option Nat := none
  deriving DecidableEq, Repr

/-- An operator key slot (14 R448): 0 empty, 1 present, 2 revoked, 3 failed; key, rights. -/
structure OpKey where
  st : Nat := 0
  key : List Nat := []
  rights : Nat := 0
  deriving DecidableEq, Repr

/-- One-time-programmable storage: verification keys and decryption keys by slot, and the key policy as CFG_POLICY shows
it (13 R424, R440); operator keys (14 R448); failed slots, VKn as n, FKn as 4 + n
(14 R448); production lock-out (19 R603); the least security version of firmware and the
steps it has taken (15 R507); leaf blocks burnt or skipped since production (15 R509). -/
structure OtpSt where
  policy : Nat := 0
  vks : Tab (List Byte) := []
  fks : Tab (List Byte) := []
  ops : Tab OpKey := []
  failed : List Nat := []
  locked : Bool := false
  fwMin : Nat := 0
  fwSteps : Nat := 0
  leafBlocks : Nat := 0
  deriving DecidableEq, Repr

/-! ### Clocks and resets (16) -/

/-- Clocks and resets beyond their registers (16): by switch, the source in force, and 1 + the source being switched to
and 1 + the source latched; the root stands still; EPLL has lost lock; synthesisers declared failed, by source number; the
device is held in a reset; causes of a system reset about to begin, as SYS_RSTCAUSE has them; nanoseconds since the last step of
powered time while it counts in steps of 40 ns. -/
structure ClkSt where
  source : Tab Nat := []
  busy : Tab Nat := []
  latched : Tab Nat := []
  rootStopped : Bool := false
  epllLost : Bool := false
  failed : List Nat := []
  held : Bool := false
  resetDue : Nat := 0
  ptStep : Nat := 0
  deriving DecidableEq, Repr

/-! ### The blotter and the event log (14 R471, 15 R502 to R504) -/

/-! ### Sceum (15) -/

/-- A limit check (15 R487): entered; rounds in a row toward its entry or its exit. -/
structure HkCheck where
  entered : Bool := false
  run : Nat := 0
  deriving DecidableEq, Repr

/-- A calibration item (15 R493 to R496): due, deferred, an agreed selection on its way, the selection in force (for lane
samplers LANE_SLICE.active). -/
structure CalSt where
  due : Bool := false
  deferred : Bool := false
  agreed : Option Nat := none
  sel : Nat := 0
  deriving DecidableEq, Repr

/-- Sceum beyond its registers (15). -/
structure ScmSt where
  /-- The next channel to convert, the number of the running round, its readings (R485). -/
  next : Nat := 0
  round : Nat := 0
  raw : Tab Nat := []
  /-- Values in use of each sensor in the last rounds, newest first; rounds in a row in which it differed from its
  neighbours (R487, R491). -/
  hist : Tab (List Nat) := []
  off : Tab Nat := []
  /-- The checks of R487 in the table's order. -/
  checks : Tab HkCheck := []
  /-- A trip has latched and the fabric has not returned to reset (R489). -/
  tripDue : Bool := false
  /-- Trims that follow the temperature (R492), by `trimKey`. -/
  trims : Tab Int := []
  /-- Calibration items by `calKey`; stamp of the last applied selection. -/
  cal : Tab CalSt := []
  calStamp : Nat := 0
  /-- Self-test results (R498), oldest first; routers whose spare crossbar failed its test (R501). -/
  results : List SelfFail := []
  badXbars : List Nat := []
  /-- Slot state records by flash offset: sequence, state (0 TRIAL, 1 GOOD, 2 BAD), attempts (R506). -/
  records : Tab (Nat × Nat × Nat) := []
  /-- The boot ROM is to start firmware; it has found no slot to start; firmware has run since reset. -/
  bootDue : Bool := true
  inRom : Bool := false
  booted : Bool := false
  /-- A restart is due, with its cause (R481, R473); the slot being activated (R507). -/
  restartDue : Option Nat := none
  activating : Option Nat := none
  /-- SHA-256 and release of the running image (R510). -/
  image : List Nat := []
  release : Nat := 0
  /-- MTIME interrupts raised to Sceum, one bit per comparator (02 R62). -/
  mtimeIrq : Nat := 0
  /-- The open block of leaves (R509). -/
  leafBlock : Option Nat := none
  /-- UART rate of the monitor (19 R605). -/
  baud : Nat := 115200
  deriving DecidableEq, Repr

/-! ### Host command protocol (14) -/

/-- A session slot (14 R452). Bytes are kept as numbers. -/
structure Session where
  /-- Generation of the last use, kept while FREE; state: 0 FREE, 1 OPEN, 2 BUSY. -/
  gen : Nat := 0
  st : Nat := 0
  /-- Operator key slot, rights, data packets accepted, window, idle timeout in s, powered time its idle timer started. -/
  okey : Nat := 0
  rights : Nat := 0
  data : Bool := false
  window : Nat := 0
  idle : Nat := 0
  idleFrom : Nat := 0
  /-- Awaiting its first request; client nonce; session key; where its packets go (R444, R449, R450). -/
  first : Bool := false
  nonce : List Nat := []
  key : List Nat := []
  peer : Peer := {}
  /-- Last accepted sequence, the tag of that request, its opcode, relay byte and parameters (R453). -/
  last : Nat := 0
  tag : List Nat := []
  op : Nat := 0
  relay : Nat := 0
  params : List Nat := []
  /-- The bitmaps of the OP_REPLY_RESEND requests to be served; the stored reply's packets (R454, R455). -/
  resend : List (List Nat) := []
  stored : List (List Nat) := []
  /-- Event class mask and events due so far (R474); requests accepted since the OPEN (R460); the session ends with its
  command (R452). -/
  mask : Nat := 0
  events : Nat := 0
  requests : Nat := 0
  ending : Bool := false
  /-- Use of the limits of R477: requests and events, each as billionths of one and powered time. -/
  reqUse : Nat × Nat := (0, 0)
  evUse : Nat × Nat := (0, 0)
  deriving DecidableEq, Repr

/-- An authenticated OPEN request waiting for its slot (14 R449): key slot, parameters, tag, sequence, sender, and the
status of its refusal under 14 R447, 0 for none. -/
structure OpenReq where
  okey : Nat
  params : List Nat
  tag : List Nat
  seq : Nat
  peer : Peer
  bad : Nat := 0
  deriving DecidableEq, Repr

/-- An ACCEPTED command (14 R457): opcode, the object whose end it awaits, and flash sectors to erase. -/
structure Job where
  origin : Origin
  op : Nat
  obj : Nat
  first : Nat := 0
  count : Nat := 0
  deriving DecidableEq, Repr

/-- A data stream (14 R475, R476): source, length, session id, stream id, queue of its token. -/
structure Stream where
  src : Nat
  len : Nat
  id : Nat
  stream : Nat
  queue : Option Nat
  deriving DecidableEq, Repr

/-- The Ethernet block beyond its registers (14): sessions; slots with an accepted request, in order of arrival; OPEN
requests waiting; ACCEPTED commands; streams, oldest first; use of the device-wide limits of R477 (requests, OPENs, event
packets, control frames) and of 15 R510. -/
structure HostSt where
  sessions : Tab Session := []
  order : List Nat := []
  opens : List OpenReq := []
  jobs : List Job := []
  streams : List Stream := []
  reqUse : Nat × Nat := (0, 0)
  openUse : Nat × Nat := (0, 0)
  evUse : Nat × Nat := (0, 0)
  ctlUse : Nat × Nat := (0, 0)
  signUse : Nat × Nat := (0, 0)
  deriving DecidableEq, Repr

/-! ### Cascade (18) -/

/-- A cascade link's service channel (18 R566 to R571): message bytes to send; blocks sent and not acknowledged (number,
body); blocks to be sent again; number of the next data block, of the next one expected; a replay to be asked for; bytes
received and not yet taken as a message; messages taken and not yet acted on; matching good blocks in a row; powered
times of the last good block and of the last with up_ok. -/
structure CLink where
  stream : List Byte := []
  unacked : List (Nat × List Byte) := []
  resend : List (Nat × List Byte) := []
  nextSeq : Nat := 0
  rxNext : Nat := 0
  nakDue : Bool := false
  rxStream : List Byte := []
  inbox : List (List Byte) := []
  run : Nat := 0
  lastGood : Option Nat := none
  lastUp : Option Nat := none
  deriving DecidableEq, Repr

/-- A relayed command at the master (18 R576, R578): tag, member, session slot and id, sequence, opcode, whether RSP said
ACCEPTED. -/
structure Relay where
  tag : Nat
  member : Nat
  slot : Nat
  id : Nat
  seq : Nat
  op : Nat
  accepted : Bool := false
  deriving DecidableEq, Repr

/-- The cascade controller beyond its registers (18): links; orbit loads issued in JOINING; matching blocks of the up link
in a row since the state was entered; crossings in a row with mismatching blocks and the boundary of the last; the master
is lost; members lost and not back; relayed commands; next tag; the link a member's ROLL came by (1 + index); the signals to
the fabric since the last crossing boundary (18 R575). -/
structure CascSt where
  links : Tab CLink := []
  loads : Nat := 0
  run : Nat := 0
  badRun : Nat := 0
  badAt : Nat := 0
  lost : Bool := false
  gone : List Nat := []
  relays : List Relay := []
  nextTag : Nat := 0
  rollVia : Tab Nat := []
  upOk : Bool := false
  present : Nat := 0
  aligned : Nat := 0
  linkOk : Nat := 0
  deriving DecidableEq, Repr

/-- An entry of the event log (14 R471). For a CMD_DONE entry `cmd` holds session id, seq, opcode, status and the
first bytes of the result. -/
structure EvEntry where
  num : Nat
  code : Nat
  stamp : Nat
  pt : Nat
  obj : Nat
  value : Nat
  cmd : Option (Nat × Nat × Nat × Nat × List Byte) := none
  deriving DecidableEq, Repr

/-- The event log and the blotter's buffer. -/
structure LogState where
  /-- The last 4,096 events, newest first (14 R471). -/
  events : List EvEntry := []
  /-- Records waiting in always-on memory, oldest first, 32 bytes each (15 R503). -/
  buffer : List (List Byte) := []
  /-- Where the next record is programmed: record slot of the ring in flash (15 R502). -/
  pos : Nat := 0
  /-- Power-on count, modulo 65,536 (15 R504). -/
  powerOns : Nat := 0
  /-- A drop has been reported since the buffer was last empty (15 R503). -/
  dropReported : Bool := false
  deriving DecidableEq, Repr

/-! ### What the device answers and sends -/

/-- A packet (11 R342 to R347): source and destination NI, command, virtual channel, transaction, re-issue, system
address, payload length, payload, byte enables, atomic operation, poison. -/
structure Packet where
  src : Nat
  dst : Nat
  cmd : Nat
  vc : Nat
  txn : Nat := 0
  retry : Bool := false
  addr : Nat
  len : Nat
  payload : List Byte := []
  be : List Bool := []
  aop : Nat := 0
  poison : Bool := false
  deriving DecidableEq, Repr

/-- What the device sends or answers. -/
inductive Output where
  /-- The answer to a register or memory access: status, data as a number, poison. -/
  | resp (st : Status) (data : Nat) (poison : Bool)
  /-- A frame launched on a lane, frame bit 0 its most significant bit (03 R85, R97). -/
  | frame (n : Nat) (m : Nat) (f : Nat)
  /-- The pattern of a crossing on a transmit .CK lane (03 R83). -/
  | ck (n : Nat) (pattern : Nat)
  /-- A slot's content at a receive port (03 R90). -/
  | slot (n : Nat) (m : Nat) (c : Slot)
  /-- A user I/O pin's output for a word: the word driven, or none while it is high-impedance, with the weak pull that
  holds it (true: up), or none while it floats (04 R156, R158). -/
  | pin (p : Nat) (word : Option Nat) (pull : Option Bool)
  /-- A word delivered from a user I/O pin (04 R156). -/
  | pinIn (p : Nat) (word : Nat)
  /-- A packet that a source NI sends (11 R342). -/
  | packet (p : Packet) (flits : List (Nat × Nat))
  /-- A command to the memory of a near-store channel (09 R273, R276): 0 refresh of a bank, as 8 x rank + bank; 1 ZQCal of
  a rank. -/
  | dram (c op arg : Nat)
  /-- A VCP packet to a partner: its UDP payload (14 R445). -/
  | vcp (dest : Peer) (bytes : List Nat)
  /-- A frame on the active Ethernet port: an answer (true) or an unsolicited announcement of an address (14 R442, R443). -/
  | ctl (kind : CtlKind) (answer : Bool) (dest : Peer)
  /-- Bits shifted out at TDO in a data-register scan (19 R582 to R586, R604): length and value. -/
  | tdo (n : Nat) (v : Nat)
  /-- The boundary register shifted out at TDO, cell by cell, and the levels it drives at its pins (19 R584, R585). -/
  | boundary (cells : List (BsCell × Bool))
  | bsPins (cells : List (BsCell × Bool))
  /-- What the monitor prints (19 R606): a status of 14 R469, 0 for OK, and the values of its lines. -/
  | mon (status : Nat) (vals : List Nat)
  deriving DecidableEq, Repr

/-- The state of the block. -/
structure State where
  /-- Every register of the chapters' tables, keyed by `regKey`; a register not listed holds its reset value. -/
  regs : Tab Word := []
  /-- Data bytes of the on-chip memories, keyed by address; an unlisted byte reads 0 (08 R266). -/
  mem : List Host.Cell := []
  /-- Stored check bits of on-chip words XOR those of their data, keyed by address / 8: 0 for a clean word (08 R255). -/
  syn : Tab Byte := []
  /-- Banks: block bank n at n, scratch bank n at 8192 + n; scrub engines (08). -/
  banks : Tab BankSt := []
  scrubs : Tab ScrubSt := []
  /-- Host operations that have ended and whose end is not yet reported: object word and status (14 R457). -/
  ended : List (Nat × Nat) := []
  /-- Power domains, keyed by `domKey`; an unlisted domain is ON. -/
  doms : Tab DomSt := []
  mt : MtState := {}
  /-- Lanes, keyed by 16 x bundle + lane, and bundles. -/
  lanes : Tab LaneSt := []
  bundles : Tab BundleSt := []
  /-- Transmit lanes send poisoned empty frames since a trip (15 R489). -/
  txTripped : Bool := false
  /-- Span segments by `segKey`, user I/O pins, hoops. -/
  spans : Tab Span := []
  pins : Tab IoPin := []
  hoops : Tab HoopSt := []
  /-- State bits of flip-flops and riser registers by `flopKey` and `riserFlop`; one not listed holds the initial value of
  its frame (04 R126, 05 R163, R180). -/
  flops : Tab Bool := []
  /-- Riser wires that failed self-test, as site and wire; spare wires in use since the last full load, as site, wire and
  spare (04 R136). -/
  riserBad : List (Nat × Nat) := []
  riserSpares : List (Nat × Nat × Nat) := []
  /-- Hoops whose frame storage is unrepaired: their domains stay OFF (05 R190). -/
  badFrames : List Nat := []
  /-- The last global start was refused (05 R190, 13 R435). -/
  startRefused : Bool := false
  /-- The boundary at which a group's pending request takes effect, by group; 0 for none (05 R166). -/
  groupAt : Tab Nat := []
  /-- Contexts of the fixed regions that the full load wrote with a non-zero bit, one mask per layer (06 R204). -/
  fixValid : Nat × Nat := (0, 0)
  /-- Slice configurations by 4 x slice + context, slices, rank units (06). -/
  sliceCfgs : Tab SliceCfg := []
  slices : Tab SliceSt := []
  ranks : Tab RankSt := []
  /-- Pattern match arrays and update channels (07). -/
  pms : Tab PmArr := []
  pmus : Tab PmuSt := []
  /-- Tokens posted and not yet arrived at the Work Exchange: queue and value, oldest first (12 R386). -/
  tokens : List (Nat × Nat) := []
  xcr : XcrState := {}
  /-- Near-store lines by offset / 64; an unlisted line is unwritten (10 R320). -/
  near : Tab Line := []
  nears : Tab NearSt := []
  /-- Uses of K0 refused to a requester that may not use it (01 R26). -/
  k0Denied : Nat := 0
  caves : Tab CaveSt := []
  /-- Cave lines as last written or filled, by offset / 64; an unlisted line is unwritten. -/
  cave : Tab Line := []
  hw : Tab HwSt := []
  ring : RingSt := {}
  /-- Look-back descriptors waiting, oldest first; look-back engines; transmit channels. -/
  lbQueue : List (List Nat) := []
  lbEngs : Tab LbEng := []
  lbtx : Tab LbtxSt := []
  noc : NocSt := {}
  /-- Quill cores; reservations by core: 1 + the on-chip word reserved; the Work Exchange; shadow checks; debug. -/
  cores : Tab CoreSt := []
  resv : Tab Nat := []
  wx : WxSt := {}
  shadows : Tab ShadowSt := []
  dbg : DbgSt := {}
  /-- Bits of a stored frame that differ from what was written to it, by slot: 0 to 4095 the frame, above them its BCH check
  (13 R411, R414). -/
  frameFlips : Tab (List Nat) := []
  /-- Configuration frames with a non-zero bit, by frame slot, 4,096 bits each (13 R411, R436); the loader; the
  configuration flash, an unlisted byte erased; one-time-programmable storage. -/
  frames : Tab Nat := []
  loader : LoaderSt := {}
  flash : Tab Byte := []
  otp : OtpSt := {}
  clk : ClkSt := {}
  /-- Sceum; blocks that failed self-test, as type code and index (15 R497); host command protocol; cascade. -/
  scm : ScmSt := {}
  failed : List (Nat × Nat) := []
  host : HostSt := {}
  casc : CascSt := {}
  /-- Start-up follows a system reset, which repeats neither self-test nor the fill of on-chip memory (16 R533, R537). -/
  warm : Bool := false
  /-- Powered time in nanoseconds (02 R65) and whether it is counting. -/
  pt : Nat := 0
  ptRuns : Bool := false
  log : LogState := {}
  /-- The model's own: free values used so far. -/
  free : Nat := 0
  /-- The model's own: everything the device has answered and sent, oldest first. -/
  out : List Output := []
  /-- The commands waiting, first in, first out. -/
  pending : List Instr := []
  deriving DecidableEq, Repr

/-- The machine right after power-on reset: every register at its table's reset value, memories zero, nothing
pending. -/
def State.reset : State := {}

end Sys2Proof.Machine
end

