-- ==== Sys2Proof/Machine/Ops.lean ====
section
/-!
DEFINITION. The named operations over the state: reading and writing registers and their fields, free values, answers,
stamps, events and blotter records, and the bytes of on-chip memory.
-/
namespace Sys2Proof.Machine

/-- The outcome of a command. -/
abbrev Out := Host.Outcome State Fault Refusal

/-! ### Registers -/

/-- Bits [hi:lo] of a number. -/
def bits (w hi lo : Nat) : Nat := (w >>> lo) % 2 ^ (hi + 1 - lo)

/-- Bit k of a number. -/
def bitAt (w k : Nat) : Bool := w.testBit k

/-- A number with its bits [hi:lo] replaced by a value taken modulo the field's width. -/
def setBits (w hi lo v : Nat) : Nat :=
  (w >>> (hi + 1)) <<< (hi + 1) ||| (v % 2 ^ (hi + 1 - lo)) <<< lo ||| w % 2 ^ lo

/-- A truth value as a bit. -/
def b2n (b : Bool) : Nat := if b then 1 else 0

/-- Key of register `r` with indices `i` and `j` in the register file. -/
def regKey (r : RegName) (i j : Nat) : Nat := r.ctorIdx * 4294967296 + i % 65536 * 65536 + j % 65536

/-- The value of a register after reset, from its chapter's table. CLK_GRPg resets to a value of its index (16 R540)
and CFG_ID tells the speed grade (13 R440); the registers sampled or loaded from one-time-programmable storage take
theirs from Config. -/
def regReset (r : RegName) (i : Nat) : Word :=
  match r with
  | .clkGrp => BitVec.ofNat 32 (0x404 + i / 4 * 0x1000000)
  | .cfgId => if Config.speedS2 then 0xA4910002 else 0xA4910001
  | .ethMacLo => Config.macLow
  | .ethMacHi => BitVec.ofNat 32 (Config.macHigh.toNat % 65536)
  | .scmSerialLo => Config.serialLow
  | .scmSerialHi => Config.serialHigh
  | .scmLeaf => Config.leafState
  | .sysStrap => Config.straps
  | r => BitVec.ofNat 32 r.info.reset

/-- The word a register holds. -/
def State.word (s : State) (r : RegName) (i : Nat := 0) (j : Nat := 0) : Word :=
  Tab.get (regReset r (i % 65536)) s.regs (regKey r i j)

/-- The state with a register holding a word. -/
def State.setWord (s : State) (r : RegName) (v : Word) (i : Nat := 0) (j : Nat := 0) : State :=
  { s with regs := Tab.put (regReset r (i % 65536)) s.regs (regKey r i j) v }

/-- The value of a field. -/
def State.get (s : State) (f : Fld) (i : Nat := 0) (j : Nat := 0) : Nat :=
  bits (s.word f.reg i j).toNat f.hi f.lo

/-- The state with a field holding a value. -/
def State.put (s : State) (f : Fld) (v : Nat) (i : Nat := 0) (j : Nat := 0) : State :=
  s.setWord f.reg (BitVec.ofNat 32 (setBits (s.word f.reg i j).toNat f.hi f.lo v)) i j

/-- Whether a field is not 0. -/
def State.bit (s : State) (f : Fld) (i : Nat := 0) (j : Nat := 0) : Bool := s.get f i j != 0

/-- Set a sticky or status bit. -/
def State.flag (s : State) (f : Fld) (i : Nat := 0) (j : Nat := 0) : State := s.put f 1 i j

/-- Clear a field. -/
def State.clear (s : State) (f : Fld) (i : Nat := 0) (j : Nat := 0) : State := s.put f 0 i j

/-- Write a truth value to a field. -/
def State.putBit (s : State) (f : Fld) (b : Bool) (i : Nat := 0) (j : Nat := 0) : State := s.put f (b2n b) i j

/-- Add to a count that saturates at its field's greatest value. -/
def State.addSat (s : State) (f : Fld) (n : Nat) (i : Nat := 0) (j : Nat := 0) : State :=
  s.put f (min (2 ^ f.width - 1) (s.get f i j + n)) i j

/-- Count one in a saturating count. -/
def State.bump (s : State) (f : Fld) (i : Nat := 0) (j : Nat := 0) : State := s.addSat f 1 i j

/-- The 64-bit value of a pair of registers _LO and _HI. -/
def State.pair (s : State) (lo hi : RegName) (i : Nat := 0) (j : Nat := 0) : Nat :=
  (s.word lo i j).toNat + (s.word hi i j).toNat * 4294967296

/-- Write a 64-bit value to a pair of registers _LO and _HI. -/
def State.setPair (s : State) (lo hi : RegName) (v : Nat) (i : Nat := 0) (j : Nat := 0) : State :=
  (s.setWord lo (BitVec.ofNat 32 v) i j).setWord hi (BitVec.ofNat 32 (v / 4294967296)) i j

/-! ### Answers and free values -/

/-- The state after answering or sending something. -/
def State.emit (s : State) (o : Output) : State := { s with out := s.out ++ [o] }

/-- Answer an access with a status and data. -/
def State.answer (s : State) (st : Status) (data : Nat := 0) (poison : Bool := false) : State :=
  s.emit (.resp st data poison)

/-- A fresh free value of `n` bits: the value, and the state with one more free value used. -/
def State.fresh (s : State) (n : Nat) : Nat × State :=
  (Config.freeValue s.free % 2 ^ n, { s with free := s.free + 1 })

/-! ### Stamps (02 R40) -/

/-- The machine-time stamp of the present crossing. -/
def State.stamp (s : State) : Nat :=
  s.get F.mtimeStatusCoasting * 2 ^ 63 + s.get F.mtimeStatusUnaligned * 2 ^ 62 + s.mt.orbit % 2 ^ 48 * 2 ^ 14
    + s.mt.cross % 2 ^ 14

/-- The active orbit length L in crossings (02 R58, MTIME_ORBIT_LEN). -/
def State.orbitLen (s : State) : Nat := s.get F.mtimeOrbitLenVal + 1

/-- The instants of a crossing are counted in parts of it: a number that every multiple 2 to 24 of 04 R146 divides, so
that edge `e` of a fabric clock of multiple k lies at e x fabGrid / k. -/
def fabGrid : Nat := 5354228880

/-! ### Freezing (19 R602) -/

/-- A core is halted; core 128 is the Sceum core. -/
def State.coreHalted (s : State) (n : Nat) : Bool := if n = 128 then s.dbg.sceumHalted else s.bit F.qcStatusHalted n

/-- A selected background engine is frozen: DBG_FREEZE.on is 1, or trig is 1 and a core named in DBG_HMASK is halted. -/
def State.frozen (s : State) (engine : Fld) : Bool :=
  s.bit engine && (s.bit F.dbgFreezeOn || (s.bit F.dbgFreezeTrig &&
    (List.range 129).any (fun n => (s.word .dbgHmask (n / 32)).toNat.testBit (n % 32) && s.coreHalted n)))

/-! ### Glitch-free switches (16 R523 to R525) -/

/-- The source a switch has in force, or after reset: 0 root, 1 NoC, 2 + g Quill group g, 18 and 19 the near-store
halves, 20 machine time (64 for the pins). -/
def clkReset (mux : Nat) : Nat := if 2 ≤ mux ∧ mux < 18 then (mux - 2) / 4 else if mux = 20 then 64 else 0

/-- A request at a switch: latched while a switch is in progress; without effect for the source selected (16 R525). -/
def clkRequest (mux source : Nat) (s : State) : State :=
  if Tab.get 0 s.clk.busy mux ≠ 0 then { s with clk := { s.clk with latched := Tab.put 0 s.clk.latched mux (source + 1) } }
  else if Tab.get (clkReset mux) s.clk.source mux = source then s
  else { s with clk := { s.clk with busy := Tab.put 0 s.clk.busy mux (source + 1) } }

/-- The source a switch has in force. -/
def State.clkSource (s : State) (mux : Nat) : Nat := Tab.get (clkReset mux) s.clk.source mux

/-! ### Synthesisers (16 R517, R526, R527) -/

/-- A synthesiser by source number: 1 PPLL, 2 NPLL, 3 + q QPLLq, 7 + m MPLLm, 9 EPLL (16 R539). -/
def State.pllLocked (s : State) (p : Nat) : Bool :=
  match p with
  | 1 => s.bit F.clkStatusPpllLock
  | 2 => s.bit F.clkStatusNpllLock
  | 9 => !s.clk.epllLost
  | p => if p < 7 then (s.get F.clkStatusQpllLock).testBit (p - 3) else (s.get F.clkStatusMpllLock).testBit (p - 7)

/-- The blocks on PPLL have their clock: Sceum, management ring, sequencer, loader, scrubbers. -/
def State.mgmtClocked (s : State) : Bool := s.pllLocked 1

/-- The network, and every block on its clock, has it: from NPLL, or from PPLL in its place (16 R520). -/
def State.nocClocked (s : State) : Bool := s.pllLocked (if s.bit F.clkStatusNocPpll then 1 else 2)

/-- Cores and scratch banks of a Quill group have their clocks (16 R521). -/
def State.quillClocked (s : State) (g : Nat) : Bool := s.pllLocked (3 + s.clkSource (2 + g))

/-- A near-store channel has its controller clock: from the MPLL that its half selects, with a rate set (16 R522). -/
def State.nearClocked (s : State) (c : Nat) : Bool :=
  s.get F.clkNctlSel != 0 && s.pllLocked (if c < 18 then 7 + s.clkSource 18 else 8 - s.clkSource 19)

/-- The engine of a line operation has its clock: one of a near-store channel, or of a cave port. -/
def State.engineClocked (s : State) (e : Nat) : Bool := if e < 36 then s.nearClocked e else s.nocClocked

/-- What a block does on a clock: while it is held without it, it does nothing and its state is kept (16 R526, R527). -/
def whenClocked (runs : Bool) (s : State) (o : Out) : Out := if runs then o else .next s

/-! ### Bytes -/

/-- The low `n` bytes of a number, least significant first. -/
def bytesOf (v : Nat) : Nat → List Byte
  | 0 => []
  | n + 1 => BitVec.ofNat 8 v :: bytesOf (v / 256) n

/-- The number whose bytes, least significant first, are given. -/
def ofBytes : List Byte → Nat
  | [] => 0
  | b :: bs => b.toNat + 256 * ofBytes bs

/-- The bytes of on-chip memory from an address. -/
def State.memBytes (s : State) (a n : Nat) : List Byte := Tab.range 0 s.mem a n

/-- The canonical form of on-chip memory: addresses strictly rising, no byte of 0 listed. -/
def memWf (t : List Host.Cell) : Bool := Tab.wf (fun _ => 0) t

/-- Write bytes to on-chip memory from an address. -/
def State.setMemBytes (s : State) (a : Nat) (bs : List Byte) : State := { s with mem := Tab.putList 0 s.mem a bs }

/-! ### Events and blotter records (14 R471 to R473, 15 R502, R503, R634) -/

/-- The events of 14 R472, 15 R502, 17 R556 and 18 R579. -/
inductive Ev where
  | cmdDone | ethFailover | opkeyRevoked
  | mtimeSlip | mtimeNoMarker | mtimeCoast | mtimeRealigned | mtimeEvent | mtimeRtUncorrectable
  | laneCapsMismatch | laneBringupSlow | laneRetired | laneUnspared
  | fabSpanCut | fabSpanStuck | fabClkRefused | fabIobMismatch | fabHbHeld | fabStartRefused
  | membUe | membRetired
  | nearMigrateLag | nearRetired | caveRetired
  | xcrIntegrity | xcrKeyExhausted | xcrTableFail
  | nocRetired | nocDead
  | qcMismatch | qcRetired | qcShadowRetired
  | cfgLoadFail | cfgFallback | cfgNoFolio | cfgImageLost | cfgRewriteFail
  | scmTempWarn | scmTempAlarm | scmRiseWarn | scmRiseAlarm | scmTrip | scmSensorBroken | scmVoltAlarm
  | scmCalDeferred | scmSelftestFail | scmSpareFail | scmRepairRejected | scmRestart | scmFwFallback | scmLeafLow
  | scmBlotterDrop
  | cascMemberLost | cascMemberBack | cascMasterLost | cascMasterBack | cascOrbitLoaded | cascMismatch
  | cascTwoMasters | cascDupMember
  deriving DecidableEq, Repr

/-- The code of an event: class in [15:8], index in [7:0] (14 R472). -/
def Ev.code : Ev → Nat
  | .cmdDone => 0x000 | .ethFailover => 0x001 | .opkeyRevoked => 0x002
  | .mtimeSlip => 0x100 | .mtimeNoMarker => 0x101 | .mtimeCoast => 0x102 | .mtimeRealigned => 0x103
  | .mtimeEvent => 0x104 | .mtimeRtUncorrectable => 0x105
  | .laneCapsMismatch => 0x200 | .laneBringupSlow => 0x201 | .laneRetired => 0x202 | .laneUnspared => 0x203
  | .fabSpanCut => 0x300 | .fabSpanStuck => 0x301 | .fabClkRefused => 0x302 | .fabIobMismatch => 0x303
  | .fabHbHeld => 0x304 | .fabStartRefused => 0x305
  | .membUe => 0x400 | .membRetired => 0x401
  | .nearMigrateLag => 0x500 | .nearRetired => 0x501 | .caveRetired => 0x502
  | .xcrIntegrity => 0x600 | .xcrKeyExhausted => 0x601 | .xcrTableFail => 0x602
  | .nocRetired => 0x700 | .nocDead => 0x701
  | .qcMismatch => 0x800 | .qcRetired => 0x801 | .qcShadowRetired => 0x802
  | .cfgLoadFail => 0x900 | .cfgFallback => 0x901 | .cfgNoFolio => 0x902 | .cfgImageLost => 0x903
  | .cfgRewriteFail => 0x904
  | .scmTempWarn => 0xA00 | .scmTempAlarm => 0xA01 | .scmRiseWarn => 0xA02 | .scmRiseAlarm => 0xA03
  | .scmTrip => 0xA04 | .scmSensorBroken => 0xA05 | .scmVoltAlarm => 0xA06 | .scmCalDeferred => 0xA07
  | .scmSelftestFail => 0xA08 | .scmSpareFail => 0xA09 | .scmRepairRejected => 0xA0A | .scmRestart => 0xA0B
  | .scmFwFallback => 0xA0C | .scmLeafLow => 0xA0D | .scmBlotterDrop => 0xA0E
  | .cascMemberLost => 0xB00 | .cascMemberBack => 0xB01 | .cascMasterLost => 0xB02 | .cascMasterBack => 0xB03
  | .cascOrbitLoaded => 0xB04 | .cascMismatch => 0xB05 | .cascTwoMasters => 0xB06 | .cascDupMember => 0xB07

/-- The severity of an event's blotter record (15 R634): 0 information, 1 warning, 2 fault, 3 retirement. -/
def Ev.severity : Ev → Nat
  | .cmdDone | .opkeyRevoked | .mtimeEvent | .cascMemberBack | .cascMasterBack => 0
  | .ethFailover | .mtimeSlip | .mtimeNoMarker | .mtimeCoast | .mtimeRealigned | .laneCapsMismatch
  | .laneBringupSlow | .fabHbHeld | .nearMigrateLag | .cfgFallback | .scmTempWarn | .scmRiseWarn
  | .scmSensorBroken | .scmCalDeferred | .scmRepairRejected | .scmRestart | .scmLeafLow | .scmBlotterDrop
  | .cascOrbitLoaded => 1
  | .mtimeRtUncorrectable | .laneUnspared | .fabSpanCut | .fabSpanStuck | .fabClkRefused | .fabIobMismatch
  | .fabStartRefused | .membUe | .xcrIntegrity | .xcrKeyExhausted | .xcrTableFail | .qcMismatch | .cfgLoadFail
  | .cfgNoFolio | .cfgImageLost | .cfgRewriteFail | .scmTempAlarm | .scmRiseAlarm | .scmTrip | .scmVoltAlarm
  | .scmSelftestFail | .scmSpareFail | .scmFwFallback | .cascMemberLost | .cascMasterLost | .cascMismatch
  | .cascTwoMasters | .cascDupMember => 2
  | .laneRetired | .membRetired | .nearRetired | .caveRetired | .nocRetired | .nocDead | .qcRetired
  | .qcShadowRetired => 3

/-- One step of the CRC-8 of 15 R502 over the bits of a byte, most significant first. -/
def crc8Bits (acc : Nat) : Nat → Nat
  | 0 => acc
  | n + 1 => crc8Bits (if acc.testBit 7 then (acc * 2 % 256) ^^^ 0x07 else acc * 2 % 256) n

/-- CRC-8 of 15 R502: polynomial 0x07, initial value 0, no reflection. -/
def crc8 (bs : List Byte) : Nat := bs.foldl (fun acc b => crc8Bits (acc ^^^ b.toNat) 8) 0

/-- The 32 bytes of a blotter record (15 R502). -/
def blotterRecord (num code sev stamp pt powerOns detail : Nat) : List Byte :=
  let head := bytesOf num 4 ++ bytesOf code 2 ++ bytesOf (sev * 64) 1
  let tail := bytesOf stamp 8 ++ bytesOf (pt / 64) 6 ++ bytesOf powerOns 2 ++ bytesOf detail 8
  head ++ bytesOf (crc8 (head ++ tail)) 1 ++ tail

/-- The object word of 14 R464. -/
def objWord (kind index : Nat) : Nat := kind % 256 * 2 ^ 24 + index % 2 ^ 24

/-- Nanoseconds of powered time from `t` to `pt`; the count wraps at 2^64 (02 R65). -/
def elapsed (pt t : Nat) : Nat := (pt + 2 ^ 64 - t) % 2 ^ 64

/-- Nanoseconds of powered time since `t`. -/
def State.since (s : State) (t : Nat) : Nat := elapsed s.pt t

/-- Spend one unit of a limit of `rate` per second whose bucket holds `burst` (14 R477): none when it is used up. -/
def spend (rate burst pt : Nat) (u : Nat × Nat) : Option (Nat × Nat) :=
  let used := u.1 - elapsed pt u.2 * rate
  if used ≤ (burst - 1) * 1000000000 then some (used + 1000000000, pt) else none

/-- Bytes of a number, least significant first, as numbers. -/
def nums (v n : Nat) : List Nat := (bytesOf v n).map BitVec.toNat

/-- A session slot. -/
def State.sess (s : State) (k : Nat) : Session := Tab.get {} s.host.sessions k

/-- Change a session slot. -/
def State.modSess (s : State) (k : Nat) (f : Session → Session) : State :=
  { s with host := { s.host with sessions := Tab.put {} s.host.sessions k (f (s.sess k)) } }

/-- The id of the session in a slot (14 R445). -/
def State.sessId (s : State) (k : Nat) : Nat := (s.sess k).gen * 1024 + k

/-- A VCP packet (14 R445, R446): header, payload and tag under a key. -/
def State.vcpBytes (s : State) (key : List Nat) (kind flags relay id seq code status seg count total ofs : Nat)
    (payload : List Nat) : List Nat :=
  let head := nums 0xB5F06C01 4 ++ [1, kind, flags, relay] ++ nums id 4 ++ nums seq 4 ++ nums code 2 ++ nums status 2
    ++ nums seg 2 ++ nums count 2 ++ nums total 4 ++ nums ofs 4 ++ nums s.stamp 8 ++ nums s.pt 8
  let text := head ++ payload
  text ++ (Crypto.hmac key text).take 16

/-- The boundary register owns the pins: EXTEST, EXTEST_PULSE or EXTEST_TRAIN is the TAP's instruction (19 R585). -/
def State.extest (s : State) : Bool := s.dbg.ir == 0x00 || s.dbg.ir == 0x04 || s.dbg.ir == 0x05

/-- Drive pins: nothing goes out while the boundary register owns them (19 R585). -/
def State.drive (s : State) (o : Output) : State := if s.extest then s else s.emit o

/-- The Ethernet transmitters are enabled: the firmware has run since the reset, or the boot ROM serves (16 R535, 15
R506); not while EPLL is unlocked (16 R526). -/
def State.ethUp (s : State) : Bool := (s.scm.booted || s.scm.inRom) && !s.clk.epllLost

/-- Send on the active Ethernet port. -/
def State.sendEth (s : State) (o : Output) : State := if s.ethUp then s.drive o else s

/-- Send a VCP packet. -/
def State.sendVcp (s : State) (dest : Peer) (bytes : List Nat) : State := s.sendEth (.vcp dest bytes)

/-- The 64 bytes of an event log entry (14 R471). -/
def EvEntry.bytes (e : EvEntry) : List Nat :=
  let head := nums e.num 4 ++ nums e.code 2 ++ nums 0 2 ++ nums e.stamp 8 ++ nums e.pt 8
  match e.cmd with
  | none => head ++ nums e.obj 4 ++ nums 0 4 ++ nums e.value 8 ++ nums 0 24
  | some (id, seq, op, status, result) =>
    head ++ nums id 4 ++ nums seq 4 ++ nums op 2 ++ nums status 2
      ++ (result.map BitVec.toNat ++ List.replicate 28 0).take 28

/-- Send an event packet to a session within its limit and the device's, whose use after it is given (none: used up);
beyond a limit it is withheld (14 R474, R477). -/
def eventTo (e : EvEntry) (k : Nat) (own dev : Option (Nat × Nat)) (s : State) : State :=
  match own, dev with
  | some u, some v =>
    let s := s.modSess k (fun c => { c with evUse := u })
    let s := { s with host := { s.host with evUse := v } }
    let c := s.sess k
    s.sendVcp c.peer (s.vcpBytes c.key 2 0 0 (s.sessId k) c.events e.code 0 0 1 64 0 e.bytes)
  | _, _ => s.flag F.ethErrRate

/-- Send an event to the sessions due for it, in slot order: those whose mask holds its class, and `also`; the session's
event sequence counts one withheld too (14 R474, R477). -/
def sendEvent (e : EvEntry) (also : Option Nat) (s : State) : State :=
  s.host.sessions.foldl
    (fun s x =>
      let k := x.1
      if x.2.st ≠ 0 ∧ (x.2.mask.testBit (e.code / 256) = true ∨ also = some k) then
        let s := s.modSess k (fun c => { c with events := c.events + 1 })
        eventTo e k (spend 2000 2000 s.pt (s.sess k).evUse) (spend 100000 100000 s.pt s.host.evUse) s
      else s) s

/-- Number an event and write it to the event log, which keeps the last 4,096, and send it to the sessions that
subscribe to its class (14 R471, R474). -/
def State.logEvent (s : State) (code obj value : Nat) (cmd : Option (Nat × Nat × Nat × Nat × List Byte) := none)
    (also : Option Nat := none) : State :=
  let n := s.get F.ethEvtNextVal
  let e : EvEntry := { num := n, code := code, stamp := s.stamp, pt := s.pt, obj := obj, value := value, cmd := cmd }
  let s := s.put F.ethEvtNextVal ((n + 1) % 2 ^ 32)
  sendEvent e also { s with log := { s.log with events := (e :: s.log.events).take 4096 } }

/-- Raise a blotter record (15 R503): it waits in the buffer, or is dropped and counted when 1,024 wait. The first
drop after the buffer was empty raises SCM_BLOTTER_DROP, which is not written itself. -/
def State.blot (s : State) (code sev detail : Nat) : State :=
  if s.log.buffer.length < 1024 then
    let n := s.get F.scmBlotNextVal
    let r := blotterRecord n code sev s.stamp s.pt s.log.powerOns detail
    let s := s.put F.scmBlotNextVal ((n + 1) % 2 ^ 32)
    { s with log := { s.log with buffer := s.log.buffer ++ [r] } }
  else
    let s := (s.addSat F.scmBlotDropVal 1).flag F.scmErrBlotterDrop
    if s.log.dropReported then s
    else ({ s with log := { s.log with dropReported := true } }).logEvent Ev.scmBlotterDrop.code 0 0

/-- Raise an event: it is logged and sent (14 R471, R474) and written to the blotter with the object word in detail
bits [31:0] and the low 32 bits of the value in [63:32] (15 R502). -/
def State.raise (s : State) (e : Ev) (obj : Nat := 0) (value : Nat := 0) : State :=
  (s.logEvent e.code obj value).blot e.code e.severity (obj % 2 ^ 32 + value % 2 ^ 32 * 2 ^ 32)

end Sys2Proof.Machine
end

