-- ==== Sys2Proof/Machine/Ecc.lean ====
section
/-!
DEFINITION. The (72,64) code of 08 R255 with the poison syndrome of R258, used by the banks, the core memories and the
ruling table (02 R61).
-/
namespace Sys2Proof.Machine

/-- The columns of data bits 0 to 55: the 8-bit values of weight 3 in ascending order (08 R255). -/
def eccColsLow : List Nat :=
  [0x07, 0x0B, 0x0D, 0x0E, 0x13, 0x15, 0x16, 0x19, 0x1A, 0x1C, 0x23, 0x25, 0x26, 0x29, 0x2A, 0x2C, 0x31,
   0x32, 0x34, 0x38, 0x43, 0x45, 0x46, 0x49, 0x4A, 0x4C, 0x51, 0x52, 0x54, 0x58, 0x61, 0x62, 0x64, 0x68,
   0x70, 0x83, 0x85, 0x86, 0x89, 0x8A, 0x8C, 0x91, 0x92, 0x94, 0x98, 0xA1, 0xA2, 0xA4, 0xA8, 0xB0, 0xC1,
   0xC2, 0xC4, 0xC8, 0xD0, 0xE0]

/-- The columns of data bits 56 to 63, of weight 5 (08 R255). -/
def eccColsHigh : List Nat :=
  [0x1F, 0x3E, 0x7C, 0xF8, 0xF1, 0xE3, 0xC7, 0x8F]

/-- The columns of the 64 data bits. -/
def eccCols : List Nat := eccColsLow ++ eccColsHigh

/-- XOR of the columns of the set bits of a word, from bit `k` on. -/
def eccFold (w : Nat) : List Nat → Nat → Nat
  | [], _ => 0
  | c :: cs, k => (if w.testBit k then c else 0) ^^^ eccFold w cs (k + 1)

/-- The check bits of a data word: bit j is the XOR of the data bits whose column has bit j set (08 R255). -/
def eccCheck (d : DWord) : Byte := BitVec.ofNat 8 (eccFold d.toNat eccCols 0)

/-- The check bits of a word stored poisoned: bits 0 to 6 complemented (08 R258). -/
def eccPoison (d : DWord) : Byte := eccCheck d ^^^ 0x7F

/-- What a read of a stored word finds (08 R255 to R258). -/
inductive EccRead where
  /-- No error, or a single-bit error corrected (`fixed`): the data bits delivered. -/
  | good (d : DWord) (fixed : Bool)
  /-- The poison syndrome: the data bits with poison. -/
  | poisoned (d : DWord)
  /-- Any other syndrome: the data bits as stored, uncorrected. -/
  | uncorrectable (d : DWord)
  deriving DecidableEq, Repr

/-- The place of a syndrome among the columns, counted from `k`. -/
def eccFind (syn : Nat) : List Nat → Nat → Option Nat
  | [], _ => none
  | c :: cs, k => if c = syn then some k else eccFind syn cs (k + 1)

/-- Whether a syndrome is the column of a check bit: one bit set. -/
def eccIsCheckCol (syn : Nat) : Bool := [1, 2, 4, 8, 16, 32, 64, 128].contains syn

/-- Read a stored word: the syndrome is the check bits recomputed XOR the check bits read (08 R255). -/
def eccRead (d : DWord) (chk : Byte) : EccRead :=
  let syn := (eccCheck d ^^^ chk).toNat
  if syn = 0 then .good d false
  else if syn = 0x7F then .poisoned d
  else if eccIsCheckCol syn then .good d true
  else match eccFind syn eccCols 0 with
    | some k => .good (d ^^^ (1 <<< k)) true
    | none => .uncorrectable d

/-- The data bits a read delivers. -/
def EccRead.data : EccRead → DWord
  | .good d _ => d
  | .poisoned d => d
  | .uncorrectable d => d

/-- Whether a read delivers poison. -/
def EccRead.poison : EccRead → Bool
  | .good _ _ => false
  | .poisoned _ => true
  | .uncorrectable _ => true

end Sys2Proof.Machine
end

