-- ==== Sys2Proof/Machine/Memory.lean ====
section
/-!
DEFINITION. Words of the on-chip memories with their check bits (08 R255 to R259), and byte accesses made of them. A
word is named by its on-chip address divided by 8.
-/
namespace Sys2Proof.Machine

/-- The data bits of a word; byte 0 holds bits [7:0] (08 R241). -/
def State.wordData (s : State) (w : Nat) : DWord := BitVec.ofNat 64 (ofBytes (s.memBytes (8 * w) 8))

/-- What a read of a word finds. -/
def State.wordRead (s : State) (w : Nat) : EccRead :=
  eccRead (s.wordData w) (eccCheck (s.wordData w) ^^^ Tab.get 0 s.syn w)

/-- Store a word: its data and the XOR of its check bits with clean ones. A write clears the reservations of the word (12
R374). -/
def State.putWord (s : State) (w : Nat) (d : DWord) (syn : Byte) : State :=
  let s := s.setMemBytes (8 * w) (bytesOf d.toNat 8)
  { s with syn := Tab.put 0 s.syn w syn, resv := s.resv.filter (fun e => e.2 != w + 1) }

/-- The XOR of check bits of a word stored poisoned (08 R258). -/
def poisonSyn : Byte := 0x7F

/-- The bits of the enabled bytes of a word. -/
def byteBits (mask : Nat) : Nat → Nat
  | 0 => 0
  | n + 1 => byteBits mask n + (if mask.testBit n then 255 * 256 ^ n else 0)

/-- A word with its enabled bytes replaced. -/
def mergeBytes (old new : DWord) (mask : Nat) : DWord :=
  let m : DWord := BitVec.ofNat 64 (byteBits mask 8)
  (old &&& ~~~m) ||| (new &&& m)

/-- The word stored by a write over what a read finds there (08 R258, R259): poisoned if the write is, or if it writes
fewer than 64 bits over a word that reads poisoned or uncorrectable. -/
def storeOver (r : EccRead) (new : DWord) (mask : Nat) (poison : Bool) : DWord × Byte :=
  (mergeBytes r.data new mask, if poison || (mask % 256 != 255 && r.poison) then poisonSyn else 0)

/-- Write the enabled bytes of a word. -/
def State.writeWord (s : State) (w : Nat) (new : DWord) (mask : Nat) (poison : Bool) : State :=
  let r := storeOver (s.wordRead w) new mask poison
  s.putWord w r.1 r.2

/-- Read `n` words from a word, each by `rd`, which gives what the read finds and does its counting. -/
def readWords (rd : Nat → State → EccRead × State) (w : Nat) : Nat → State → List Byte × Bool × State
  | 0, s => ([], false, s)
  | n + 1, s =>
    let r := rd w s
    let rest := readWords rd (w + 1) n r.2
    (bytesOf r.1.data.toNat 8 ++ rest.1, r.1.poison || rest.2.1, rest.2.2)

/-- Number of words an access touches. -/
def wordSpan (addr len : Nat) : Nat := (addr % 8 + len + 7) / 8

/-- Read bytes: the bytes, whether any word read delivers poison, and the state after counting. -/
def readBytes (rd : Nat → State → EccRead × State) (addr len : Nat) (s : State) : List Byte × Bool × State :=
  let r := readWords rd (addr / 8) (wordSpan addr len) s
  ((r.1.drop (addr % 8)).take len, r.2.1, r.2.2)

/-- The byte enables that an access of `be.length` bytes at `addr` gives word `w`. -/
def wordMask (addr : Nat) (be : List Bool) (w : Nat) : Nat :=
  ((List.range 8).map (fun i => if addr ≤ 8 * w + i ∧ be.getD (8 * w + i - addr) false = true then 2 ^ i else 0)).sum

/-- The data that an access at `addr` gives word `w`. -/
def wordBytes (addr : Nat) (data : List Byte) (w : Nat) : DWord :=
  BitVec.ofNat 64 (ofBytes ((List.range 8).map (fun i => if addr ≤ 8 * w + i then data.getD (8 * w + i - addr) 0 else 0)))

/-- Write the enabled bytes of `n` words from a word, each by `wr`; a word with no byte enabled is left. -/
def writeWords (wr : Nat → DWord → Nat → State → State) (addr : Nat) (data : List Byte) (be : List Bool) (w : Nat) :
    Nat → State → State
  | 0, s => s
  | n + 1, s =>
    let m := wordMask addr be w
    writeWords wr addr data be (w + 1) n (if m = 0 then s else wr w (wordBytes addr data w) m s)

/-- Write bytes under their enables, each word by `wr`. -/
def writeBytes (wr : Nat → DWord → Nat → State → State) (addr : Nat) (data : List Byte) (be : List Bool) (s : State) :
    State :=
  writeWords wr addr data be (addr / 8) (wordSpan addr data.length) s

/-- The result of an atomic operation on a value of `size` bytes (11 R345). -/
def atomicResult (aop size : Nat) (old operand : Nat) : Nat :=
  let m := 2 ^ (8 * size)
  let o := old % m
  let x := operand % m
  let sg (v : Nat) : Int := if v < m / 2 then (v : Int) else (v : Int) - m
  match aop with
  | 0 => x
  | 1 => (o + x) % m
  | 2 => o &&& x
  | 3 => o ||| x
  | 4 => o ^^^ x
  | 5 => if sg x < sg o then x else o
  | 6 => if sg o < sg x then x else o
  | 7 => min o x
  | 8 => max o x
  | _ => o

/-- The operand of an atomic operation is legal: a known operation on a naturally aligned 4- or 8-byte operand (11
R345). -/
def atomicLegal (addr aop size : Nat) : Bool := decide (aop < 9) && (size == 4 || size == 8) && addr % size == 0

end Sys2Proof.Machine
end

