-- ==== Sys2Proof/Machine/Grid.lean ====
section
/-!
DEFINITION. The grid of the logic layers (04 R120 to R138): clusters, configuration frames and their fields, span segments
with their drivers and joints, riser wires, and the checks the loader makes of them (R141, 05 R178, 15 R497).
-/
namespace Sys2Proof.Machine

/-! ### Frames (13 R411, R412, R436) -/

/-- A frame. -/
def State.frame (s : State) (slot : Nat) : Nat := Tab.get 0 s.frames slot

/-- Write a frame. -/
def State.setFrame (s : State) (slot v : Nat) : State :=
  { s with frames := Tab.put 0 s.frames slot (v % 2 ^ 4096), frameFlips := Tab.del s.frameFlips slot }

/-- The bits of a frame that are wrong. -/
def State.flips (s : State) (slot : Nat) : List Nat := Tab.get [] s.frameFlips slot

/-- A frame with some of its bits inverted; those above 4095 are in its check. -/
def flipFrame (v : Nat) (bits : List Nat) : Nat := bits.foldl (fun v b => if b < 4096 then v ^^^ 2 ^ b else v) v

/-- Bits of a stored frame are upset. -/
def State.upsetFrame (s : State) (slot : Nat) (ups : List (Fin 4128)) : State :=
  let wrong := ups.foldl (fun w u => if w.contains u.val then w.erase u.val else w ++ [u.val]) (s.flips slot)
  if ups = [] then s
  else
    { s with
      frames := Tab.put 0 s.frames slot (flipFrame (s.frame slot) (ups.map (fun u => u.val)))
      frameFlips := Tab.put [] s.frameFlips slot wrong }

/-- A frame is corrected in place (13 R414). -/
def State.mendFrame (s : State) (slot : Nat) : State := s.setFrame slot (flipFrame (s.frame slot) (s.flips slot))

/-- The frame address of a frame slot. -/
def slotFa (slot : Nat) : Nat :=
  let layer := slot / 675840
  let f := slot % 168960
  let place := if f < 84480 then (96 * layer + f / 880) * 2 ^ 19 + f % 880 else (192 + layer) * 2 ^ 19 + (f - 84480)
  slot / 168960 % 4 * 2 ^ 27 + place

/-- A field of a frame; all fields of an empty frame are 0 (13 R413). -/
def State.field (s : State) (slot row : Nat) (f : Config.FabField) : Nat :=
  if s.frame slot = 0 then 0 else Config.fabField f row (s.frame slot)

/-! ### Clusters (R120 to R122) -/

/-- A cluster: its layer (0 for L1), column and row. -/
structure Cluster where
  layer : Nat
  x : Nat
  y : Nat
  deriving DecidableEq, Repr

/-- The grid has the cluster (R120). -/
def Cluster.there (c : Cluster) : Bool := decide (c.layer < 2) && decide (c.x < 480) && decide (c.y < 320)

/-- The region of a column group in a band: even bands hold hoops, odd ones the fixed region (R120, R121). -/
def bandRegion (layer band group : Nat) : Nat := if band % 2 = 0 then 96 * layer + 12 * (band / 2) + group else 192 + layer

/-- The region a cluster lies in. -/
def Cluster.region (c : Cluster) : Nat := bandRegion c.layer (c.y / 20) (c.x / 40)

/-- A cluster's number. -/
def Cluster.index (c : Cluster) : Nat := (c.layer * 480 + c.x) * 320 + c.y

/-- The slot of a part of a cluster's column in its band, for a context (13 R411, R412, R436). -/
def Cluster.slot (c : Cluster) (part ctx : Nat) : Nat :=
  (4 * c.layer + ctx) * 168960 + c.y / 20 % 2 * 84480 + 880 * (12 * (c.y / 40) + c.x / 40) + 22 * (c.x % 40) + part

/-- The slot of a cluster's own frame. -/
def Cluster.cells (c : Cluster) (ctx : Nat) : Nat := c.slot (c.y % 20) ctx

/-- Part, context and the cluster in the lowest row of the band that a slot's column has. -/
def slotPlace (slot : Nat) : Nat × Nat × Cluster :=
  let f := slot % 168960
  let area := f % 84480 / 880
  (f % 880 % 22, slot / 168960 % 4,
    { layer := slot / 675840, x := 40 * (area % 12) + f % 880 / 22, y := 40 * (area / 12) + 20 * (f / 84480) })

/-- A field of the frame of a cluster's cells and crossbar (parts 0 to 19). -/
def State.cellField (s : State) (c : Cluster) (ctx : Nat) (f : Config.FabField) : Nat := s.field (c.cells ctx) (c.y % 20) f

/-- A field of the column's part 20, for the cluster's row. -/
def State.columnField (s : State) (c : Cluster) (ctx : Nat) (f : Config.FabField) : Nat := s.field (c.slot 20 ctx) (c.y % 20) f

/-- A field of the column's part 21, for the cluster's row. -/
def State.initField (s : State) (c : Cluster) (ctx : Nat) (f : Config.FabField) : Nat := s.field (c.slot 21 ctx) (c.y % 20) f

/-- The slot, in a layer's fixed region, of a joint's or a clamp mode's frame (13 R412). -/
def fixedSlot (layer ctx : Nat) (f : Config.FabField) : Nat :=
  let p := Config.fixedColumn f
  (4 * layer + ctx) * 168960 + 84480 + 880 * (p / 40 % 96) + 22 * (p % 40) + 20

/-- A joint or a clamp mode in a context of its layer's fixed region. -/
def State.fixedField (s : State) (layer ctx : Nat) (f : Config.FabField) : Nat := s.field (fixedSlot layer ctx f) 0 f

/-! ### Span segments, their drivers and joints (R137, R138) -/

/-- A segment of a span. -/
structure SpanSeg where
  layer : Nat
  vertical : Bool
  span : Nat
  segment : Nat
  line : Nat
  deriving DecidableEq, Repr

/-- The segment an operand names. -/
def segOf (g : Seg) : SpanSeg :=
  { layer := g.layer.val, vertical := g.vertical, span := g.span.val, segment := g.segment.val, line := g.line.val }

/-- Key of a segment. -/
def SpanSeg.key (g : SpanSeg) : Nat := (((g.layer * 2 + b2n g.vertical) * 16 + g.span) * 16 + g.segment) * 512 + g.line

/-- The segment with a key. -/
def SpanSeg.ofKey (k : Nat) : SpanSeg :=
  { layer := k / 262144, vertical := decide (k / 131072 % 2 = 1), span := k / 8192 % 16, segment := k / 512 % 16, line := k % 512 }

/-- Segments of a span: 12 in a row, 16 in a column. -/
def SpanSeg.count (g : SpanSeg) : Nat := if g.vertical then 16 else 12

/-- Whether the grid has the segment: rows 0 to 319, columns 0 to 479 (R120, R137). -/
def SpanSeg.there (g : SpanSeg) : Bool :=
  decide (g.layer < 2) && decide (g.span < 16) && decide (g.segment < g.count) && decide (g.line < if g.vertical then 480 else 320)

/-- The region a segment lies in (R137). -/
def SpanSeg.region (g : SpanSeg) : Nat :=
  if g.vertical then bandRegion g.layer g.segment (g.line / 40) else bandRegion g.layer (g.line / 20) g.segment

/-- The clusters a segment passes: 40 of a row, 20 of a column. -/
def SpanSeg.clusters (g : SpanSeg) : List Cluster :=
  if g.vertical then (List.range 20).map (fun i => { layer := g.layer, x := g.line, y := 20 * g.segment + i })
  else (List.range 40).map (fun i => { layer := g.layer, x := 40 * g.segment + i, y := g.line })

/-- A driver of a segment: a cluster's span driver, or the joint buffer from the segment before it (`up`) or after it. -/
inductive SpanDriver where
  | cluster (c : Cluster)
  | joint (up : Bool)
  deriving DecidableEq, Repr

/-- What can drive a segment: its clusters' drivers, then the joints into it (R137, R138). -/
def SpanSeg.drivers (g : SpanSeg) : List SpanDriver :=
  g.clusters.map .cluster ++ (if g.segment = 0 then [] else [.joint true]) ++ (if g.segment + 1 < g.count then [.joint false] else [])

/-- The segment a joint into this one comes from. -/
def SpanSeg.before (g : SpanSeg) (up : Bool) : SpanSeg :=
  { g with segment := if up then g.segment - 1 else g.segment + 1 }

/-- The joint's field: named by its higher segment. -/
def SpanSeg.jointField (g : SpanSeg) (up : Bool) : Config.FabField := .joint (if up then g.key else (g.before false).key) up

/-- The slot that holds a driver's enable, with the contexts of the segment's region and of the fixed region. -/
def SpanSeg.enableSlot (g : SpanSeg) (ctx fixed : Nat) : SpanDriver → Nat
  | .cluster c => c.slot 20 ctx
  | .joint up => fixedSlot g.layer fixed (g.jointField up)

/-- What a driver's configuration gives: 0 for off, else 1 + its source (a joint has one). -/
def State.driverField (s : State) (g : SpanSeg) (ctx fixed : Nat) : SpanDriver → Nat
  | .cluster c => s.columnField c ctx (.span g.vertical g.span)
  | .joint up => s.fixedField g.layer fixed (g.jointField up)

/-- The drivers enabled in a combination of contexts. -/
def State.enabledIn (s : State) (g : SpanSeg) (ctx fixed : Nat) : List SpanDriver :=
  g.drivers.filter (fun d => s.driverField g ctx fixed d != 0)

/-- The combinations of contexts a segment is checked in (R141): 4 in a fixed band, 16 in a hoop. -/
def SpanSeg.combinations (g : SpanSeg) : List (Nat × Nat) :=
  if g.region < 192 then (List.range 4).flatMap (fun c => (List.range 4).map (fun f => (c, f)))
  else (List.range 4).map (fun c => (c, c))

/-- The slot of the frame that enables a segment's second driver in some combination (R141). -/
def State.segContention (s : State) (g : SpanSeg) : Option Nat :=
  g.combinations.findSome? (fun cf =>
    match s.enabledIn g cf.1 cf.2 with
    | _ :: d :: _ => some (g.enableSlot cf.1 cf.2 d)
    | _ => none)

/-- Every segment of the grid (R137). -/
def allSegs : List SpanSeg :=
  (List.range 2).flatMap (fun layer =>
    ((List.range 320).flatMap (fun y => (List.range 12).flatMap (fun seg =>
      (List.range 16).map (fun i => { layer := layer, vertical := false, span := i, segment := seg, line := y })))) ++
    ((List.range 480).flatMap (fun x => (List.range 16).flatMap (fun seg =>
      (List.range 16).map (fun i => { layer := layer, vertical := true, span := i, segment := seg, line := x })))))

/-- The loader's check of a target (R141, R142): 192 for the whole fabric, else the segments of the hoop, whose joints are
those of the fixed region as loaded. The address of the frame that enables a second driver; with no frame written there
is none. -/
def State.contention (s : State) (target : Nat) : Option Nat :=
  if s.frames.isEmpty then none
  else (allSegs.findSome? (fun g => if target = 192 ∨ g.region = target then s.segContention g else none)).map slotFa

/-! ### Cluster wires (R131 to R133) -/

/-- Length of a wire by its number among the 24 of a direction (R131). -/
def wireLength (j : Nat) : Nat := if j < 8 then 1 else if j < 16 then 2 else if j < 20 then 4 else 8

/-- The cluster at a distance in a direction: 0 north, 1 south, 2 east, 3 west; none past the edge of the grid (R133). -/
def Cluster.toward (c : Cluster) (dir n : Nat) : Option Cluster :=
  let d : Option Cluster :=
    match dir with
    | 0 => some { c with y := c.y + n }
    | 1 => if n ≤ c.y then some { c with y := c.y - n } else none
    | 2 => some { c with x := c.x + n }
    | _ => if n ≤ c.x then some { c with x := c.x - n } else none
  d.filter Cluster.there

/-- The direction opposite to one. -/
def facing (dir : Nat) : Nat := if dir % 2 = 0 then dir + 1 else dir - 1

/-- A wire leaves a hoop: it is built, and ends outside the hoop of its source cluster (R132). -/
def Cluster.leaves (c : Cluster) (dir j : Nat) : Bool :=
  match c.toward dir (wireLength j) with
  | some d => decide (c.region < 192) && d.region != c.region
  | none => false

/-- Key of a cluster wire among boundary wires. -/
def Cluster.wireKey (c : Cluster) (dir j : Nat) : Nat := (c.index * 4 + dir) * 24 + j

/-! ### Riser wires (R134 to R136) -/

/-- Riser sites of a facing pair of layers: 120 columns of tiles and 80 rows (R134). -/
def riserSites : Nat := 9600

/-- The south-west cluster of a site on a layer. -/
def siteCluster (layer site : Nat) : Cluster := { layer := layer, x := 4 * (site % 120), y := 4 * (site / 120) }

/-- The site of a cluster's tile. -/
def Cluster.site (c : Cluster) : Nat := c.y / 4 * 120 + c.x / 4

/-- Key of a riser wire's end among boundary wires. -/
def riserKey (layer site w : Nat) : Nat := 2 ^ 40 + (layer * riserSites + site) * 32 + w

/-- Key of a flip-flop's state bit for a context (R126): flip-flop 0 is FF_F, 1 is FF_G. -/
def flopKey (c : Cluster) (cell g ctx : Nat) : Nat := ((c.index * 16 + cell) * 2 + g) * 4 + ctx

/-- Key of a riser register's state bit: of the wire at a layer's end, for a context (05 R163). -/
def riserFlop (layer site w ctx : Nat) : Nat := 2 ^ 40 + ((layer * riserSites + site) * 32 + w) * 4 + ctx

/-- The region of the flip-flop or riser register with a key. -/
def flopRegion (key : Nat) : Nat :=
  if key < 2 ^ 40 then
    let c := key / 128
    Cluster.region { layer := c / 153600, x := c / 320 % 480, y := c % 320 }
  else
    let r := (key - 2 ^ 40) / 128
    (siteCluster (r / riserSites) (r % riserSites)).region

/-- Every state bit of a region holds its initial value again (05 R180). -/
def resetFlops (region : Nat) (s : State) : State := { s with flops := s.flops.filter (fun e => flopRegion e.1 != region) }

/-- What drives a riser wire at a layer's end in a context: 0 for nothing, else 1 + its source (R134, R135). -/
def State.riserDrive (s : State) (layer site w ctx : Nat) : Nat := s.columnField (siteCluster layer site) ctx (.riser w)

/-- The sites and wires that self-test left unrepaired (15 R497), but for those a spare has taken over since the last full
load (R136). -/
def State.wiresOff (s : State) : List (Nat × Nat) :=
  s.riserBad.filter (fun b => !s.riserSpares.any (fun r => r.1 == b.1 && r.2.1 == b.2))

/-- The address of the first frame loaded that uses a riser wire marked off (15 R497): that drives it at either end. -/
def State.riserUse (s : State) (target : Nat) : Option Nat :=
  s.wiresOff.findSome? (fun b =>
    (List.range 2).findSome? (fun layer =>
      let c := siteCluster layer b.1
      if target = 192 ∨ c.region = target then
        ((List.range 4).find? (fun ctx => s.riserDrive layer b.1 b.2 ctx != 0)).map (fun ctx => slotFa (c.slot 20 ctx))
      else none))

/-! ### Clamp modes (05 R178) -/

/-- The wires of a layer that leave its hoops, by key. -/
def leavingWires (layer : Nat) : List Nat :=
  let clusters := (List.range 480).flatMap (fun x => (List.range 320).map (fun y => ({ layer := layer, x := x, y := y } : Cluster)))
  let wires := clusters.flatMap (fun c => (List.range 4).flatMap (fun dir =>
    ((List.range 24).filter (fun j => c.leaves dir j)).map (fun j => c.wireKey dir j)))
  wires ++ ((List.range riserSites).filter (fun t => decide ((siteCluster layer t).region < 192))).flatMap (fun t =>
    (List.range 32).map (fun w => riserKey layer t w))

/-- The address of a fixed-region frame that gives a clamp mode 0b11, which the loader rejects. -/
def State.clampFault (s : State) : Option Nat :=
  if s.frames.isEmpty then none
  else (List.range 2).findSome? (fun layer => (List.range 4).findSome? (fun ctx =>
    ((leavingWires layer).find? (fun k => s.fixedField layer ctx (.clamp k) == 3)).map (fun k =>
      slotFa (fixedSlot layer ctx (.clamp k)))))

end Sys2Proof.Machine
end

