-- ==== Sys2Proof/Machine/Frame.lean ====
section
/-!
DEFINITION. The crossing frame (03 R76 to R82): sync word, tag, type, payload and CRC-32C, and the scrambler. A frame of
M bits is the number whose most significant of M bits is frame bit 0.
-/
namespace Sys2Proof.Machine

/-- The sync word of a tag: by its parity (R77). -/
def syncWord (tag : Nat) : Nat := if tag % 2 = 0 then 0xE3B1 else 0x1C4E

/-- Run the scrambler over the low `n` bits of a number, most significant first: each bit is XORed with
b = s[30] xor s[27], and the register shifts b in (R80). -/
def scrambleBits (v : Nat) : Nat → Nat → Nat → Nat
  | 0, _, acc => acc
  | n + 1, st, acc =>
    let b := st.testBit 30 != st.testBit 27
    scrambleBits v n ((st * 2) % 2 ^ 31 + b2n b) (acc * 2 + b2n (v.testBit n != b))

/-- Scramble or descramble the `n` bits from frame bit 24 on, for a tag (R80). -/
def scramble (tag v n : Nat) : Nat := scrambleBits v n (tag % 256 * 2 ^ 23 + 0x555555) 0

/-- Run CRC-32C over the low `n` bits of a number, most significant first (R81). -/
def crc32cBits (v : Nat) : Nat → Nat → Nat
  | 0, reg => reg
  | n + 1, reg =>
    let fb := reg.testBit 31 != v.testBit n
    let sh := (reg * 2) % 2 ^ 32
    crc32cBits v n (if fb then sh ^^^ 0x1EDC6F41 else sh)

/-- CRC-32C of the low `n` bits of a number: initial value all ones, final value complemented (R81). -/
def crc32c (v n : Nat) : Nat := 0xFFFFFFFF ^^^ crc32cBits v n 0xFFFFFFFF

/-- The bits under the CRC: tag, type, payload of M - 64 bits (R76). -/
def frameBody (m tag typ payload : Nat) : Nat :=
  (tag % 256 * 256 + typ % 256) * 2 ^ (m - 64) + payload % 2 ^ (m - 64)

/-- Build a frame of `m` bits with the sync word and CRC given (R76, R80, R81). -/
def buildFrame (m sync tag typ payload crc : Nat) : Nat :=
  let plain := (typ % 256 * 2 ^ (m - 64) + payload % 2 ^ (m - 64)) * 2 ^ 32 + crc % 2 ^ 32
  (sync * 256 + tag % 256) * 2 ^ (m - 24) + scramble tag plain (m - 24)

/-- The frame a transmitter sends (R76 to R81). -/
def txFrame (m tag typ payload : Nat) : Nat :=
  buildFrame m (syncWord tag) tag typ payload (crc32c (frameBody m tag typ payload) (m - 48))

/-- A received frame taken apart: whether its sync word matches its tag parity, and its content (R82). -/
def parseFrame (m f : Nat) : Bool × RxFrame :=
  let sync := f / 2 ^ (m - 16) % 2 ^ 16
  let tag := f / 2 ^ (m - 24) % 256
  let plain := scramble tag (f % 2 ^ (m - 24)) (m - 24)
  let typ := plain / 2 ^ (m - 32) % 256
  let payload := plain / 2 ^ 32 % 2 ^ (m - 64)
  (sync == syncWord tag,
    { sync := sync, tag := tag, typ := typ, payload := payload
      crcOk := crc32c (frameBody m tag typ payload) (m - 48) == plain % 2 ^ 32 })

/-- Type fields (R79): poison, kind, steer with other values read as 0, user. -/
def typPoison (t : Nat) : Bool := t.testBit 7
def typKind (t : Nat) : Nat := t / 32 % 4
def typSteer (t : Nat) : Nat := if t.testBit 4 then t / 2 % 16 else 0
def typUser (t : Nat) : Nat := t % 2

/-- The type field of its parts (R79). -/
def mkTyp (poison : Bool) (kind steer : Nat) (user : Bool) : Nat :=
  b2n poison * 128 + kind % 4 * 32 + steer % 16 * 2 + b2n user

end Sys2Proof.Machine
end

