-- ==== Sys2Proof/Machine/MachineTime.lean ====
section
/-!
DEFINITION. Machine time, the ruling table and powered time (02): the states of machine time, markers, loss and return
of the clock, the ruling table's banks and read-ahead, the event comparators and the snapshot.
-/
namespace Sys2Proof.Machine

/-- Answer a register write with the status its rule gives. -/
def reply (r : State × Status) : Out := .next (r.1.answer r.2)

/-! ### States of machine time (R41) -/

/-- The machine-time states (R41). -/
inductive MtSt where
  | free | acquire | aligned | slipped | coasting
  deriving DecidableEq, Repr

/-- MTIME_STATUS.state (R69). -/
def MtSt.code : MtSt → Nat
  | .free => 0 | .acquire => 1 | .aligned => 2 | .slipped => 3 | .coasting => 4

/-- The state a code stands for; the register holds no other code. -/
def MtSt.ofCode : Nat → MtSt
  | 0 => .free | 1 => .acquire | 2 => .aligned | 3 => .slipped | _ => .coasting

/-- The present machine-time state. -/
def State.mtSt (s : State) : MtSt := MtSt.ofCode (s.get F.mtimeStatusState)

/-- Show a machine-time state in MTIME_STATUS. -/
def State.showMt (s : State) (m : MtSt) : State := s.put F.mtimeStatusState m.code

/-- The mode code of a timing bundle (03 R73). -/
def modeTiming : Nat := 3

/-- The source is the .CK lane of a bundle in timing mode (R30); selecting any other bundle has no effect (03 R73). -/
def State.timingSrc (s : State) : Bool :=
  s.get F.mtimeCtrlSrc == 1 && decide (s.get F.mtimeCtrlTbundle ≤ 47) &&
    s.get F.laneCfgMode (s.get F.mtimeCtrlTbundle) == modeTiming

/-- The selected source can have a machine clock: the pins, or a bundle in timing mode (R30, 03 R73). -/
def State.externalSrc (s : State) : Bool := s.get F.mtimeCtrlSrc == 0 || s.timingSrc

/-- The search for markers, or the check of R47, begins now. -/
def State.beginSearch (s : State) : State :=
  { s with mt := { s.mt with searchCross := 0, searchLate := false, markerAges := [] } }

/-- Enter FREE: coasting and unaligned set, nothing followed (R41). -/
def State.enterFree (s : State) : State :=
  let s := ((s.showMt .free).flag F.mtimeStatusCoasting).flag F.mtimeStatusUnaligned
  { s with mt := { s.mt with pullIn := false, locked := false, returnCheck := false, checked := 0, renumber := none } }

/-- Enter ACQUIRE: unaligned set, no coasting; the generator pulls in unless it is locked already (R41, R633). -/
def State.enterAcquire (s : State) (locked : Bool) : State :=
  let s := ((s.showMt .acquire).clear F.mtimeStatusCoasting).flag F.mtimeStatusUnaligned
  let s := { s with mt := { s.mt with pullIn := !locked, locked := locked, returnCheck := false, checked := 0,
                                      renumber := none } }
  s.beginSearch

/-- Enter ALIGNED: no flags, both runs of R43 start anew. -/
def State.enterAligned (s : State) : State :=
  let s := ((s.showMt .aligned).clear F.mtimeStatusCoasting).clear F.mtimeStatusUnaligned
  { s with mt := { s.mt with badRun := 0, goodRun := 0, returnCheck := false, checked := 0, renumber := none } }

/-- Enter SLIPPED: unaligned set, MTIME_SLIP raised (R41). -/
def State.enterSlipped (s : State) : State :=
  let s := (s.showMt .slipped).flag F.mtimeStatusUnaligned
  let s := { s with mt := { s.mt with badRun := 0, goodRun := 0, returnCheck := false, checked := 0 } }
  s.raise .mtimeSlip

/-! ### Source, nominal period, realignment, orbit load -/

/-- Which clock a source setting selects: none for internal only (R30). -/
def srcOf (src tbundle : Nat) : Option Nat :=
  if src = 0 then some 64 else if src = 1 ∧ tbundle ≤ 47 then some tbundle else none

/-- Write MTIME_CTRL.src and tbundle; a change of the selected source enters ACQUIRE, or FREE for internal only
(R30). Both fields are RWL. -/
def mtSource (src tbundle : Nat) (s : State) : State :=
  if s.bit F.mtimeCtrlLock then s
  else
    let old := srcOf (s.get F.mtimeCtrlSrc) (s.get F.mtimeCtrlTbundle)
    let s := (s.put F.mtimeCtrlSrc src).put F.mtimeCtrlTbundle tbundle
    let new := srcOf src tbundle
    if old = new then s
    else
      let s := (s.put F.mtimeMeasPeriodVal 0).clear F.mtimeStatusSrcPresent
      let s := clkRequest 20 (new.getD 65) (s.clear F.mtimeStatusFreqMismatch)
      if new.isSome then s.enterAcquire false else s.enterFree

/-- MTIME_SRC_CHANGE: a write of MTIME_CTRL.src (R30). -/
def execMtimeSrcChange (src : BitVec 2) (s : State) : Out :=
  reply (mtSource src.toNat (s.get F.mtimeCtrlTbundle) s, .ok)

/-- Realign (R41, R44): ACQUIRE is entered from ALIGNED or SLIPPED, where the generator is locked; in ACQUIRE the
search starts anew; FREE and COASTING are left only as R41 and R47 say. -/
def mtRealign (s : State) : State :=
  match s.mtSt with
  | .aligned | .slipped => s.enterAcquire true
  | .acquire => { s with mt := { s.mt with renumber := none } }.beginSearch
  | .free | .coasting => s

/-- MTIME_REALIGN: a write of MTIME_CTRL.realign (R44). -/
def execMtimeRealign (s : State) : Out := reply (mtRealign s, .ok)

/-- Arrange for the orbit counter to take MTIME_ORBIT_LOAD (R39). -/
def mtOrbitLoad (s : State) : State := { s with mt := { s.mt with orbitLoad := true } }

/-- MTIME_ORBIT_LOAD: a write of MTIME_CTRL.orbit_load (R39). -/
def execMtimeOrbitLoad (s : State) : Out := reply (mtOrbitLoad s, .ok)

/-- A write of MTIME_CTRL: source fields, lock, orbit load and realignment (R69). -/
def mtCtrlWrite (v : Nat) (s : State) : State × Status :=
  let s := mtSource (bits v 1 0) (bits v 13 8) s
  let s := if bitAt v 7 then s.flag F.mtimeCtrlLock else s
  let s := if bitAt v 30 then mtOrbitLoad s else s
  (if bitAt v 31 then mtRealign s else s, .ok)

/-- A frequency with period `t` is more than 200 ppm from that with period `nom` (R41, R45). -/
def freqOff (t nom : Nat) : Bool := decide (200 * t < 1000000 * ((t - nom) + (nom - t)))

/-- MTIME_STATUS.freq_mismatch follows the measured period and the nominal one (R48). -/
def State.checkFreq (s : State) : State :=
  let m := s.get F.mtimeMeasPeriodVal
  s.putBit F.mtimeStatusFreqMismatch (m != 0 && freqOff m (s.get F.mtimeNomPeriodVal))

/-- A write of MTIME_NOM_PERIOD: refused out of range, with bad_period (R48). -/
def mtNomPeriod (v : Nat) (s : State) : State × Status :=
  if s.bit F.mtimeCtrlLock then (s, .ok)
  else if v < 12500000 ∨ 100000000 < v then (s.flag F.mtimeErrBadPeriod, .ok)
  else ((s.put F.mtimeNomPeriodVal v).checkFreq, .ok)

/-- MTIME_NOM_PERIOD_WRITE (R48). -/
def execMtimeNomPeriodWrite (v : Word) (s : State) : Out := reply (mtNomPeriod v.toNat s)

/-! ### Clock events -/

/-- CLOCK_QUALIFIED (R41, R47): the selected clock, `measured` fs per period, has been within 200 ppm of nominal for
1,024 periods. FREE becomes ACQUIRE; COASTING begins its return; the generator pulls in. -/
def execClockQualified (measured : Nat) (s : State) : Out :=
  .next <|
    if !s.externalSrc || freqOff measured (s.get F.mtimeNomPeriodVal) then s
    else
      let s := ((s.put F.mtimeMeasPeriodVal measured).flag F.mtimeStatusSrcPresent).checkFreq
      match s.mtSt with
      | .free => s.enterAcquire false
      | .coasting => if s.mt.locked then s else { s with mt := { s.mt with pullIn := true } }
      | .acquire | .aligned | .slipped => s

/-- PHASE_LOCK (R633, R47): the pull-in ends. In ACQUIRE the search begins; in COASTING the coasting flag clears and
the return is decided, or ACQUIRE is entered when the clock was lost there. -/
def execPhaseLock (s : State) : Out :=
  .next <|
    if !s.mt.pullIn || !s.externalSrc then s
    else
      -- The generator locks to edges of the selected source: they are present (R69).
      let s := { s.flag F.mtimeStatusSrcPresent with mt := { s.mt with pullIn := false, locked := true } }
      match s.mtSt with
      | .coasting =>
        if s.mt.lostInAcquire then s.enterAcquire true
        else
          let s := s.clear F.mtimeStatusCoasting
          { s with mt := { s.mt with returnCheck := true, checked := 0 } }.beginSearch
      | .acquire => s.beginSearch
      | .free | .aligned | .slipped => s

/-- MARKER_SEARCH_TIMEOUT (R42): 65,536 crossings of the search have passed in ACQUIRE. -/
def execMarkerSearchTimeout (s : State) : Out :=
  .next <|
    if s.mtSt = .acquire ∧ s.mt.locked ∧ 65536 ≤ s.mt.searchCross ∧ s.mt.searchLate = false then
      let s := { s with mt := { s.mt with searchLate := true } }
      (s.flag F.mtimeErrMarkerMissing).raise .mtimeNoMarker
    else s

/-- COAST_RETURN_TIMEOUT (R47): 65,536 crossings of the check on return have passed without two markers. -/
def execCoastReturnTimeout (s : State) : Out :=
  .next <|
    if s.mtSt = .coasting ∧ s.mt.returnCheck ∧ 65536 ≤ s.mt.searchCross then
      ((s.flag F.mtimeErrMarkerMissing).raise .mtimeNoMarker).enterSlipped
    else s

/-- The crossing index the counter takes at the next boundary when it is not realigned (R37). -/
def State.nextCross (s : State) : Nat := if s.orbitLen ≤ s.mt.cross + 1 then 0 else s.mt.cross + 1

/-- The stamp of the next crossing, with the flags as they stand. -/
def State.nextStamp (s : State) : Nat :=
  let orbit := if s.nextCross ≠ 0 then s.mt.orbit
    else if s.mt.orbitLoad then s.pair .mtimeOrbitLoadLo .mtimeOrbitLoadHi % 2 ^ 48 else (s.mt.orbit + 1) % 2 ^ 48
  ({ s with mt := { s.mt with cross := s.nextCross, orbit := orbit } }).stamp

/-- Declare loss of the machine clock (R45, R633): COASTING with the coasting flag set, MTIME_COAST_T, clk_lost,
MTIME_COAST. With the coasting flag still set nothing is declared: a pull-in in COASTING is abandoned. -/
def mtLoss (begun : Bool) (s : State) : State :=
  let s := ((s.put F.mtimeMeasPeriodVal 0).clear F.mtimeStatusSrcPresent).clear F.mtimeStatusFreqMismatch
  if s.bit F.mtimeStatusCoasting then { s with mt := { s.mt with pullIn := false } }
  else
    let s := { s with mt := { s.mt with lostInAcquire := s.mtSt == MtSt.acquire, pullIn := false, locked := false,
                                        returnCheck := false, checked := 0, renumber := none, markerNext := none,
                                        heldLanes := true } }
    let s := (s.showMt .coasting).flag F.mtimeStatusCoasting
    let t := if begun then s.stamp else s.nextStamp
    ((s.setPair .mtimeCoastTLo .mtimeCoastTHi t).flag F.mtimeErrClkLost).raise .mtimeCoast 0 t

/-- MACHINE_CLOCK_LOSS (R45): no edge within 1.5 periods. `begun`: the first crossing that lacked an edge has begun. -/
def execMachineClockLoss (begun : Bool) (s : State) : Out := .next (if s.externalSrc then mtLoss begun s else s)

/-- FREQ_WINDOW_END (R45): the 1,024-period window ends with `measured` fs per period; more than 200 ppm from nominal
is loss of the clock. -/
def execFreqWindowEnd (measured : Nat) (s : State) : Out :=
  .next <|
    if !s.externalSrc then s
    else
      let s := ((s.put F.mtimeMeasPeriodVal measured).flag F.mtimeStatusSrcPresent).checkFreq
      if freqOff measured (s.get F.mtimeNomPeriodVal) && !s.bit F.mtimeStatusCoasting then
        -- the clock is still there: its measurement and mismatch stay visible (R48)
        (((mtLoss false s).put F.mtimeMeasPeriodVal measured).flag F.mtimeStatusSrcPresent).checkFreq
      else s

/-! ### Markers (R32, R41, R43, R47) -/

/-- The index of the marker crossing: MTIME_ORBIT_OFS modulo the orbit length (R38). -/
def State.markerIndex (s : State) : Nat := s.get F.mtimeOrbitOfsVal % s.orbitLen

/-- The orbit length of the crossing that begins at the next boundary: a committed swap gives the new orbit the shadow
length from its crossing 0 on (R58, R60). -/
def State.nextLen (s : State) : Nat :=
  if s.nextCross = 0 ∧ s.mt.swapCommitted = true then s.get F.mtimeRtCtrlShadowLen + 1 else s.orbitLen

/-- The crossing that begins at the next boundary is the marker crossing under the numbering that runs (R43). -/
def State.markerDue (s : State) : Bool := s.nextCross == s.get F.mtimeOrbitOfsVal % s.nextLen

/-- The orbit of the marked crossing already has an expected, a misplaced marker. -/
def State.orbitSeen (s : State) : Bool × Bool :=
  if s.nextCross = 0 then (false, false) else (s.mt.seenGood, s.mt.seenBad)

/-- A marker in ACQUIRE: the second of two exactly one orbit apart renumbers the crossing it marks (R41). -/
def markerAcquire (s : State) : State :=
  if !s.mt.locked then s
  else
    let found := s.mt.markerAges.contains s.orbitLen
    let ages := 0 :: s.mt.markerAges
    { s with mt := { s.mt with renumber := if found then some s.markerIndex else s.mt.renumber, markerAges := ages } }

/-- A marker in ALIGNED (R43): misplaced markers in 3 orbits in a row that carry one lead to SLIPPED. In an orbit that
carries both an expected and a misplaced marker the first of the two decides: the spec does not say (DESIGN CHOICE, log
entry 108). -/
def markerAligned (good : Bool) (s : State) : State :=
  if good then (if s.orbitSeen.2 then s else { s with mt := { s.mt with badRun := 0 } })
  else
    let n := if s.orbitSeen.2 then s.mt.badRun else s.mt.badRun + 1
    let s := { s.flag F.mtimeErrMarkerMisplaced with mt := { s.mt with badRun := n } }
    if 3 ≤ n then s.enterSlipped else s

/-- A marker in SLIPPED (R43): markers at the expected index in 3 orbits in a row that carry one lead to ALIGNED. -/
def markerSlipped (good : Bool) (s : State) : State :=
  if good then
    if s.orbitSeen.1 || s.orbitSeen.2 then s
    else
      let s := { s with mt := { s.mt with goodRun := s.mt.goodRun + 1 } }
      if 3 ≤ s.mt.goodRun then s.enterAligned else s
  else { s.flag F.mtimeErrMarkerMisplaced with mt := { s.mt with goodRun := 0 } }

/-- A marker during the check on return (R47): two at the expected index lead to ALIGNED, any other to SLIPPED. -/
def markerReturn (good : Bool) (s : State) : State :=
  if !s.mt.returnCheck then s
  else if good then
    let s := { s with mt := { s.mt with checked := s.mt.checked + 1 } }
    if 2 ≤ s.mt.checked then s.enterAligned else s
  else (s.flag F.mtimeErrMarkerMisplaced).enterSlipped

/-- An orbit marker for the crossing that begins at the next boundary, in the present state (R41, R43, R47). -/
def orbitMarker (s : State) : State :=
  let good := s.markerDue
  let t := match s.mtSt with
    | .free => s
    | .acquire => markerAcquire s
    | .aligned => markerAligned good s
    | .slipped => markerSlipped good s
    | .coasting => markerReturn good s
  { t with mt := { t.mt with markerNext := some good } }

/-- ORBIT_MARKER (R32, R41, R43, R47): a marker is sampled for the crossing that begins at the next boundary. `wide`:
it stays high for more than one crossing. -/
def execOrbitMarker (wide : Bool) (s : State) : Out :=
  .next (if !s.externalSrc then s else orbitMarker (if wide then s.flag F.mtimeErrMarkerWide else s))

/-- What the pattern of a timing bundle's .CK lane says of the crossing it begins (R33): a marker pattern is the orbit
marker of that crossing, unless ORBIT_MARKER has reported it; any pattern but the two is a symbol error. -/
def ckPattern (ck : BitVec 16) (s : State) : State :=
  if !s.timingSrc || ck == 0xFF00 then s
  else if ck == 0xF000 then (if s.mt.markerNext.isNone then orbitMarker s else s)
  else { s with mt := { s.mt with symErr := s.mt.symErr + 1 } }

/-! ### The ruling table (R49 to R61) -/

/-- Whether bank 1 is the active one. -/
def State.activeBank (s : State) : Bool := s.bit F.mtimeRtStatusActiveBank

/-- The stored entry at an index of a bank (true: bank 1). -/
def State.rtWord (s : State) (bank : Bool) (c : Nat) : RtWord :=
  Tab.get (0, 0) (if bank then s.mt.bank1 else s.mt.bank0) c

/-- Store an entry at an index of a bank. -/
def State.setRtWord (s : State) (bank : Bool) (c : Nat) (w : RtWord) : State :=
  if bank then { s with mt := { s.mt with bank1 := Tab.put (0, 0) s.mt.bank1 c w } }
  else { s with mt := { s.mt with bank0 := Tab.put (0, 0) s.mt.bank0 c w } }

/-- The substitute entry of R61: everything holds, no marks, no gap, class MTIME_RT_CTRL.fallback_class. -/
def State.rtSubstitute (s : State) : DWord := BitVec.ofNat 64 (s.get F.mtimeRtCtrlFallbackClass * 2 ^ 41)

/-- A read of the read-ahead (R61): a single-bit error is corrected, written back and counted; an uncorrectable entry,
the poison syndrome included, is replaced by the substitute, counted and reported. -/
def rtFetch (s : State) (bank : Bool) (c : Nat) : DWord × State :=
  let w := s.rtWord bank c
  match eccRead w.1 w.2 with
  | .good d false => (d, s)
  | .good d true => (d, (s.setRtWord bank c (d, eccCheck d)).bump F.mtimeRtStatusCorrected)
  | .poisoned _ | .uncorrectable _ =>
    let s := (s.bump F.mtimeRtStatusUncorrectable).flag F.mtimeErrRtUncorrectable
    (s.rtSubstitute, s.raise .mtimeRtUncorrectable 0 c)

/-- The fields of an entry (R49): bits [63:60] and [39:24] are reserved, read 0 and ignore writes (00 R7). -/
def rtFields : Nat := 0x0FFFFF0000FFFFFF

/-- The 32-bit half of an entry as a register read returns it: corrected where possible (R57). -/
def rtHalf (s : State) (bank : Bool) (half : Nat) : Word :=
  let w := s.rtWord bank (half / 2)
  BitVec.ofNat 32 (((eccRead w.1 w.2).data.toNat &&& rtFields) / (if half % 2 = 1 then 2 ^ 32 else 1))

/-- A write of one half of an entry through the shadow window (R57, R59). -/
def rtShadowWrite (half : Nat) (v : Nat) (s : State) : State × Status :=
  if s.bit F.mtimeRtStatusSwapPending then (s, .busy)
  else
    let bank := !s.activeBank
    let w := s.rtWord bank (half / 2)
    let r := eccRead w.1 w.2
    let d := BitVec.ofNat 64 ((if half % 2 = 1 then setBits r.data.toNat 63 32 v else setBits r.data.toNat 31 0 v)
      &&& rtFields)
    let s := s.setRtWord bank (half / 2) (d, eccCheck d)
    (if r.poison then s.flag F.mtimeErrRtMergeUe else s, .ok)

/-- RT_SHADOW_WRITE (R57): `half` is twice the entry's index, plus 1 for bits [63:32]. -/
def execRtShadowWrite (half : Fin 32768) (v : Word) (s : State) : Out := reply (rtShadowWrite half v.toNat s)

/-- A write of MTIME_RT_CTRL (R58 to R60): BUSY while a swap is pending; a swap request for an orbit shorter than 256
crossings sets bad_len. -/
def rtCtrlWrite (v : Nat) (s : State) : State × Status :=
  if s.bit F.mtimeRtStatusSwapPending then (s, .busy)
  else
    let s := (s.put F.mtimeRtCtrlShadowLen (bits v 29 16)).put F.mtimeRtCtrlFallbackClass (bits v 10 8)
    if !bitAt v 31 then (s, .ok)
    else if bits v 29 16 < 255 then (s.flag F.mtimeErrBadLen, .ok)
    else ((s.flag F.mtimeRtCtrlSwap).flag F.mtimeRtStatusSwapPending, .ok)

/-- RT_SWAP_REQUEST (R58): a write of MTIME_RT_CTRL. -/
def execRtSwapRequest (v : Word) (s : State) : Out := reply (rtCtrlWrite v.toNat s)

/-- Commit a swap at the boundary of crossing L - 2 (R58): the entry for crossing 0 of the next orbit is read from the
shadow bank. -/
def rtCommit (s : State) : State :=
  if !s.mt.swapDue then s
  else
    let s := { s with mt := { s.mt with swapDue := false, swapCommitted := true } }
    let (e, s) := rtFetch s (!s.activeBank) 0
    { s with mt := { s.mt with ahead2 := e } }

/-- RT_SWAP_COMMIT (R58). -/
def execRtSwapCommit (s : State) : Out := .next (rtCommit s)

/-- A write of MTIME_STEALn: it takes effect at the next return to 0 (R54). -/
def stealWrite (i : Nat) (v : Nat) (s : State) : State × Status :=
  let s := (s.put F.mtimeStealEn (bits v 31 31) i).put F.mtimeStealCount (bits v 27 14) i
  (s.put F.mtimeStealStart (bits v 13 0) i, .ok)

/-- STEAL_WINDOW_WRITE (R54). -/
def execStealWindowWrite (i : Fin 4) (v : Word) (s : State) : Out := reply (stealWrite i v.toNat s)

/-- Whether a crossing index lies in a stolen window; a window ends at the last crossing of the orbit (R54). -/
def inSteal (w : Word) (c : Nat) : Bool :=
  bitAt w.toNat 31 && decide (bits w.toNat 13 0 ≤ c) && decide (c ≤ bits w.toNat 13 0 + bits w.toNat 27 14)

/-- The effective gap flag of the present crossing (R53). -/
def State.gapNow (s : State) : Bool := bitAt s.mt.entry.toNat 40 || s.mt.steal.any (fun w => inSteal w s.mt.cross)

/-- The ruling marks of the present crossing (R49, R55). -/
def State.marks (s : State) : Nat := bits s.mt.entry.toNat 51 44

/-- The switch field of a group in the entry in effect: the context to switch to, if any (R50). -/
def State.groupField (s : State) (g : Nat) : Option Nat :=
  let f := bits s.mt.entry.toNat (3 * g + 2) (3 * g)
  if 4 ≤ f then some (f - 4) else none

/-- The time port of a crossing (R52). -/
structure TimePort where
  cross : Nat
  orbit : Nat
  phase : Nat
  cls : Nat
  user : Nat
  mark : Nat
  gap : Bool
  coast : Bool
  unaligned : Bool
  event : BitVec 16
  deriving DecidableEq, Repr

/-- TP_PHASE (R52): the fabric clock within the crossing, 0 to k - 1: the edges of FCLK0 made since the boundary, of k0
a crossing (04 R148). -/
def State.tpPhase (s : State) : Nat := s.mt.fabTick * s.get F.fabFclkCtrlK0 / fabGrid % 32

/-- What the time port delivers in the present crossing (R52). -/
def State.timePort (s : State) : TimePort :=
  { cross := s.mt.cross, orbit := s.mt.orbit, phase := s.tpPhase, cls := bits s.mt.entry.toNat 43 41
    user := bits s.mt.entry.toNat 59 52, mark := s.marks, gap := s.gapNow
    coast := s.bit F.mtimeStatusCoasting, unaligned := s.bit F.mtimeStatusUnaligned, event := s.mt.tpEvent }

/-! ### The crossing boundary (R34 to R39, R43, R58, R61) -/

/-- The signed jump of a realignment from index `old` to `new` in an orbit of `l` crossings, reduced into -l/2 ..
(l+1)/2 - 1 and given in two's complement (R44). -/
def jumpOf (old new l : Nat) : Nat :=
  let d := (new + l - old % l) % l
  if d < (l + 1) / 2 then d else 2 ^ 64 - (l - d)

/-- The marker bookkeeping of a boundary whose crossing is in a new orbit (`fresh`) or not (R43). -/
def markerStep (fresh : Bool) (s : State) : State :=
  let missing := fresh && !s.mt.seenGood && !s.mt.seenBad && (s.mtSt == MtSt.aligned || s.mtSt == MtSt.slipped)
  let s := if missing then s.flag F.mtimeErrMarkerMissing else s
  let g := if fresh then false else s.mt.seenGood
  let b := if fresh then false else s.mt.seenBad
  { s with mt := { s.mt with seenGood := g || s.mt.markerNext == some true
                             seenBad := b || s.mt.markerNext == some false, markerNext := none } }

/-- Exchange the banks and take the shadow length, when a swap is committed (R58). -/
def rtExchange (s : State) : State :=
  if !s.mt.swapCommitted then s
  else
    let s := (s.putBit F.mtimeRtStatusActiveBank (!s.activeBank)).put F.mtimeOrbitLenVal (s.get F.mtimeRtCtrlShadowLen)
    let s := (s.clear F.mtimeRtStatusSwapPending).clear F.mtimeRtCtrlSwap
    { s with mt := { s.mt with swapCommitted := false } }

/-- Read the entry two crossings ahead of the present one (R58, R61). At the boundary of crossing L - 2 with a swap
waiting, the read is left to the commit. -/
def readAhead (s : State) : State :=
  let t := s.mt.cross + 2
  let l := s.orbitLen
  if t < l then
    let (e, s) := rtFetch s s.activeBank t
    { s with mt := { s.mt with ahead2 := e } }
  else if t = l ∧ s.bit F.mtimeRtStatusSwapPending ∧ s.mt.swapCommitted = false then
    { s with mt := { s.mt with swapDue := true, ahead2 := s.rtSubstitute } }
  else
    let (e, s) := rtFetch s (if s.mt.swapCommitted then !s.activeBank else s.activeBank) (t - l)
    { s with mt := { s.mt with ahead2 := e } }

/-- Count a boundary in the search for markers (R42, R47). -/
def searchStep (s : State) : State :=
  { s with mt := { s.mt with searchCross := s.mt.searchCross + 1
                             markerAges := (s.mt.markerAges.map (· + 1)).filter (fun a => decide (a ≤ s.orbitLen)) } }

/-- The counters at a boundary: crossing, orbit, orbit load, banks, stolen windows (R37, R39, R54, R58). -/
def countStep (s : State) : State :=
  let plain := s.nextCross
  let c := s.mt.renumber.getD plain
  let load := s.mt.orbitLoad && (c == 0 || plain == 0)
  let orbit := if load then s.pair .mtimeOrbitLoadLo .mtimeOrbitLoadHi % 2 ^ 48
    else if c = 0 then (s.mt.orbit + 1) % 2 ^ 48 else s.mt.orbit
  let s := { s with mt := { s.mt with cross := c, orbit := orbit, orbitLoad := s.mt.orbitLoad && !load } }
  if c = 0 then
    let s := rtExchange { s with mt := { s.mt with prevLen := s.orbitLen } }
    { s with mt := { s.mt with steal := [s.word .mtimeSteal 0, s.word .mtimeSteal 1, s.word .mtimeSteal 2,
                                         s.word .mtimeSteal 3] } }
  else s

/-- The machine-time part of a crossing boundary. A swap whose commit was due is committed first; a renumbering that
changes the index discards the entries read ahead and runs two crossings on the substitute (R61). -/
def mtBoundary (ck : BitVec 16) (s : State) : State :=
  let s := ckPattern ck (rtCommit s)
  let plain := s.nextCross
  let l := s.orbitLen
  let renumber := s.mt.renumber
  let s := markerStep (renumber.getD plain == 0) s
  let s := countStep s
  let s := searchStep { s with mt := { s.mt with tpEvent := 0, boundary := s.mt.boundary + 1 } }
  match renumber with
  | none =>
    let s := { s with mt := { s.mt with entry := s.mt.ahead1, ahead1 := s.mt.ahead2 } }
    readAhead s
  | some c =>
    let s := s.enterAligned
    if c = plain then
      let s := { s with mt := { s.mt with entry := s.mt.ahead1, ahead1 := s.mt.ahead2 } }
      readAhead s
    else
      let s := s.raise .mtimeRealigned 0 (jumpOf plain c l)
      let s := { s with mt := { s.mt with entry := s.rtSubstitute, ahead1 := s.rtSubstitute, swapDue := false } }
      readAhead s

/-! ### Event comparators (R62 to R64) -/

/-- The orbit:crossing a comparator waits for; the flag bits of the target are ignored (R62). -/
def State.evtTarget (s : State) (n : Nat) : Nat := s.pair .mtimeEvtTLo .mtimeEvtTHi n % 2 ^ 62

/-- A write of a comparator's target clears arm first, without firing (R64). -/
def evtTargetWrite (n : Nat) (high : Bool) (v : Word) (s : State) : State × Status :=
  ((s.clear F.mtimeEvtCtrlArm n).setWord (if high then .mtimeEvtTHi else .mtimeEvtTLo) v n, .ok)

/-- EVT_TARGET_WRITE (R64). -/
def execEvtTargetWrite (n : Fin 16) (high : Bool) (v : Word) (s : State) : Out := reply (evtTargetWrite n high v s)

/-- The MTIME interrupt: pending in mip bit 16 of every core that is out of reset (12 R376). -/
def irqToCores (s : State) : State :=
  (List.range 128).foldl
    (fun s n =>
      let st := s.get F.qcStatusState n
      if 2 ≤ st ∧ st ≤ 5 then
        let c : CoreSt := Tab.get {} s.cores n
        { s with cores := Tab.put {} s.cores n { c with csrs := Tab.put 0 c.csrs 0x344 (Tab.get 0 c.csrs 0x344 ||| 2 ^ 16) } }
      else s) s

/-- Comparator `n` fires now (R62, R63): its actions, fired, late when the target has passed, arm cleared. A late bit that
software has not cleared stays set when a later firing is in time (DESIGN CHOICE, log entry 108). The MTIME interrupt goes
to Sceum and to the Quill interrupt inputs. -/
def evtFire (n : Nat) (s : State) : State :=
  let now := s.stamp % 2 ^ 62
  let late := decide (s.evtTarget n < now)
  let s := (s.flag F.mtimeEvtCtrlFired n).clear F.mtimeEvtCtrlArm n
  let s := if late then (s.flag F.mtimeEvtCtrlLate n).flag F.mtimeErrEvtLate else s
  let s := if s.bit F.mtimeEvtCtrlActFabric n then
      { s with mt := { s.mt with tpEvent := s.mt.tpEvent ||| (1 <<< n) } } else s
  let s := if s.bit F.mtimeEvtCtrlActIrq n then
      irqToCores { s with scm := { s.scm with mtimeIrq := s.scm.mtimeIrq ||| (1 <<< n) } } else s
  if s.bit F.mtimeEvtCtrlActHost n then s.raise .mtimeEvent (objWord 13 n) s.stamp else s

/-- EVENT_COMPARATOR_FIRE (R62): an armed comparator whose target is reached fires. -/
def execEventComparatorFire (n : Fin 16) (s : State) : Out :=
  .next (if s.bit F.mtimeEvtCtrlArm n && decide (s.evtTarget n ≤ s.stamp % 2 ^ 62) then evtFire n s else s)

/-! ### Snapshot (R68) -/

/-- Capture the stamp and powered time together (R68). -/
def mtSnap (s : State) : State :=
  (s.setPair .mtimeSnapTLo .mtimeSnapTHi s.stamp).setPair .mtimeSnapPtLo .mtimeSnapPtHi s.pt

/-- MTIME_SNAP: a write of 1 to MTIME_SNAP (R68). -/
def execMtimeSnap (s : State) : Out := reply (mtSnap s, .ok)

end Sys2Proof.Machine
end

