-- ==== Sys2Proof/Machine/Lanes.lean ====
section
/-!
DEFINITION. Bundles and lanes (03): lane states, crossing frames, delivery slots, transmit windows, bypass, capability
exchange, gangs, retirement and the spare lane, eye scan.
-/
namespace Sys2Proof.Machine

/-- The states of a receive lane (R98). -/
inductive LSt where
  | off | detect | train | align | caps | active | standby | retrain | stopping | retired
  deriving DecidableEq, Repr

/-- LANE_LST.state. -/
def LSt.code : LSt → Nat
  | .off => 0 | .detect => 1 | .train => 2 | .align => 3 | .caps => 4 | .active => 5 | .standby => 6
  | .retrain => 7 | .stopping => 8 | .retired => 9

/-- The state a code stands for; the register holds no code above 9. -/
def LSt.ofCode : Nat → LSt
  | 0 => .off | 1 => .detect | 2 => .train | 3 => .align | 4 => .caps | 5 => .active | 6 => .standby
  | 7 => .retrain | 8 => .stopping | _ => .retired

/-- The state of lane `m` of bundle `n`. -/
def State.laneSt (s : State) (n m : Nat) : LSt := LSt.ofCode (s.get F.laneLstState n m)

/-- Put a lane into a state. -/
def State.setLaneSt (s : State) (n m : Nat) (st : LSt) : State := s.put F.laneLstState st.code n m

/-- Key of a lane in `lanes`: its index in the object word of 14 R464. -/
def laneKey (n m : Nat) : Nat := 16 * n + m

/-- A lane's data beyond its registers. -/
def State.lane (s : State) (n m : Nat) : LaneSt := Tab.get {} s.lanes (laneKey n m)

/-- Replace a lane's data. -/
def State.setLane (s : State) (n m : Nat) (l : LaneSt) : State :=
  { s with lanes := Tab.put {} s.lanes (laneKey n m) l }

/-- Change a lane's data. -/
def State.modLane (s : State) (n m : Nat) (f : LaneSt → LaneSt) : State := s.setLane n m (f (s.lane n m))

/-- A bundle's data beyond its registers. -/
def State.bundle (s : State) (n : Nat) : BundleSt := Tab.get {} s.bundles n

/-- Replace a bundle's data. -/
def State.setBundle (s : State) (n : Nat) (b : BundleSt) : State := { s with bundles := Tab.put {} s.bundles n b }

/-- Change a bundle's data. -/
def State.modBundle (s : State) (n : Nat) (f : BundleSt → BundleSt) : State := s.setBundle n (f (s.bundle n))

/-- M, the bits of a frame of a bundle (R71). -/
def State.frameBits (s : State) (n : Nat) : Nat := 16 * s.get F.laneCfgMult n

/-- The multiple k of the primary fabric clock (04 R146). -/
def State.fabK (s : State) : Nat := s.get F.fabFclkCtrlK0

/-- Bundle modes (R73). -/
def modeDetector : Nat := 0
def modeCascade : Nat := 1
def modeCave : Nat := 2

/-- N of a bundle's gang; 1 for a single bundle (R103). -/
def State.gangN (s : State) (n : Nat) : Nat := s.get F.laneGangSize n + 1

/-- The first bundle of a bundle's gang (R103). -/
def State.gangFirst (s : State) (n : Nat) : Nat := n - s.get F.laneGangPos n

/-- The rate of a bundle is at most 32 Gb/s, by MTIME_NOM_PERIOD (R71). -/
def State.rateOk (s : State) (n : Nat) : Bool := decide (s.frameBits n * 1000000 ≤ 32 * s.get F.mtimeNomPeriodVal)

/-- Every lane of a bundle is OFF (R75). -/
def State.allLanesOff (s : State) (n : Nat) : Bool := (List.range 9).all (fun m => s.get F.laneLstState n m == 0)

/-- Bundles in a mode (R74, LANE_GSTAT). -/
def State.countMode (s : State) (mode : Nat) : Nat :=
  ((List.range 48).filter (fun n => s.get F.laneCfgMode n == mode)).length

/-! ### Slots (R88, R91) -/

/-- The crossing index of (present crossing + `j` - `d`), by the orbit lengths in force (R91). -/
def State.crossAt (s : State) (j d : Nat) : Nat :=
  if s.mt.cross + j < d then s.mt.prevLen + s.mt.cross + j - d
  else if s.orbitLen ≤ s.mt.cross + j - d then s.mt.cross + j - d - s.orbitLen
  else s.mt.cross + j - d

/-- The crossing delay d of a lane's slot; a gang shares the slot of its first bundle (R88). -/
def State.slotDelay (s : State) (n : Nat) : Nat := s.get F.laneRxdlyCross (s.gangFirst n)

/-- Whether a tag matches a slot of the present crossing or of the next 8 (R88, R89). -/
def State.slotMatch (s : State) (n tag : Nat) : Bool :=
  (List.range 9).any (fun j => s.crossAt j (s.slotDelay n) % 256 == tag)

/-- The value of a signed 16-bit field. -/
def signed16 (v : Nat) : Int := if v < 32768 then (v : Int) else (v : Int) - 65536

/-- A signed value saturated to 16 bits, as LANE_MARGIN holds it (R89). -/
def toSigned16 (m : Int) : Nat :=
  let c := max (-32768) (min 32767 m)
  (c % 65536).toNat

/-! ### Leaving service, retirement and the spare (R102, R108 to R113) -/

/-- Withdraw a bundle's steer request; the slots it served return to their lane, and an ACTIVE spare has no lane to carry
(R98, R110, R112). -/
def steerWithdraw (n : Nat) (s : State) : State :=
  let s := (s.clear F.laneStatusSteerTx n).clear F.laneStatusSpareUsed n
  let s := s.modBundle n (fun b => { b with spareCarries := none, steerFor := none })
  match s.laneSt n 8 with
  | .active => (s.setLaneSt n 8 .standby).modLane n 8 (fun l => { l with buf := [] })
  | .retrain => s.modLane n 8 (fun l => { l with fromStandby := true })
  | .off | .detect | .train | .align | .caps | .standby | .stopping | .retired => s

/-- A lane of the bundle could not be spared (R112). -/
def unspared (n : Nat) (s : State) : State := (s.flag F.laneErrUnspared n).raise .laneUnspared

/-- The far index of a lane: learnt in CAPS, else its own (R106). -/
def State.farIndex (s : State) (n m : Nat) : Nat := if (s.lane n m).capsKnown then s.get F.laneLstFarLane n m else m

/-- A capability word of the bundle's far end says that it does not act on steer requests (R100, R112). -/
def State.farNoSpare (s : State) (n : Nat) : Bool :=
  (List.range 9).any (fun m => (s.lane n m).capsKnown && !bitAt (s.word .laneCapsLo n m).toNat 23)

/-- Ask for a lane on .SP (R110). -/
def steerRequest (n x : Nat) (s : State) : State :=
  (s.put F.laneStatusSteerTx (8 + s.farIndex n x) n).modBundle n (fun b => { b with steerFor := some x })

/-- The spare has come up and is STANDBY: it is asked for the lane it is assigned to, else for a retired lane (R110). -/
def spareReady (n : Nat) (s : State) : State :=
  match (s.bundle n).steerFor with
  | some x => steerRequest n x s
  | none =>
    match (List.range 8).find? (fun m => s.laneSt n m == .retired && !s.farNoSpare n) with
    | some x => steerRequest n x s
    | none => s

/-- An eye scan of a lane that leaves ACTIVE or STANDBY is aborted (R117). -/
def eyeLeave (n m : Nat) (s : State) : State :=
  if s.get F.laneEyeStatState n = 1 ∧ s.get F.laneEyeCtrlLane n = m then
    (s.put F.laneEyeStatState 3 n).clear F.laneEyeCtrlStart n
  else s

/-- Retirement of the bundle's lanes is suspended (R109): while machine time coasts, and until the first orbit that starts
in ALIGNED; never for a cave bundle. -/
def State.lanesHeld (s : State) (n : Nat) : Bool :=
  (s.mt.heldLanes || s.mtSt == .coasting) && s.get F.laneCfgMode n != modeCave

/-- Retire a lane (R108): its event and blotter record; a data lane asks for the spare, or the bundle is left without
one (R110, R112). -/
def retireLane (n m : Nat) (s : State) : State :=
  let s := (eyeLeave n m s).setLaneSt n m .retired
  let s := s.modLane n m (fun l => { l with buf := [], syncErr := 0, rising := 0, falling := 0 })
  let s := s.raise .laneRetired (objWord 1 (laneKey n m))
  if m = 8 then unspared n (steerWithdraw n s)
  else if s.laneSt n 8 = .standby ∧ (s.bundle n).steerFor = none ∧ s.farNoSpare n = false then
    steerRequest n m s
  else if (s.bundle n).steerFor = some m then s
  else unspared n s

/-- A failed bring-up attempt (R102): one more attempt; a data lane that has failed 3 beside an ACTIVE one, none of them for
a capability mismatch, is retired, unless under R109; a lane alone reports its 16th. -/
def attemptFailed (n m : Nat) (s : State) : State :=
  let mismatch := (s.lane n m).mismatch
  let neighbour := (List.range 8).any (fun i => i != m && s.laneSt n i == .active)
  let s := (s.setLaneSt n m .detect).bump F.laneLstAttempts n m
  let s := s.modLane n m (fun l => { l with farFound := false, rising := 0, falling := 0, lastTag := none, goodCaps := 0
                                            seen := false, compatSeen := 0, sentSeen := 0, mismatch := false
                                            fails := if neighbour && !mismatch then l.fails + 1 else l.fails })
  if neighbour then
    if m < 8 ∧ 3 ≤ (s.lane n m).fails ∧ s.lanesHeld n = false then retireLane n m s else s
  else if s.get F.laneLstAttempts n m = 16 then s.raise .laneBringupSlow else s

/-- A gang none of whose lanes is in service or retired is not classified: its next bring-up classifies it (R104). -/
def unclassify (n : Nat) (s : State) : State :=
  let members := (List.range (s.gangN n)).map (s.gangFirst n + ·)
  let inService := members.any (fun b => (List.range 9).any (fun m =>
    match s.laneSt b m with
    | .active | .standby | .retrain | .retired => true
    | .off | .detect | .train | .align | .caps | .stopping => false))
  if inService then s
  else members.foldl (fun s b => s.clear F.laneStatusReversed b) (s.modBundle (s.gangFirst n) (fun b => { b with gangReversed := none }))

/-- Start a lane's bring-up in DETECT (R98). -/
def startBringup (n m : Nat) (s : State) : State :=
  let s := unclassify n s
  let s := ((s.setLaneSt n m .detect).clear F.laneLstPendingEnable n m).clear F.laneLstAttempts n m
  let s := s.clear F.laneLstPolInv n m
  s.modLane n m (fun l => { l with wanted := true, farFound := false, rising := 0, falling := 0, lastTag := none
                                   fails := 0, goodCaps := 0, seen := false, compatSeen := 0, sentSeen := 0
                                   mismatch := false, passed := false, syncErr := 0, buf := [] })

/-- The conditions under which an enabled lane starts: LANE_CFG.en, global start done and no full load since that has
stopped the bundle, rate within the limit, the bundle's domain ON (R71, R98, 05 R188). A trip leaves them as they are (15
R489). -/
def State.bundleReady (s : State) (n : Nat) : Bool :=
  s.bit F.laneCfgEn n && (s.bundle n).live && (s.bundle n).rateOk &&
    decide ((Tab.get {} s.doms (1000 + n)).st = .on ∨ (Tab.get {} s.doms (1000 + n)).st = .poweringUp)

/-- Enable a lane (R98, R114): from OFF it starts when its conditions hold and else waits for them; in STOPPING the
enable is latched. -/
def laneEnable (n m : Nat) (s : State) : State :=
  match s.laneSt n m with
  | .off =>
    if s.bundleReady n then startBringup n m s else s.modLane n m (fun l => { l with wanted := true })
  | .stopping => s.flag F.laneLstPendingEnable n m
  | _ => s

/-- LANE_ENABLE (R98). -/
def execLaneEnable (n : Fin 48) (m : Fin 9) (s : State) : Out := reply (laneEnable n m s, .ok)

/-- Stop a lane (R98): the transmitter goes to electrical idle, and the alignment buffer, the counters and any steer
request of this lane are cleared. -/
def laneStop (n m : Nat) (s : State) : State :=
  let s := (((eyeLeave n m s).setLaneSt n m .stopping).clear F.laneLstPendingEnable n m).clear F.laneLstAttempts n m
  let s := s.put F.laneBadcntVal 0 n m
  let s := (s.put F.laneOrbbadBad 0 n m).put F.laneOrbbadConsec 0 n m
  let s := s.modLane n m (fun l => { l with wanted := false, buf := [], badOrbit := 0, minMargin := none, late := 0,
                                            tagErr := 0, syncErr := 0, rising := 0, falling := 0 })
  if (s.bundle n).steerFor = some m then steerWithdraw n s
  else if m = 8 then (s.clear F.laneStatusSpareUsed n).modBundle n (fun b => { b with spareCarries := none })
  else s

/-- Disable a lane (R98): any state from DETECT on but STOPPING and RETIRED; a latched enable is withdrawn. -/
def laneDisable (n m : Nat) (s : State) : State :=
  match s.laneSt n m with
  | .off => s.modLane n m (fun l => { l with wanted := false })
  | .stopping => (s.clear F.laneLstPendingEnable n m).modLane n m (fun l => { l with wanted := false })
  | .retired => s
  | .detect | .train | .align | .caps | .active | .standby | .retrain => laneStop n m s

/-- LANE_DISABLE (R98). -/
def execLaneDisable (n : Fin 48) (m : Fin 9) (s : State) : Out := reply (laneDisable n m s, .ok)

/-- A lane in service enters RETRAIN (R98, R99). -/
def enterRetrain (n m : Nat) (s : State) : State :=
  let retrain (standby : Bool) : State :=
    ((eyeLeave n m s).setLaneSt n m .retrain).modLane n m (fun l => { l with fromStandby := standby, syncErr := 0 })
  match s.laneSt n m with
  | .active => retrain false
  | .standby => retrain true
  | .off | .detect | .train | .align | .caps | .retrain | .stopping | .retired => s

/-- LANE_RETRAIN (R98): an ACTIVE or STANDBY lane enters RETRAIN. -/
def execLaneRetrain (n : Fin 48) (m : Fin 9) (s : State) : Out := reply (enterRetrain n m s, .ok)

/-- Reinstate a lane (R113, 17 R558): RETIRED goes to DETECT, any other state is left as it is. -/
def laneReinstate (n m : Nat) (s : State) : State :=
  if s.laneSt n m = .retired then startBringup n m (s.blot 0xC0C 0 (objWord 1 (16 * n + m))) else s

/-- LANE_REINSTATE (R113). -/
def execLaneReinstate (n : Fin 48) (m : Fin 9) (s : State) : Out := reply (laneReinstate n m s, .ok)

/-- Apply an action to every lane of a mask. -/
def forLanes (act : Nat → State → State) (mask : Nat) (s : State) : State :=
  (List.range 9).foldl (fun s m => if mask.testBit m then act m s else s) s

/-- A write of LANE_CMD: per lane, disable first, then enable, then retrain (R98, R119). -/
def laneCmdWrite (n : Nat) (v : Nat) (s : State) : State × Status :=
  let s := forLanes (laneDisable n) (bits v 17 9) s
  let s := forLanes (laneEnable n) (bits v 8 0) s
  (forLanes (enterRetrain n) (bits v 26 18) s, .ok)

/-- A write of LANE_REINSTATE. -/
def laneReinstateWrite (n : Nat) (v : Nat) (s : State) : State × Status :=
  (forLanes (laneReinstate n) (bits v 8 0) s, .ok)

/-! ### Configuration (R71 to R75) -/

/-- A write of LANE_CFG (R71, R74, R75): BUSY for a change of mode, mult or layers while a lane is not OFF; a mult out
of range has no effect, which the model takes of the whole write (DESIGN CHOICE, log entry 108), and sets bad_cfg; DENIED
over a mode's limit. Enabling, and a new mult of an enabled bundle, computes the rate; the lanes that wait for LANE_CFG.en
start, and the lanes of a bundle that is no longer enabled stop. -/
def laneCfgWrite (n : Nat) (v : Nat) (s : State) : State × Status :=
  let locked := s.bit F.laneGctrlLock
  let mode := if locked then s.get F.laneCfgMode n else bits v 25 24
  let mult := if locked then s.get F.laneCfgMult n else bits v 22 16
  let txl := if locked then s.get F.laneCfgTxLayer n else bits v 9 9
  let rxl := if locked then s.get F.laneCfgRxLayer n else bits v 8 8
  let caps := if locked then s.get F.laneCfgCapsReq n else bits v 1 1
  let changes := mode != s.get F.laneCfgMode n || mult != s.get F.laneCfgMult n || txl != s.get F.laneCfgTxLayer n
    || rxl != s.get F.laneCfgRxLayer n
  if changes && !s.allLanesOff n then (s, .busy)
  else if mult < 10 ∨ 64 < mult then (s.flag F.laneErrBadCfg n, .ok)
  else if mode ≠ s.get F.laneCfgMode n ∧ ((mode = modeCave ∧ 16 ≤ s.countMode modeCave) ∨
      (mode = modeCascade ∧ 15 ≤ s.countMode modeCascade)) then (s, .denied)
  else
    let was := s.bit F.laneCfgEn n
    let rated := was && mult == s.get F.laneCfgMult n
    let s := (((s.put F.laneCfgMode mode n).put F.laneCfgMult mult n).put F.laneCfgTxLayer txl n).put F.laneCfgRxLayer rxl n
    let s := (s.put F.laneCfgCapsReq caps n).put F.laneCfgEn (bits v 0 0) n
    if bitAt v 0 && !rated then
      let ok := s.rateOk n
      let s := s.modBundle n (fun b => { b with rateOk := ok })
      let s := if ok then s else s.flag F.laneErrRateHigh n
      ((List.range 9).foldl (fun s m => if (s.lane n m).wanted then laneEnable n m s else s) s, .ok)
    else if !bitAt v 0 && was then (forLanes (laneDisable n) 511 s, .ok)
    else (s, .ok)

/-- LANE_CFG_WRITE (R75). -/
def execLaneCfgWrite (n : Fin 48) (v : Word) (s : State) : Out := reply (laneCfgWrite n v.toNat s)

/-- A write of LANE_RXDLY or LANE_GANG (R75): BUSY while a lane is not OFF; both are RWL. -/
def laneHeldWrite (r : RegName) (mask n v : Nat) (s : State) : State × Status :=
  if s.bit F.laneGctrlLock then (s, .ok)
  else if s.allLanesOff n = false then (s, .busy)
  else (s.setWord r (BitVec.ofNat 32 (v &&& mask)) n, .ok)

/-! ### Bring-up (R98, R100 to R106) -/

/-- DETECT_POLL (R98): every 100 µs; `found`: the far receiver is there, `signal`: signal has been present for 10 µs. -/
def execDetectPoll (n : Fin 48) (m : Fin 9) (found signal : Bool) (s : State) : Out :=
  .next <|
    if s.laneSt n m = .detect then
      let s := if found then s.modLane n m (fun l => { l with farFound := true }) else s
      if (s.lane n m).farFound && signal then s.setLaneSt n m .train else s
    else s

/-- TRAIN_BIT_LOCK (R98): bit lock on a sampler slice among the usable ones. -/
def execTrainBitLock (n : Fin 48) (m : Fin 9) (slice : Fin 4) (s : State) : Out :=
  .next <|
    if s.laneSt n m = .train ∧ (s.get F.laneSliceUsable n m).testBit slice = true then
      let s := (s.setLaneSt n m .align).put F.laneSliceActive slice n m
      s.modLane n m (fun l => { l with rising := 0, falling := 0, lastTag := none })
    else s

/-- TRAIN_TIMEOUT (R98): 4 ms without bit lock. -/
def execTrainTimeout (n : Fin 48) (m : Fin 9) (s : State) : Out :=
  .next (if s.laneSt n m = .train then attemptFailed n m s else s)

/-- ALIGN_TIMEOUT (R98): 200 µs without 8 good frames. -/
def execAlignTimeout (n : Fin 48) (m : Fin 9) (s : State) : Out :=
  .next (if s.laneSt n m = .align then attemptFailed n m s else s)

/-- CAPS_TIMEOUT (R98): 2 ms without a completed exchange. -/
def execCapsTimeout (n : Fin 48) (m : Fin 9) (s : State) : Out :=
  .next (if s.laneSt n m = .caps then attemptFailed n m s else s)

/-- Capability exchange applies (R100). -/
def State.capsApply (s : State) (n : Nat) : Bool :=
  s.get F.laneCfgMode n == modeCascade || s.get F.laneCfgMode n == modeCave || decide (1 < s.gangN n)
    || s.bit F.laneCfgCapsReq n

/-- A lane's bring-up ends: a data lane becomes ACTIVE, the spare STANDBY (R98). -/
def enterService (n m : Nat) (s : State) : State :=
  let s := (s.setLaneSt n m (if m = 8 then .standby else .active)).modLane n m (fun l => { l with syncErr := 0, buf := [] })
  if m = 8 then spareReady n s else s

/-- Reverse marks of a gang once all its data lanes have passed CAPS; a retired lane is not waited for (R104; DEDUCED, log
entry 109). -/
def classifyGang (n : Nat) (s : State) : State :=
  let first := s.gangFirst n
  let members := (List.range (s.gangN n)).map (first + ·)
  let passed := members.all (fun b => (List.range 8).all (fun m => (s.lane b m).passed || s.laneSt b m == .retired))
  if passed && (s.bundle first).gangReversed == some true then
    members.foldl (fun s b => s.flag F.laneStatusReversed b) s
  else s

/-- The mapping of a far capability word for a lane: direct (some false), reversed in a gang (some true), or neither
(R101, R104). The spare lanes of two members face each other. -/
def capsMapping (s : State) (n m w : Nat) : Option Bool :=
  let big := s.gangN n
  let pos := s.get F.laneGangPos n
  let farLane := bits w 33 30
  let farPos := bits w 29 27
  if m = 8 then
    if farLane = 8 ∧ farPos = pos then some false
    else if farLane = 8 ∧ 1 < big ∧ farPos + pos + 1 = big then some true else none
  else if 8 ≤ farLane then none
  else if 8 * farPos + farLane = 8 * pos + m then some false
  else if 1 < big ∧ 8 * farPos + farLane + 8 * pos + m + 1 = 8 * big then some true else none

/-- The modes of two ends pair (R101). -/
def modesPair (a b : Nat) : Bool :=
  (a == modeCascade && b == modeCascade) || (a == modeCave && b == modeCave)
    || ((a == modeDetector || a == modeTiming) && (b == modeDetector || b == modeTiming))

/-- A far capability word is compatible, given its mapping (R101). -/
def capsCompatible (s : State) (n w : Nat) (mapping : Option Bool) : Bool :=
  let mode := s.get F.laneCfgMode n
  let known := (s.bundle (s.gangFirst n)).gangReversed
  bits w 47 42 + 1 == s.get F.laneCfgMult n && bits w 26 24 == s.get F.laneGangSize n
    && modesPair mode (bits w 41 40)
    && (mode != modeCave || bits w 63 52 == 0xB18) && (mode != modeCascade || bits w 63 52 == 0xA49)
    && mapping.isSome && (known.isNone || known == mapping)

/-- CAPS is done once 3 compatible far words with seen = 1 have come in a row and 3 own frames with seen = 1 have been
sent (R98). -/
def capsDone (n m : Nat) (s : State) : State :=
  let l := s.lane n m
  if s.laneSt n m = .caps ∧ 3 ≤ l.compatSeen ∧ 3 ≤ l.sentSeen then
    let s := s.modBundle (s.gangFirst n) (fun b =>
      { b with gangReversed := if b.gangReversed.isSome then b.gangReversed else some l.reversed })
    classifyGang n (enterService n m (s.modLane n m (fun l => { l with passed := true })))
  else s

/-- A frame in ALIGN (R98, R105). The spec gives no number of falling tags that show an inverted pair: the model takes 8, as
for rising ones (DESIGN CHOICE, log entry 108). -/
def alignFrame (n m : Nat) (sync : Bool) (f : RxFrame) (onTime : Bool) (s : State) : State :=
  let l := s.lane n m
  let good := sync && f.crcOk && onTime
  let rising := if !good then 0 else if l.lastTag = some ((f.tag + 255) % 256) then l.rising + 1 else 1
  let falling := if sync && l.lastTag == some ((f.tag + 1) % 256) then l.falling + 1 else 0
  let s := s.setLane n m { l with rising := rising, falling := falling, lastTag := if sync then some f.tag else none }
  if 8 ≤ rising then
    if s.capsApply n then
      (s.setLaneSt n m .caps).modLane n m (fun l => { l with goodCaps := 0, seen := false, compatSeen := 0, sentSeen := 0
                                                             mismatch := false })
    else enterService n m s
  else if 8 ≤ falling then
    if 1 < s.gangN n then
      (s.flag F.laneLstPolInv n m).modLane n m (fun l => { l with rising := 0, falling := 0, lastTag := none })
    else (s.flag F.laneErrPolaritySeen n).modLane n m (fun l => { l with falling := 0 })
  else s

/-- A frame in CAPS (R98, R100, R101). -/
def capsFrame (n m : Nat) (sync : Bool) (f : RxFrame) (onTime : Bool) (s : State) : State :=
  if !(sync && f.crcOk && onTime && typKind f.typ == 2) then
    s.modLane n m (fun l => { l with goodCaps := 0, compatSeen := 0 })
  else
    let w := f.payload / 2 ^ (s.frameBits n - 128) % 2 ^ 64
    let mapping := capsMapping s n m w
    let s := (s.setPair .laneCapsLo .laneCapsHi w n m).put F.laneLstFarLane (bits w 33 30) n m
    let ok := capsCompatible s n w mapping
    let s := s.modLane n m (fun l =>
      { l with goodCaps := l.goodCaps + 1, seen := l.seen || decide (3 ≤ l.goodCaps + 1), capsKnown := true
               reversed := mapping == some true
               compatSeen := if ok && bitAt w 22 then l.compatSeen + 1 else 0, mismatch := l.mismatch || !ok })
    if ok then capsDone n m s else (s.flag F.laneErrCapsMismatch n).raise .laneCapsMismatch

/-! ### Frames in service (R82, R89, R99, R107, R110) -/

/-- The value voted for by more than half of the good frames of a crossing, 0 when none is (R110). -/
def majority (good : Nat) (votes : List (Nat × Nat)) : Nat :=
  match votes.find? (fun v => good < 2 * v.2) with
  | some v => v.1
  | none => 0

/-- Count a vote for a value. -/
def addVote (v : Nat) : List (Nat × Nat) → List (Nat × Nat)
  | [] => [(v, 1)]
  | (a, c) :: r => if a = v then (a, c + 1) :: r else (a, c) :: addVote v r

/-- Close the crossing being voted on when a later one has begun: the same request on a majority of good frames in 2
consecutive crossings is acted on (R110). -/
def closeVotes (n : Nat) (s : State) : State :=
  let b := s.bundle n
  if b.voteAt = s.mt.boundary ∨ b.voteGood = 0 then s
  else
    let m := majority b.voteGood b.votes
    let act := if b.lastVoteAt + 1 = b.voteAt ∧ b.lastMajority = m then m else b.steerIn
    s.setBundle n { b with voteGood := 0, votes := [], lastMajority := m, lastVoteAt := b.voteAt, steerIn := act }

/-- A good frame on a data lane votes for the request it carries (R110). -/
def steerVote (n v : Nat) (s : State) : State :=
  (closeVotes n s).modBundle n (fun b =>
    { b with voteAt := s.mt.boundary, voteGood := b.voteGood + 1, votes := addVote v b.votes })

/-- A good frame on .SP: its indicator is shown; a STANDBY spare that was asked for takes the lane over (R110). -/
def spareFrame (n : Nat) (f : RxFrame) (s : State) : State :=
  let v := typSteer f.typ
  let s := s.put F.laneStatusSpareRx v n
  if s.laneSt n 8 = .standby ∧ (s.bundle n).steerFor.isSome ∧ v ≠ 0 ∧ v = s.get F.laneStatusSteerTx n then
    let s := (s.setLaneSt n 8 .active).flag F.laneStatusSpareUsed n
    s.modBundle n (fun b => { b with spareCarries := b.steerFor })
  else s

/-- A frame whose last bit comes more than 8 crossings before its slot's edge (R89): `margin` is 12 fabric clocks less than
the time to the edge, in UI, of which a crossing has M. -/
def State.tooEarly (s : State) (n : Nat) (margin : Int) : Bool :=
  decide ((s.frameBits n : Int) * (8 * s.fabK - 12) < margin * s.fabK)

/-- A frame on a lane in service (R82, R88, R89, R99). The bypass takes it as it came (R96). -/
def serviceFrame (n m : Nat) (sync : Bool) (f : RxFrame) (margin : Int) (s : State) : State :=
  if !sync then s.modLane n m (fun l => { l with syncErr := l.syncErr + 1, lastRx := some f })
  else
    let s := s.modLane n m (fun l => { l with syncErr := 0, lastRx := some f })
    if !s.slotMatch n f.tag || s.tooEarly n margin then s.modLane n m (fun l => { l with tagErr := l.tagErr + 1 })
    else
      let s := s.modLane n m (fun l =>
        { l with minMargin := some (match l.minMargin with | some x => min x margin | none => margin) })
      if margin < 0 then s.modLane n m (fun l => { l with late := l.late + 1 })
      else
        let s := if !f.crcOk then s else if m = 8 then spareFrame n f s else steerVote n (typSteer f.typ) s
        if s.laneSt n m = .active then s.modLane n m (fun l => { l with buf := (l.buf ++ [f]).drop (l.buf.length - 8) })
        else s

/-- RX_FRAME (R76 to R82, R88, R89, R98 to R106, R110; none while the boundary register owns the pins, 19 R585): a frame of M
bits received whole; `margin` is its slot edge
less 12 fabric clocks less the arrival of its last bit, in UI. -/
def execRxFrame (n : Fin 48) (m : Fin 9) (frame : Nat) (margin : Int) (s : State) : Out :=
  .next <|
    if s.extest then s
    else
    let bitsM := s.frameBits n
    let invert := s.bit F.laneLctrlRxInv n m != s.bit F.laneLstPolInv n m
    let raw := frame % 2 ^ bitsM
    let p := parseFrame bitsM (if invert then 2 ^ bitsM - 1 - raw else raw)
    let onTime := s.slotMatch n p.2.tag && decide (0 ≤ margin) && !s.tooEarly n margin
    match s.laneSt n m with
    | .align => alignFrame n m p.1 p.2 onTime s
    | .caps => capsFrame n m p.1 p.2 onTime s
    | .active | .standby => serviceFrame n m p.1 p.2 margin s
    | .off | .detect | .train | .retrain | .stopping | .retired => s

/-- Lane `m` of bundle `n` is the service lane of an enabled cascade link, and the cascade is not OFF (18 R566, R572). -/
def State.serviceLane (s : State) (n m : Nat) : Bool :=
  s.get F.cascStatusState != 0 && (List.range 15).any (fun l =>
    s.bit F.cascLinkEn l && s.get F.cascLinkBundle l == n && s.get F.cascLinkSvc l == m)

/-- Logical lane `m` is in service: the data lane itself, or the spare that carries it, is ACTIVE (R94, R110). -/
def State.laneServed (s : State) (n m : Nat) : Bool :=
  s.laneSt n m == .active || ((s.bundle n).spareCarries == some m && s.laneSt n 8 == .active)

/-- What a slot presents for a received frame (R79, R90). A frame whose type reads kind 0b11 on a detector or timing bundle
is delivered empty also when its CRC failed: R79 and R90 are read so (DEDUCED, log entry 109). -/
def slotOf (mode : Nat) (f : RxFrame) : Slot :=
  let strange := typKind f.typ == 3 && (mode == modeDetector || mode == modeTiming)
  if strange then { data := 0, kind := 1, user := 0, poison := typPoison f.typ || !f.crcOk, bad := !f.crcOk }
  else { data := f.payload, kind := typKind f.typ, user := typUser f.typ, poison := typPoison f.typ || !f.crcOk
         bad := !f.crcOk }

/-- Count a bad frame of a lane (R107); while coasting the counts are discarded, but on cave bundles (R109). -/
def countBad (n m : Nat) (s : State) : State :=
  if s.mtSt = .coasting ∧ s.get F.laneCfgMode n ≠ modeCave then s
  else (s.bump F.laneBadcntVal n m).modLane n m (fun l => { l with badOrbit := l.badOrbit + 1 })

/-- The switch back to a reinstated lane: at its first slot once it is ACTIVE with LANE_MARGIN at least 0 the slots
return to it and the steer request is withdrawn (R113). -/
def switchBack (n m : Nat) (s : State) : State :=
  if (s.bundle n).spareCarries = some m ∧ s.laneSt n m = .active ∧ 0 ≤ signed16 (s.get F.laneMarginVal n m) then
    steerWithdraw n s
  else if (s.bundle n).steerFor = some m ∧ (s.bundle n).spareCarries = none ∧ s.laneSt n m = .active then
    steerWithdraw n s
  else s

/-- The receive port that shows physical data lane `m` of bundle `n`: in a reversed gang the ports are in logical
order (R104). -/
def State.rxPort (s : State) (n m : Nat) : Nat × Nat :=
  if s.bit F.laneStatusReversed n then
    let j := 8 * s.gangN n - 1 - (8 * s.get F.laneGangPos n + m)
    (s.gangFirst n + j / 8, j % 8)
  else (n, m)

/-- RX_SLOT_DELIVERY (R88 to R93, R107): the slot of data lane `m` in the present crossing. -/
def execRxSlotDelivery (n : Fin 48) (m : Fin 8) (s : State) : Out :=
  .next <|
    let s := switchBack n m s
    let d := s.slotDelay n
    let s := if s.fabK ≤ s.get F.laneRxdlyPhase (s.gangFirst n) then s.flag F.laneErrSlotClip n else s
    let num := s.crossAt 0 d
    let orbit := if s.mt.cross < d then (s.mt.orbit + 2 ^ 48 - 1) % 2 ^ 48 else s.mt.orbit
    let s := s.modBundle n (fun b => { b with rxOrbit := orbit, rxCross := num })
    let src := if (s.bundle n).spareCarries = some m.val then 8 else m.val
    let serving := s.laneSt n src = .active
    let found := if serving && !s.extest then (s.lane n src).buf.find? (fun f => f.tag == num % 256) else none
    let mode := s.get F.laneCfgMode n
    let c : Slot := match found with | some f => slotOf mode f | none => {}
    let s := s.modLane n src (fun l => { l with buf := l.buf.filter (fun f => f.tag != num % 256) })
    let s := match found with
      | some f => if typKind f.typ = 3 ∧ (mode = modeDetector ∨ mode = modeTiming) then s.flag F.laneErrKindErr n else s
      | none => s
    let s := if serving && c.bad then countBad n src s else s
    -- The receive slot of a service lane presents zero data of kind 0b11; the frame goes to the controller (18 R566).
    let port := s.rxPort n m
    let out : Slot := if s.serviceLane port.1 port.2 then { data := 0, kind := 3, user := 0, poison := false, bad := c.bad } else c
    let s := if s.serviceLane port.1 port.2 then s.modLane port.1 port.2 (fun l => { l with service := c }) else s
    (s.modLane port.1 port.2 (fun l => { l with slot := out })).emit (.slot port.1 port.2 out)

/-- The receive lane port of a lane on a layer (R13, R73): the port that LANE_CFG.rx_layer selects shows the last slot; the
other layer's, and those of a cave bundle, which has none, are idle: all signals 0, no slot counted (DESIGN CHOICE, log
entry 108). -/
def State.rxSignals (s : State) (layer n m : Nat) : Slot :=
  if s.get F.laneCfgRxLayer n == layer && s.get F.laneCfgMode n != modeCave then (s.lane n m).slot
  else { data := 0, kind := 0, user := 0, poison := false, bad := false }

/-- RX_STB of a bundle's port (R93): 1 for the fabric clock at the slot edge, clock LANE_RXDLY.phase of the crossing, or
k - 1 (R88). -/
def State.rxStb (s : State) (layer n : Nat) : Bool :=
  s.get F.laneCfgRxLayer n == layer && s.get F.laneCfgMode n != modeCave &&
    s.tpPhase == min (s.get F.laneRxdlyPhase (s.gangFirst n)) (s.fabK - 1)

/-! ### Transmission (R78, R83, R85 to R87, R94 to R97, R110) -/

/-- The number of the boundary at which a word written at fabric clock `phase` of the present crossing leaves: the
first that is at least 12 fabric clocks later (R86). -/
def State.txBoundary (s : State) (phase : Nat) : Nat :=
  let k := s.fabK
  let gap := k - phase
  if k = 0 ∨ 12 ≤ gap then s.mt.boundary + 1 else s.mt.boundary + 1 + (12 - gap + k - 1) / k

/-- TX_LAST (R86): 1 at the last edge of each write window, which lies 12 fabric clocks before the frame's boundary. -/
def State.txLast (s : State) (layer n : Nat) : Bool :=
  s.get F.laneCfgTxLayer n == layer && s.get F.laneCfgMode n != modeCave && (s.tpPhase + 12) % s.fabK == 0

/-- A look-back transmit channel owns the transmit lanes of the bundle (09 R305). -/
def State.lbtxOwns (s : State) (n : Nat) : Bool :=
  (List.range 2).any (fun t => s.bit F.nearLbtxCfgEn t && s.get F.nearLbtxCfgBundle t == n)

/-- TX_PORT_WRITE (R86, R87): the last write of a window is sent; a second one sets tx_overwrite. Writes to a bundle that
a look-back transmit channel owns, and to a service lane, are ignored (09 R305, 18 R566), and so are those at the port of
the layer that LANE_CFG.tx_layer does not select (01 R13) and on a cave bundle, which has no port (R73). -/
def execTxPortWrite (layer : Fin 2) (n : Fin 48) (m : Fin 8) (phase : Nat) (data : Nat) (user poison : Bool) (s : State) : Out :=
  .next <|
    if s.lbtxOwns n || s.serviceLane n m || s.get F.laneCfgTxLayer n != layer || s.get F.laneCfgMode n == modeCave then s
    else
    let b := s.txBoundary phase
    let w : TxWord := { data := data % 2 ^ (s.frameBits n - 64), user := user, poison := poison }
    let s := if (Tab.look (s.lane n m).tx b).isSome then s.flag F.laneErrTxOverwrite n else s
    s.modLane n m (fun l => { l with tx := Tab.set l.tx b w })

/-- The source lane of a bypass: the spare where it carries the logical lane (R94). -/
def State.bypassSource (s : State) (n i : Nat) : Nat × Nat :=
  let b := s.get F.laneBypassSrcBundle n i
  let l := s.get F.laneBypassSrcLane n i
  (b, if (s.bundle b).spareCarries = some l then 8 else l)

/-- A transmit lane is in bypass: enabled, both bundles in detector or timing mode with the same M and layer (R94). -/
def State.bypassOn (s : State) (n i : Nat) : Bool :=
  let b := s.get F.laneBypassSrcBundle n i
  let plain (x : Nat) : Bool := s.get F.laneCfgMode x == modeDetector || s.get F.laneCfgMode x == modeTiming
  s.bit F.laneBypassEn n i && plain n && plain b && s.get F.laneCfgMult n == s.get F.laneCfgMult b
    && s.get F.laneCfgTxLayer n == s.get F.laneCfgRxLayer b

/-- The capability word a lane sends (R100). -/
def State.capsWord (s : State) (n m : Nat) : Nat :=
  0xA49 * 2 ^ 52 + 1 * 2 ^ 48 + (s.get F.laneCfgMult n - 1) * 2 ^ 42 + s.get F.laneCfgMode n * 2 ^ 40 + n * 2 ^ 34
    + m * 2 ^ 30 + s.get F.laneGangPos n * 2 ^ 27 + s.get F.laneGangSize n * 2 ^ 24 + 2 ^ 23
    + b2n (s.lane n m).seen * 2 ^ 22 + s.get F.laneLinkIdVal n

/-- The content of a frame that carries data: the word of its window, or empty (R79, R86, R87). -/
def State.txContent (s : State) (n m steer : Nat) : Nat × Nat :=
  match Tab.look (s.lane n m).tx s.mt.boundary with
  | some w => (mkTyp w.poison (if w.link then 3 else 0) steer w.user, w.data)
  | none => (mkTyp false 1 steer false, 0)

/-- A transmit lane whose receive partner has left bring-up, and which carries data (R98). -/
def State.carries (s : State) (n m : Nat) : Bool :=
  match s.laneSt n m with
  | .active | .standby | .retrain | .retired => true
  | .off | .stopping | .detect | .train | .align | .caps => false

/-- Transmit lanes of the bundle send poisoned empty frames since a trip (15 R489). -/
def State.txHeld (s : State) (n : Nat) : Bool := s.txTripped && s.get F.laneCfgMode n != modeCave

/-- A transmit lane takes its frames from its bypass source (R94, R97); since a trip none does (15 R489). -/
def State.inBypass (s : State) (n i : Nat) : Bool := s.bypassOn n i && s.carries n i && !s.txHeld n

/-- The source lane of a bypass is ACTIVE (R97). -/
def State.bypassActive (s : State) (n i : Nat) : Bool := s.laneSt (s.bypassSource n i).1 (s.bypassSource n i).2 == .active

/-- The transmit lane whose frames a lane carries: its own, or on .SP the one the far end asks for (R110). -/
def State.carried (s : State) (n m : Nat) : Option Nat :=
  if m < 8 then some m else if 8 ≤ (s.bundle n).steerIn then some ((s.bundle n).steerIn - 8) else none

/-- The lane carries the frames of a lane in bypass (R94, R110). -/
def State.carriesBypass (s : State) (n m : Nat) : Bool :=
  s.carries n m && (match s.carried n m with | some i => s.inBypass n i | none => false)

/-- What a transmit lane sends at this boundary, by the state of its receive partner (R98, R110): nothing, or type and
payload. -/
def State.txSends (s : State) (n m : Nat) : Option (Nat × Nat) :=
  let steer := if m < 8 then s.get F.laneStatusSteerTx n else if s.carries n 8 then (s.bundle n).steerIn else 0
  let empty := (mkTyp (s.txHeld n) 1 steer false, 0)
  if !s.bundleReady n then none
  else match s.laneSt n m with
    | .off | .stopping => none
    | .detect => if (s.lane n m).farFound then some empty else none
    | .train | .align => some empty
    | .caps =>
      if s.txHeld n then some empty else some (mkTyp false 2 steer false, s.capsWord n m * 2 ^ (s.frameBits n - 128))
    | .active | .standby | .retrain | .retired =>
      match s.carried n m with
      | some i => if s.txHeld n then some empty else some (s.txContent n i steer)
      | none => some empty

/-- Drive a frame on a lane, inverted where tx_inv asks for it (R105). -/
def driveFrame (n m f : Nat) (s : State) : State :=
  s.drive (.frame n m (if s.bit F.laneLctrlTxInv n m then 2 ^ s.frameBits n - 1 - f else f))

/-- Launch a frame on a lane, built with the local tag (R78, R85). -/
def launch (n m typ payload : Nat) (s : State) : State :=
  driveFrame n m (txFrame (s.frameBits n) (s.mt.cross % 256) typ payload) s

/-- The launch of lane `m` at the present boundary. A lane in bypass launches none, or poisoned empty frames while its
source is not ACTIVE (R97). -/
def txLaunch (n m : Nat) (s : State) : State :=
  let s := closeVotes n s
  let bypass := s.carriesBypass n m
  if bypass && (match s.carried n m with | some i => s.bypassActive n i | none => false) then s
  else
    match s.txSends n m with
    | none => s
    | some (typ, payload) =>
      let s := if bypass then launch n m (mkTyp true 1 (typSteer typ) false) 0 (s.flag F.laneErrBypassSrc n)
        else launch n m typ payload s
      -- The word of this boundary stays: .SP may carry it too (R110).
      let s := s.modLane n m (fun l => { l with tx := l.tx.filter (fun e => s.mt.boundary ≤ e.1) })
      if s.laneSt n m = .caps ∧ s.txHeld n = false ∧ (s.lane n m).seen = true then
        capsDone n m (s.modLane n m (fun l => { l with sentSeen := l.sentSeen + 1 }))
      else s

/-- TX_FRAME_LAUNCH (R72, R83, R85): lanes 0 to 7 are the data lanes, 8 the spare, 9 the forwarded clock, whose marker
pattern is sent in the crossing of MTIME_ORBIT_OFS. -/
def execTxFrameLaunch (n : Fin 48) (m : Fin 10) (s : State) : Out :=
  .next <|
    if m.val = 9 then
      if s.bundleReady n then s.drive (.ck n (if s.mt.cross = s.markerIndex then 0xF000 else 0xFF00)) else s
    else txLaunch n m s

/-- The frame a bypass makes of its source's: sync word and tag unchanged, the CRC fresh, complemented where the incoming
one failed (R96). -/
def bypassFrameOf (bitsM : Nat) (f : RxFrame) (typ payload : Nat) : Nat :=
  let crc := crc32c (frameBody bitsM f.tag typ payload) (bitsM - 48)
  buildFrame bitsM f.sync f.tag typ payload (if f.crcOk then crc else 0xFFFFFFFF - crc)

/-- BYPASS_FRAME (R94 to R97): the frame last received on the source lane leaves again; `typ` and `payload` are what the
fixed region's stage of cells makes of it, with the bundle's own spare request in the type (R110, step 1). Where the far
end has asked for the lane on .SP, it leaves there too, with the indicator (R110). -/
def execBypassFrame (n : Fin 48) (m : Fin 8) (typ : Byte) (payload : Nat) (s : State) : Out :=
  .next <|
    let src := s.bypassSource n m
    if s.bundleReady n && s.inBypass n m && s.bypassActive n m then
      match (s.lane src.1 src.2).lastRx with
      | none => s
      | some f =>
        let s := driveFrame n m (bypassFrameOf (s.frameBits n) f (setBits typ.toNat 4 1 (s.get F.laneStatusSteerTx n)) payload) s
        if (s.bundle n).steerIn = 8 + m ∧ s.carries n 8 = true then
          driveFrame n 8 (bypassFrameOf (s.frameBits n) f (setBits typ.toNat 4 1 (8 + m)) payload) s
        else s
    else s

/-! ### Loss of lock, retraining, stop (R98, R99, R108, R109, R114) -/

/-- LOSS_OF_LOCK (R99): the clock recovery lost lock (`recovery`), or 4 frames in a row had sync errors. -/
def execLossOfLock (n : Fin 48) (m : Fin 9) (recovery : Bool) (s : State) : Out :=
  .next (if recovery || decide (4 ≤ (s.lane n m).syncErr) then enterRetrain n m s else s)

/-- RETRAIN_DONE (R98): frame lock with a margin of at least 0 returns the lane to its previous state. A spare that is
STANDBY again asks for a lane retired meanwhile (R110). -/
def execRetrainDone (n : Fin 48) (m : Fin 9) (margin : Int) (s : State) : Out :=
  .next <|
    if s.laneSt n m = .retrain ∧ 0 ≤ margin then
      let s := s.setLaneSt n m (if (s.lane n m).fromStandby then .standby else .active)
      let s := s.modLane n m (fun l => { l with syncErr := 0 })
      if m.val = 8 ∧ (s.lane n m).fromStandby = true then spareReady n s else s
    else s

/-- RETRAIN_TIMEOUT (R108, R109): 10 µs in RETRAIN retire the lane; under R109 it returns to DETECT. -/
def execRetrainTimeout (n : Fin 48) (m : Fin 9) (s : State) : Out :=
  .next <|
    if s.laneSt n m = .retrain then
      if s.lanesHeld n then
        (s.setLaneSt n m .detect).modLane n m (fun l => { l with farFound := false, syncErr := 0, buf := [] })
      else retireLane n m s
    else s

/-- LANE_STOP_DONE (R98, R114): clearing is done; OFF, or DETECT when an enable is latched. -/
def laneStopDone (n m : Nat) (s : State) : State :=
  if s.laneSt n m = .stopping then
    if s.bit F.laneLstPendingEnable n m && s.bundleReady n then startBringup n m s
    else
      let w := s.bit F.laneLstPendingEnable n m || (s.lane n m).wanted
      ((s.setLaneSt n m .off).clear F.laneLstPendingEnable n m).modLane n m (fun l => { l with wanted := w })
  else s

/-- LANE_STOP_DONE (R98). -/
def execLaneStopDone (n : Fin 48) (m : Fin 9) (s : State) : Out := .next (laneStopDone n m s)

/-! ### The forwarded clock (R84) -/

/-- CK_LANE_LOSS (R84): ck_lost, ck_locked 0; on the timing-mode source it is also loss of the machine clock under 02 R45,
with `begun` as MACHINE_CLOCK_LOSS has it. -/
def execCkLaneLoss (n : Fin 48) (begun : Bool) (s : State) : Out :=
  .next <|
    let s := (s.flag F.laneErrCkLost n).clear F.laneStatusCkLocked n
    if s.timingSrc = true ∧ s.get F.mtimeCtrlTbundle = n then mtLoss begun s else s

/-- CK_LANE_RETURN (R84): the receive .CK lane locks again. -/
def execCkLaneReturn (n : Fin 48) (s : State) : Out := .next (s.flag F.laneStatusCkLocked n)

/-! ### Eye scan (R116 to R118) -/

/-- Write the fields of an eye-scan point. -/
def eyeFields (n v : Nat) (s : State) : State :=
  let s := (s.put F.laneEyeCtrlDwell (bits v 28 24) n).put F.laneEyeCtrlLane (bits v 23 20) n
  (s.put F.laneEyeCtrlVolt (bits v 13 7) n).put F.laneEyeCtrlPhase (bits v 5 0) n

/-- The lane of the scan is in service (R116). -/
def State.eyeLaneOk (s : State) (n : Nat) : Bool :=
  let m := s.get F.laneEyeCtrlLane n
  decide (m ≤ 8) && (s.laneSt n m == .active || s.laneSt n m == .standby)

/-- A write of LANE_EYE_CTRL (R117, R118): start = 1 starts a point, or is BUSY while one runs; start = 0 aborts a
running one and sets the fields. A start on a lane that is not in service, or on no lane, is aborted at once: the spec does
not say what it does (DESIGN CHOICE, log entry 108). -/
def eyeWrite (n v : Nat) (s : State) : State × Status :=
  let running := s.get F.laneEyeStatState n = 1
  if bitAt v 31 then
    if running then (s, .busy)
    else
      let s := eyeFields n v s
      if s.eyeLaneOk n then ((s.flag F.laneEyeCtrlStart n).put F.laneEyeStatState 1 n, .ok)
      else (s.put F.laneEyeStatState 3 n, .ok)
  else
    let s := if running then (s.put F.laneEyeStatState 3 n).clear F.laneEyeCtrlStart n else s
    (eyeFields n v s, .ok)

/-- LANE_EYE_START (R118): a write of LANE_EYE_CTRL. -/
def execLaneEyeStart (n : Fin 48) (v : Word) (s : State) : Out := reply (eyeWrite n v.toNat s)

/-- EYE_SCAN_ABORT (R117): by a write of LANE_EYE_CTRL with start = 0, or because the lane left service. -/
def execEyeScanAbort (n : Fin 48) (write : Option Word) (s : State) : Out :=
  match write with
  | some v => reply (eyeWrite n (v.toNat % 2 ^ 31) s)
  | none => .next <|
    if s.get F.laneEyeStatState n = 1 ∧ s.eyeLaneOk n = false then
      (s.put F.laneEyeStatState 3 n).clear F.laneEyeCtrlStart n
    else s

/-- The bits a scan compares (R116): 2^(20 + dwell), a dwell above 20 taken as 20. -/
def State.eyeBits (s : State) (n : Nat) : Nat := 2 ^ (20 + min (s.get F.laneEyeCtrlDwell n) 20)

/-- EYE_SCAN_DONE (R116, R117): the dwell is reached with `count` disagreements among the bits compared, saturating at
0xFFFF_FFFF; a lane that is no longer in service has aborted the scan. -/
def execEyeScanDone (n : Fin 48) (count : Nat) (s : State) : Out :=
  .next <|
    if s.get F.laneEyeStatState n = 1 then
      if s.eyeLaneOk n then
        ((s.put F.laneEyeStatState 2 n).clear F.laneEyeCtrlStart n).put F.laneEyeErrVal
          (min (min count (s.eyeBits n)) 0xFFFFFFFF) n
      else (s.put F.laneEyeStatState 3 n).clear F.laneEyeCtrlStart n
    else s

/-! ### The orbit boundary (R89, R107 to R109) -/

/-- End a lane's orbit: LANE_MARGIN and LANE_ORBBAD show it; 16 or more bad frames in each of 3 orbits in a row retire
the lane. While the counts are held (R109) they are discarded. After an orbit without a frame LANE_MARGIN keeps its value:
the spec gives none (DESIGN CHOICE, log entry 108). -/
def laneOrbit (n m : Nat) (s : State) : State :=
  let l := s.lane n m
  let held := s.lanesHeld n
  let s := match l.minMargin with
    | some x => s.put F.laneMarginVal (toSigned16 x) n m
    | none => s
  let bad := if held then 0 else l.badOrbit
  let s := s.setLane n m { l with minMargin := none, badOrbit := 0 }
  let s := s.put F.laneOrbbadBad (min bad 65535) n m
  let consec := if 16 ≤ bad then s.get F.laneOrbbadConsec n m + 1 else 0
  let s := s.put F.laneOrbbadConsec (min consec 3) n m
  if 3 ≤ consec ∧ s.laneSt n m = .active then retireLane n m (s.put F.laneOrbbadConsec 0 n m) else s

/-- End the orbit of every lane that holds anything. -/
def lanesOrbit (s : State) : State :=
  let s := s.lanes.foldl (fun s e => laneOrbit (e.1 / 16) (e.1 % 16) s) s
  if s.mtSt = .aligned then { s with mt := { s.mt with heldLanes := false } } else s

/-- After global start every lane that was enabled starts its bring-up (R98). -/
def lanesStart (s : State) : State :=
  s.lanes.foldl (fun s e => if e.2.wanted then laneEnable (e.1 / 16) (e.1 % 16) s else s) s

end Sys2Proof.Machine
end

