-- ==== Sys2Proof/Machine/Fabric.lean ====
section
/-!
DEFINITION. Fabric clocks, regions and their contexts, span segments with their contention handling, and user I/O banks
(04, and the groups of 05).
-/
namespace Sys2Proof.Machine

/-! ### Regions and contexts (05 R162 to R164) -/

/-- The switch group of a region: 0 to 191 the hoops, 192 and 193 the fixed regions. -/
def State.groupOf (s : State) (region : Nat) : Nat :=
  if region < 192 then s.get F.fabHoopCfgGrp region
  else if region = 192 then s.get F.fabFixGrpGrpL1 else s.get F.fabFixGrpGrpL2

/-- The current context of a region, which is its group's (R164). -/
def State.ctxOf (s : State) (region : Nat) : Nat := s.get F.fabGrpCur (s.groupOf region)

/-- A hoop's data beyond its registers. -/
def State.hoop (s : State) (n : Nat) : HoopSt := Tab.get {} s.hoops n

/-- Change a hoop's data. -/
def State.modHoop (s : State) (n : Nat) (f : HoopSt → HoopSt) : State :=
  { s with hoops := Tab.put {} s.hoops n (f (s.hoop n)) }

/-- Global start has taken place (R191). -/
def State.started (s : State) : Bool := s.bit F.fabCtrlStarted

/-- A region runs: a hoop while HOOP_LIVE is 1, a fixed region from global start (R179, R189). -/
def State.regionRuns (s : State) (region : Nat) : Bool := if region < 192 then (s.hoop region).live else s.started

/-- The contexts of a region that hold a design (R172, 06 R204). -/
def State.ctxValid (s : State) (region : Nat) : Nat :=
  if region < 192 then s.get F.fabHoopCfgCtxValid region else if region = 192 then s.fixValid.1 else s.fixValid.2

/-! ### Fabric clocks (R146 to R150, R161) -/

/-- The multiple of a fabric clock. -/
def State.kOf (s : State) (clk : Nat) : Nat :=
  match clk % 4 with
  | 0 => s.get F.fabFclkCtrlK0
  | 1 => s.get F.fabFclkCtrlK1
  | 2 => s.get F.fabFclkCtrlK2
  | _ => s.get F.fabFclkCtrlK3

/-- A fabric clock of multiple `k` exceeds a limit in MHz, by MTIME_NOM_PERIOD (R147). -/
def State.overMhz (s : State) (k lim : Nat) : Bool := decide (lim * s.get F.mtimeNomPeriodVal < k * 1000000000)

/-- A multiple that FAB_FCLK_CTRL takes: 0 or 2 to 24 (R146, R161). -/
def legalK (k : Nat) : Bool := k != 1 && decide (k < 25)

/-- A write of FAB_FCLK_CTRL (R150, R161). After global start it is BUSY whether or not the block is locked (DESIGN CHOICE, log
entry 108). -/
def fclkWrite (v : Nat) (s : State) : State × Status :=
  if s.started then (s, .busy)
  else if s.bit F.fabCtrlLock then (s, .ok)
  else
    let k0 := bits v 4 0
    let k1 := bits v 12 8
    let k2 := bits v 20 16
    let k3 := bits v 28 24
    if legalK k0 && legalK k1 && legalK k2 && legalK k3 then
      let s := ((s.put F.fabFclkCtrlK0 k0).put F.fabFclkCtrlK1 k1).put F.fabFclkCtrlK2 k2
      ((s.put F.fabFclkCtrlK3 k3).clear F.fabFclkStatusBadK, .ok)
    else (s.flag F.fabFclkStatusBadK, .ok)

/-- FCLK_CTRL_WRITE (R150). -/
def execFclkCtrlWrite (v : Word) (s : State) : Out := reply (fclkWrite v.toNat s)

/-- The check of the fabric clocks at global start (R147): FAB_FCLK_STATUS shows the cause; whether start may go on. -/
def fclkCheck (s : State) : Bool × State :=
  let fast := (List.range 4).foldl (fun m c => if s.overMhz (s.kOf c) 900 then m + 2 ^ c else m) 0
  let zero := s.kOf 0 == 0
  let s := (s.put F.fabFclkStatusOver fast).putBit F.fabFclkStatusK0Zero zero
  if fast == 0 && !zero then (true, s) else (false, s.raise .fabClkRefused)

/-- The fabric clocks run from global start: those of a multiple that is not 0. -/
def fclkRun (s : State) : State :=
  s.put F.fabFclkStatusRun ((List.range 4).foldl (fun m c => if s.kOf c == 0 then m else m + 2 ^ c) 0)

/-! ### Span segments (R137 to R145) -/

/-- Key of a segment. -/
def segKey (g : Seg) : Nat := (segOf g).key

/-- Whether the grid has the segment (R120, R137). -/
def segExists (g : Seg) : Bool := (segOf g).there

/-- The region a segment lies in (R137): the hoop, or 192 and 193 for the fixed region of a layer. -/
def segRegion (g : Seg) : Nat := (segOf g).region

/-- A driver of a segment is enabled now: configured in the present contexts, and not disabled by a clamp: a hoop's drivers
and the joints out of its segments are off while it is not live (05 R179). -/
def State.driverOn (s : State) (g : SpanSeg) (d : SpanDriver) : Bool :=
  s.driverField g (s.ctxOf g.region % 4) (s.ctxOf (192 + g.layer) % 4) d != 0 &&
    match d with
    | .cluster _ => s.regionRuns g.region
    | .joint up => s.started && (decide (192 ≤ (g.before up).region) || s.regionRuns (g.before up).region)

/-- A driver belongs to the clusters of the segment's own region. -/
def SpanDriver.own : SpanDriver → Bool
  | .cluster _ => true
  | .joint _ => false

/-- FAB_SPAN_LOG for a segment: its place and the context of its region. -/
def spanLog (g : Seg) (ctx : Nat) : Nat :=
  g.layer.val * 2 ^ 31 + b2n g.vertical * 2 ^ 30 + ctx % 4 * 2 ^ 28 + g.span.val * 2 ^ 24 + g.segment.val * 2 ^ 20
    + g.line.val

/-- FAB_SPAN_STAT.disabled follows the segments in CUT and STUCK; an unlisted segment is DRIVEN. -/
def spanCount (s : State) : State :=
  s.put F.fabSpanStatDisabled (min 4095 (s.spans.filter (fun e => e.2.st != .driven)).length)

/-- Replace a segment's data. -/
def State.setSpan (s : State) (k : Nat) (p : Span) : State := spanCount { s with spans := Tab.put {} s.spans k p }

/-- Nanoseconds of a crossing as parts of it, by MTIME_NOM_PERIOD. -/
def State.nsTicks (s : State) (ns : Nat) : Nat := ns * 1000000 * fabGrid / s.get F.mtimeNomPeriodVal

/-- SPAN_CONTENTION (R143, R144): an upset has enabled a driver of a DRIVEN segment, numbered as `SpanSeg.drivers` lists them,
beside another. The segment enters CUT, or STUCK when this is the third entry within 1 s; the hoop that holds an enabled
driver of it is flagged; the level is undefined until the drivers are disabled, 2 ns later. -/
def execSpanContention (seg : Seg) (driver : Fin 42) (s : State) : Out :=
  .next <|
    let g := segOf seg
    let k := segKey seg
    let p := Tab.get {} s.spans k
    let region := g.region
    if s.started ∧ g.there = true ∧ p.st = .driven ∧ driver.val < g.drivers.length then
      let log := spanLog seg (s.ctxOf region)
      let recent := s.pt :: p.cuts.filter (fun t => decide (s.since t < 1000000000))
      let holds := (g.drivers.getD driver (.joint true)).own || g.drivers.any (fun d => d.own && s.driverOn g d)
      let until_ := s.mt.fabTick + s.nsTicks 2
      let s := s.bump F.fabSpanStatDetections
      let s := s.setWord .fabSpanLog (BitVec.ofNat 32 log)
      let s := (s.flag F.fabSpanErrDetected).raise .fabSpanCut 0 log
      let s := if region < 192 ∧ holds = true then s.flag F.fabHoopFlagSpan region else s
      if 3 ≤ recent.length then
        ((s.setSpan k { st := .stuck, cuts := recent, openTo := until_ }).flag F.fabSpanErrStuck).raise .fabSpanStuck 0 log
      else s.setSpan k { st := .cut, cuts := recent, openTo := until_ }
    else s

/-- The frames of a region are in service: not while the fabric is held, nor of a hoop in LOADING (2) or INCOMPLETE (6). -/
def State.regionLoaded (s : State) (region : Nat) : Bool :=
  s.started && (decide (192 ≤ region) || (s.get F.fabHoopStatusState region != 2 && s.get F.fabHoopStatusState region != 6))

/-- SPAN_REENABLE (R143): the frames of a CUT segment's driver enables are corrected, and the drivers are re-enabled at
the next crossing boundary; or a full scrub pass finds them clean, and the segment is STUCK. While its region is reloaded the
segment stays in CUT (R145). -/
def execSpanReenable (seg : Seg) (corrected : Bool) (s : State) : Out :=
  .next <|
    let k := segKey seg
    let p := Tab.get {} s.spans k
    if p.st = .cut ∧ s.regionLoaded (segRegion seg) = true then
      if corrected then s.setSpan k { p with reopen := true }
      else
        ((s.setSpan k { p with st := .stuck, reopen := false }).flag F.fabSpanErrStuck).raise .fabSpanStuck 0
          (spanLog seg (s.ctxOf (segRegion seg)))
    else s

/-- A frame slot holds the enable of a driver of the segment. -/
def SpanSeg.enabledBy (g : SpanSeg) (slot : Nat) : Bool :=
  (List.range 4).any (fun ctx => g.drivers.any (fun d => g.enableSlot ctx ctx d == slot))

/-- A frame is corrected or rewritten: the CUT segments whose driver enables it holds are re-enabled at the next boundary
(R143). -/
def spansMended (slot : Nat) (s : State) : State :=
  { s with spans := s.spans.map (fun e =>
      if e.2.st = .cut ∧ (SpanSeg.ofKey e.1).enabledBy slot = true then (e.1, { e.2 with reopen := true }) else e) }

/-- A load of a region begins: its CUT segments stay cut until it has completed (R145). -/
def spansHold (region : Nat → Bool) (s : State) : State :=
  { s with spans := s.spans.map (fun e => if region (SpanSeg.ofKey e.1).region then (e.1, { e.2 with reopen := false }) else e) }

/-- At a crossing boundary the segments whose drivers are to be re-enabled return to DRIVEN (R143). -/
def spansBoundary (s : State) : State :=
  if s.spans.any (fun e => e.2.reopen) then
    spanCount { s with spans := s.spans.map (fun e => if e.2.reopen then (e.1, { e.2 with st := .driven, reopen := false }) else e) }
  else s

/-- A completed load of a region returns its segments to DRIVEN; the times of their entries to CUT count on (R143, R145). -/
def spansReload (region : Nat → Bool) (s : State) : State :=
  spanCount { s with spans := s.spans.map (fun e =>
    if region (SpanSeg.ofKey e.1).region then (e.1, { e.2 with st := .driven, reopen := false }) else e) }

/-! ### User I/O banks (R152 to R158) -/

/-- The highest bit rate of a standard in Mb/s (R152); 0 for a reserved one. -/
def iobLimit : Nat → Nat
  | 0 => 200
  | 1 => 400
  | 2 => 1600
  | 3 => 1600
  | _ => 0

/-- Whether a standard fits the measured VCCIO (R152, R153). -/
def iobFits (std : Nat) (v18 : Bool) : Bool :=
  match std with
  | 0 => !v18
  | 1 => v18
  | 2 => !v18
  | 3 => true
  | _ => false

/-- S, the serialiser ratio of a bank (R155). -/
def State.iobRatio (s : State) (n : Nat) : Nat := 2 ^ s.get F.fabIobCfgRatio n

/-- A bank belongs to a differential standard: its pins 2j and 2j + 1 are the two of pair j (R152). -/
def State.iobPaired (s : State) (n : Nat) : Bool := s.get F.fabIobCfgStd n == 2 || s.get F.fabIobCfgStd n == 3

/-- The check of a bank by its measured VCCIO (R153, R155): a bank is in service if it is enabled, its standard fits its
VCCIO and its bit rate is within the standard's limit; a reserved standard leaves it disabled. The event comes when a
mismatch begins. -/
def iobCheck (n : Nat) (s : State) : State :=
  let std := s.get F.fabIobCfgStd n
  let was := s.bit F.fabIobStatusMismatch n
  let s := ((s.clear F.fabIobStatusActive n).clear F.fabIobStatusMismatch n).clear F.fabIobStatusRateHigh n
  if s.bit F.fabIobCfgEn n && decide (std < 4) then
    let high := s.overMhz (s.iobRatio n * s.kOf (s.get F.fabIobCfgWclk n)) (iobLimit std)
    let s := s.putBit F.fabIobStatusRateHigh high n
    if iobFits std (s.bit F.fabIobStatusVccio18 n) then s.putBit F.fabIobStatusActive (!high) n
    else if was then s.flag F.fabIobStatusMismatch n
    else (s.flag F.fabIobStatusMismatch n).raise .fabIobMismatch
  else s

/-- The check of a bank at global start. -/
def iobStart (n : Nat) (s : State) : State := iobCheck n (s.clear F.fabIobStatusMismatch n)

/-- The banks at global start. -/
def iobsStart (s : State) : State := (List.range 13).foldl (fun s n => iobStart n s) s

/-- The strap PSELn pulls bank `n` up (R158). -/
def State.pselUp (s : State) (n : Nat) : Bool := (s.get F.sysStrapPsel).testBit n

/-- A word rotated by `k` bits within a width of `w` bits: bit i takes bit (i + k) mod w. R157 does not say which way FAB_IOD.slip
rotates (DESIGN CHOICE, log entry 108). -/
def rotateWord (w k v : Nat) : Nat :=
  (List.range w).foldl (fun acc i => if v.testBit ((i + k) % w) then acc + 2 ^ i else acc) 0

/-- A delay moved one tap toward its target (R157). -/
def tapStep (now target : Nat) : Nat := if now < target then now + 1 else if target < now then now - 1 else now

/-- A bank's pins are in service: after global start, in a bank that is active, while its domain is ON (R153, R158). -/
def State.iobUp (s : State) (n : Nat) : Bool :=
  s.started && s.bit F.fabIobStatusActive n && decide ((Tab.get {} s.doms (400 + n)).st = .on)

/-- What holds a pin that is not driven (R158): until global start and while its domain is not ON the weak pull; after it the
weak pull only with pull_keep. -/
def State.pinPull (s : State) (p : Nat) : Option Bool :=
  let n := p / 32
  if s.started = false ∨ (Tab.get {} s.doms (400 + n)).st ≠ .on ∨ s.bit F.fabIobCfgPullKeep n = true then some (s.pselUp n) else none

/-- What a pin shows: the word it drives, none while it is high-impedance, and the weak pull that holds it (R158). -/
def State.pinShown (s : State) (p : Nat) : Option Nat × Option Bool :=
  match (if s.iobUp (p / 32) then (Tab.get {} s.pins p).now else none) with
  | some w => (some w, none)
  | none => (none, s.pinPull p)

/-- The word a pin delivers to its fabric port; 0 while its bank is not in service (R153) and while the boundary register owns
the pins (19 R585). -/
def State.pinIn (s : State) (p : Nat) : Nat := if s.iobUp (p / 32) && !s.extest then (Tab.get {} s.pins p).got else 0

/-- Drive a pin with what it shows. -/
def showPin (p : Nat) (s : State) : State := s.drive (.pin p (s.pinShown p).1 (s.pinShown p).2)

/-- The pins of banks that leave service are released: those that were driven show it (R158). -/
def releasePins (bank : Nat → Bool) (s : State) : State :=
  let driven := s.pins.filter (fun e => bank (e.1 / 32) && e.2.now.isSome)
  let s := { s with pins := s.pins.map (fun e => if bank (e.1 / 32) then (e.1, { e.2 with tx := [], rx := [], now := none, got := 0 }) else e) }
  driven.foldl (fun s e => showPin e.1 s) s

/-- A bank in service follows its measured VCCIO (R153). -/
def iobFollow (n : Nat) (s : State) : State :=
  if s.started then
    let s := iobCheck n s
    if s.iobUp n then s else releasePins (fun m => m == n) s
  else s

/-- A word-clock edge of a pin in service: user logic's word and output enable enter the transmit pipeline, and those of two
edges before go out, the enable with its word (DESIGN CHOICE, log entry 108: R156 gives the two clocks for words only); the
word received enters the receive pipeline and the one of two edges before is delivered. The delay moves one tap, and the slip
written applies to words from this boundary on. -/
def pinWord (p : Nat) (tx : Byte) (oe : Bool) (rx : Byte) (s : State) : State :=
  let n := p / 32
  let ratio := s.iobRatio n
  let pin := Tab.get {} s.pins p
  -- The boundary register owns the pins: inputs read 0 (19 R585).
  let word := if s.extest then 0 else rotateWord ratio (pin.slip % ratio) rx.toNat
  let out := pin.tx.getD 1 (0, false)
  -- LVDS outputs need 1.8 V (R152).
  let drives := out.2 && (s.get F.fabIobCfgStd n != 3 || s.bit F.fabIobStatusVccio18 n)
  let next : IoPin :=
    { taps := tapStep pin.taps (s.get F.fabIodTaps p), slip := s.get F.fabIodSlip p,
      tx := (tx.toNat % 2 ^ ratio, oe) :: pin.tx.take 1, rx := word :: pin.rx.take 1,
      now := if drives then some out.1 else none, got := pin.rx.getD 1 0 }
  let s := showPin p { s with pins := Tab.put {} s.pins p next }
  -- The second pin of a pair carries the complement (R152).
  if s.iobPaired n then
    let other : IoPin := { Tab.get {} s.pins (p + 1) with now := next.now.map (fun w => 2 ^ ratio - 1 - w) }
    showPin (p + 1) { s with pins := Tab.put {} s.pins (p + 1) other }
  else s

/-- USER_IO_WORD (R153 to R158): a word-clock edge of a pin, or of a pair by its pin 2j, at the port of a layer. Only the port
of the layer that FAB_IOB_CFG.layer names is the bank's, and the second pin of a pair has no word of its own. A pin out of
service delivers 0. -/
def execUserIoWord (layer : Fin 2) (p : Fin 416) (tx : Byte) (oe : Bool) (rx : Byte) (s : State) : Out :=
  .next <|
    let n := p.val / 32
    if s.get F.fabIobCfgLayer n ≠ layer.val ∨ (s.iobPaired n = true ∧ p.val % 2 = 1) then s
    else
      let s := if s.iobUp n then pinWord p tx oe rx s else showPin p s
      s.emit (.pinIn p.val (s.pinIn p))

/-- A write of FAB_IOD (R157): the delay and the slip to reach. -/
def iodWrite (p v : Nat) (s : State) : State × Status :=
  ((s.put F.fabIodTaps (bits v 6 0) p).put F.fabIodSlip (bits v 18 16) p, .ok)

/-- IOD_WRITE (R157). -/
def execIodWrite (p : Fin 416) (v : Word) (s : State) : Out := reply (iodWrite p v.toNat s)

end Sys2Proof.Machine
end

