-- ==== Sys2Proof/Machine/HardBlocks.lean ====
section
/-!
DEFINITION. Arithmetic slices and rank units (06), with the gating of hard blocks by binding (05 R174 to R177) and the
hold checks of 06 R204 and R211.
-/
namespace Sys2Proof.Machine

/-! ### Binding and gating (05 R174 to R177) -/

/-- A hard block's clock runs: its owner runs, its binding names the owner's current context or all contexts, and it is
not held. -/
def State.blockRuns (s : State) (owner bind : Nat) (held : Bool) : Bool :=
  s.regionRuns owner && (bind == 4 || bind == s.ctxOf owner) && !held

/-- The contexts a block is checked in: its bound context if valid, or every valid context of its owner (06 R204). -/
def State.ctxChecked (s : State) (owner bind : Nat) : List Nat :=
  (List.range 4).filter (fun c => (s.ctxValid owner).testBit c && (bind == 4 || bind == c))

/-- A clock multiple may not run a block limited to `lim` MHz: over the limit, or stopped (06 R204). -/
def State.clockBad (s : State) (clk lim : Nat) : Bool := s.kOf clk == 0 || s.overMhz (s.kOf clk) lim

/-- Bit `i` of a register of held blocks, 32 to a register. -/
def State.heldBit (s : State) (r : RegName) (i : Nat) : Bool := (s.word r (i / 32)).toNat.testBit (i % 32)

/-- Write bit `i` of a register of held blocks. -/
def State.setHeldBit (s : State) (r : RegName) (i : Nat) (b : Bool) : State :=
  s.setWord r (BitVec.ofNat 32 (setBits (s.word r (i / 32)).toNat (i % 32) (i % 32) (b2n b))) (i / 32)

/-- Hold or release a block after its check: its hold bit, the count of blocks held, the sticky flag and the event
(06 R204, R211). -/
def holdBlock (r : RegName) (cnt err : Fld) (i : Nat) (bad : Bool) (s : State) : State :=
  let was := s.heldBit r i
  let s := s.setHeldBit r i bad
  let s := if bad && !was then s.put cnt (s.get cnt + 1) else if was && !bad then s.put cnt (s.get cnt - 1) else s
  if bad then (s.flag err).raise .fabHbHeld else s

/-! ### Arithmetic slices (R193 to R204) -/

/-- The region a slice lies in (R193). -/
def sliceOwner (i : Nat) : Nat :=
  let l := i / 6144
  let band := i % 6144 / 384
  let g := i % 384 / 32
  if band % 2 = 0 then 96 * l + 12 * (band / 2) + g else 192 + l

/-- The slices of a region, lowest first (R193). -/
def slicesOf (region : Nat) : List Nat :=
  if region < 192 then
    (List.range 32).map (fun j => 6144 * (region / 96) + 768 * (region % 96 / 12) + 32 * (region % 12) + j)
  else
    (List.range 3072).map (fun j => 6144 * (region - 192) + 768 * (j / 384) + 384 + j % 384)

/-- A slice's configuration in a context. -/
def State.sliceCfg (s : State) (i ctx : Nat) : SliceCfg := Tab.get {} s.sliceCfgs (4 * i + ctx % 4)

/-- A slice's registers. -/
def State.slice (s : State) (i : Nat) : SliceSt := Tab.get {} s.slices i

/-- The limit of a slice's clock in MHz (R203). -/
def sliceLimit (c : SliceCfg) : Nat :=
  match c.stOp, c.stProd with
  | true, true => if Config.speedS2 then 800 else 720
  | false, true => if Config.speedS2 then 640 else 560
  | true, false => if Config.speedS2 then 560 else 480
  | false, false => if Config.speedS2 then 400 else 360

/-- A slice is held: it failed self-test, or in a context it is checked in its clock is stopped or over its limit (R204,
15 R497). -/
def State.sliceBad (s : State) (i : Nat) : Bool :=
  s.failed.contains (5, i) || (s.ctxChecked (sliceOwner i) (s.get F.fabBindAsBind i)).any
    (fun ctx => s.clockBad (s.sliceCfg i ctx).clk (sliceLimit (s.sliceCfg i ctx)))

/-- Check the slices of a starting region (R204). -/
def checkSlices (region : Nat) (s : State) : State :=
  (slicesOf region).foldl
    (fun s i => holdBlock .fabHbHoldAs F.fabHbCntAs F.fabHbErrAsHeld i (s.sliceBad i) s) s

/-- Clear the accumulators and pipelines of a region's slices (05 R180). -/
def clearSlices (region : Nat) (s : State) : State :=
  { s with slices := s.slices.filter (fun e => sliceOwner e.1 != region) }

/-- A number of `w` bits as a two's-complement value. -/
def signedOf (w v : Nat) : Int := if v % 2 ^ w < 2 ^ (w - 1) then (v % 2 ^ w : Nat) else (v % 2 ^ w : Nat) - (2 ^ w : Nat)

/-- A value modulo 2^w, as a number of `w` bits. -/
def wrapTo (w : Nat) (x : Int) : Nat := (x % (2 ^ w : Nat)).toNat

/-- Bits [hi:lo] of a number as a signed value. -/
def sbits (v hi lo : Nat) : Int := signedOf (hi + 1 - lo) (bits v hi lo)

/-- Lane width of a mode (R196): DUAL12 has two lanes, QUAD8 four, the others one. -/
def laneWidth (mode : Nat) : Nat := if mode = 2 then 32 else if mode = 4 then 16 else 64

/-- The first multiplier operand in MUL24, and whether the pre-adder saturated (R197). -/
def preAdd (c : SliceCfg) (o : SliceOp) : Int × Bool :=
  let a := signedOf 24 o.a
  let e := signedOf 24 o.e
  if c.mode = 0 ∧ c.preEn = true then
    let r := if c.preNeg then a - e else a + e
    if r < -8388608 then (-8388608, true) else if 8388607 < r then (8388607, true) else (r, false)
  else (a, false)

/-- The product term of a sample by mode, its lanes packed into 64 bits (R196). -/
def productTerm (c : SliceCfg) (o : SliceOp) : Nat :=
  let lo12 := sbits o.a 11 0 * sbits o.b 11 0
  let hi12 := sbits o.a 23 12 * sbits o.b 23 12
  let q0 := sbits o.a 7 0 * sbits o.b 7 0
  let q1 := sbits o.a 15 8 * sbits o.b 15 8
  let q2 := sbits o.a 23 16 * sbits o.b 23 16
  let q3 := sbits o.e 7 0 * sbits o.e 15 8
  match c.mode with
  | 0 => wrapTo 64 ((preAdd c o).1 * signedOf 24 o.b)
  | 1 => wrapTo 64 (lo12 + hi12)
  | 2 => wrapTo 32 lo12 + wrapTo 32 hi12 * 2 ^ 32
  | 3 => wrapTo 64 (q0 + q1 + q2 + q3)
  | 4 => wrapTo 16 q0 + wrapTo 16 q1 * 2 ^ 16 + wrapTo 16 q2 * 2 ^ 32 + wrapTo 16 q3 * 2 ^ 48
  | 5 => wrapTo 64 (signedOf 48 (o.a * 2 ^ 24 + o.b))
  | _ => 0

/-- The pair of compare-select (R200): ACC and SWAP, from the two items. -/
def cmpSelect (c : SliceCfg) (u v : Nat) : Nat × Bool :=
  let kw := 8 * (c.csKw + 1)
  let ku := u % 2 ^ 32 / 2 ^ (32 - kw)
  let kv := v % 2 ^ 32 / 2 ^ (32 - kw)
  let less := if c.csSigned then decide (signedOf kw ku < signedOf kw kv) else decide (ku < kv)
  if less then (v % 2 ^ 32 + u % 2 ^ 32 * 2 ^ 32, true) else (u % 2 ^ 32 + v % 2 ^ 32 * 2 ^ 32, false)

/-- The product stage's view of a sample: the product term, and in compare-select the comparison (R202), whose U is SUMI at
this stage's edge where acc_src is 3 (DEDUCED, log entry 110). -/
def toProduct (c : SliceCfg) (sumi : Nat) (o : SliceOp) : SliceProd :=
  let r := cmpSelect c (if c.accSrc = 3 then sumi % 2 ^ 32 else o.w % 2 ^ 32) (o.w / 2 ^ 32)
  let p : SliceProd := { t := productTerm c o, w := o.w, zero := o.zero, neg := o.neg, presat := (preAdd c o).2 }
  if c.mode = 6 then { p with pair := r.1, swap := r.2 } else p

/-- One lane at the accumulator (R198, R199): the value taken and whether the exact result did not fit. -/
def laneResult (w : Nat) (sat neg : Bool) (y t : Nat) : Nat × Bool :=
  let r := if neg then signedOf w y - signedOf w t else signedOf w y + signedOf w t
  let lo : Int := -(2 ^ (w - 1) : Nat)
  let hi : Int := (2 ^ (w - 1) : Nat) - 1
  if r < lo then ((if sat then wrapTo w lo else wrapTo w r), true)
  else if hi < r then ((if sat then wrapTo w hi else wrapTo w r), true)
  else (wrapTo w r, false)

/-- The base term Y (R195, R198), 64 bits. -/
def baseTerm (c : SliceCfg) (p : SliceProd) (acc sumi : Nat) : Nat :=
  if p.zero then 0
  else match c.accSrc with
    | 1 => acc
    | 2 => p.w
    | 3 => sumi
    | 4 => wrapTo 64 (signedOf 64 sumi / 2 ^ 24)
    | _ => 0

/-- The capture of ACC (R198 to R200). -/
def accumulate (c : SliceCfg) (p : SliceProd) (sumi : Nat) (st : SliceSt) : SliceSt :=
  if c.mode = 6 then { st with acc := p.pair, ovf := 0, presat := false, swap := p.swap }
  else
    let w := laneWidth c.mode
    let y := baseTerm c p st.acc sumi
    let lanes := (List.range (64 / w)).map (fun l => laneResult w c.sat p.neg (y / 2 ^ (w * l)) (p.t / 2 ^ (w * l)))
    let acc := (lanes.mapIdx (fun l r => r.1 * 2 ^ (w * l))).sum
    let ovf := (lanes.mapIdx (fun l r => b2n r.2 * 2 ^ l)).sum
    { st with acc := acc, ovf := ovf, presat := p.presat, swap := false }

/-- Two edges of fabric clocks, each as boundary, edge and edges per crossing, coincide (04 R148). -/
def sameEdge (a b : Nat × Nat × Nat) : Bool := a.1 == b.1 && a.2.1 * b.2.2 == b.2.1 * a.2.2

/-- ACC of a slice as it stands before an edge. -/
def State.accAt (s : State) (i : Nat) (edge : Nat × Nat × Nat) : Nat :=
  match (s.slice i).lastEdge with
  | some e => if sameEdge e edge then (s.slice i).accBefore else (s.slice i).acc
  | none => (s.slice i).acc

/-- A slice's clock runs. -/
def State.sliceRuns (s : State) (i : Nat) : Bool :=
  s.blockRuns (sliceOwner i) (s.get F.fabBindAsBind i) (s.heldBit .fabHbHoldAs i)

/-- OPBO of a slice before an edge (R201): the operand-stage register, or with st_op = 0 the slice's second operand of the
moment, from its port or straight through from OPBI, whether or not it samples; while it is gated its last value (05 R175).
`n`: the slices below it in its strip. -/
def State.opbo (s : State) (edge : Nat × Nat × Nat) : Nat → Nat → Nat
  | i, n =>
    let c := s.sliceCfg i (s.ctxOf (sliceOwner i))
    let t := s.slice i
    if c.stOp then
      match t.lastEdge with
      | some e => if sameEdge e edge then t.opBefore else t.op.b
      | none => t.op.b
    else if s.sliceRuns i = false then t.second
    else if c.bSrc = false then t.port
    else
      match n with
      | 0 => 0
      | n + 1 => s.opbo edge (i - 1) n

/-- OPBI of a slice (R201): OPBO of the slice below it, 0 at the foot of a strip. -/
def State.opbi (s : State) (edge : Nat × Nat × Nat) (i : Nat) : Nat :=
  if i % 16 = 0 then 0 else s.opbo edge (i - 1) (i % 16 - 1)

/-- The edge of a slice with its operands and the chain inputs (R202): with EN = 1 each stage takes the one before. -/
def sliceEdge (c : SliceCfg) (edge : Nat × Nat × Nat) (pins : SlicePins) (sumi opbi : Nat) (st : SliceSt) : SliceSt :=
  let second := if c.bSrc then opbi else pins.opb.toNat
  let st := { st with lastEdge := some edge, accBefore := st.acc, opBefore := st.op.b, port := pins.opb.toNat, second := second }
  if pins.en then
    let sample : SliceOp := { a := pins.opa.toNat, b := second, e := pins.ope.toNat, w := pins.opw.toNat, zero := pins.zero, neg := pins.neg }
    let product := toProduct c sumi (if c.stOp then st.op else sample)
    let final := if c.stProd then st.prod else product
    -- Outside compare-select with st_op = 0, OPW is captured at the accumulator stage (R202).
    let final := if !c.stOp && c.mode != 6 then { final with w := pins.opw.toNat } else final
    let st := accumulate c final sumi st
    { st with op := if c.stOp then sample else st.op, prod := if c.stProd then product else st.prod }
  else st

/-- SLICE_SAMPLE (R198, R202): an edge of a slice's clock, the `edge`-th since the last crossing boundary. The slices of
one strip take their commands for one edge from the south up. With EN = 0 nothing is captured, but the port's second operand
is what OPBO passes on (R201). -/
def execSliceSample (i : Fin 12288) (edge : Nat) (pins : SlicePins) (s : State) : Out :=
  .next <|
    let owner := sliceOwner i
    let c := s.sliceCfg i (s.ctxOf owner)
    let at_ := (s.mt.boundary, edge, s.kOf c.clk)
    if s.sliceRuns i then
      let sumi := if i.val % 16 = 0 then 0 else s.accAt (i - 1) at_
      { s with slices := Tab.put {} s.slices i (sliceEdge c at_ pins sumi (s.opbi at_ i) (s.slice i)) }
    else s

/-! ### Rank units (R206 to R213) -/

/-- A rank unit. -/
def State.rank (s : State) (r : Nat) : RankSt := Tab.get {} s.ranks r

/-- Replace a rank unit. -/
def State.setRank (s : State) (r : Nat) (u : RankSt) : State := { s with ranks := Tab.put {} s.ranks r u }

/-- A rank unit's clock runs. -/
def State.rankRuns (s : State) (r : Nat) : Bool :=
  s.blockRuns (s.get F.fabBindRuOwner r) (s.get F.fabBindRuBind r) (s.heldBit .fabHbHoldRu r)

/-- RK_DONE as the fabric sees it: 0 while the unit is gated (05 R175). -/
def State.rankDone (s : State) (r : Nat) : Bool := s.rankRuns r && (s.rank r).done

/-- RK_MORE (R209). -/
def RankOut.more (o : RankOut) : Bool := decide (16 < o.count)

/-- RK_COUNT in bits [6:0], RK_MORE 7, RK_FLAGANY 8, RK_DONE 9, and RK_SLOT of position j in 6 bits from 10 + 6j (R209). -/
def State.rankFlags (s : State) (r : Nat) : Nat :=
  let o := (s.rank r).outs
  o.count % 128 + b2n o.more * 128 + b2n o.flagany * 256 + b2n (s.rankDone r) * 512
    + ((List.range 16).map (fun j => (o.out.getD j (0, 0)).2 % 64 * 2 ^ (10 + 6 * j))).sum

/-- The rank units of a region are checked at its start (R211). -/
def checkRanks (region : Nat) (s : State) : State :=
  (List.range 192).foldl
    (fun s r =>
      if s.get F.fabBindRuOwner r = region then
        holdBlock .fabHbHoldRu F.fabHbCntRu F.fabHbErrRuHeld r (s.failed.contains (6, r) || s.clockBad (s.rank r).cfg.clk 640) s
      else s) s

/-- Clear the pipelines of a region's rank units (05 R180). -/
def clearRanks (region : Nat) (s : State) : State :=
  { s with ranks := (s.ranks.map (fun e =>
      if s.get F.fabBindRuOwner e.1 = region then (e.1, { cfg := e.2.cfg }) else e)).filter (fun e => e.2 != {}) }

/-- Key of a candidate word (R207). -/
def candKey (kw : Bool) (w : Nat) : Nat := if kw then bits w 29 8 else bits w 29 14

/-- Whether a ranked candidate (word, slot) comes before another: by key, then by the lower slot (R208). -/
def ranksBefore (cfg : RankCfg) (a b : Nat × Nat) : Bool :=
  let ka := candKey cfg.kw a.1
  let kb := candKey cfg.kw b.1
  if ka = kb then decide (a.2 < b.2) else if cfg.asc then decide (ka < kb) else decide (kb < ka)

/-- Insert a candidate into a ranked list. -/
def rankInsert (cfg : RankCfg) (x : Nat × Nat) : List (Nat × Nat) → List (Nat × Nat)
  | [] => [x]
  | y :: ys => if ranksBefore cfg x y then x :: y :: ys else y :: rankInsert cfg x ys

/-- The valid candidates of a set of 64, each with its slot. -/
def validCands (set : List Nat) : List (Nat × Nat) :=
  ((set.zip (List.range 64)).filter (fun e => e.1.testBit 31))

/-- Rank a set (R208, R209). -/
def rankSet (cfg : RankCfg) (set : List Nat) : RankOut :=
  let valid := validCands set
  let ranked := (valid.foldr (rankInsert cfg) []).take 16
  { out := ranked ++ List.replicate (16 - ranked.length) (0, 0),
    count := valid.length,
    flagany := valid.any (fun e => e.1.testBit 30) }

/-- The 64 slots a unit samples: its own, with slots 48 to 63 from its predecessor where it is chained (R212). -/
def State.rankSlots (s : State) (r : Nat) (cands : List Word) : List Nat :=
  let own := (List.range 64).map (fun i => (cands.getD i 0).toNat)
  if (s.rank r).cfg.chain ∧ r % 8 ≠ 0 then
    let p := s.rank (r - 1)
    let linked := s.get F.fabBindRuOwner (r - 1) == s.get F.fabBindRuOwner r && p.cfg.clk == (s.rank r).cfg.clk
      && s.rankDone (r - 1)
    own.take 48 ++ (if linked then (List.range 16).map (fun m => (p.outs.out.getD m (0, 0)).1) else List.replicate 16 0)
  else own

/-- RANK_SET (R208, R210): a sampling edge; a set with RK_GO enters the pipeline. -/
def execRankSet (r : Fin 192) (cands : List Word) (go : Bool) (s : State) : Out :=
  .next <|
    if s.rankRuns r then
      let u := s.rank r
      s.setRank r { u with pipe := u.pipe ++ [if go then some (rankSet u.cfg (s.rankSlots r cands)) else none] }
    else s

/-- RANK_RESULT (R210): the oldest set in the pipeline comes to the outputs; for one sampled with RK_GO = 0, RK_DONE is
0 and the other outputs hold. -/
def execRankResult (r : Fin 192) (s : State) : Out :=
  .next <|
    if s.rankRuns r then
      let u := s.rank r
      match u.pipe with
      | some o :: rest => s.setRank r { u with pipe := rest, outs := o, done := true }
      | none :: rest => s.setRank r { u with pipe := rest, done := false }
      | [] => s.setRank r { u with done := false }
    else s

end Sys2Proof.Machine
end

