-- ==== Sys2Proof/Machine/PatternMatch.lean ====
section
/-!
DEFINITION. Pattern match arrays: stored rows, search, and the descriptors of the update channels (07). The row step of
a channel, which reaches memory, is in Access.
-/
namespace Sys2Proof.Machine

/-- A pattern match array. -/
def State.pm (s : State) (a : Nat) : PmArr := Tab.get {} s.pms a

/-- Replace an array. -/
def State.setPm (s : State) (a : Nat) (p : PmArr) : State := { s with pms := Tab.put {} s.pms a p }

/-- A row of an array; a row never written is all-zero and invalid (R238). -/
def State.pmRow (s : State) (a row : Nat) : PmRow := Tab.get {} (s.pm a).rows row

/-- Write a row of an array; FAB_PM_ECC.poisoned follows (R237). -/
def State.setPmRow (s : State) (a row : Nat) (r : PmRow) : State :=
  let was := (s.pmRow a row).poison
  let s := s.setPm a { s.pm a with rows := Tab.put {} (s.pm a).rows row r }
  if r.poison && !was then s.put F.fabPmEccPoisoned (s.get F.fabPmEccPoisoned a + 1) a
  else if was && !r.poison then s.put F.fabPmEccPoisoned (s.get F.fabPmEccPoisoned a - 1) a
  else s

/-- A row with one of its 148 bits upset (R217). -/
def PmRow.flip (r : PmRow) (i : Nat) : PmRow :=
  let r := { r with err := r.err ^^^ 2 ^ i }
  if i < 64 then { r with value := r.value ^^^ 2 ^ i }
  else if i < 128 then { r with care := r.care ^^^ 2 ^ (i - 64) }
  else if i < 136 then { r with dc := r.dc ^^^ 2 ^ (i - 128) }
  else if i = 136 then { r with set := !r.set }
  else if i = 137 then { r with valid := !r.valid }
  else if i = 138 then { r with poison := !r.poison }
  else r

/-- Upsets of an array's rows since the last command, as row and bit: the rows hold what they have become (R224). -/
def upsetRows (a : Nat) (upsets : List (Fin 32768 × Fin 148)) (s : State) : State :=
  upsets.foldl (fun s u => s.setPmRow a u.1 ((s.pmRow a u.1).flip u.2)) s

/-- An array's clock runs for searches (R216, 05 R175). -/
def State.pmRuns (s : State) (a : Nat) : Bool :=
  s.blockRuns (s.get F.fabBindPmOwner a) (s.get F.fabBindPmBind a) (s.heldBit .fabHbHoldPm a)

/-- The arrays of a region are checked at its start (R216), and take the set selection their load left (13 R419). -/
def checkArrays (region : Nat) (s : State) : State :=
  (List.range 256).foldl
    (fun s a =>
      if s.get F.fabBindPmOwner a = region then
        let s := holdBlock .fabHbHoldPm F.fabPmCntPm F.fabPmErrPmHeld a
          (s.failed.contains (4, a) || s.clockBad (s.get F.fabPmCfgClk a) 480) s
        match (s.pm a).setAtStart with
        | some v => (s.put F.fabPmSetSetEn v a).setPm a { s.pm a with setAtStart := none }
        | none => s
      else s) s

/-- Clear the search pipelines of a region's arrays; stored rows stay (05 R177, R180). -/
def clearArrays (region : Nat) (s : State) : State :=
  let idle (p : PmArr) : PmArr := { p with pipe := [], outs := {}, done := false }
  let cleared := s.pms.map (fun e => if s.get F.fabBindPmOwner e.1 = region then (e.1, idle e.2) else e)
  { s with pms := cleared.filter (fun e => e.2 != {}) }

/-- The field-start mask of an array (R218). -/
def State.pmMask (s : State) (a : Nat) : Nat := s.pair .fabPmFldLo .fabPmFldHi a

/-- The first bits of the fields of a mask, lowest first (R218). -/
def fieldStarts (mask : Nat) : List Nat := (List.range 64).filter (fun i => mask.testBit i)

/-- The bit masks of the fields: each runs up to the bit below the next start, or to bit 63 (R218). -/
def fieldMasks : List Nat → List Nat
  | [] => []
  | [a] => [2 ^ 64 - 2 ^ a]
  | a :: b :: rest => (2 ^ b - 2 ^ a) :: fieldMasks (b :: rest)

/-- The failing participating fields of a row for a key, one bit a field (R219). -/
def failing (fields : List Nat) (key : Nat) (r : PmRow) : Nat :=
  let diff := (key ^^^ r.value) &&& r.care
  (fields.mapIdx (fun f m => if !r.dc.testBit f && (diff &&& m) != 0 then 2 ^ f else 0)).sum

/-- Number of bits set in a byte. -/
def popCount8 (v : Nat) : Nat := ((List.range 8).filter (fun i => v.testBit i)).length

/-- A hit: row number, failing fields, poison. -/
abbrev Hit := Nat × Nat × Bool

/-- The rows that hit (R219, R220), in ascending row number: only valid rows can, and every valid row is listed. -/
def hitsOf (fields : List Nat) (missMax setEn key : Nat) (rows : Tab PmRow) : List Hit :=
  rows.filterMap (fun e =>
    let m := failing fields key e.2
    if e.2.valid && setEn.testBit (b2n e.2.set) && decide (popCount8 m ≤ missMax) then some (e.1, m, e.2.poison) else none)

/-- The order of the hit list (R222): by row, or by the number of failing fields and then by row. -/
def hitBefore (order : Bool) (a b : Hit) : Bool :=
  if order then
    if popCount8 a.2.1 = popCount8 b.2.1 then decide (a.1 < b.1) else decide (popCount8 a.2.1 < popCount8 b.2.1)
  else decide (a.1 < b.1)

/-- Insert a hit in order. -/
def hitInsert (order : Bool) (x : Hit) : List Hit → List Hit
  | [] => [x]
  | y :: ys => if hitBefore order x y then x :: y :: ys else y :: hitInsert order x ys

/-- A hit word (R223). -/
def hitWord (h : Hit) : Nat := 2 ^ 31 + b2n h.2.2 * 2 ^ 30 + h.2.1 % 256 * 2 ^ 22 + h.1 % 32768

/-- The result of a search (R221 to R224). -/
def pmResult (fields : List Nat) (missMax : Nat) (order : Bool) (setEn : Nat) (rows : Tab PmRow) (key : Nat)
    (kpoison : Bool) (tag : Nat) : PmOut :=
  let hits := hitsOf fields missMax setEn key rows
  let first := ((hits.foldr (hitInsert order) []).take 8).map hitWord
  { hits := first ++ List.replicate (8 - first.length) 0, count := hits.length,
    poison := kpoison || hits.any (fun h => h.2.2), tag := tag }

/-- PM_MORE (R221). -/
def PmOut.more (o : PmOut) : Bool := decide (8 < o.count)

/-- PM_SEARCH (R219, R224, R226): a sampling edge with PM_GO; the comparison takes place at this edge, with the rows as they are
stored, upset or not. -/
def execPmSearch (a : Fin 256) (key : DWord) (kpoison : Bool) (tag : BitVec 16) (upsets : List (Fin 32768 × Fin 148))
    (s : State) : Out :=
  .next <|
    let s := upsetRows a upsets s
    if s.pmRuns a then
      let p := s.pm a
      let o := pmResult (fieldMasks (fieldStarts (s.pmMask a))) (s.get F.fabPmCfgMissMax a) (s.bit F.fabPmCfgOrder a)
        (s.get F.fabPmSetSetEn a) p.rows key.toNat kpoison tag.toNat
      s.setPm a { p with pipe := p.pipe ++ [o] }
    else s

/-- PM_SEARCH_RESULT (R225): the oldest search comes to the outputs; with none, PM_DONE is 0 and the others hold. -/
def execPmSearchResult (a : Fin 256) (s : State) : Out :=
  .next <|
    if s.pmRuns a then
      let p := s.pm a
      match p.pipe with
      | o :: rest => s.setPm a { p with pipe := rest, outs := o, done := true }
      | [] => s.setPm a { p with done := false }
    else s

/-- PM_DONE as the fabric sees it: 0 while the array is gated (R225). -/
def State.pmDone (s : State) (a : Nat) : Bool := s.pmRuns a && (s.pm a).done

/-- PM_COUNT in bits [15:0], PM_TAG_OUT [31:16], PM_MORE 32, PM_POISON 33, PM_DONE 34 (R221). -/
def State.pmFlags (s : State) (a : Nat) : Nat :=
  let o := (s.pm a).outs
  o.count % 65536 + o.tag % 65536 * 2 ^ 16 + b2n o.more * 2 ^ 32 + b2n o.poison * 2 ^ 33 + b2n (s.pmDone a) * 2 ^ 34

/-! ### Update channels (R228 to R235) -/

/-- An update channel beyond its registers. -/
def State.pmu (s : State) (c : Nat) : PmuSt := Tab.get {} s.pmus c

/-- Replace an update channel's data. -/
def State.setPmu (s : State) (c : Nat) (p : PmuSt) : State := { s with pmus := Tab.put {} s.pmus c p }

/-- A descriptor is refused (R229): reserved op, rows past the last, address not a multiple of 32, or an array another
channel holds a descriptor for. -/
def pmuRefused (c op array : Nat) (s : State) : Bool :=
  decide (5 ≤ op)
    || (op != 4 && decide (32767 < s.get F.fabPmuFirstVal c + s.get F.fabPmuCountVal c))
    || ((op == 0 || op == 2 || op == 3) && s.get F.fabPmuAddrLoVal c % 32 != 0)
    || (List.range 4).any (fun d => d != c && s.get F.fabPmuStatusState d != 0 && s.get F.fabPmuCtrlArray d == array)

/-- An abort (R233, R234): a BUSY or waiting channel ends with status ABORTED; its SETSEL does not take effect. -/
def pmuAbort (c : Nat) (s : State) : State :=
  if s.get F.fabPmuStatusState c = 0 ∨ (s.pmu c).finished.isSome then s
  else (s.clear F.fabPmSetPending (s.get F.fabPmuCtrlArray c)).setPmu c { s.pmu c with finished := some 1 }

/-- A write of FAB_PMU_CTRL (R228 to R234). -/
def pmuCtrlWrite (c v : Nat) (s : State) : State × Status :=
  if bitAt v 30 then (pmuAbort c s, .ok)
  else if s.get F.fabPmuStatusState c ≠ 0 then (s, .busy)
  else
    let op := bits v 29 27
    let array := bits v 7 0
    let set (s : State) : State :=
      (((s.put F.fabPmuCtrlOp op c).put F.fabPmuCtrlAt (bits v 26 26) c).put F.fabPmuCtrlNewSet (bits v 25 24) c).put
        F.fabPmuCtrlArray array c
    if bitAt v 31 then
      if pmuRefused c op array s then (s.flag F.fabPmuStatusBadDesc c, .denied)
      else
        let s := ((set s).flag F.fabPmuCtrlGo c).clear F.fabPmuStatusBadDesc c
        let s := (s.put F.fabPmuStatusProgress 0 c).put F.fabPmuStatusState (if op = 4 then 2 else 1) c
        let s := if op = 4 then s.flag F.fabPmSetPending array else s
        (s.setPmu c { accepted := s.mt.boundary }, .ok)
    else (set s, .ok)

/-- A go write with a given op. -/
def pmuGo (op : Nat) (v : Word) : Nat := 2 ^ 31 + op * 2 ^ 27 + v.toNat % 2 ^ 27

/-- PMU_WRITE (R228). -/
def execPmuWrite (c : Fin 4) (v : Word) (s : State) : Out := reply (pmuCtrlWrite c (pmuGo 0 v) s)

/-- PMU_INVALIDATE (R228). -/
def execPmuInvalidate (c : Fin 4) (v : Word) (s : State) : Out := reply (pmuCtrlWrite c (pmuGo 1 v) s)

/-- PMU_READ (R228). -/
def execPmuRead (c : Fin 4) (v : Word) (s : State) : Out := reply (pmuCtrlWrite c (pmuGo 2 v) s)

/-- PMU_SCRUB (R228). -/
def execPmuScrub (c : Fin 4) (v : Word) (s : State) : Out := reply (pmuCtrlWrite c (pmuGo 3 v) s)

/-- PMU_SETSEL (R234). -/
def execPmuSetsel (c : Fin 4) (v : Word) (s : State) : Out := reply (pmuCtrlWrite c (pmuGo 4 v) s)

/-- PMU_ABORT (R233). -/
def execPmuAbort (c : Fin 4) (s : State) : Out := reply (pmuAbort c s, .ok)

/-- A write of a channel's other registers (R230): BUSY while the channel is not IDLE. -/
def pmuRegWrite (r : RegName) (mask c v : Nat) (s : State) : State × Status :=
  if s.get F.fabPmuStatusState c ≠ 0 then (s, .busy) else (s.setWord r (BitVec.ofNat 32 (v &&& mask)) c, .ok)

/-- A write of a channel's read-only registers while it is not IDLE is BUSY too (R230). -/
def pmuIdleWrite (c : Nat) (s : State) : State × Status := if s.get F.fabPmuStatusState c ≠ 0 then (s, .busy) else (s, .ok)

/-- PMU_SETSEL_APPLY (R234): at the chosen boundary, the next one or the next at which the crossing counter returns to
0, a waiting SETSEL changes set_en and its channel's operation ends. -/
def execPmuSetselApply (c : Fin 4) (s : State) : Out :=
  .next <|
    let p := s.pmu c
    let due := decide (p.accepted < s.mt.boundary) && (!s.bit F.fabPmuCtrlAt c || s.mt.cross == 0)
    if s.get F.fabPmuStatusState c = 2 ∧ p.finished = none ∧ due = true then
      let a := s.get F.fabPmuCtrlArray c
      let s := (s.put F.fabPmSetSetEn (s.get F.fabPmuCtrlNewSet c) a).clear F.fabPmSetPending a
      s.setPmu c { p with finished := some 0 }
    else s

/-- Post a token (12 R386): it travels to the Work Exchange. -/
def State.postToken (s : State) (queue v : Nat) : State := { s with tokens := s.tokens ++ [(queue, v)] }

/-- The completion word of a channel (R235). -/
def pmuCompletion (status c array done : Nat) : Nat := status * 2 ^ 28 + c * 2 ^ 26 + array * 2 ^ 18 + done

end Sys2Proof.Machine
end

