-- ==== Sys2Proof/Machine/Banks.lean ====
section
/-!
DEFINITION. Block banks and scratch banks: ports, collisions, ownership, window, power states, scrub passes (08), and
bank retirement and reinstatement (17 R545, R549 to R560).
-/
namespace Sys2Proof

/-- Number of a bank among its kind. -/
def BankId.idx : BankId → Nat
  | .block n => n.val
  | .scratch n => n.val

/-- A block bank. -/
def BankId.isBlock : BankId → Bool
  | .block _ => true
  | .scratch _ => false

/-- Key of a bank in `banks`. -/
def BankId.key : BankId → Nat
  | .block n => n.val
  | .scratch n => 8192 + n.val

/-- First word of a bank: its address divided by 8 (08 R241). -/
def BankId.base : BankId → Nat
  | .block n => 0x8000000 + 0x400 * n.val
  | .scratch n => 0x2000000 + 0x8000 * n.val

/-- Words of a bank (08 R240). -/
def BankId.words : BankId → Nat
  | .block _ => 1024
  | .scratch _ => 32768

/-- The object word of a bank (14 R464). -/
def BankId.obj : BankId → Nat
  | .block n => Machine.objWord 7 n.val
  | .scratch n => Machine.objWord 8 n.val

/-- The field of a bank's own register, by its kind. -/
def BankId.fld (id : BankId) (block scratch : Machine.Fld) : Machine.Fld := if id.isBlock then block else scratch

/-- The spare that serves a bank: its place among the spares of its kind (17). -/
def BankId.spare (id : BankId) : Nat := if id.isBlock then id.idx / 64 else id.idx / 16

/-- The other port. -/
def BankPort.other : BankPort → BankPort
  | .a => .b
  | .b => .a

end Sys2Proof

namespace Sys2Proof.Machine

/-! ### Banks and their registers -/

/-- A bank's data beyond its registers. -/
def State.bank (s : State) (id : BankId) : BankSt := Tab.get {} s.banks id.key

/-- Change a bank's data. -/
def State.modBank (s : State) (id : BankId) (f : BankSt → BankSt) : State :=
  { s with banks := Tab.put {} s.banks id.key (f (s.bank id)) }

/-- The power states of a bank (08 R261). -/
inductive PowerSt where
  | on | lowering | retention | off | waking | clearing
  deriving DecidableEq, Repr

/-- MEMB_BPWR.state and MEMB_SPWR.state. -/
def PowerSt.code : PowerSt → Nat
  | .on => 0 | .lowering => 1 | .retention => 2 | .off => 3 | .waking => 4 | .clearing => 5

/-- The state a code stands for. -/
def PowerSt.ofCode : Nat → PowerSt
  | 0 => .on | 1 => .lowering | 2 => .retention | 3 => .off | 4 => .waking | _ => .clearing

/-- The power state of a bank. -/
def State.power (s : State) (id : BankId) : PowerSt :=
  PowerSt.ofCode (s.get (id.fld F.membBpwrState F.membSpwrState) id.idx)

/-- Enter a power state; a block bank's ports see it at the next crossing boundary (08 R261). -/
def State.setPower (s : State) (id : BankId) (p : PowerSt) : State :=
  (s.put (id.fld F.membBpwrState F.membSpwrState) p.code id.idx).modBank id (fun b => { b with portChange := id.isBlock })

/-- At a crossing boundary the ports of block banks see their banks' power states (08 R261). -/
def banksBoundary (s : State) : State :=
  if s.banks.any (fun e => e.2.portChange) then
    let see (e : Nat × BankSt) : Nat × BankSt :=
      if e.2.portChange then (e.1, { e.2 with portOff := s.get F.membBpwrState e.1 != 0, portChange := false }) else e
    { s with banks := (s.banks.map see).filter (fun e => e.2 != {}) }
  else s

/-- State of a bank's spare: 0 FREE, 1 COPYING, 2 SERVING, 3 UNUSABLE, 4 RETURNING. -/
def State.spareSt (s : State) (id : BankId) : Nat := s.get (id.fld F.membSpmapBState F.membSpmapSState) id.spare

/-- The bank that a bank's spare copies, serves or returns. -/
def State.spareBank (s : State) (id : BankId) : Nat := s.get (id.fld F.membSpmapBBank F.membSpmapSBank) id.spare

/-- The spare is at work for this bank. -/
def State.spareFor (s : State) (id : BankId) (st : Nat) : Bool := s.spareSt id == st && s.spareBank id == id.idx

/-- Put a bank's spare into a state; FREE and UNUSABLE name no bank (17 R561). -/
def State.setSpare (s : State) (id : BankId) (st : Nat) : State :=
  let s := s.put (id.fld F.membSpmapBState F.membSpmapSState) st id.spare
  s.put (id.fld F.membSpmapBBank F.membSpmapSBank) (if st = 0 ∨ st = 3 then 0 else id.idx) id.spare

/-- The original bank is retired, spared or not (17 R549, R553). -/
def State.bankRetired (s : State) (id : BankId) : Bool :=
  s.heldBit (if id.isBlock then .membBret else .membSret) id.idx

/-- Mark a bank retired or not; MEMB_RETCNT follows. -/
def State.setRetired (s : State) (id : BankId) (b : Bool) : State :=
  let was := s.bankRetired id
  let cnt := id.fld F.membRetcntBlock F.membRetcntScratch
  let s := s.setHeldBit (if id.isBlock then .membBret else .membSret) id.idx b
  if b && !was then s.put cnt (s.get cnt + 1) else if was && !b then s.put cnt (s.get cnt - 1) else s

/-- Every word of a bank zero with valid check bits. -/
def clearBank (id : BankId) (s : State) : State :=
  { s with
    mem := s.mem.filter (fun e => e.1 < 8 * id.base || 8 * (id.base + id.words) ≤ e.1),
    syn := s.syn.filter (fun e => e.1 < id.base || id.base + id.words ≤ e.1) }

/-- Every word of a bank undefined, data and check bits, after a compatible wake (08 R264). -/
def scrambleBank (id : BankId) (s : State) : State :=
  let data := (List.range (8 * id.words)).map (fun i => BitVec.ofNat 8 (Config.freeValue (s.free + i)))
  let chk := (List.range id.words).map (fun i => BitVec.ofNat 8 (Config.freeValue (s.free + 8 * id.words + i)))
  { s with
    mem := Tab.putList 0 s.mem (8 * id.base) data,
    syn := Tab.putList 0 s.syn id.base chk,
    free := s.free + 9 * id.words }

/-! ### Errors and retirement (08 R256 to R258, 17 R545 to R556) -/

/-- A bank number is retired without a spare: gated off, contents lost (17 R552, R553, R556). -/
def retireUnspared (id : BankId) (s : State) : State :=
  let s := (s.setRetired id true).setPower id .off
  let s := (clearBank id s).modBank id (fun b => { b with unspared := true, faulty := false, copied := none, latched := none })
  let s := s.clear (id.fld F.membBpwrPendingEnable F.membSpwrPendingEnable) id.idx
  let s := s.clear (id.fld F.membBpwrPendingDown F.membSpwrPendingDown) id.idx
  s.raise .membRetired id.obj 0xFFFFFFFFFFFFFFFF

/-- A bank meets the rule of R545 (17 R545, R549, R552, R560): its spare is to copy it; an original being copied goes on
being copied; a serving spare becomes unusable and the number is retired; a bank being returned stays with the spare;
with no spare free it is retired. -/
def bankFaulty (id : BankId) (s : State) : State :=
  if (s.bank id).unspared then s
  else if s.spareSt id = 0 then s.modBank id (fun b => { b with faulty := true })
  else if s.spareBank id = id.idx then
    match s.spareSt id with
    | 1 => s
    | 2 => retireUnspared id (s.setSpare id 3)
    | 4 =>
      let s := (s.setSpare id 2).modBank id (fun b => { b with reinst := 0 })
      let s := s.blot 0xC0D 2 id.obj
      { s with ended := s.ended ++ [(id.obj, 2)] }
    | _ => retireUnspared id s
  else retireUnspared id s

/-- Note an uncorrectable error of a bank for R545: a second one at another word within 1 s of powered time. -/
def noteError (id : BankId) (w : Nat) (s : State) : State :=
  let recent := (s.bank id).errs.filter (fun e => decide (s.since e.2 ≤ 1000000000))
  let other := recent.any (fun e => e.1 != w)
  let s := s.modBank id (fun b => { b with errs := (w, s.pt) :: recent.filter (fun e => e.1 != w) })
  if other then bankFaulty id s else s

/-- Compatible mode without ulol_init: errors raise nothing and retire nothing (08 R264). -/
def State.bankUninit (s : State) (id : BankId) : Bool :=
  (s.bank id).compat && !s.bit (id.fld F.membBpwrUlolInit F.membSpwrUlolInit) id.idx

/-- Count and report what a read of word `w` of a bank found (08 R256 to R258). -/
def noteRead (id : BankId) (w : Nat) (r : EccRead) (s : State) : State :=
  match r with
  | .good _ false => s
  | .good _ true => s.bump (id.fld F.membBeccCorrected F.membSeccCorrected) id.idx
  | .poisoned _ => s.bump (id.fld F.membBeccPoisoned F.membSeccPoisoned) id.idx
  | .uncorrectable _ =>
    let s := (s.bump (id.fld F.membBeccUncorrectable F.membSeccUncorrectable) id.idx).flag F.membErrUncorrectable
    if s.bankUninit id then s else noteError id w (s.raise .membUe id.obj w)

/-- Read a word of a bank: what the read finds, after its counting. -/
def bankRead (id : BankId) (w : Nat) (s : State) : EccRead × State :=
  let r := s.wordRead (id.base + w)
  (r, noteRead id w r s)

/-- BANK_SPARE_COPY_START (17 R549, R554): the spare of a faulty bank begins to copy it; of two faulty banks of one set
the lower number takes the spare, and the other is retired. -/
def execBankSpareCopyStart (id : BankId) (s : State) : Out :=
  whenClocked s.mgmtClocked s <| .next <|
    if (s.bank id).faulty ∧ s.spareSt id = 0 then
      let set : List BankId :=
        match id with
        | .block n => (List.range 64).map (fun j => BankId.block (Fin.ofNat 8192 (64 * (n.val / 64) + j)))
        | .scratch n => (List.range 16).map (fun j => BankId.scratch (Fin.ofNat 256 (16 * (n.val / 16) + j)))
      match set.filter (fun b => (s.bank b).faulty) with
      | first :: others =>
        let s := (s.setSpare first 1).modBank first (fun b => { b with faulty := false, copied := none })
        others.foldl (fun s b => retireUnspared b s) s
      | [] => s
    else s

/-- The copy of a bank as the copy path leaves it: corrected words clean, uncorrectable ones poisoned (08 R242). -/
def copyWords (id : BankId) (s : State) : State :=
  (s.syn.filter (fun e => decide (id.base ≤ e.1) && decide (e.1 < id.base + id.words))).foldl
    (fun s e =>
      match s.wordRead e.1 with
      | .good d _ => s.putWord e.1 d 0
      | .poisoned d => s.putWord e.1 d poisonSyn
      | .uncorrectable d => s.putWord e.1 d poisonSyn) s

/-- The copy path's reads of a bank count like any read (17 R549); those of a clean word count nothing. -/
def copyNotes (id : BankId) (s : State) : State :=
  (s.syn.filter (fun e => decide (id.base ≤ e.1) && decide (e.1 < id.base + id.words))).foldl
    (fun s e => (bankRead id (e.1 - id.base) s).2) s

/-- BANK_COPY_DONE (17 R549): the copy ends; the takeover waits for its switch point. -/
def execBankCopyDone (id : BankId) (s : State) : Out :=
  whenClocked s.mgmtClocked s <| .next <|
    if s.spareFor id 1 ∧ (s.bank id).copied = none then
      (copyNotes id s).modBank id (fun b => { b with copied := some s.mt.boundary })
    else s

/-- The switch point has come: a crossing boundary for a block bank, the next Quill clock for a scratch bank (R549). -/
def switchPoint (id : BankId) (at_ : Nat) (s : State) : Bool :=
  if id.isBlock then decide (at_ < s.mt.boundary) else s.quillClocked (id.idx / 16)

/-- A latched power target of a bank, applied by `powerRequest` below, waits in `latched`. A transition from a stable
state toward a target (08 R261). -/
def startPower (id : BankId) (t : Nat) (s : State) : State :=
  match s.power id with
  | .on =>
    if t = 0 then s
    else (s.setPower id .lowering).modBank id (fun b => { b with toOff := t == 2 })
  | .retention =>
    if t = 0 then (s.setPower id .waking).modBank id (fun b => { b with fromOff := false })
    else if t = 2 then (s.setPower id .lowering).modBank id (fun b => { b with toOff := true })
    else s
  | .off =>
    if t = 0 then
      if s.bit (id.fld F.membBpwrUlol F.membSpwrUlol) id.idx then
        (s.setPower id .waking).modBank id (fun b => { b with fromOff := true })
      else s.setPower id .clearing
    else s
  | _ => s

/-- Apply the latched target once a transition has ended (08 R263). -/
def applyLatched (id : BankId) (s : State) : State :=
  match (s.bank id).latched with
  | some t =>
    let s := s.modBank id (fun b => { b with latched := none })
    let s := s.clear (id.fld F.membBpwrPendingEnable F.membSpwrPendingEnable) id.idx
    startPower id t (s.clear (id.fld F.membBpwrPendingDown F.membSpwrPendingDown) id.idx)
  | none => s

/-- Latch a target (08 R263). -/
def latchPower (id : BankId) (t : Nat) (s : State) : State :=
  let s := s.modBank id (fun b => { b with latched := some t })
  let s := s.putBit (id.fld F.membBpwrPendingEnable F.membSpwrPendingEnable) (t == 0) id.idx
  s.putBit (id.fld F.membBpwrPendingDown F.membSpwrPendingDown) (t != 0) id.idx

/-- A march of a retired bank begins (17 R559). -/
def startMarch (id : BankId) (s : State) : State :=
  (s.clear (id.fld F.membSpmapBPendingEnable F.membSpmapSPendingEnable) id.spare).modBank id (fun b => { b with reinst := 2 })

/-- BANK_TAKEOVER (17 R549, R556, R560): the spare answers to the bank number, the original is retired; a latched
reinstatement and a latched power target go on. -/
def execBankTakeover (id : BankId) (s : State) : Out :=
  .next <|
    match (s.bank id).copied with
    | some b =>
      if s.spareFor id 1 ∧ switchPoint id b s = true then
        let s := copyWords id s
        let s := ((s.setSpare id 2).setRetired id true).modBank id (fun k => { k with copied := none, errs := [] })
        let s := s.raise .membRetired id.obj id.spare
        let s := if s.power id = .on ∨ s.power id = .retention ∨ s.power id = .off then applyLatched id s else s
        if (s.bank id).reinst = 1 then startMarch id s else s
      else s
    | none => s

/-- Reinstate a bank (17 R558 to R560): the status of the command, 0 OK with nothing to do, 1 begun or latched, 2 busy. -/
def bankReinstate (id : BankId) (s : State) : Nat × State :=
  if (s.bank id).reinst ≠ 0 then (2, s)
  else if s.spareFor id 1 then
    (1, (s.flag (id.fld F.membSpmapBPendingEnable F.membSpmapSPendingEnable) id.spare).modBank id (fun b => { b with reinst := 1 }))
  else if s.bankRetired id then (1, startMarch id s)
  else (0, s)

/-- The end of an operation on an object is to be reported to the host (14 R457). -/
def State.objectEnded (s : State) (obj status : Nat) : State := { s with ended := s.ended ++ [(obj, status)] }

/-- BANK_MARCH_DONE (17 R559): the march passes, and the bank is copied back from its spare or cleared; or it fails. -/
def execBankMarchDone (id : BankId) (pass : Bool) (s : State) : Out :=
  .next <|
    if (s.bank id).reinst = 2 then
      if pass then
        let s := s.modBank id (fun b => { b with reinst := 3 })
        if s.spareFor id 2 then s.setSpare id 4
        else (clearBank id s).setPower id .clearing
      else
        ((s.modBank id (fun b => { b with reinst := 0 })).blot 0xC0D 2 id.obj).objectEnded id.obj 2
    else s

/-- The original answers to its number again. -/
def bankBack (id : BankId) (s : State) : State :=
  let s := (s.setRetired id false).modBank id (fun b =>
    { b with reinst := 0, unspared := false, errs := [], compat := b.compat && !b.unspared })
  (s.blot 0xC0C 0 id.obj).objectEnded id.obj 0

/-- BANK_RETURN_DONE (17 R559, R560): the copy back or the clearing ends; a bank that met R545 during the copy stays with
its spare. -/
def execBankReturnDone (id : BankId) (s : State) : Out :=
  whenClocked s.mgmtClocked s <| .next <|
    if (s.bank id).reinst = 3 then
      if s.spareFor id 4 then
        let s := copyNotes id s
        if (s.bank id).reinst = 3 then bankBack id ((copyWords id s).setSpare id 0) else s
      else bankBack id ((clearBank id s).setPower id .on)
    else s

/-! ### Power states (08 R261 to R266) -/

/-- A request for a power state (08 R263, 17 R553, R555). -/
def powerRequest (id : BankId) (t : Nat) (s : State) : State × Status :=
  if t = 3 ∨ (s.bank id).unspared = true then (s, .denied)
  else
    let p := s.power id
    let b := s.bank id
    let moving := p = .lowering ∨ p = .waking ∨ p = .clearing
    let leads := match p with
      | .on => 0
      | .retention => 1
      | .off => 2
      | .lowering => if b.toOff then 2 else 1
      | .waking => 0
      | .clearing => 0
    let heading := b.latched.getD leads
    if t = 1 ∧ (p = .off ∨ (p = .lowering ∧ b.toOff = true) ∨ b.latched = some 2) then (s, .denied)
    else
      let s := s.put (id.fld F.membBpwrTarget F.membSpwrTarget) t id.idx
      if t = heading then (s, .ok)
      else if moving ∨ s.spareFor id 1 = true then (latchPower id t s, .ok)
      else (startPower id t s, .ok)

/-- BANK_POWER_TARGET (08 R263). -/
def execBankPowerTarget (id : BankId) (v : BitVec 2) (s : State) : Out := reply (powerRequest id v.toNat s)

/-- The ulol part of a write of MEMB_BPWR or MEMB_SPWR (08 R264, R265): setting ulol from 0 to 1 writes a blotter
record; ulol_init is set by a 1. -/
def ulolWrite (id : BankId) (v : Nat) (s : State) : State :=
  let f := id.fld F.membBpwrUlol F.membSpwrUlol
  let s := if bitAt v 16 && !s.bit f id.idx then s.blot 0xC02 0 id.obj else s
  let s := s.put f (bits v 16 16) id.idx
  if bitAt v 17 then s.flag (id.fld F.membBpwrUlolInit F.membSpwrUlolInit) id.idx else s

/-- A write of MEMB_BPWR or MEMB_SPWR: the target, and unless it is refused ulol and ulol_init. -/
def powerWrite (id : BankId) (v : Nat) (s : State) : State × Status :=
  match powerRequest id (bits v 1 0) s with
  | (s, .ok) => (ulolWrite id v s, .ok)
  | (s, st) => (s, st)

/-- BANK_ULOL_WRITE (08 R265). -/
def execBankUlolWrite (id : BankId) (v : Word) (s : State) : Out := reply (powerWrite id v.toNat s)

/-- BANK_LOWERING_DONE (08 R261): a block bank's ports have seen the change at a boundary before its supply is lowered. -/
def execBankLoweringDone (id : BankId) (s : State) : Out :=
  .next <|
    if s.power id = .lowering ∧ (s.bank id).portChange = false then
      let off := (s.bank id).toOff
      let s := if off then (clearBank id s).setPower id .off else s.setPower id .retention
      applyLatched id s
    else s

/-- BANK_WAKING_DONE (08 R261, R264, R265): the bank is ON; after a compatible wake from OFF its words are undefined. -/
def execBankWakingDone (id : BankId) (s : State) : Out :=
  .next <|
    if s.power id = .waking then
      let s :=
        if (s.bank id).fromOff then
          let s := (scrambleBank id s).clear (id.fld F.membBpwrUlolInit F.membSpwrUlolInit) id.idx
          let s := (s.bump F.membStatCompatWakes).flag F.membErrCompatUsed
          s.modBank id (fun b => { b with compat := true, fromOff := false })
        else s
      applyLatched id (s.setPower id .on)
    else s

/-- BANK_CLEARING_DONE (08 R261): every word is zero and the bank is ON in native mode. -/
def execBankClearingDone (id : BankId) (s : State) : Out :=
  .next <|
    if s.power id = .clearing ∧ (s.bank id).unspared = false then
      let s := (clearBank id s).modBank id (fun b => { b with compat := false })
      applyLatched id (s.setPower id .on)
    else s

/-- What the system reset does to a bank (08 R266): contents that were lost or being cleared read zero, others are kept,
and a bank not retired is ON in native mode. -/
def bankReset (id : BankId) (s : State) : State :=
  if (s.bank id).unspared then s
  else
    let p := s.power id
    let lost := p = .off ∨ p = .clearing ∨ (p = .lowering ∧ (s.bank id).toOff = true)
    -- What a compatible wake from OFF finds is undefined (R264).
    let s := if lost then clearBank id s else if p = .waking ∧ (s.bank id).fromOff = true then scrambleBank id s else s
    (s.setPower id .on).modBank id (fun b => { b with compat := false, latched := none, toOff := false, fromOff := false })

/-! ### Ports (08 R243 to R249) -/

/-- Width of a port in bits, by its configuration code (08 R243). -/
def portWidth (code : Nat) : Nat := 64 / 2 ^ (code % 4)

/-- The fields of a port. -/
def portFld (p : BankPort) (a b : Fld) : Fld := match p with | .a => a | .b => b

/-- A port's data beyond its registers. -/
def State.port (s : State) (n : Nat) (p : BankPort) : PortSt :=
  match p with
  | .a => (Tab.get {} s.banks n).a
  | .b => (Tab.get {} s.banks n).b

/-- Change a port's data. -/
def State.modPort (s : State) (n : Nat) (p : BankPort) (f : PortSt → PortSt) : State :=
  let b := Tab.get {} s.banks n
  let b := match p with
    | .a => { b with a := f b.a }
    | .b => { b with b := f b.b }
  { s with banks := Tab.put {} s.banks n b }

/-- The limit of a port's clock in MHz (08 R247). -/
def portLimit (oreg : Bool) : Nat :=
  if oreg then (if Config.speedS2 then 800 else 720) else (if Config.speedS2 then 560 else 480)

/-- Check the ports of the block banks whose owner starts (08 R247). -/
def checkBanks (starts : Nat → Bool) (s : State) : State :=
  (List.range 8192).foldl
    (fun s n =>
      if starts (s.get F.membBownOwner n) then
        let s := s.putBit F.membBcfgHeldA (s.clockBad (s.get F.membBcfgClkA n) (portLimit (s.bit F.membBcfgOregA n))) n
        s.putBit F.membBcfgHeldB (s.clockBad (s.get F.membBcfgClkB n) (portLimit (s.bit F.membBcfgOregB n))) n
      else s) s

/-- Edge `r` comes at least 0.6 ns after edge `w`, at the nominal period (08 R248). -/
def visibleAt (period : Nat) (w r : Nat × Nat × Nat) : Bool :=
  let d : Int := ((r.1 : Int) - w.1) * w.2.2 * r.2.2 + (r.2.1 : Int) * w.2.2 - (w.2.1 : Int) * r.2.2
  decide ((600000 * w.2.2 * r.2.2 : Nat) ≤ d * period)

/-- What a port reads of a word at an edge: a write of the other port not yet visible to it is not seen (08 R248). -/
def portView (n : Nat) (p : BankPort) (w : Nat) (edge : Nat × Nat × Nat) (s : State) : EccRead :=
  match (s.port n p.other).last with
  | some m =>
    if m.word = w ∧ visibleAt (s.get F.mtimeNomPeriodVal) m.edge edge = false then
      eccRead m.oldData (eccCheck m.oldData ^^^ m.oldSyn)
    else s.wordRead (0x8000000 + 0x400 * n + w)
  | none => s.wordRead (0x8000000 + 0x400 * n + w)

/-- Write bytes of a word from a port at an edge; writes of both ports at coinciding edges merge, port A's bytes standing
where both enabled one (08 R249). -/
def portStore (n : Nat) (p : BankPort) (w : Nat) (edge : Nat × Nat × Nat) (mask : Nat) (data : DWord) (poison : Bool)
    (s : State) : State :=
  let adr := 0x8000000 + 0x400 * n + w
  let plain (s : State) : State :=
    let m : WriteMark := { word := w, edge := edge, oldData := s.wordData adr, oldSyn := Tab.get 0 s.syn adr, mask := mask, data := data, poison := poison }
    (s.writeWord adr data mask poison).modPort n p (fun q => { q with last := some m })
  match (s.port n p.other).last with
  | some m =>
    if m.word = w ∧ sameEdge m.edge edge = true then
      let first := match p with | .a => (m.data, m.mask) | .b => (data, mask)
      let second := match p with | .a => (data, mask) | .b => (m.data, m.mask)
      let merged := mergeBytes first.1 second.1 second.2
      let r := storeOver (eccRead m.oldData (eccCheck m.oldData ^^^ m.oldSyn)) merged (first.2 ||| second.2) (poison || m.poison)
      let mine : WriteMark := { m with mask := mask, data := data, poison := poison }
      let s := (s.putWord adr r.1 r.2).modPort n p (fun q => { q with last := some mine })
      (s.bump F.membStatCollisions).flag F.membErrCollision
    else plain s
  | none => plain s

/-- The block bank numbered `n`. -/
def blockId (n : Nat) : BankId := .block (Fin.ofNat 8192 n)

/-- A result on its way to a port's outputs. -/
def pushResult (n : Nat) (p : BankPort) (region data : Nat) (poison : Bool) (s : State) : State :=
  s.modPort n p (fun q => { q with pipe := q.pipe ++ [(region, data, poison)] })

/-- The byte enables of an access: none at port B of a simple dual port bank (08 R244). -/
def State.portEnables (s : State) (n : Nat) (p : BankPort) (acc : PortAcc) : Nat :=
  if s.get F.membBcfgPmode n = 1 ∧ p = .b then 0
  else acc.we.toNat % 2 ^ (portWidth (s.get (portFld p F.membBcfgWidthA F.membBcfgWidthB) n) / 8)

/-- An access that the port mode does not allow: any at port B of a single port bank, a read at port A of a simple dual
port bank (08 R244). -/
def State.portIgnores (s : State) (n : Nat) (p : BankPort) (we : Nat) : Bool :=
  match p with
  | .b => s.get F.membBcfgPmode n == 0
  | .a => s.get F.membBcfgPmode n == 1 && we == 0

/-- An edge of a clock follows another at once: the next of its crossing, or edge 0 of the next crossing. -/
def nextEdgeOf (a b : Nat × Nat × Nat) : Bool :=
  (a.1 == b.1 && a.2.1 + 1 == b.2.1) || (a.1 + 1 == b.1 && a.2.1 + 1 == a.2.2 && b.2.1 == 0)

/-- A port has MB_EN at an edge. -/
def portEnabled (n : Nat) (p : BankPort) (edge : Nat × Nat × Nat) (s : State) : State :=
  s.modPort n p (fun q =>
    { q with lastEn := some edge, enRun := if q.lastEn.any (fun e => nextEdgeOf e edge) then q.enRun + 1 else 1 })

/-- The clock of a port, as its number. -/
def State.portClk (s : State) (n : Nat) (p : BankPort) : Nat := s.get (portFld p F.membBcfgClkA F.membBcfgClkB) n

/-- A port access in a bank that is ON (08 R244 to R246). -/
def portAccess (n : Nat) (p : BankPort) (acc : PortAcc) (s : State) : State :=
  let width := portWidth (s.get (portFld p F.membBcfgWidthA F.membBcfgWidthB) n)
  let wmode := s.get (portFld p F.membBcfgWmodeA F.membBcfgWmodeB) n
  let edge := (s.mt.boundary, acc.edge, s.kOf (s.get (portFld p F.membBcfgClkA F.membBcfgClkB) n))
  let i := acc.addr % (1024 * (64 / width))
  let w := i * width / 64
  let sh := i * width % 64
  let we := s.portEnables n p acc
  let entry (d : DWord) : Nat := d.toNat >>> sh % 2 ^ width
  if s.portIgnores n p we then s
  else if we = 0 then
    let r := portView n p w edge s
    pushResult n p acc.region (entry r.data) r.poison (noteRead (blockId n) w r s)
  else
    let old := portView n p w edge s
    let reads := wmode = 0 ∨ width ≠ 64 ∨ we ≠ 255
    let s := if reads then noteRead (blockId n) w old s else s
    let data : DWord := BitVec.ofNat 64 ((acc.data.toNat % 2 ^ width) <<< sh)
    let s := portStore n p w edge (we <<< (sh / 8)) data acc.poison s
    match wmode with
    | 0 => pushResult n p acc.region (entry old.data) old.poison s
    | 1 =>
      let r := s.wordRead (0x8000000 + 0x400 * n + w)
      pushResult n p acc.region (entry r.data) r.poison s
    | _ => s

/-- BANK_PORT_ACCESS (08 R244 to R249, R262, 17 R553): only the owner's ports are connected, while it runs; a held port
ignores the access; a bank not ON, or retired without a spare, reads zero with poison and drops writes. -/
def execBankPortAccess (b : Fin 8192) (port : BankPort) (acc : PortAcc) (s : State) : Out :=
  .next <|
    let n := b.val
    if acc.region = s.get F.membBownOwner n ∧ s.regionRuns acc.region = true
        ∧ s.bit (portFld port F.membBcfgHeldA F.membBcfgHeldB) n = false then
      let s := portEnabled n port (s.mt.boundary, acc.edge, s.kOf (s.portClk n port)) s
      if (Tab.get {} s.banks n).unspared ∨ (Tab.get {} s.banks n).portOff then
        let we := s.portEnables n port acc
        if s.portIgnores n port we then s
        else
          let s := if (Tab.get {} s.banks n).unspared then s else (s.bump F.membStatSleepAccess).flag F.membErrSleepAccess
          if we = 0 then pushResult n port acc.region 0 true s else s
      else portAccess n port acc s
    else s

/-- BANK_PORT_RESULT (08 R245, R251): the oldest result comes to MB_RDATA and MB_POISON of the region that asked for it, though
the bank may have passed to another meanwhile. -/
def execBankPortResult (b : Fin 8192) (port : BankPort) (s : State) : Out :=
  .next <|
    match (s.port b port).pipe with
    | r :: rest =>
      if r.1 = s.get F.membBownOwner b then
        s.modPort b port (fun q => { q with pipe := rest, rdata := r.2.1, poison := r.2.2, late := none })
      else s.modPort b port (fun q => { q with pipe := rest, late := some r })
    | [] => s.modPort b port (fun q => { q with late := none })

/-- MB_OWN on a region's side (08 R244): the region owns the bank. -/
def State.mbOwn (s : State) (region n : Nat) : Bool := s.get F.membBownOwner n == region

/-- MB_RDY of the owner's port (08 R244): the bank is ON and the port is not held; 0 at port B of a single port bank, and while
the owner does not run (05 R175, R179). -/
def State.mbReady (s : State) (n : Nat) (p : BankPort) : Bool :=
  s.regionRuns (s.get F.membBownOwner n) && !(Tab.get {} s.banks n).portOff && !(Tab.get {} s.banks n).unspared
    && !s.bit (portFld p F.membBcfgHeldA F.membBcfgHeldB) n && !(s.get F.membBcfgPmode n == 0 && p == .b)

/-- MB_RDATA and MB_POISON on a region's side (08 R244, R251): of the owner; 0 at port B of a single port bank; at any other
region 0, but for a result that a former owner is still owed. -/
def State.mbOut (s : State) (region n : Nat) (p : BankPort) : Nat × Bool :=
  let q := s.port n p
  if s.mbOwn region n then
    if s.get F.membBcfgPmode n == 0 && p == .b then (0, false) else (q.rdata, q.poison)
  else match q.late with
    | some r => if r.1 = region then r.2 else (0, false)
    | none => (0, false)

/-- MB_RDATA as a region sees it. -/
def State.bankRdata (s : State) (region : Nat) (id : BankId) (p : BankPort) : Nat := (s.mbOut region id.idx p).1

/-- MB_POISON in bit 0, MB_RDY 1, MB_OWN 2 as a region sees them. -/
def State.bankFlags (s : State) (region : Nat) (id : BankId) (p : BankPort) : Nat :=
  let own := s.mbOwn region id.idx
  b2n (s.mbOut region id.idx p).2 + b2n (own && s.mbReady id.idx p) * 2 + b2n own * 4

/-! ### Ownership (08 R250, R251) -/

/-- A region is a hoop in LOADING. -/
def State.regionLoading (s : State) (r : Nat) : Bool := decide (r < 192) && s.get F.fabHoopStatusState r == 2

/-- A write of MEMB_BOWN (08 R250): with req = 1 a request; while one is pending, any write replaces its new owner. -/
def handoverWrite (n v : Nat) (s : State) : State × Status :=
  let owner := bits v 23 16
  if bitAt v 31 || s.bit F.membBownReq n then
    if 193 < owner ∨ s.regionLoading (s.get F.membBownOwner n) = true ∨ s.regionLoading owner = true then
      (s.flag F.membErrHandoverRefused, .denied)
    else
      let due := ((Tab.get {} s.banks n).handAt).getD (s.mt.boundary + 2)
      let s := (s.put F.membBownReqOwner owner n).flag F.membBownReq n
      (s.modBank (blockId n) (fun b => { b with handAt := some due }), .ok)
  else (s.put F.membBownReqOwner owner n, .ok)

/-- What a new owner finds at a port before its first result, which the spec does not state: a free value. -/
def portAnew (n : Nat) (p : BankPort) (s : State) : State :=
  let d := s.fresh 64
  let q := d.2.fresh 1
  q.2.modPort n p (fun t => { t with rdata := d.1, poison := q.1 == 1 })

/-- BANK_HANDOVER_REQUEST (08 R250). -/
def execBankHandoverRequest (b : Fin 8192) (v : Word) (s : State) : Out := reply (handoverWrite b v.toNat s)

/-- BANK_HANDOVER (08 R251): at the handover edge the bank's owner changes; results under way stay the old owner's. -/
def execBankHandover (b : Fin 8192) (s : State) : Out :=
  .next <|
    match (Tab.get {} s.banks b.val).handAt with
    | some due =>
      if due ≤ s.mt.boundary then
        let s := portAnew b .b (portAnew b .a s)
        let s := (s.put F.membBownOwner (s.get F.membBownReqOwner b) b).clear F.membBownReq b
        s.modBank (.block b) (fun k => { k with handAt := none })
      else s
    | none => s

/-! ### Window and network accesses (08 R252 to R254, R262, 17 R553) -/

/-- The answer to an access of a bank that cannot serve it: FAULT when retired without a spare, DOMAIN_OFF, counted, when
not ON. -/
def bankRefusal (id : BankId) (s : State) : Option (State × Status) :=
  if (s.bank id).unspared then some (s, .fault)
  else if s.power id ≠ .on then some ((s.bump F.membStatSleepAccess).flag F.membErrSleepAccess, .domainOff)
  else none

/-- The port whose idle edges serve a bank's window (08 R252). -/
def State.windowPort (s : State) (n : Nat) : BankPort := if s.get F.membBcfgPmode n = 0 then .a else .b

/-- The result of a memory access: status, bytes read, poison, state. -/
structure MemResult where
  status : Status
  data : List Byte := []
  poison : Bool := false
  state : State

/-- The edge of a port's clock at the present instant, the `e`-th of its crossing (04 R148). -/
def State.edgeOf (s : State) (n : Nat) (p : BankPort) (e : Nat) : Nat × Nat × Nat := (s.mt.boundary, e, s.kOf (s.portClk n p))

/-- The edges of a port's clock made in the present crossing. -/
def State.edgesMade (s : State) (n : Nat) (p : BankPort) : Nat := s.mt.fabTick * s.kOf (s.portClk n p) / fabGrid

/-- The window of a bank finds no edge within 8 µs (08 R252, R253): the serving port's clock stands, or the port has been
enabled at every edge for that long. -/
def State.windowShut (s : State) (n : Nat) (p : BankPort) : Bool :=
  let k := s.kOf (s.portClk n p)
  let q := s.port n p
  !s.started || k == 0 ||
    (decide (8000000000 * k ≤ q.enRun * s.get F.mtimeNomPeriodVal) &&
      q.lastEn.any (fun e => nextEdgeOf e (s.edgeOf n p (s.edgesMade n p)) || (e.1 == s.mt.boundary && decide (s.edgesMade n p ≤ e.2.1))))

/-- The edge an access through the window is served at: the one named, or the one after it where the port has MB_EN there, with
priority to the fabric (08 R252). -/
def State.windowEdge (s : State) (n : Nat) (p : BankPort) (edge : Nat) : Nat × Nat × Nat :=
  match (s.port n p).lastEn with
  | some e => if e.1 = s.mt.boundary ∧ edge ≤ e.2.1 then s.edgeOf n p (e.2.1 + 1) else s.edgeOf n p edge
  | none => s.edgeOf n p edge

/-- A read of a word through the window, as an access of the serving port at an edge (08 R252). -/
def windowRead (n : Nat) (p : BankPort) (edge : Nat × Nat × Nat) (w : Nat) (s : State) : EccRead × State :=
  let r := portView n p w edge s
  (r, noteRead (blockId n) w r s)

/-- Serve an access to a block bank through its window at an edge of the serving port's clock (08 R252, R253); BUSY where there
is none within 8 µs. An atomic operation is DENIED (11 R345). -/
def windowServe (n : Nat) (edge : Nat) (addr : Nat) (acc : MemAcc) (s : State) : MemResult :=
  let id := blockId n
  match bankRefusal id s with
  | some (s, st) => { status := st, state := s }
  | none =>
    if s.bit F.membBcfgWinEn n = false then { status := .denied, state := s }
    else
      let p := s.windowPort n
      let e := s.windowEdge n p edge
      if s.windowShut n p then { status := .busy, state := s }
      else match acc with
      | .read len =>
        let r := readBytes (fun w s => windowRead n p e (w - id.base) s) addr len s
        { status := .ok, data := r.1, poison := r.2.1, state := r.2.2 }
      | .write data be poison =>
        let wr (w : Nat) (d : DWord) (m : Nat) (s : State) : State := portStore n p (w - id.base) e m d poison s
        { status := .ok, state := writeBytes wr addr data be s }
      | .atomic _ _ _ => { status := .denied, state := s }

/-- Answer a memory access. -/
def MemResult.reply (r : MemResult) : Out := .next (r.state.answer r.status (ofBytes r.data) r.poison)

/-- BANK_WINDOW_ACCESS (08 R252, R253). -/
def execBankWindowAccess (addr : Nat) (edge : Nat) (acc : MemAcc) (s : State) : Out :=
  whenClocked s.nocClocked s <| if 0x40000000 ≤ addr ∧ addr < 0x44000000 then (windowServe ((addr - 0x40000000) / 0x2000) edge addr acc s).reply
  else .next (s.answer .decode)

/-- BANK_WINDOW_TIMEOUT (08 R253): an access not served within 8 µs receives BUSY and has no effect. -/
def execBankWindowTimeout (_b : Fin 8192) (s : State) : Out :=
  whenClocked s.nocClocked s <| .next (s.answer .busy)

/-- An atomic operation on memory words: the old value, poison, and the state after it (11 R345). A word that reads
poisoned or uncorrectable is not written (12 R378). -/
def atomicServe (rd : Nat → State → EccRead × State) (addr aop size : Nat) (operand : DWord) (s : State) : MemResult :=
  if atomicLegal addr aop size then
    let r := rd (addr / 8) s
    let old := r.1.data.toNat >>> (8 * (addr % 8)) % 2 ^ (8 * size)
    let new := atomicResult aop size old operand.toNat
    let mask := (2 ^ size - 1) <<< (addr % 8)
    let s := if r.1.poison then r.2 else r.2.writeWord (addr / 8) (BitVec.ofNat 64 (new <<< (8 * (addr % 8)))) mask false
    { status := .ok, data := bytesOf old size, poison := r.1.poison, state := s }
  else { status := .denied, state := s }

/-- An access to a scratch bank (08 R254); without its group's clock it waits until it ends with E_NOC_TIMEOUT (16 R526). -/
def scratchServe (n : Fin 256) (addr : Nat) (acc : MemAcc) (s : State) : MemResult :=
  let id := BankId.scratch n
  match bankRefusal id s with
  | some (s, st) => { status := st, state := s }
  | none =>
    if s.quillClocked (n / 16) = false then { status := .nocTimeout, state := s }
    else
    let rd (w : Nat) (s : State) : EccRead × State := bankRead id (w - id.base) s
    match acc with
    | .read len =>
      let r := readBytes rd addr len s
      { status := .ok, data := r.1, poison := r.2.1, state := r.2.2 }
    | .write data be poison =>
      { status := .ok, state := writeBytes (fun w d m s => s.writeWord w d m poison) addr data be s }
    | .atomic aop size operand => atomicServe rd addr aop size operand s

/-- SCRATCH_ACCESS (08 R254). -/
def execScratchAccess (b : Fin 256) (offset : Nat) (acc : MemAcc) (s : State) : Out :=
  (scratchServe b (0x10000000 + 0x40000 * b.val + offset % 0x40000) acc s).reply

/-! ### Core memories (08 R255, R257) -/

/-- Read a word of the core memories: an uncorrectable one is reported with its core (R257). -/
def coreMemRead (w : Nat) (s : State) : EccRead × State :=
  let r := s.wordRead w
  let core := (w - 0x4000000) / 8192
  match r with
  | .uncorrectable _ => (r, (s.flag F.membErrUncorrectable).raise .membUe (objWord 5 core) ((w - 0x4000000) % 8192))
  | _ => (r, s)

/-- An access to the core memories. -/
def coreMemServe (addr : Nat) (acc : MemAcc) (s : State) : MemResult :=
  match acc with
  | .read len =>
    let r := readBytes coreMemRead addr len s
    { status := .ok, data := r.1, poison := r.2.1, state := r.2.2 }
  | .write data be poison =>
    { status := .ok, state := writeBytes (fun w d m s => s.writeWord w d m poison) addr data be s }
  | .atomic aop size operand => atomicServe coreMemRead addr aop size operand s

/-! ### Scrub passes (08 R268 to R271) -/

/-- A scrub engine's pass. -/
def State.scrub (s : State) (e : Nat) : ScrubSt := Tab.get {} s.scrubs e

/-- Replace a scrub engine's pass. -/
def State.setScrub (s : State) (e : Nat) (p : ScrubSt) : State := { s with scrubs := Tab.put {} s.scrubs e p }

/-- MEMB_SCR_BASE, a 48-bit system address. -/
def State.scrBase (s : State) (e : Nat) : Nat := s.pair .membScrBaseLo .membScrBaseHi e % 2 ^ 48

/-- A scrub descriptor is refused (08 R268): the range in neither space, a key id, or an address not aligned. -/
def scrubRefused (e : Nat) (s : State) : Bool :=
  let base := s.scrBase e
  let last := base + 8 * (s.get F.membScrLenVal e) + 7
  let inside (lo hi : Nat) : Bool := decide (lo ≤ base) && decide (last < hi)
  !(inside 0x40000000 0x44000000 || inside 0x10000000 0x14000000) || base % 8 != 0
    || s.pair .membScrDestLo .membScrDestHi e % 64 != 0

/-- An abort ends a pass after the word in progress (08 R270). -/
def scrubAbort (e : Nat) (s : State) : State :=
  if s.get F.membScrStatusState e = 1 ∧ (s.scrub e).finished = none then s.setScrub e { s.scrub e with finished := some 1 }
  else s

/-- The banks a range of words touches, each with nothing counted, in ascending order (08 R271). -/
def scrubBanks (word count : Nat) : List (Nat × Nat × Nat × Nat × Nat) :=
  let size := if word < 0x8000000 then 0x8000 else 0x400
  let first := if word < 0x8000000 then 0x2000000 else 0x8000000
  let a := (word - first) / size
  (List.range ((word + count - 1 - first) / size + 1 - a)).map (fun i => (a + i, 0, 0, 0, 0))

/-- A write of MEMB_SCR_CTRL (08 R268, R270). -/
def scrubCtrlWrite (e v : Nat) (s : State) : State × Status :=
  if bitAt v 30 then (scrubAbort e s, .ok)
  else if s.get F.membScrStatusState e ≠ 0 then (s, .busy)
  else if bitAt v 31 then
    if scrubRefused e s then (s.flag F.membScrStatusBadDesc e, .denied)
    else
      let s := ((s.clear F.membScrStatusBadDesc e).put F.membScrStatusState 1 e).put F.membScrStatusProgress 0 e
      ((s.flag F.membScrCtrlGo e).setScrub e { banks := scrubBanks (s.scrBase e / 8) (s.get F.membScrLenVal e + 1) }, .ok)
  else (s, .ok)

/-- SCRUB_START (08 R268). -/
def execScrubStart (e : Fin 2) (s : State) : Out := reply (scrubCtrlWrite e 0x80000000 s)

/-- SCRUB_ABORT (08 R270). -/
def execScrubAbort (e : Fin 2) (s : State) : Out := reply (scrubAbort e s, .ok)

/-- A write of a scrub engine's other registers: BUSY while a pass runs (08 R268). -/
def scrubRegWrite (r : RegName) (mask e v : Nat) (s : State) : State × Status :=
  if s.get F.membScrStatusState e ≠ 0 then (s, .busy) else (s.setWord r (BitVec.ofNat 32 (v &&& mask)) e, .ok)

/-- A write of an engine's read-only registers while a pass runs is BUSY too (08 R268). -/
def scrubIdleWrite (e : Nat) (s : State) : State × Status := if s.get F.membScrStatusState e ≠ 0 then (s, .busy) else (s, .ok)

/-- The bank that holds a word of the data memories. -/
def bankOfWord (w : Nat) : BankId :=
  if w < 0x8000000 then .scratch (Fin.ofNat 256 ((w - 0x2000000) / 0x8000)) else .block (Fin.ofNat 8192 ((w - 0x8000000) / 0x400))

/-- Add to a bank's entry of the summary, kept in ascending bank order. -/
def addEntry (bank : Nat) (add : Nat × Nat × Nat × Nat) : List (Nat × Nat × Nat × Nat × Nat) → List (Nat × Nat × Nat × Nat × Nat)
  | [] => [(bank, add)]
  | (b, a) :: t =>
    if b = bank then (b, a.1 + add.1, a.2.1 + add.2.1, a.2.2.1 + add.2.2.1, a.2.2.2 + add.2.2.2) :: t
    else (b, a) :: addEntry bank add t

/-- A pass notes a word: what was found, whether it was skipped. -/
def scrubNote (p : ScrubSt) (bank addr : Nat) (r : Option EccRead) : ScrubSt :=
  let fail (p : ScrubSt) : ScrubSt := { p with first := some (p.first.getD addr), last := some addr }
  match r with
  | none => { p with banks := addEntry bank (1, 0, 0, 0) p.banks }
  | some (.good _ false) => { p with read := p.read + 1 }
  | some (.good _ true) => fail { p with read := p.read + 1, corrected := p.corrected + 1, banks := addEntry bank (0, 1, 0, 0) p.banks }
  | some (.uncorrectable _) => fail { p with read := p.read + 1, uncorrectable := p.uncorrectable + 1, banks := addEntry bank (0, 0, 1, 0) p.banks }
  | some (.poisoned _) => { p with read := p.read + 1, poisoned := p.poisoned + 1, banks := addEntry bank (0, 0, 0, 1) p.banks }

/-- SCRUB_WORD (08 R269): one word is read and corrected, poisoned, counted or skipped. `timeout`: a block-bank word was
not served within 8 µs; `raced`: the word was written after the engine read it, and the write-back is skipped. A bank
that cannot serve the access is skipped like one that does not. -/
def execScrubWord (e : Fin 2) (timeout raced : Bool) (s : State) : Out :=
  whenClocked s.nocClocked s <| .next <|
    let p := s.scrub e
    if s.get F.membScrStatusState e = 1 ∧ p.finished = none ∧ s.frozen F.dbgFreezeScrub = false then
      let done := s.get F.membScrStatusProgress e
      let addr := s.scrBase e + 8 * done
      let w := addr / 8
      let id := bankOfWord w
      let p' := s.windowPort id.idx
      let closed := id.isBlock && (timeout || !s.bit F.membBcfgWinEn id.idx || s.windowShut id.idx p')
      let edge := s.windowEdge id.idx p' (s.edgesMade id.idx p')
      let read (s : State) : EccRead × State :=
        if id.isBlock then windowRead id.idx p' edge (w - id.base) s else bankRead id (w - id.base) s
      -- A block bank's word is written back at the serving port, as it writes (R252).
      let write (d : DWord) (poison : Bool) (s : State) : State :=
        if id.isBlock then portStore id.idx p' (w - id.base) edge 255 d poison s
        else s.putWord w d (if poison then poisonSyn else 0)
      let s := s.put F.membScrStatusProgress (done + 1) e
      let step (s : State) : ScrubSt × State :=
        match bankRefusal id s with
        | some (s, _) => (scrubNote p id.idx addr none, s)
        | none =>
          if closed then (scrubNote p id.idx addr none, s)
          else
            let r := read s
            let s := match r.1 with
              | .good d true => if raced then r.2 else write d false r.2
              | .uncorrectable d => if raced then r.2 else write d true r.2
              | _ => r.2
            (scrubNote p id.idx addr (some r.1), s)
      let r := step s
      let q := if done = s.get F.membScrLenVal e then { r.1 with finished := some 0 } else r.1
      r.2.setScrub e q
    else s

/-- The words of a summary record (08 R271): header and one entry for each bank. -/
def summaryRecord (kind status read corrected uncorrectable poisoned : Nat) (first last : Option Nat) (pt : Nat)
    (banks : List (Nat × Nat × Nat × Nat × Nat)) : List Byte :=
  let addr (a : Option Nat) : List Byte := bytesOf (a.getD 0xFFFFFFFFFFFFFFFF) 8
  bytesOf (0x01000000 + kind % 16 * 2 ^ 20 + status % 16 * 2 ^ 16 + banks.length % 2 ^ 14) 4 ++ bytesOf 0 4
    ++ bytesOf read 8 ++ bytesOf corrected 8 ++ bytesOf uncorrectable 8 ++ bytesOf poisoned 8
    ++ addr first ++ addr last ++ bytesOf pt 8
    ++ banks.flatMap (fun e =>
        bytesOf (e.2.1 % 65536 * 65536 + e.1 % 65536) 4 ++ bytesOf e.2.2.1 4 ++ bytesOf e.2.2.2.1 4 ++ bytesOf e.2.2.2.2 4)

end Sys2Proof.Machine
end

