-- ==== Sys2Proof/Machine/Hoops.lean ====
section
/-!
DEFINITION. Switch groups, hoop states and commands, and global start (05).
-/
namespace Sys2Proof.Machine

/-- The states of a hoop (R181). -/
inductive HState where
  | off | held | loading | run | stopping | repair | incomplete
  deriving DecidableEq, Repr

/-- FAB_HOOP_STATUS.state. -/
def HState.code : HState → Nat
  | .off => 0 | .held => 1 | .loading => 2 | .run => 3 | .stopping => 4 | .repair => 5 | .incomplete => 6

/-- The state a code stands for. -/
def HState.ofCode : Nat → HState
  | 0 => .off | 1 => .held | 2 => .loading | 3 => .run | 4 => .stopping | 5 => .repair | _ => .incomplete

/-- The state of a hoop. -/
def State.hoopSt (s : State) (n : Nat) : HState := HState.ofCode (s.get F.fabHoopStatusState n)

/-- Put a hoop into a state. -/
def State.setHoopSt (s : State) (n : Nat) (h : HState) : State := s.put F.fabHoopStatusState h.code n

/-- The current context of a hoop holds a design (R172). -/
def State.ctxOk (s : State) (n : Nat) : Bool := (s.get F.fabHoopCfgCtxValid n).testBit (s.ctxOf n)

/-! ### Contexts and idle hoops (R164 to R173) -/

/-- A hoop in RUN follows its group's context: it becomes idle where the context holds no design, and resumes where it
does (R172, R173). -/
def hoopFollow (n : Nat) (s : State) : State :=
  if s.hoopSt n = .run then
    if s.ctxOk n then (s.clear F.fabHoopStatusIdle n).modHoop n (fun h => { h with live := true })
    else if s.bit F.fabHoopStatusIdle n then s
    else
      let s := ((s.flag F.fabHoopStatusIdle n).flag F.fabHoopFlagEmptyCtx n).flag F.fabCtxErrEmptyCtx
      (s.bump F.fabCtxCntEmptySwitches).modHoop n (fun h => { h with live := false })
  else s

/-- The hoops of a group. -/
def State.hoopsOf (s : State) (g : Nat) : List Nat := (List.range 192).filter (fun n => s.get F.fabHoopCfgGrp n == g)

/-- A group takes a context at a switching edge (R169). -/
def applySwitch (g ctx : Nat) (s : State) : State :=
  let s := s.put F.fabGrpCur ctx g
  (s.hoopsOf g).foldl (fun s n => hoopFollow n s) s

/-- At a crossing boundary the ruled groups take the contexts that the entry names (R166), and hoops in REPAIR clamp
(R181). -/
def fabricBoundary (s : State) : State :=
  let s := (List.range 8).foldl
    (fun s g =>
      match s.groupField g with
      | some ctx => if s.bit F.fabGrpMode g then s else applySwitch g ctx s
      | none => s) s
  s.hoops.foldl (fun s e => if e.2.live && s.hoopSt e.1 == .repair then s.modHoop e.1 (fun h => { h with live := false }) else s) s

/-- A write of FAB_GRP (R166): init, mode and req_ctx take the write; req asks for a switch at the second boundary, and
a further write keeps the boundary. -/
def grpWrite (g v : Nat) (s : State) : State × Status :=
  let s := if s.bit F.fabCtrlLock then s else s.put F.fabGrpInit (bits v 1 0) g
  let s := (s.put F.fabGrpMode (bits v 8 8) g).put F.fabGrpReqCtx (bits v 29 28) g
  if bitAt v 31 && !s.bit F.fabGrpReq g then
    let s := s.flag F.fabGrpReq g
    ({ s with groupAt := Tab.put 0 s.groupAt g (s.mt.boundary + 2) }, .ok)
  else (s, .ok)

/-- GRP_SWITCH_REQUEST (R166). -/
def execGrpSwitchRequest (g : Fin 8) (v : Word) (s : State) : Out := reply (grpWrite g v.toNat s)

/-- Withdraw a group's pending request. -/
def grpClear (g : Nat) (s : State) : State :=
  { s.clear F.fabGrpReq g with groupAt := Tab.put 0 s.groupAt g 0 }

/-- GRP_REQUEST_APPLY (R166, R167): at its boundary the request is carried out, or lost to the ruling table. -/
def execGrpRequestApply (g : Fin 8) (s : State) : Out :=
  .next <|
    if s.bit F.fabGrpReq g ∧ Tab.get 0 s.groupAt g.val ≤ s.mt.boundary then
      let ctx := s.get F.fabGrpReqCtx g
      let lost := !s.bit F.fabGrpMode g && (s.groupField g).isSome
      let s := grpClear g s
      if lost then (s.flag F.fabCtxErrReqLost).bump F.fabCtxCntReqLost else applySwitch g ctx s
    else s

/-- A write of FAB_HOOP_CFG (R165). -/
def hoopCfgWrite (n v : Nat) (s : State) : State × Status :=
  let st := s.hoopSt n
  if bits v 2 0 ≠ s.get F.fabHoopCfgGrp n ∧ st ≠ .held ∧ st ≠ .incomplete ∧ st ≠ .off then (s, .busy)
  else
    (((s.put F.fabHoopCfgGrp (bits v 2 0) n).put F.fabHoopCfgAutoRun (bits v 8 8) n).put F.fabHoopCfgRepairClamp (bits v 9 9) n, .ok)

/-- HOOP_CFG_WRITE (R165). -/
def execHoopCfgWrite (n : Fin 192) (v : Word) (s : State) : Out := reply (hoopCfgWrite n v.toNat s)

/-- A write of FAB_FIX_GRP: only before global start (R165). After it BUSY is answered whether or not the block is locked (DESIGN
CHOICE, log entry 108). -/
def fixGrpWrite (v : Nat) (s : State) : State × Status :=
  if s.started then (s, .busy)
  else if s.bit F.fabCtrlLock then (s, .ok)
  else ((s.put F.fabFixGrpGrpL1 (bits v 2 0)).put F.fabFixGrpGrpL2 (bits v 6 4), .ok)

/-! ### Hoop commands (R183) -/

/-- A refused hoop command. -/
def cmdRefused (st : Status) (s : State) : State × Status := (s.flag F.fabCtxErrCmdRefused, st)

/-- Release (R183, R184). -/
def hoopRelease (n : Nat) (s : State) : State × Status :=
  match s.hoopSt n with
  | .held =>
    if s.started = false then (s.flag F.fabHoopStatusPendingEnable n, .ok)
    else if s.get F.fabHoopCfgCtxValid n = 0 then cmdRefused .denied s
    else
      let due := ((s.hoop n).releaseAt).getD (s.mt.boundary + 1)
      ((s.flag F.fabHoopStatusPendingEnable n).modHoop n (fun h => { h with releaseAt := some due }), .ok)
  | .loading => (s.flag F.fabHoopStatusPendingEnable n, .ok)
  | .run => (s, .ok)
  | .repair => (s, .ok)
  | .stopping => (s.flag F.fabHoopStatusPendingEnable n, .ok)
  | .incomplete => cmdRefused .denied s
  | .off => cmdRefused .domainOff s

/-- Rewrites queued for frames of a hoop are discarded (13 R439); a frame address has its region in bits [26:19]. -/
def dropRewrites (n : Nat) (s : State) : State :=
  { s with loader := { s.loader with queue := s.loader.queue.filter (fun fa => bits fa 26 19 != n) } }

/-- A hoop in RUN or REPAIR enters STOPPING; the stop edge is the next boundary (R181). It is idle in RUN alone (R172). -/
def beginStop (n : Nat) (why : StopFor) (s : State) : State :=
  (((dropRewrites n s).setHoopSt n .stopping).clear F.fabHoopStatusIdle n).modHoop n (fun h =>
    { h with releaseAt := none, stopAt := some (s.mt.boundary + 1), stopped := none, stopFor := why, resumeAt := none
             rewriteFailed := false })

/-- A reload stream for a hoop begins: LOADING; queued rewrites are discarded (13 R439), and its CUT segments stay cut (04
R145). -/
def enterLoading (n : Nat) (s : State) : State :=
  (spansHold (fun r => r == n) ((dropRewrites n s).setHoopSt n .loading)).modHoop n (fun h => { h with releaseAt := none })

/-- Stop (R183). -/
def hoopStop (n : Nat) (s : State) : State × Status :=
  match s.hoopSt n with
  | .held => ((s.clear F.fabHoopStatusPendingEnable n).modHoop n (fun h => { h with releaseAt := none }), .ok)
  | .loading => cmdRefused .busy s
  | .run => (beginStop n .command s, .ok)
  | .repair => (beginStop n .command s, .ok)
  | .stopping => (s, .ok)
  | .incomplete => (s, .ok)
  | .off => (s, .ok)

/-- HOOP_RELEASE (R183). -/
def execHoopRelease (n : Fin 192) (s : State) : Out := reply (hoopRelease n s)

/-- HOOP_STOP (R183). -/
def execHoopStop (n : Fin 192) (s : State) : Out := reply (hoopStop n s)

/-- A write of FAB_HOOP_CMD (R183): both bits are refused in every state. -/
def hoopCmdWrite (n v : Nat) (s : State) : State × Status :=
  match bitAt v 0, bitAt v 1 with
  | true, true => cmdRefused .denied s
  | true, false => hoopRelease n s
  | false, true => hoopStop n s
  | false, false => (s, .ok)

/-! ### Stop, release and repair edges (R179 to R186) -/

/-- A hoop is reset: its clamp engaged, every state bit at its initial value, its slices, rank units and arrays cleared
(R180). -/
def resetHoop (n : Nat) (s : State) : State :=
  let s := (s.clear F.fabHoopStatusIdle n).modHoop n (fun h => { h with live := false })
  clearArrays n (clearRanks n (clearSlices n (resetFlops n s)))

/-- HOOP_STOP_EDGE (R181): at the boundary after the stop the hoop clamps, gates and resets. -/
def execHoopStopEdge (n : Fin 192) (s : State) : Out :=
  .next <|
    match (s.hoop n).stopAt with
    | some b =>
      if s.hoopSt n = .stopping ∧ b ≤ s.mt.boundary then
        (resetHoop n s).modHoop n (fun h => { h with stopAt := none, stopped := some s.mt.boundary })
      else s
    | none => s

/-- A hoop in HELD is to be released at the next boundary if its contexts hold a design; a latched release of a hoop
without one is discarded (R182). -/
def heldNext (n : Nat) (wanted : Bool) (s : State) : State :=
  if s.get F.fabHoopCfgCtxValid n = 0 then
    let s := if s.bit F.fabHoopStatusPendingEnable n then s.flag F.fabCtxErrCmdRefused else s
    s.clear F.fabHoopStatusPendingEnable n
  else if (wanted || s.bit F.fabHoopStatusPendingEnable n) && s.started then
    s.modHoop n (fun h => { h with releaseAt := some (s.mt.boundary + 1) })
  else s

/-- Key of a hoop's power domain. -/
def hoopDom (n : Nat) : Nat := 2000 + n

/-- A hoop's domain goes down: it reads OFF (R181). -/
def hoopPowerDown (n : Nat) (s : State) : State :=
  let s := (s.setHoopSt n .off).clear F.fabHoopStatusPendingEnable n
  let s := s.modHoop n (fun h => { h with releaseAt := none, stopAt := none, stopped := none, stopFor := .command })
  { s with doms := Tab.put {} s.doms (hoopDom n) { Tab.get {} s.doms (hoopDom n) with st := .poweringDown } }

/-- A hoop is INCOMPLETE (13 R432); a latched release is discarded (R183). -/
def enterIncomplete (n : Nat) (s : State) : State :=
  ((s.setHoopSt n .incomplete).flag F.fabHoopFlagIncomplete n).clear F.fabHoopStatusPendingEnable n

/-- HOOP_STOP_COMPLETE (R181, R184, R185, R187): clearing is done, and at the first boundary after it the hoop is HELD;
a latched release is due at the next one, unless a switch-off follows the stop or a reload, which begins at once. A hoop whose
reload has failed meanwhile is then INCOMPLETE. -/
def execHoopStopComplete (n : Fin 192) (s : State) : Out :=
  .next <|
    match (s.hoop n).stopped with
    | some b =>
      if s.hoopSt n = .stopping ∧ b < s.mt.boundary then
        let why := (s.hoop n).stopFor
        let s := (s.setHoopSt n .held).modHoop n (fun h => { h with stopped := none, stopFor := .command })
        match why with
        | .command => heldNext n false s
        | .load => enterLoading n (s.clear F.fabHoopStatusPendingEnable n)
        | .switchOff => hoopPowerDown n s
        | .failed => enterIncomplete n s
      else s
    | none => s

/-- The hard blocks of a starting region are checked (06 R204, R211, 07 R216, 08 R247). -/
def checkRegion (r : Nat) (s : State) : State :=
  checkBanks (fun o => o == r) (checkArrays r (checkRanks r (checkSlices r s)))

/-- A hoop enters RUN at its release edge (R182). -/
def enterRun (n : Nat) (s : State) : State :=
  let s := (s.setHoopSt n .run).clear F.fabHoopStatusPendingEnable n
  let s := (s.clear F.fabHoopStatusIdle n).modHoop n (fun h => { h with releaseAt := none })
  hoopFollow n s

/-- HOOP_RELEASE_EDGE (R182). -/
def execHoopReleaseEdge (n : Fin 192) (s : State) : Out :=
  .next <|
    match (s.hoop n).releaseAt with
    | some b =>
      if s.hoopSt n = .held ∧ b ≤ s.mt.boundary then checkRegion n (enterRun n s) else s
    | none => s

/-- A frame rewrite begins in a hoop with repair_clamp = 1 (R181); in a hoop already in REPAIR it is one more to wait for. -/
def enterRepair (n : Nat) (s : State) : State :=
  match s.hoopSt n with
  | .run =>
    ((s.setHoopSt n .repair).clear F.fabHoopStatusIdle n).modHoop n (fun h => { h with resumeAt := none, rewriteFailed := false })
  | .repair => s.modHoop n (fun h => { h with resumeAt := none })
  | _ => s

/-- A rewrite of a frame of the hoop is queued or under way. -/
def State.rewritePending (s : State) (n : Nat) : Bool :=
  s.loader.queue.any (fun fa => bits fa 26 19 == n) || s.loader.rewriting.any (fun fa => bits fa 26 19 == n)

/-- HOOP_REPAIR_RESUME (R181, R186): every affected frame is rewritten, and at the next boundary the hoop resumes in its
group's current context with the state it held; not while a rewrite is queued or under way, nor after one has failed (13
R439). -/
def execHoopRepairResume (n : Fin 192) (s : State) : Out :=
  .next <|
    match (s.hoop n).resumeAt with
    | some b =>
      if s.hoopSt n = .repair ∧ b ≤ s.mt.boundary ∧ s.rewritePending n = false ∧ (s.hoop n).rewriteFailed = false then
        let s := ((s.setHoopSt n .run).clear F.fabHoopStatusIdle n).modHoop n (fun h => { h with resumeAt := none })
        hoopFollow n s
      else s
    | none => s

/-! ### Global start (R189 to R191) -/

/-- The fixed regions have no unrepaired frame storage (R190). -/
def State.fixedOk (s : State) : Bool := !s.bit F.fabCtrlFixBadL1 && !s.bit F.fabCtrlFixBadL2

/-- The groups at the start edge: init, then the entry of the start crossing for ruled groups; pending requests are
discarded (R168). -/
def groupsStart (s : State) : State :=
  (List.range 8).foldl
    (fun s g =>
      let s := (grpClear g s).put F.fabGrpCur (s.get F.fabGrpInit g) g
      match s.groupField g with
      | some ctx => if s.bit F.fabGrpMode g then s else s.put F.fabGrpCur ctx g
      | none => s) s

/-- The hoops at the start edge: those to run enter RUN; a latched release of a hoop without a design is discarded
(R189). -/
def hoopsStart (s : State) : State :=
  (List.range 192).foldl
    (fun s n =>
      if s.hoopSt n = .held then
        let latched := s.bit F.fabHoopStatusPendingEnable n
        if s.get F.fabHoopCfgCtxValid n = 0 then
          let s := if latched then s.flag F.fabCtxErrCmdRefused else s
          s.clear F.fabHoopStatusPendingEnable n
        else if latched || s.bit F.fabHoopCfgAutoRun n then enterRun n s
        else s
      else s) s

/-- The checks of global start: the slices of the regions that start (06 R204), and every rank unit, array and bank port,
whoever owns it (06 R211, 07 R216, 08 R247). -/
def checkStarted (s : State) : State :=
  let regions := 192 :: 193 :: (List.range 192).filter (fun n => s.hoopSt n == .run)
  let s := regions.foldl (fun s r => checkSlices r s) s
  let s := (List.range 194).foldl (fun s r => checkArrays r (checkRanks r s)) s
  checkBanks (fun _ => true) s

/-- Global start at the start edge (R189): the clocks run, the fixed regions start, groups and hoops take their places,
the user I/O banks and the lanes start. -/
def startFabric (s : State) : State :=
  let s := ((fclkRun s).flag F.fabCtrlStarted)
  let s := hoopsStart (groupsStart s)
  let s := (List.range 48).foldl (fun s n => s.modBundle n (fun b => { b with live := true })) s
  lanesStart (iobsStart (checkStarted (spansReload (fun _ => true) { s with startRefused := false })))

/-- GLOBAL_START (R189, R190): the full load has reached START, at the crossing boundary after it; refused under 04 R147
or R190, the fabric stays held. -/
def execGlobalStart (s : State) : Out :=
  .next <|
    if s.started = false ∧ s.get F.cfgStatusState = 5 ∧ s.get F.cfgStatusKind = 0 then
      let r := fclkCheck s
      if s.fixedOk = false then { r.2.raise .fabStartRefused with startRefused := true }
      else if r.1 then startFabric r.2 else { r.2 with startRefused := true }
    else s

/-- The whole fabric returns to reset (R191, 13 R431, 15 R489): every hoop is held in reset, both fixed regions stop, the
fabric clocks stop, user I/O banks leave service. -/
def stopFabric (s : State) : State :=
  let started := s.started
  let s := (s.clear F.fabCtrlStarted).put F.fabFclkStatusRun 0
  let s := releasePins (fun _ => true) ((List.range 13).foldl (fun s n => s.clear F.fabIobStatusActive n) s)
  let s := { s with slices := [], flops := [] }
  let s := clearArrays 193 (clearArrays 192 (clearRanks 193 (clearRanks 192 s)))
  (List.range 192).foldl
    (fun s n =>
      let leaving := s.hoopSt n == .stopping && decide ((s.hoop n).stopFor = .switchOff)
      let s := resetHoop n s
      let s := s.modHoop n (fun _ => {})
      if leaving then hoopPowerDown n s
      else if s.hoopSt n = .off then s
      else if started then (s.setHoopSt n .held).clear F.fabHoopStatusPendingEnable n
      else s.setHoopSt n .held) s

end Sys2Proof.Machine
end

