-- ==== Sys2Proof/Machine/Xcr.lean ====
section
/-!
DEFINITION. Inline encryption and integrity (10): keys, line encryption and tags, counters, the outcomes of line reads
and writes, release.
-/
namespace Sys2Proof.Machine

/-! ### Addresses and keys (01 R22, R314 to R317) -/

/-- The key id of a system address. -/
def keyId (addr : Nat) : Nat := addr / 2 ^ 43 % 32

/-- The offset of a system address. -/
def offsetOf (addr : Nat) : Nat := addr % 2 ^ 43

/-- First offset of the near store, of its user region, and of the cave (01 R23, R27). -/
def nearStart : Nat := 0x1000000000
def nearUser : Nat := nearStart + 0x200000000
def nearEnd : Nat := nearStart + 0x4000000000
def caveStart : Nat := 0x20000000000

/-- Key of the page of an offset in the counter table (R324). -/
def pageKey (o : Nat) : Nat := if caveStart ≤ o then 2 ^ 27 + (o - caveStart) / 4096 else (o - nearStart) / 4096

/-- A page's entry; a table line whose root counter has ended write-locks its pages (R328). -/
def State.page (s : State) (k : Nat) : PageEnt :=
  let e := Tab.get {} s.xcr.pages k
  if (Tab.get {} s.xcr.roots (k / 8192)).exhausted then { e with exhausted := true } else e

/-- Write a page's entry; the table line that holds it is written under its block's root counter (R325, R327). -/
def State.setPage (s : State) (k : Nat) (e : PageEnt) : State :=
  let block := k / 8192
  let line := k / 8
  let root := Tab.get {} s.xcr.roots block
  let minor := Tab.get 0 s.xcr.tminor line + 1
  let x := { s.xcr with pages := Tab.put {} s.xcr.pages k e }
  let x :=
    if minor ≤ 255 then { x with tminor := Tab.put 0 x.tminor line minor, roots := Tab.put {} x.roots block { root with touched := true } }
    else if root.major = 2 ^ 48 - 1 then { x with roots := Tab.put {} x.roots block { root with exhausted := true } }
    else
      { x with
        tminor := x.tminor.map (fun t => if t.1 / 1024 = block then (t.1, 1) else t),
        roots := Tab.put {} x.roots block { root with major := root.major + 1 } }
  { s with xcr := x }

/-- A key slot is valid (R314). -/
def State.keyValid (s : State) (k : Nat) : Bool := (s.get F.xcrKeyValidVal).testBit k

/-- The 32 bytes of a key. -/
def State.keyBytes (s : State) (k : Nat) : List Nat := Crypto.beBytes (Tab.get 0 s.xcr.keys k) 32

/-- Load a key into an empty slot: the check value is bits [127:96] of AES-256 of the all-ones block (R316). -/
def loadKey (k : Nat) (key : List Nat) (s : State) : State :=
  let kcv := Crypto.beNat ((Crypto.aes key (List.replicate 16 255)).take 4)
  let s := { s with xcr := { s.xcr with keys := Tab.put 0 s.xcr.keys k (Crypto.beNat key) } }
  (s.put F.xcrKeyValidVal (s.get F.xcrKeyValidVal ||| 2 ^ k)).put F.xcrKcvVal kcv k

/-- At a power-on K0 is drawn from the random source: a free value (R315); a system reset keeps it. -/
def drawK0 (s : State) : State :=
  if s.warm then s else loadKey 0 (Crypto.beBytes (s.fresh 256).1 32) (s.fresh 256).2

/-- Erase the key slots of a mask; slot 0 stays (R317). -/
def keyErase (v : Nat) (s : State) : State :=
  (List.range 32).foldl
    (fun s k =>
      if k != 0 && v.testBit k && s.keyValid k then
        let s := { s with xcr := { s.xcr with keys := Tab.put 0 s.xcr.keys k 0 } }
        (s.put F.xcrKeyValidVal (s.get F.xcrKeyValidVal - 2 ^ k)).put F.xcrKcvVal 0 k
      else s) s

/-- KEY_ERASE (R317). -/
def execKeyErase (v : Word) (s : State) : Out := reply (keyErase v.toNat s, .ok)

/-! ### Keystream and tag (R321 to R323) -/

/-- An AES input block (R321). -/
def xcrBlock (dom major minor la i : Nat) : List Nat :=
  Crypto.beBytes (dom * 2 ^ 120 + major % 2 ^ 48 * 2 ^ 64 + minor % 256 * 2 ^ 56 + la % 2 ^ 37 * 2 ^ 19 + i % 4) 16

/-- The 64 bytes of keystream of a line. -/
def keystream (key : List Nat) (major minor la : Nat) : List Nat :=
  (List.range 4).flatMap (fun i => Crypto.aes key (xcrBlock 1 major minor la i))

/-- Encrypt or decrypt a line (R322). -/
def lineText (key : List Nat) (major minor la : Nat) (data : List Byte) : List Byte :=
  List.zipWith (fun d k => d ^^^ BitVec.ofNat 8 k) data (keystream key major minor la)

/-- The tag of a line's ciphertext (R323). -/
def lineTag (key : List Nat) (major minor la : Nat) (ct : List Byte) : Nat :=
  let h := Crypto.beNat (Crypto.aes key (List.replicate 16 0))
  let s := Crypto.ghash h (Crypto.blocksOf (ct.map (·.toNat)))
  (s ^^^ Crypto.beNat (Crypto.aes key (xcrBlock 2 major minor la 0))) / 2 ^ 104

/-- The reserved tag of a line stored poisoned (R320). -/
def poisonTag : Nat := 0xFFFFFF

/-- A line encrypted under the first minor counter from `minor` on, of `n + 1`, whose tag is not the reserved value
(R320). -/
def sealFrom (key : List Nat) (major la : Nat) (data : List Byte) : Nat → Nat → Line
  | 0, minor =>
    let ct := lineText key major minor la data
    { ct := ct, tag := lineTag key major minor la ct, minor := minor }
  | n + 1, minor =>
    let ct := lineText key major minor la data
    let t := lineTag key major minor la ct
    if t = poisonTag then sealFrom key major la data n (minor + 1) else { ct := ct, tag := t, minor := minor }

/-- A line encrypted under a minor counter, or under the next one while its tag would be the reserved value (R320); a
poisoned line carries that value. -/
def sealLine (key : List Nat) (major minor la : Nat) (data : List Byte) (poison : Bool) : Line :=
  if poison then { ct := lineText key major minor la data, tag := poisonTag, minor := minor }
  else sealFrom key major la data 255 minor

/-! ### Reading a line (R330, R331, R335) -/

/-- What the Reed–Solomon check of a line finds (R319). -/
inductive RsFound where
  | clean | corrected | uncorrectable
  deriving DecidableEq, Repr

/-- A line's content, tag and minor counter with some of its symbols in error. -/
def Line.damaged (l : Line) (err : Tab Byte) : Line :=
  { ct := (List.range 64).map (fun i => l.ct.getD i 0 ^^^ Tab.get 0 err i)
    tag := ofBytes ((List.range 3).map (fun i => BitVec.ofNat 8 (l.tag / 2 ^ (8 * i)) ^^^ Tab.get 0 err (64 + i)))
    minor := (BitVec.ofNat 8 l.minor ^^^ Tab.get 0 err 67).toNat }

/-- A line with symbols upset in the memory. -/
def Line.upset (l : Line) (ups : List (Fin 72 × Byte)) : Line :=
  { l with err := ups.foldl (fun err u => Tab.put 0 err u.1.val (Tab.get 0 err u.1.val ^^^ u.2)) l.err }

/-- The line after its check, which corrects two symbols, and what the check found (R319). -/
def rsSeen (l : Line) : Line × RsFound :=
  if l.err = [] then (l, .clean)
  else if l.err.length ≤ 2 then ({ l with err := [] }, .corrected)
  else match Config.rsDecode l.err with
    | none => (l.damaged l.err, .uncorrectable)
    | some left => (l.damaged left, .corrected)

/-- The line as an engine sees it: the line the memory holds after its check, or what the memory gives in its place. -/
def seenLine (f : EngFetch) (l : Line) : Line × RsFound :=
  match f.other with
  | none => rsSeen l
  | some (d, t, m) => ({ ct := d, tag := t.toNat, minor := m.toNat }, .clean)

/-- The outcomes of R330. -/
inductive ReadKind where
  | clean | uncorrectable | unwritten | poisoned | integrity
  deriving DecidableEq, Repr

/-- The checks of a read in order (R330). -/
def readKind (s : State) (addr : Nat) (l : Line) (unc : Bool) : ReadKind :=
  let o := offsetOf addr
  let pg := s.page (pageKey o)
  if unc then .uncorrectable
  else if l.minor = 0 ∧ l.tag = 0 ∧ pg.touched = false then .unwritten
  else if l.minor = 0 then .integrity
  else if l.tag = poisonTag then .poisoned
  else if lineTag (s.keyBytes (keyId addr)) pg.major l.minor (o / 64) l.ct = l.tag then .clean
  else .integrity

/-- The data a read delivers: zeros for an unwritten line, else the line as decrypted (R330). -/
def readData (s : State) (addr : Nat) (l : Line) (k : ReadKind) : List Byte :=
  let o := offsetOf addr
  match k with
  | .unwritten => List.replicate 64 0
  | _ => lineText (s.keyBytes (keyId addr)) (s.page (pageKey o)).major l.minor (o / 64) l.ct

/-- Count an integrity failure, or a key mismatch where the key id is not the page's, and record its address (R330,
R331). -/
def integrityNote (e addr : Nat) (s : State) : State :=
  let pg := s.page (pageKey (offsetOf addr))
  let s :=
    if pg.touched ∧ keyId addr ≠ pg.key then (s.bump F.xcrEngIntMismatch e).flag F.xcrErrKeyMismatch
    else (s.bump F.xcrEngIntIntegrity e).flag F.xcrErrIntegrity
  s.setPair .xcrFailAddrLo .xcrFailAddrHi addr

/-- Write an integrity blotter entry, at most blot_limit per engine and second (R331). -/
def integrityBlot (e code sev detail : Nat) (s : State) : State :=
  let recent := (Tab.get [] s.xcr.blots e).filter (fun t => decide (s.since t < 1000000000))
  if recent.length < s.get F.xcrCtrlBlotLimit then
    let s := { s with xcr := { s.xcr with blots := Tab.put [] s.xcr.blots e (s.pt :: recent) } }
    s.blot code sev detail
  else s

/-- A read's integrity failure: counted, recorded, raised and written to the blotter (R331). -/
def integrityFail (e addr : Nat) (s : State) : State :=
  let s := (integrityNote e addr s).logEvent Ev.xcrIntegrity.code (objWord 14 e) addr
  integrityBlot e Ev.xcrIntegrity.code Ev.xcrIntegrity.severity (objWord 14 e + addr % 2 ^ 32 * 2 ^ 32) s

/-- Count cache misses (R336). -/
def cacheNote (e : Nat) (f : EngFetch) (s : State) : State :=
  let s := if f.ctrMiss then s.bump F.xcrEngCacheCtr e else s
  if f.metaMiss then s.bump F.xcrEngCacheMeta e else s

/-- The table line of a page has failed its check, now or before (R335). -/
def State.tableBad (s : State) (k : Nat) : Bool := s.xcr.tfail.contains (k / 8)

/-- System address of a table line, under K0 (R324). -/
def tableAddr (k : Nat) : Nat :=
  let line := k / 8 * 8
  if line < 2 ^ 27 then 0x1040000000 + 8 * line
  else
    let q := line - 2 ^ 27
    if q < 2 ^ 28 then 0x1080000000 + 8 * q else 0x1180000000 + 8 * (q - 2 ^ 28)

/-- A table line fails its check (R335). -/
def tableFail (k : Nat) (s : State) : State :=
  if s.tableBad k then s
  else
    let s := { s with xcr := { s.xcr with tfail := (k / 8) :: s.xcr.tfail } }
    (s.flag F.xcrErrTableFail).raise .xcrTableFail 0 (tableAddr k)

/-- The result of a line access. -/
structure LineResult where
  status : Status
  data : List Byte := []
  poison : Bool := false
  /-- What the line's check found (R319, 09 R308, R312). -/
  rs : RsFound := .clean
  state : State

/-- What one line of a read gives (R330, R331, R335). -/
def lineReadOp (e addr : Nat) (seen : Line × RsFound) (f : EngFetch) (s : State) : LineResult :=
  let k := pageKey (offsetOf addr)
  let s := cacheNote e f s
  if s.keyValid (keyId addr) = false then { status := .denied, state := s }
  else
    let s := if f.tableFail then tableFail k s else s
    if s.tableBad k then { status := .integrity, data := List.replicate 64 0, poison := true, state := s }
    else
      let kind := readKind s addr seen.1 (seen.2 == .uncorrectable)
      let data := readData s addr seen.1 kind
      match kind with
      | .clean => { status := .ok, data := data, rs := seen.2, state := s }
      | .unwritten => { status := .ok, data := data, rs := seen.2, state := s }
      | .uncorrectable => { status := .ok, data := data, poison := true, rs := seen.2, state := s }
      | .poisoned => { status := .ok, data := data, poison := true, rs := seen.2, state := s.bump F.xcrEngPoisReads e }
      | .integrity => { status := .integrity, data := data, poison := true, rs := seen.2, state := integrityFail e addr s }

/-! ### The near store's channels and lines (09 R278, R279) -/

/-- A channel beyond its registers. -/
def State.nearCh (s : State) (c : Nat) : NearSt := Tab.get {} s.nears c

/-- Change a channel's data. -/
def State.modNear (s : State) (c : Nat) (f : NearSt → NearSt) : State := { s with nears := Tab.put {} s.nears c (f (s.nearCh c)) }

/-- Mirroring is on. -/
def State.mirrored (s : State) : Bool := s.bit F.nearCtrlMirror

/-- Channel and channel page of a near-store page; with mirroring the even channel of the pair (R278, R279). -/
def nearPlace (mirror : Bool) (p : Nat) : Nat × Nat :=
  if p < 2097152 then
    let h := p / 1048576
    let j := p % 1048576
    if mirror then (2 * (9 * h + j % 9), j / 9) else (18 * h + j % 18, j / 18)
  else
    let u := p - 2097152
    if mirror then (2 * (u % 18), 116509 + u / 18) else (u % 36, 58255 + u / 36)

/-- The page is one of this channel. -/
def onChannel (mirror : Bool) (c p : Nat) : Bool :=
  let a := (nearPlace mirror p).1
  if mirror then a / 2 == c / 2 else a == c

/-- The mirror partner of a channel. -/
def partner (c : Nat) : Nat := if c % 2 = 0 then c + 1 else c - 1

/-- A near-store line that has not been written since its channel lost its contents: none loses them but by the boundary
register's ownership of its pins (19 R585), after which they are free values. -/
def State.nearBlank (s : State) (la : Nat) : Line :=
  let c := (nearPlace s.mirrored ((la - nearStart / 64) / 64)).1
  let j := if s.mirrored then max (s.nearCh c).junk (s.nearCh (partner c)).junk else (s.nearCh c).junk
  if j = 0 then {}
  else
    { ct := (List.range 64).map (fun i => Config.junkByte j la i)
      tag := ofBytes ((List.range 3).map (fun i => Config.junkByte j la (64 + i)))
      minor := (Config.junkByte j la 67).toNat }

/-! ### Writing a line (R326 to R328, R332, R333) -/

/-- The stored line of a near-store or cave offset. -/
def State.lineAt (s : State) (la : Nat) : Line :=
  if caveStart / 64 ≤ la then Tab.get {} s.cave la else Tab.get (s.nearBlank la) s.near la

/-- Store a line. -/
def State.setLine (s : State) (la : Nat) (l : Line) : State :=
  if caveStart / 64 ≤ la then { s with cave := Tab.put {} s.cave la l } else { s with near := Tab.put (s.nearBlank la) s.near la l }

/-- A new major counter raises XCR_HWM (R327). -/
def hwmNote (major : Nat) (s : State) : State :=
  if s.pair .xcrHwmLo .xcrHwmHi < major then s.setPair .xcrHwmLo .xcrHwmHi major else s

/-- A page is write-locked (R328). -/
def pageExhausted (k : Nat) (s : State) : State :=
  let e := Tab.get {} s.xcr.pages k
  if e.exhausted then s.flag F.xcrErrExhausted
  else ((s.setPage k { e with exhausted := true }).flag F.xcrErrExhausted).raise .xcrKeyExhausted

/-- The other lines of a page as its initialisation writes them: encrypted zeros with minor 1 (R326). -/
def initLine (key : List Nat) (major la : Nat) : Line := sealLine key major 1 la (List.replicate 64 0) false

/-- A line that is not sound: poisoned, uncorrectable, or its tag does not match. -/
def lineSpoilt (key : List Nat) (major la : Nat) (seen : Line × RsFound) : Bool :=
  seen.1.tag == poisonTag || seen.2 == .uncorrectable || lineTag key major seen.1.minor la seen.1.ct != seen.1.tag

/-- A line re-encrypted under a new major counter with minor 1; a poisoned line stays poisoned (R327). A line that fails its
check or its tag becomes a poisoned one, which R327 leaves open (log entry 113). -/
def reencLine (key : List Nat) (old new la : Nat) (l : Line) : Line :=
  let seen := rsSeen l
  sealLine key new 1 la (lineText key old seen.1.minor la seen.1.ct) (lineSpoilt key old la seen)

/-- Symbols of a stored line are upset. -/
def State.upsetLine (s : State) (la : Nat) (ups : List (Fin 72 × Byte)) : State :=
  if ups = [] then s else s.setLine la ((s.lineAt la).upset ups)

/-- Store new data in a line whose page is bound to the access's key or not yet touched: initialise the page
(R326), re-encrypt it (R327), or take the next minor counter. -/
def lineStore (e addr : Nat) (data : List Byte) (poison : Bool) (s : State) : Status × State :=
  let o := offsetOf addr
  let la := o / 64
  let k := pageKey o
  let pg := s.page k
  let key := s.keyBytes (keyId addr)
  let first := la / 64 * 64
  if pg.exhausted then (.keyExhausted, s.flag F.xcrErrExhausted)
  else if pg.touched = false then
    let s := (List.range 64).foldl (fun s i => s.setLine (first + i) (initLine key pg.major (first + i))) s
    let s := s.setLine la (sealLine key pg.major 1 la data poison)
    (.ok, s.setPage k { Tab.get {} s.xcr.pages k with touched := true, key := keyId addr })
  else
    let l := sealLine key pg.major ((s.lineAt la).minor + 1) la data poison
    if l.minor ≤ 255 then (.ok, s.setLine la l)
    else if pg.major = 2 ^ 48 - 1 then (.keyExhausted, pageExhausted k s)
    else
      let major := pg.major + 1
      let s := (List.range 64).foldl
        (fun s i =>
          if first + i = la then s
          else s.setLine (first + i) (reencLine key pg.major major (first + i) (s.lineAt (first + i)))) s
      let s := s.setLine la (sealLine key major 1 la data poison)
      let s := (hwmNote major s).bump F.xcrEngReencVal e
      (.ok, s.setPage k { Tab.get {} s.xcr.pages k with major := major })

/-- New bytes over old ones. -/
def overlay (old new : List Byte) (be : List Bool) : List Byte :=
  (List.range 64).map (fun i => if be.getD i false then new.getD i 0 else old.getD i 0)

/-- Count a partial write stored poisoned (R333). -/
def partialNote (e : Nat) (s : State) : State := (s.bump F.xcrEngPoisPartial e).flag F.xcrErrPartialPoisoned

/-- A write of a line (R332, R333, R335, R328); `seen` is the line that a partial write reads first. -/
def lineWriteOp (e addr : Nat) (data : List Byte) (be : List Bool) (poison : Bool) (seen : Line × RsFound) (f : EngFetch)
    (s : State) : LineResult :=
  let o := offsetOf addr
  let k := pageKey o
  let s := cacheNote e f s
  if s.keyValid (keyId addr) = false then { status := .denied, state := s }
  else
    let s := if f.tableFail then tableFail k s else s
    let pg := s.page k
    if s.tableBad k then { status := .integrity, state := s }
    else if pg.touched ∧ keyId addr ≠ pg.key then
      { status := .denied, state := (s.bump F.xcrEngIntMismatch e).flag F.xcrErrKeyMismatch }
    else if pg.exhausted then { status := .keyExhausted, state := s.flag F.xcrErrExhausted }
    else if (be.take 64).all (fun b => b) ∧ 64 ≤ be.length then
      let r := lineStore e addr data poison s
      { status := r.1, state := r.2 }
    else
      let kind := readKind s addr seen.1 (seen.2 == .uncorrectable)
      let merged := overlay (readData s addr seen.1 kind) data be
      let spoil : Bool := poison || (match kind with | .clean => false | .unwritten => false | _ => true)
      let r := lineStore e addr merged spoil s
      match r.1 with
      | .ok =>
        let s := if spoil then partialNote e r.2 else r.2
        match kind with
        | .integrity =>
          { status := .integrity, rs := seen.2, state := integrityBlot e 0xC04 2 addr (integrityNote e addr s) }
        | .poisoned => { status := .ok, rs := seen.2, state := s.bump F.xcrEngPoisReads e }
        | _ => { status := .ok, rs := seen.2, state := s }
      | st => { status := st, state := r.2 }

/-! ### Release (R334, R335) -/

/-- Release one page: unwritten lines, next major, no key; a page of a failed table line releases its eight pages. -/
def releasePage (k : Nat) (s : State) : State :=
  let e := s.page k
  let dropLines (k : Nat) (s : State) : State :=
    let page := if k < 2 ^ 27 then nearStart / 4096 + k else caveStart / 4096 + (k - 2 ^ 27)
    (List.range 64).foldl (fun s i => s.setLine (64 * page + i) {}) s
  if s.tableBad k then
    let major := s.pair .xcrHwmLo .xcrHwmHi + 1
    let s := (List.range 8).foldl
      (fun s i => (dropLines (k / 8 * 8 + i) s).setPage (k / 8 * 8 + i) { major := major }) s
    let s := { s with xcr := { s.xcr with tfail := s.xcr.tfail.filter (fun t => t != k / 8) } }
    hwmNote major s
  else if e.exhausted then s.flag F.xcrErrExhausted
  else if e.major = 2 ^ 48 - 1 then pageExhausted k s
  else hwmNote (e.major + 1) ((dropLines k s).setPage k { major := e.major + 1 })

/-- A write of the release registers other than REL_CTRL: BUSY while a release runs (R334). -/
def releaseRegWrite (r : RegName) (mask v : Nat) (s : State) : State × Status :=
  if s.get F.xcrRelStatusState ≠ 0 then (s, .busy) else (s.setWord r (BitVec.ofNat 32 (v &&& mask)), .ok)

end Sys2Proof.Machine
end

