-- ==== Sys2Proof/Machine/Near.lean ====
section
/-!
DEFINITION. The near store (09 R273 to R280, R306, R308, R309, R311): configuration, channel states, placement of pages,
and accesses through the encryption engines; line commands of an engine and release (10 R330, R333, R334).
-/
namespace Sys2Proof.Machine

/-- A power domain by its key. -/
def State.dom (s : State) (k : Nat) : DomSt := Tab.get {} s.doms k

/-- Replace a power domain. -/
def State.setDom (s : State) (k : Nat) (d : DomSt) : State := { s with doms := Tab.put {} s.doms k d }

/-- The states of a channel (NEAR_CH_STATUS). -/
inductive NearState where
  | off | training | filling | on | failed | retired
  deriving DecidableEq, Repr

/-- NEAR_CH_STATUS.state. -/
def NearState.code : NearState → Nat
  | .off => 0 | .training => 1 | .filling => 2 | .on => 3 | .failed => 4 | .retired => 5

/-- The state a code stands for. -/
def NearState.ofCode : Nat → NearState
  | 0 => .off | 1 => .training | 2 => .filling | 3 => .on | 4 => .failed | _ => .retired

/-- The state of a channel. -/
def State.nearSt (s : State) (c : Nat) : NearState := NearState.ofCode (s.get F.nearChStatusState c)

/-! ### Capacity and placement (R273, R274, R277 to R280) -/

/-- Raw bytes per rank of a density code. -/
def rankBytes (density : Nat) : Nat := match density with | 0 => 2 ^ 29 | 1 => 2 ^ 30 | 2 => 2 ^ 31 | _ => 2 ^ 32

/-- Usable pages of a channel (R277). -/
def State.chPages (s : State) : Nat := rankBytes (s.get F.nearCtrlDensity) * (1 + s.get F.nearCtrlRanks) / 4608

/-- A channel takes part in service: neither OFF, FAILED nor RETIRED, and its domain ON. -/
def State.nearServes (s : State) (c : Nat) : Bool :=
  (match s.nearSt c with | .training => true | .filling => true | .on => true | _ => false) && decide ((s.dom (200 + c)).st = .on)

/-- The channel that serves an access: with mirroring the even one while it is in service and not being copied, else its
partner (R279, R309, R311). -/
def State.nearServer (s : State) (a : Nat) : Nat :=
  if s.mirrored then
    if s.nearServes a && !(s.nearCh a).copying then a
    else if s.nearServes (partner a) && !(s.nearCh (partner a)).copying then partner a else a
  else a

/-- A write of NEAR_CTRL (R274, R279, R312): an unsupported density leaves density and ranks; mirror changes only before
global start. -/
def nearCtrlWrite (v : Nat) (s : State) : State × Status :=
  let s' :=
    if s.bit F.nearCtrlLock then s
    else
      let s := s.put F.nearCtrlRate (bits v 5 4)
      let s := if s.started then s else s.put F.nearCtrlMirror (bits v 8 8)
      if bits v 2 0 = 0 then s.flag F.nearErrBadCfg
      else (s.put F.nearCtrlRanks (bits v 2 2)).put F.nearCtrlDensity (bits v 1 0)
  (if bitAt v 31 then s'.flag F.nearCtrlLock else s', .ok)

/-- NEAR_CTRL_WRITE (R274). -/
def execNearCtrlWrite (v : Word) (s : State) : Out := reply (nearCtrlWrite v.toNat s)

/-! ### Training, fill, retirement (R276, R306, R308, R309, R311) -/

/-- NEAR_STATUS.filled: every channel has filled or is out of service. -/
def nearFilled (s : State) : State :=
  s.putBit F.nearStatusFilled ((List.range 36).all (fun c =>
    match s.nearSt c with | .on => true | .failed => true | .retired => true | _ => false))

/-- NEAR_STATUS.degraded: with mirroring, a channel of a pair is out of service. -/
def nearDegraded (s : State) : State :=
  s.putBit F.nearStatusDegraded (s.mirrored && (List.range 36).any (fun c =>
    match s.nearSt c with | .failed => true | .retired => true | _ => (s.nearCh c).copying))

/-- Counter-table entries with pages not touched. -/
def untouch (which : Nat → Bool) (pages : Tab PageEnt) : Tab PageEnt :=
  let un (e : Nat × PageEnt) : Nat × PageEnt := if which e.1 then (e.1, { e.2 with touched := false, key := 0 }) else e
  (pages.map un).filter (fun e => e.2 != {})

/-- The contents of a channel are lost: its lines are unwritten, its pages not touched (R306, R311, 10 R324). -/
def loseChannel (c : Nat) (s : State) : State :=
  let mine (p : Nat) : Bool := onChannel s.mirrored c p
  let s := s.modNear c (fun n => { n with junk := 0 })
  let s := if s.mirrored then s.modNear (partner c) (fun n => { n with junk := 0 }) else s
  { s with
    near := s.near.filter (fun l => !mine ((l.1 - nearStart / 64) / 64)),
    xcr := { s.xcr with pages := untouch (fun k => decide (k < 2 ^ 27) && mine k) s.xcr.pages } }

/-- A channel begins to train, at start, at the power-up of its domain or at its reinstatement, unless its rate keeps
it off (R276, R312). -/
def nearTrain (c : Nat) (s : State) : State :=
  let s := s.put F.nearChFillVal 0 c
  if s.get F.nearCtrlRate = 0 then nearFilled (s.put F.nearChStatusState NearState.off.code c)
  else nearFilled ((s.put F.nearChStatusState NearState.training.code c).modNear c (fun n => { reinst := n.reinst, junk := n.junk }))

/-- The object word of a channel. -/
def nearObj (c : Nat) : Nat := objWord 2 c

/-- A channel leaves service for good: FAILED at start or RETIRED (R274, R308, R309). -/
def nearOut (c : Nat) (st : NearState) (err : Fld) (s : State) : State :=
  let s := ((s.put F.nearChStatusState st.code c).flag err).raise .nearRetired (nearObj c)
  let s := if (s.nearCh c).reinst then s.blot 0xC0D 2 (nearObj c) else s
  nearFilled (nearDegraded (s.modNear c (fun n => { junk := n.junk })))

/-- Retire a channel in service (R308, R309). -/
def nearRetire (c : Nat) (s : State) : State :=
  match s.nearSt c with
  | .training | .filling | .on => nearOut c .retired F.nearErrRetired s
  | _ => s

/-- NEAR_TRAINING_DONE (R274, R276, R306, R311): the channel is on FSP1 and starts its fill, or is copied from its mirror
partner; or it has failed. -/
def execNearTrainingDone (c : Fin 36) (ok : Bool) (s : State) : Out :=
  whenClocked (s.nearClocked c) s <| .next <|
    if s.nearSt c = .training then
      if ok = false then nearOut c .failed F.nearErrFailed s
      else
        let s := (s.put F.nearChStatusState NearState.filling.code c).modNear c (fun n => { n with fsp1 := true })
        let other := partner c
        if s.mirrored && s.nearServes other && !(s.nearCh other).copying && (s.nearCh c).reinst then
          s.modNear c (fun n => { n with copying := true })
        else if s.mirrored && s.nearServes other then s
        else loseChannel c s
    else s

/-- A channel is in full service. -/
def nearOn (c : Nat) (s : State) : State :=
  let s := (s.put F.nearChStatusState NearState.on.code c).put F.nearChFillVal s.chPages c
  let s := if (s.nearCh c).reinst then s.blot 0xC0C 0 (nearObj c) else s
  nearFilled (nearDegraded (s.modNear c (fun n => { n with copying := false, reinst := false })))

/-- NEAR_FILL_DONE (R306): every line holds the unwritten value. -/
def execNearFillDone (c : Fin 36) (s : State) : Out :=
  whenClocked (s.nearClocked c) s <| .next (if s.nearSt c = .filling ∧ (s.nearCh c).copying = false then nearOn c s else s)

/-- NEAR_MIRROR_COPY_DONE (R311). -/
def execNearMirrorCopyDone (c : Fin 36) (s : State) : Out :=
  whenClocked (s.nearClocked c) s <| .next (if s.nearSt c = .filling ∧ (s.nearCh c).copying = true then nearOn c s else s)

/-- A rank of a channel in service, its controller clocked: NEAR_CTRL.ranks says whether there is a second one (R273, R274). -/
def State.rankServes (s : State) (c rank : Nat) : Bool :=
  (s.nearSt c == .on || s.nearSt c == .filling) && (rank == 0 || s.bit F.nearCtrlRanks) && s.nearClocked c

/-- DQS_DRIFT_CHECK (R273, R276, R308): the DQ delays of a rank move by `delta` steps; a correction beyond the range
retires the channel. -/
def execDqsDriftCheck (c : Fin 36) (rank : Fin 2) (delta : Int) (s : State) : Out :=
  .next <|
    if s.rankServes c rank then
      let n := s.nearCh c
      let d := (if rank.val = 0 then n.delay0 else n.delay1) + delta
      if d < Config.dqsLow ∨ Config.dqsHigh < d then nearRetire c s
      else s.modNear c (fun n => if rank.val = 0 then { n with delay0 := d } else { n with delay1 := d })
    else s

/-- ZQ_CALIBRATION (R273): ZQCal start and latch of a rank. -/
def execZqCalibration (c : Fin 36) (rank : Fin 2) (s : State) : Out :=
  .next (if s.rankServes c rank then s.drive (.dram c 1 rank) else s)

/-- NEAR_REFRESH (R273, R276): a refresh of one bank of a rank. Refresh is issued per bank, so the all-bank refresh that the
memory has is not used. -/
def execNearRefresh (c : Fin 36) (rank : Fin 2) (bank : Fin 8) (s : State) : Out :=
  .next (if s.rankServes c rank then s.drive (.dram c 0 (8 * rank.val + bank.val)) else s)

/-- PHY_PLL_LOCK_LOSS (R308): the 10 µs within which lock may return begin. -/
def execPhyPllLockLoss (c : Fin 36) (s : State) : Out :=
  .next <|
    match s.nearSt c with
    | .training | .filling | .on => s.modNear c (fun n => { n with pllLost := true })
    | _ => s

/-- NEAR_PLL_LOSS_TIMEOUT (R308, R309). -/
def execNearPllLossTimeout (c : Fin 36) (s : State) : Out :=
  .next (if (s.nearCh c).pllLost then nearRetire c s else s)

/-- Reinstate a channel (R311): 0 nothing to do, 1 begun. -/
def nearReinstate (c : Nat) (s : State) : Nat × State :=
  match s.nearSt c with
  | .failed | .retired =>
    (1, nearTrain c (s.modNear c (fun n => { reinst := true, junk := n.junk })))
  | _ => (0, s)

/-- A channel's contents and service end as its domain is switched off (01 R17); a retired one stays retired. -/
def nearPowerDown (c : Nat) (s : State) : State :=
  match s.nearSt c with
  | .failed | .retired => s
  | _ =>
    let s := if s.mirrored && s.nearServes (partner c) then s else loseChannel c s
    nearFilled (((s.put F.nearChStatusState NearState.off.code c).put F.nearChFillVal 0 c).modNear c (fun n => { junk := n.junk }))

/-- A channel trains at the power-up of its domain (R276). -/
def nearPowerUp (c : Nat) (s : State) : State := if s.nearSt c = .off then nearTrain c s else s

/-- Count what a read found at a channel, and retire it by its fourth uncorrectable line in different rows within 1 s
(R308, R312). -/
def nearNote (c page : Nat) (found : RsFound) (s : State) : State :=
  match found with
  | .corrected => s.bump F.nearChEccCorrected c
  | .uncorrectable =>
    let s := s.bump F.nearChEccUncorrectable c
    let recent := (s.nearCh c).errs.filter (fun e => decide (s.since e.2 ≤ 1000000000) && e.1 != page)
    let s := s.modNear c (fun n => { n with errs := (page, s.pt) :: recent })
    if 3 ≤ recent.length then nearRetire c s else s
  | .clean => s

/-! ### Accesses (R278 to R280, R306, R309; 01 R22 to R28) -/

/-- The device's own housekeeping requesters, which may use K0 (01 R26). -/
def houseKeeping : Requester → Bool
  | .sceum => true
  | .loader => true
  | .engine => true
  | .collector => true
  | .migration => true
  | .ethernet => true
  | _ => false

/-- An address that uses K0 in the near store or the cave (01 R26). -/
def reserveKey (addr : Nat) : Bool :=
  let o := offsetOf addr
  keyId addr == 0 && ((decide (nearStart ≤ o) && decide (o < nearEnd)) || (decide (caveStart ≤ o) && decide (o < caveStart + 2 ^ 41)))

/-- A refused use of K0 by another requester is counted (01 R26). -/
def State.countDenied (s : State) (addr : Nat) (st : Status) : State :=
  if st = .denied ∧ keyId addr = 0 then { s with k0Denied := s.k0Denied + 1 } else s

/-- An access that a line meets without coming to the engine: the answer, or none. At a channel without its clock a request waits
until it ends with E_NOC_TIMEOUT (16 R526, 11 R356). -/
def nearGate (req : Requester) (addr : Nat) (s : State) : Option Status :=
  let o := offsetOf addr
  if o < nearStart ∨ nearEnd ≤ o then some .decode
  else
    let place := nearPlace s.mirrored ((o - nearStart) / 4096)
    if s.chPages ≤ place.2 then some .decode
    else if keyId addr = 0 ∧ houseKeeping req = false then some .denied
    else if o < nearUser ∧ keyId addr ≠ 0 then some .denied
    else
      let c := s.nearServer place.1
      if (s.dom (200 + c)).st ≠ .on then some .domainOff
      else match s.nearSt c with
        | .off => some .domainOff
        | .failed => some .fault
        | .retired => some .fault
        | _ => if s.nearClocked c then none else some .nocTimeout

/-- No upset, no miss, no error. -/
def plainFetch : EngFetch := { upsets := [], other := none, tableFail := false, ctrMiss := false, metaMiss := false }

/-- A read of a stored near-store line by engine `e`, and what its channel counts. -/
def nearLineRead (e addr : Nat) (f : EngFetch) (s : State) : LineResult :=
  let la := offsetOf addr / 64
  let s := s.upsetLine la f.upsets
  let r := lineReadOp e addr (seenLine f (s.lineAt la)) f s
  { r with state := nearNote e (nearPlace s.mirrored ((offsetOf addr - nearStart) / 4096)).2 r.rs r.state }

/-- A write of a stored near-store line by engine `e`, and what its channel counts of the read in a partial write. -/
def nearLineWrite (e addr : Nat) (data : List Byte) (be : List Bool) (poison : Bool) (f : EngFetch) (s : State) : LineResult :=
  let la := offsetOf addr / 64
  let s := s.upsetLine la f.upsets
  let r := lineWriteOp e addr data be poison (seenLine f (s.lineAt la)) f s
  { r with state := nearNote e (nearPlace s.mirrored ((offsetOf addr - nearStart) / 4096)).2 r.rs r.state }

/-! ### The counter table in the Sceum reserve (10 R324, 01 R27) -/

/-- The 64 bits of an entry. -/
def PageEnt.word (e : PageEnt) : Nat := e.major % 2 ^ 48 * 2 ^ 16 + e.key % 32 * 256 + b2n e.touched * 128 + b2n e.exhausted * 64

/-- The entry that 64 bits give. -/
def PageEnt.ofWord (w : Nat) : PageEnt :=
  { major := bits w 63 16, key := bits w 12 8, touched := bitAt w 7, exhausted := bitAt w 6 }

/-- The first page whose entry lies in the line of an offset, where that is a line of the table. -/
def tablePage (o : Nat) : Option Nat :=
  let line := o / 64 * 64
  if 0x1040000000 ≤ line ∧ line < 0x1060000000 then some ((line - 0x1040000000) / 8)
  else if 0x1080000000 ≤ line ∧ line < 0x1100000000 then some (2 ^ 27 + (line - 0x1080000000) / 8)
  else if 0x1180000000 ≤ line ∧ line < 0x1200000000 then some (2 ^ 27 + 2 ^ 28 + (line - 0x1180000000) / 8)
  else none

/-- The bytes of a table line: the entries of eight pages. -/
def State.tableLine (s : State) (k : Nat) : List Byte := (List.range 8).flatMap (fun i => bytesOf (s.page (k + i)).word 8)

/-- A read of a table line; one that fails its check delivers poison with INTEGRITY (10 R330, R335). -/
def tableRead (k : Nat) (f : EngFetch) (s : State) : LineResult :=
  let s := if f.tableFail then tableFail k s else s
  if s.tableBad k then { status := .integrity, data := List.replicate 64 0, poison := true, state := s }
  else { status := .ok, data := s.tableLine k, state := s }

/-- A write of a table line: every entry with an enabled byte. A line written poisoned fails its check. -/
def tableWrite (k : Nat) (data : List Byte) (be : List Bool) (poison : Bool) (s : State) : LineResult :=
  if s.tableBad k then { status := .integrity, state := s }
  else
    let new := overlay (s.tableLine k) data be
    let put (s : State) (i : Nat) : State :=
      if ((be.drop (8 * i)).take 8).any (fun b => b) then s.setPage (k + i) (PageEnt.ofWord (ofBytes ((new.drop (8 * i)).take 8)))
      else s
    let s := (List.range 8).foldl put s
    { status := .ok, state := if poison then tableFail k s else s }

/-- A page of the channel that the fill has not reached (R306). -/
def State.unfilled (s : State) (c page : Nat) : Bool := s.nearSt c != .on && decide (s.get F.nearChFillVal c ≤ page)

/-- One line of a read. -/
def nearReadLine (req : Requester) (addr : Nat) (f : EngFetch) (s : State) : LineResult :=
  match nearGate req addr s with
  | some st => { status := st, state := s }
  | none =>
    let place := nearPlace s.mirrored ((offsetOf addr - nearStart) / 4096)
    let c := s.nearServer place.1
    if s.keyValid (keyId addr) = false then { status := .denied, state := s }
    else if s.unfilled c place.2 then { status := .ok, data := List.replicate 64 0, poison := true, state := s }
    else match tablePage (offsetOf addr) with
    | some k => tableRead k f s
    | none => nearLineRead c addr f s

/-- One line of a write. -/
def nearWriteLine (req : Requester) (addr : Nat) (data : List Byte) (be : List Bool) (poison : Bool) (f : EngFetch)
    (s : State) : LineResult :=
  match nearGate req addr s with
  | some st => { status := st, state := s }
  | none =>
    let place := nearPlace s.mirrored ((offsetOf addr - nearStart) / 4096)
    let c := s.nearServer place.1
    if s.keyValid (keyId addr) = false then { status := .denied, state := s }
    else if s.unfilled c place.2 then { status := .busy, state := s }
    else match tablePage (offsetOf addr) with
    | some k => tableWrite k data be poison s
    | none => nearLineWrite c addr data be poison f s

/-- The first status that is not OK. -/
def firstBad (a b : Status) : Status := if a = .ok then b else a

/-- Read `n` lines from a line address on. -/
def linesRead (rd : Nat → EngFetch → State → LineResult) (addr : Nat) : Nat → List EngFetch → State → MemResult
  | 0, _, s => { status := .ok, state := s }
  | n + 1, fetch, s =>
    let r := rd addr (fetch.headD plainFetch) s
    let rest := linesRead rd (addr + 64) n fetch.tail r.state
    { status := firstBad r.status rest.status
      data := (if r.data.isEmpty then List.replicate 64 0 else r.data) ++ rest.data
      poison := r.poison || rest.poison, state := rest.state }

/-- Write `n` lines from a line address on; `off` is the place of the first byte of the data in the first line. -/
def linesWrite (wr : Nat → List Byte → List Bool → EngFetch → State → LineResult) (addr off : Nat) :
    Nat → List Byte → List Bool → List EngFetch → State → MemResult
  | 0, _, _, _, s => { status := .ok, state := s }
  | n + 1, data, be, fetch, s =>
    let line := (List.replicate off 0 ++ data).take 64
    let mask := (List.replicate off false ++ be).take 64
    let mask := (mask ++ List.replicate (64 - mask.length) false).zipWith (fun m i => m && decide (i < off + data.length)) (List.range 64)
    let r :=
      if mask.any (fun b => b) then wr addr line mask (fetch.headD plainFetch) s
      else { status := Status.ok, state := s }
    let rest := linesWrite wr (addr + 64) 0 n (data.drop (64 - off)) (be.drop (64 - off)) fetch.tail r.state
    { status := firstBad r.status rest.status, state := rest.state }

/-- Lines that `len` bytes from an address touch. -/
def lineSpan (addr len : Nat) : Nat := (addr % 64 + len + 63) / 64

/-- Serve an access to the near store. Atomic operations are DENIED (11 R345). -/
def nearServe (req : Requester) (addr : Nat) (acc : MemAcc) (fetch : List EngFetch) (s : State) : MemResult :=
  let s := s.countDenied addr ((nearGate req addr s).getD .ok)
  let base := addr / 64 * 64
  match acc with
  | .read len =>
    let r := linesRead (nearReadLine req) base (lineSpan addr len) fetch s
    match r.status with
    | .ok => { r with data := (r.data.drop (addr % 64)).take len }
    | .integrity => { r with data := (r.data.drop (addr % 64)).take len }
    | _ => { r with data := [], poison := false }
  | .write data be poison =>
    linesWrite (fun a d m f s => nearWriteLine req a d m poison f s) base (addr % 64) (lineSpan addr data.length) data be fetch s
  | .atomic _ _ _ => { status := (nearGate req addr s).getD .denied, state := s }

/-- NEAR_ACCESS (R278): a request placed on its channel and page and served through its encryption engine. -/
def execNearAccess (req : Requester) (addr : BitVec 48) (acc : MemAcc) (fetch : List EngFetch) (s : State) : Out :=
  (nearServe req addr.toNat acc fetch s).reply

/-! ### Release (10 R334) -/

/-- A release is refused (R334): reserve pages, pages past the fitted capacity, a port not READY. -/
def releaseRefused (s : State) : Bool :=
  let first := s.get F.xcrRelPageVal
  let last := first + s.get F.xcrRelCountVal
  if s.bit F.xcrRelCtrlTier then
    let p := s.get F.xcrRelCtrlPort
    s.get F.cavePstatusState p != 4 || decide (s.get F.cavePcapVal p ≤ last)
  else decide (first < 2097152) || decide (s.chPages ≤ (nearPlace s.mirrored last).2) || decide (2 ^ 26 ≤ last)

/-- A write of XCR_REL_CTRL (R334). -/
def releaseCtrlWrite (v : Nat) (s : State) : State × Status :=
  if s.get F.xcrRelStatusState ≠ 0 then (s, .busy)
  else
    let set (s : State) : State := (s.put F.xcrRelCtrlTier (bits v 28 28)).put F.xcrRelCtrlPort (bits v 27 24)
    if bitAt v 31 then
      if releaseRefused (set s) then (s.flag F.xcrRelStatusBadDesc, .denied)
      else
        let s := ((set s).flag F.xcrRelCtrlGo).clear F.xcrRelStatusBadDesc
        ((s.put F.xcrRelStatusProgress 0).put F.xcrRelStatusState 1, .ok)
    else (set s, .ok)

/-- RELEASE_START (10 R334). -/
def execReleaseStart (v : Word) (s : State) : Out := reply (releaseCtrlWrite (2 ^ 31 + v.toNat % 2 ^ 31) s)

end Sys2Proof.Machine
end

