-- ==== Sys2Proof/Machine/RingPages.lean ====
section
/-!
DEFINITION. The pages of the history ring: registers, homes, skip map (09 R293, R295, R297), and what the retirement of a
cave port does to them (17 R551).
-/
namespace Sys2Proof.Machine

/-- Count dropped records or lines in NEAR_RING_DROP. -/
def ringDrop (f : Fld) (s : State) : State := (s.bump f).flag F.nearErrRingDrop

/-- NEAR_RING_STATUS.state: 0 OFF, 1 WAIT_FILL, 2 OPEN, 3 STOPPING. -/
def State.ringSt (s : State) : Nat := s.get F.nearRingStatusState

/-- The ring writes straight to the cave. -/
def State.ringDirect (s : State) : Bool := s.get F.nearRingCtrlMode == 2

/-- The ports of CAVE_RING_MASK, counting upward. -/
def State.ringPorts (s : State) : List Nat := (List.range 16).filter (fun p => (s.get F.caveRingMaskVal).testBit p)

/-- N_near. -/
def State.nNear (s : State) : Nat := s.get F.nearRingNlenVal

/-- The ring's key id as an address bit field. -/
def State.ringKey (s : State) : Nat := s.get F.nearRingCtrlKey * 2 ^ 43

/-- Near-store page of a ring page's near slot. -/
def State.nearSlot (s : State) (g : Nat) : Nat := s.get F.nearRingNbaseVal + g % s.nNear

/-- System address of a near-store page under the ring's key. -/
def State.ringNear (s : State) (page : Nat) : Nat := s.ringKey + nearStart + 4096 * page

/-- Port and bridge page of a ring page's cave slot, if any port is in the ring. -/
def State.caveSlot (s : State) (g : Nat) : Option (Nat × Nat) :=
  let ps := s.ringPorts
  match ps[g % ps.length]? with
  | some p => some (p, g / ps.length % s.get F.caveRingPagesVal)
  | none => none

/-- System address of a cave slot under the ring's key. -/
def State.ringCave (s : State) (slot : Nat × Nat) : Nat := s.ringKey + caveStart + slot.1 * 2 ^ 37 + slot.2 * 4096

/-- Key of a cave slot in the skip map. -/
def skipKey (slot : Nat × Nat) : Nat := slot.1 * 2 ^ 25 + slot.2

/-- Set or clear the skip bit of a ring page's cave slot (R297). -/
def setSkip (g : Nat) (b : Bool) (s : State) : State :=
  match s.caveSlot g with
  | some slot =>
    let rest := s.ring.skip.filter (fun k => k != skipKey slot)
    { s with ring := { s.ring with skip := if b then skipKey slot :: rest else rest } }
  | none => s

/-- The skip bit of a ring page's cave slot. -/
def State.skipped (s : State) (g : Nat) : Bool :=
  match s.caveSlot g with
  | some slot => s.ring.skip.contains (skipKey slot)
  | none => false

/-- Ring line position of the head. -/
def State.ringHead (s : State) : Nat := s.pair .nearRingHeadLo .nearRingHeadHi

/-- A retired cave port's current ring page: records already accepted for it are dropped as full and its skip bit is set
(17 R551); the collector then skips the port's slots. -/
def ringPortRetired (p : Nat) (s : State) : State :=
  let g := s.ringHead / 64
  match s.caveSlot g with
  | some slot =>
    if slot.1 = p ∧ s.ringSt = 2 then
      let inPage := s.ring.index.filter (fun e => e.pos / 64 == g)
      let s := { s with ring := { s.ring with index := s.ring.index.filter (fun e => e.pos / 64 != g) } }
      setSkip g true ((s.addSat F.nearRingDropFull inPage.length).flag F.nearErrRingDrop)
    else s
  | none => s

end Sys2Proof.Machine
end

