-- ==== Sys2Proof/Machine/Cave.lean ====
section
/-!
DEFINITION. Cave ports (09 R281 to R290, R307, R310, R311): states, link blocks with retry, messages and credits, and
accesses through the encryption engines.
-/
namespace Sys2Proof.Machine

/-- The states of a cave port (R282). -/
inductive CState where
  | down | linking | probe | filling | ready | stopping | retired
  deriving DecidableEq, Repr

/-- CAVE_PSTATUS.state. -/
def CState.code : CState → Nat
  | .down => 0 | .linking => 1 | .probe => 2 | .filling => 3 | .ready => 4 | .stopping => 5 | .retired => 6

/-- The state a code stands for. -/
def CState.ofCode : Nat → CState
  | 0 => .down | 1 => .linking | 2 => .probe | 3 => .filling | 4 => .ready | 5 => .stopping | _ => .retired

/-- The state of a port. -/
def State.cvSt (s : State) (p : Nat) : CState := CState.ofCode (s.get F.cavePstatusState p)

/-- Put a port into a state. -/
def State.setCvSt (s : State) (p : Nat) (c : CState) : State := s.put F.cavePstatusState c.code p

/-- A port beyond its registers. -/
def State.cv (s : State) (p : Nat) : CaveSt := Tab.get {} s.caves p

/-- Change a port's data. -/
def State.modCv (s : State) (p : Nat) (f : CaveSt → CaveSt) : State := { s with caves := Tab.put {} s.caves p (f (s.cv p)) }

/-- The object word of a port. -/
def caveObj (p : Nat) : Nat := objWord 3 p

/-- The link of a port is up: blocks pass. -/
def State.linkUp (s : State) (p : Nat) : Bool :=
  match s.cvSt p with | .probe => true | .filling => true | .ready => true | .stopping => true | _ => false

/-! ### Messages (R285, R287) -/

/-- The `n` bytes of a value, most significant first. -/
def beList (v n : Nat) : List Byte := (bytesOf v n).reverse

/-- The value of bytes, most significant first. -/
def beVal (bs : List Byte) : Nat := ofBytes bs.reverse

/-- A message header (R285). -/
def caveHeader (typ tag count uni arg line : Nat) : List Byte :=
  beList (typ % 16 * 2 ^ 60 + tag % 4096 * 2 ^ 48 + (count - 1) % 64 * 2 ^ 42 + uni % 2 * 2 ^ 41 + arg % 256 * 2 ^ 32
    + line % 2 ^ 31) 8

/-- Send the messages at the front of the queue whose credits are there (R287). -/
def caveFlush (p : Nat) : List (Nat × Nat × List Byte) → State → State
  | [], s => s
  | m :: rest, s =>
    if m.1 ≤ s.get F.cavePstatusWcred p ∧ m.2.1 ≤ s.get F.cavePstatusRcred p then
      let s := s.put F.cavePstatusWcred (s.get F.cavePstatusWcred p - m.1) p
      let s := s.put F.cavePstatusRcred (s.get F.cavePstatusRcred p - m.2.1) p
      caveFlush p rest (s.modCv p (fun c => { c with stream := c.stream ++ m.2.2, waiting := rest }))
    else s

/-- Queue a message: it needs `w` write credits and `r` read credits (R287). -/
def caveSend (p w r : Nat) (msg : List Byte) (s : State) : State :=
  let s := s.modCv p (fun c => { c with waiting := c.waiting ++ [(w, r, msg)] })
  caveFlush p (s.cv p).waiting s

/-- A tag that no outstanding message uses (R287). -/
def freeTag (c : CaveSt) : Nat :=
  let used (t : Nat) : Bool := c.pend.any (fun e => e.1 == t) || c.writes.any (fun e => e.1 == t)
  match (List.range 4096).find? (fun i => !used ((c.nextTag + i) % 4096)) with
  | some i => (c.nextTag + i) % 4096
  | none => c.nextTag

/-- Send a CREG_RD (R285, R288). -/
def cregRead (p index : Nat) (s : State) : State :=
  let tag := freeTag (s.cv p)
  let s := s.modCv p (fun c => { c with pend := c.pend ++ [(tag, .creg index)], nextTag := (tag + 1) % 4096 })
  caveSend p 0 0 (caveHeader 4 tag 1 0 0 index) s

/-- Send a FILL of `n` pages from a bridge page (R285). -/
def fillSend (p page n : Nat) (s : State) : State :=
  caveSend p 0 0 (caveHeader 3 0 1 0 0 (64 * page) ++ beList n 8) s

/-- Send a READ of `count` lines. -/
def readSend (p line count : Nat) (pend : CavePend) (s : State) : State :=
  let tag := freeTag (s.cv p)
  let s := s.modCv p (fun c => { c with pend := c.pend ++ [(tag, pend)], nextTag := (tag + 1) % 4096 })
  caveSend p 0 count (caveHeader 2 tag count 0 0 line) s

/-- The body of a WRITE: integrity tags and data, with one minor counter for all lines or one for each (R285). -/
def writeBody (ls : List Line) : Nat × Nat × List Byte :=
  let minor := match ls with | l :: _ => l.minor | [] => 0
  if ls.all (fun l => l.minor == minor) then
    (1, minor, ls.flatMap (fun l => beList l.tag 3) ++ ls.flatMap (·.ct))
  else (0, 0, ls.flatMap (fun l => beList (l.tag * 256 + l.minor) 4) ++ ls.flatMap (·.ct))

/-- Send a WRITE of the stored lines `la` to `la + count - 1`, for a request or for none. -/
def writeSend (p la count : Nat) (req : Option Nat) (s : State) : State :=
  let b := writeBody ((List.range count).map (fun i => s.lineAt (la + i)))
  let tag := freeTag (s.cv p)
  let line := la % 2 ^ 31
  let s := s.modCv p (fun c =>
    { c with nextTag := (tag + 1) % 4096, writes := match req with | some r => c.writes ++ [(tag, r)] | none => c.writes })
  caveSend p count 0 (caveHeader 1 tag count b.1 b.2.1 line ++ b.2.2) s

/-! ### States (R281, R282, R289, R310, R311) -/

/-- The link of a port starts afresh; what is still outstanding has been answered. -/
def resetLink (p : Nat) (s : State) : State :=
  let s := (s.put F.cavePstatusWcred 0 p).put F.cavePstatusRcred 0 p
  s.modCv p (fun c => { errs := c.errs, nextReq := c.nextReq, bridge := c.bridge })

/-- Outstanding requests at a port are discarded and answered FAULT (R309, R310). -/
def discardRequests (p : Nat) (s : State) : State :=
  let reads := (s.cv p).pend.filter (fun e => match e.2 with | .read _ _ => true | _ => false)
  let s := reads.foldl (fun s _ => s.answer .fault) s
  let s := (s.cv p).reqs.foldl (fun s _ => s.answer .fault) s
  resetLink p s

/-- The contents of a port's bridge are lost: its lines are unwritten, its pages not touched (R289, R307, R311). -/
def loseCave (p : Nat) (s : State) : State :=
  let first := caveStart / 64 + p * 2 ^ 31
  { s with
    cave := s.cave.filter (fun l => decide (l.1 < first) || decide (first + 2 ^ 31 ≤ l.1))
    xcr := { s.xcr with pages := untouch (fun k => decide (2 ^ 27 + p * 2 ^ 25 ≤ k) && decide (k < 2 ^ 27 + (p + 1) * 2 ^ 25)) s.xcr.pages } }

/-- A port enters LINKING (R282). -/
def enterLinking (p : Nat) (s : State) : State :=
  resetLink p ((s.setCvSt p .linking).clear F.cavePstatusPendingEnable p)

/-- Enable a port (R281, R282): DENIED for a bundle not in cave mode or bound to another port. -/
def caveEnable (p : Nat) (s : State) : State × Status :=
  let b := s.get F.cavePcfgBundle p
  let bound := (List.range 16).any (fun q => q != p && s.get F.cavePcfgBundle q == b && (s.bit F.cavePcfgEn q || s.cvSt q != .down))
  if 48 ≤ b ∨ s.get F.laneCfgMode b ≠ modeCave ∨ bound = true then (s, .denied)
  else if (s.dom (300 + p)).st ≠ .on then (s, .domainOff)
  else
    let s := s.flag F.cavePcfgEn p
    match s.cvSt p with
    | .down => (enterLinking p s, .ok)
    | .stopping => (s.flag F.cavePstatusPendingEnable p, .ok)
    | _ => (s, .ok)

/-- CAVE_PORT_ENABLE (R281). -/
def execCavePortEnable (p : Fin 16) (s : State) : Out := reply (caveEnable p s)

/-- Disable a port (R282): READY stops; a latched enable is withdrawn; a port on its way to READY stops once it is
there. -/
def caveDisable (p : Nat) (s : State) : State :=
  let s := (s.clear F.cavePcfgEn p).clear F.cavePstatusPendingEnable p
  if s.cvSt p = .ready then s.setCvSt p .stopping else s

/-- CAVE_PORT_DISABLE (R282). -/
def execCavePortDisable (p : Fin 16) (s : State) : Out := reply (caveDisable p s, .ok)

/-- Reinstate a port (R311): RETIRED goes to LINKING. -/
def caveReinstate (p : Nat) (s : State) : Nat × State :=
  if s.cvSt p = .retired then (1, enterLinking p ((s.blot 0xC0C 0 (objWord 3 p)).flag F.cavePcfgEn p)) else (0, s)

/-- CAVE_REINSTATE (R311). -/
def execCaveReinstate (p : Fin 16) (s : State) : Out := reply ((caveReinstate p s).2, .ok)

/-- A write of CAVE_PCFG.power (R289): a POWER message; OFF loses the contents, and on the return to ACTIVE the port
fills again. The reserved value changes nothing. -/
def cavePower (p v : Nat) (s : State) : State :=
  if v = 3 ∨ v = s.get F.cavePcfgPower p then s
  else
    let s := s.put F.cavePcfgPower v p
    if s.linkUp p then
      let s := caveSend p 0 0 (caveHeader 6 0 1 0 v 0) s
      let s := if v = 2 then (loseCave p s).modCv p (fun c => { c with lost := true }) else s
      if v = 0 ∧ (s.cv p).lost = true ∧ s.cvSt p = .ready then
        fillSend p 0 (s.get F.cavePcapVal p) ((s.setCvSt p .filling).modCv p (fun c => { c with lost := false }))
      else s
    else s

/-- CAVE_POWER_WRITE (R289). -/
def execCavePowerWrite (p : Fin 16) (v : BitVec 2) (s : State) : Out := reply (cavePower p v.toNat s, .ok)

/-- A write of CAVE_PCFG (R281, R282, R289, R313): bundle is RWL. -/
def cavePcfgWrite (p v : Nat) (s : State) : State × Status :=
  let old := s.get F.cavePcfgBundle p
  let s1 := if s.bit F.caveCtrlLock then s else s.put F.cavePcfgBundle (bits v 5 0) p
  let s1 := cavePower p (bits v 9 8) s1
  let s1 := if bitAt v 30 then (caveReinstate p s1).2 else s1
  if bitAt v 31 then
    if s1.bit F.cavePcfgEn p then (s1, .ok)
    else
      let r := caveEnable p s1
      if r.2 = .ok then r else (r.1.put F.cavePcfgBundle old p, r.2)
  else (caveDisable p s1, .ok)

/-- CAVE_LINKING_DONE (R281, R282): all eight logical lanes are in service; the port reads bridge registers 0 to 6. -/
def execCaveLinkingDone (p : Fin 16) (s : State) : Out :=
  whenClocked s.nocClocked s <| .next <|
    let b := s.get F.cavePcfgBundle p
    if s.cvSt p = .linking ∧ (List.range 8).all (fun m => s.laneServed b m) = true then
      (List.range 7).foldl (fun s i => cregRead p i s) (s.setCvSt p .probe)
    else s

/-- A port that fails to come up goes DOWN (R282). -/
def caveDown (p : Nat) (s : State) : State := resetLink p ((s.setCvSt p .down).clear F.cavePstatusPendingEnable p)

/-- CAVE_LINK_TIMEOUT (R282): 50 ms in LINKING. -/
def execCaveLinkTimeout (p : Fin 16) (s : State) : Out :=
  whenClocked s.nocClocked s <| .next <|
    if s.cvSt p = .linking then (caveDown p (s.clear F.cavePcfgEn p)).flag F.caveErrLinkFail else s

/-- CAVE_PROBE_DONE (R282, R287, R288): bridge registers 0 to 6 have been read. -/
def execCaveProbeDone (p : Fin 16) (s : State) : Out :=
  whenClocked s.nocClocked s <| .next <|
    if s.cvSt p = .probe ∧ (s.cv p).pend.isEmpty = true then
      let r (i : Nat) : Nat := Tab.get 0 (s.cv p).bridge i
      let s := s.put F.cavePcapVal (r 1) p
      if s.get F.caveRingPagesVal ≤ r 1 ∧ bits (r 0) 19 16 = 1 then
        let s := (s.setCvSt p .filling).put F.cavePstatusWcred (min (r 2) 65535) p
        let s := s.put F.cavePstatusRcred (min (r 3) 4095) p
        fillSend p 0 (r 1) (loseCave p s)
      else (caveDown p (s.clear F.cavePcfgEn p)).flag F.caveErrProbeFail
    else s

/-- CAVE_STOP_DONE (R282): what is still outstanding is discarded; DOWN, or LINKING when an enable is latched. -/
def execCaveStopDone (p : Fin 16) (s : State) : Out :=
  whenClocked s.nocClocked s <| .next <|
    if s.cvSt p = .stopping then
      let again := s.bit F.cavePstatusPendingEnable p
      let s := discardRequests p s
      if again then enterLinking p s else caveDown p s
    else s

/-- Retire a port (R310, 17 R551). -/
def caveRetire (p : Nat) (s : State) : State :=
  if s.linkUp p then
    let s := (s.setCvSt p .retired).clear F.cavePstatusPendingEnable p
    ringPortRetired p (((discardRequests p s).flag F.caveErrRetired).raise .caveRetired (caveObj p))
  else s

/-- CAVE_LINK_SILENCE (R310). -/
def execCaveLinkSilence (p : Fin 16) (s : State) : Out :=
  whenClocked s.nocClocked s <| .next (caveRetire p s)

/-! ### Link blocks (R283, R284) -/

/-- Bytes of a link block of a port's bundle. -/
def State.blockBytes (s : State) (p : Nat) : Nat := s.frameBits (s.get F.cavePcfgBundle p) - 64

/-- The header of a block (R283). -/
def blockHeader (btype seq ack : Nat) (nak : Bool) : List Byte :=
  beList (btype % 4 * 2 ^ 30 + seq % 1024 * 2 ^ 20 + ack % 1024 * 2 ^ 10 + b2n nak * 2 ^ 9) 4

/-- The block a port sends in a crossing: a replayed one, a new data block, or an idle one (R283, R284); an idle one while the
controllers are held (16 R526). -/
def nextBlock (p : Nat) (s : State) : List Byte × State :=
  let c := s.cv p
  let body := s.blockBytes p - 4
  let ack := (c.rxNext + 1023) % 1024
  let pad (bs : List Byte) : List Byte := bs ++ List.replicate (body - bs.length) 0
  if s.nocClocked = false then (blockHeader 0 0 ack c.nakDue ++ pad [], s)
  else match c.resend with
  | (seq, bs) :: rest => (blockHeader 1 seq ack c.nakDue ++ pad bs, s.modCv p (fun c => { c with resend := rest, nakDue := false }))
  | [] =>
    if c.stream.isEmpty || decide (256 ≤ c.unacked.length) then
      (blockHeader 0 0 ack c.nakDue ++ pad [], s.modCv p (fun c => { c with nakDue := false }))
    else
      let bs := pad (c.stream.take body)
      (blockHeader 1 c.nextSeq ack c.nakDue ++ bs,
        s.modCv p (fun c => { c with stream := c.stream.drop body, unacked := c.unacked ++ [(c.nextSeq, bs, 0)],
                                     nextSeq := (c.nextSeq + 1) % 1024, nakDue := false }))

/-- Give a block to the eight data lanes for the frames of the present boundary; first byte in the most significant
payload bits (R283). -/
def blockToLanes (b : Nat) (block : List Byte) (s : State) : State :=
  let per := block.length / 8
  (List.range 8).foldl
    (fun s i =>
      let w : TxWord := { data := beVal ((block.drop (i * per)).take per), user := false, poison := false, link := true }
      s.modLane b i (fun l => { l with tx := Tab.set l.tx s.mt.boundary w })) s

/-- At a crossing boundary every port whose link is up sends a block (R283). -/
def caveBoundary (s : State) : State :=
  (List.range 16).foldl
    (fun s p =>
      if s.linkUp p then
        let r := nextBlock p s
        blockToLanes (s.get F.cavePcfgBundle p) r.1 r.2
      else s) s

/-- Replay every unacknowledged block; the eighth replay of one retires the port (R284, R310). -/
def caveReplay (p : Nat) (s : State) : State :=
  if (s.cv p).unacked.isEmpty then s
  else
    let s := s.modCv p (fun c =>
      { c with resend := c.unacked.map (fun u => (u.1, u.2.1)), unacked := c.unacked.map (fun u => (u.1, u.2.1, u.2.2 + 1)) })
    let s := s.bump F.cavePretryReplays p
    if (s.cv p).unacked.any (fun u => decide (8 ≤ u.2.2)) then caveRetire p s else s

/-- CAVE_REPLAY_TIMEOUT (R284). -/
def execCaveReplayTimeout (p : Fin 16) (s : State) : Out :=
  whenClocked s.nocClocked s <| .next (if s.linkUp p then caveReplay p s else s)

/-- Drop the blocks that an acknowledgement covers (R284). -/
def ackBlocks (p ack : Nat) (s : State) : State :=
  s.modCv p (fun c =>
    if c.unacked.any (fun u => u.1 == ack) then
      let left := (c.unacked.dropWhile (fun u => u.1 != ack)).drop 1
      { c with unacked := left, resend := c.resend.filter (fun r => left.any (fun u => u.1 == r.1)) }
    else c)

/-- Bytes of a message that starts with this header; none for an unknown type (R285). -/
def messageLength (h : List Byte) : Option Nat :=
  let v := beVal (h.take 8)
  match bits v 63 60 with
  | 8 => some (16 + 68 * (bits v 47 42 + 1))
  | 9 => some 8
  | 10 => some 12
  | 11 => some 12
  | 12 => some 12
  | _ => none

/-- Take whole messages out of a byte stream: messages, headers of unknown types, bytes left (R283, R285). -/
def takeMessages : Nat → List Byte → List (List Byte) × Nat × List Byte
  | 0, bs => ([], 0, bs)
  | n + 1, bs =>
    match bs with
    | [] => ([], 0, [])
    | b :: rest =>
      if b = 0 then takeMessages n rest
      else if bs.length < 8 then ([], 0, bs)
      else match messageLength bs with
        | some len =>
          if bs.length < len then ([], 0, bs)
          else
            let r := takeMessages n (bs.drop len)
            (bs.take len :: r.1, r.2)
        | none =>
          let r := takeMessages n (bs.drop 8)
          (r.1, r.2.1 + 1, r.2.2)

/-- A data block in order: its body joins the message stream (R283 to R285). -/
def takeBlock (p : Nat) (body : List Byte) (s : State) : State :=
  let c := s.cv p
  let bs := c.rxStream ++ body
  let r := takeMessages (bs.length + 1) bs
  let s := s.modCv p (fun c => { c with rxNext := (c.rxNext + 1) % 1024, rxStream := r.2.2, inbox := c.inbox ++ r.1 })
  if r.2.1 = 0 then s else (s.addSat F.cavePeccProtocol r.2.1 p).flag F.caveErrProtocol

/-- The slots of the eight logical lanes of a port's bundle (R283). -/
def State.blockSlots (s : State) (p : Nat) : List Slot :=
  (List.range 8).map (fun m => (s.lane (s.get F.cavePcfgBundle p) m).slot)

/-- The link block that eight slots make: lane .L0 carries its first bytes, the first in the most significant payload bits. -/
def blockOf (bytes : Nat) (slots : List Slot) : List Byte := slots.flatMap (fun c => beList c.data (bytes / 8))

/-- CAVE_BLOCK_RX (R283, R284): the block of the slots last delivered; it is bad when one of them came with RX_BAD. -/
def execCaveBlockRx (p : Fin 16) (s : State) : Out :=
  whenClocked s.nocClocked s <| .next <|
    if s.linkUp p then
      let slots := s.blockSlots p
      if slots.any (fun c => c.bad) then (s.bump F.cavePretryBad p).modCv p (fun c => { c with nakDue := true })
      else
        let block := blockOf (s.blockBytes p) slots
        let h := beVal (block.take 4)
        let s := ackBlocks p (bits h 19 10) s
        let s := if bitAt h 9 then caveReplay p s else s
        if s.linkUp p ∧ bits h 31 30 = 1 ∧ bits h 29 20 = (s.cv p).rxNext then takeBlock p (block.drop 4) s else s
    else s

/-! ### Accesses (R286, R287, R290, R307) -/

/-- A write request's messages: one less to complete; the answer with the last. -/
def reqDone (p id : Nat) (st : Status) (s : State) : State :=
  match (s.cv p).reqs.find? (fun r => r.id == id) with
  | none => s
  | some r =>
    let st := firstBad r.status st
    let others := (s.cv p).reqs.filter (fun q => q.id != id)
    if r.left ≤ 1 then (s.modCv p (fun c => { c with reqs := others })).answer st
    else s.modCv p (fun c => { c with reqs := others ++ [{ r with left := r.left - 1, status := st }] })

/-- The answer that an access meets before it comes to the engine (R290, 01 R18, R24, R26): of a port whose domain is off,
DOMAIN_OFF. -/
def caveGate (req : Requester) (addr : Nat) (s : State) : Option Status :=
  let o := offsetOf addr
  if o < caveStart ∨ caveStart + 2 ^ 41 ≤ o then some .decode
  else
    let pg := (o - caveStart) / 4096
    let p := pg / 2 ^ 25
    let off : Bool := (s.dom (300 + p)).st != .on
    if !off && s.cvSt p == .down then some .decode
    else if !off && (s.cvSt p == .filling || s.cvSt p == .ready) && decide (s.get F.cavePcapVal p ≤ pg % 2 ^ 25) then some .decode
    else if keyId addr = 0 ∧ houseKeeping req = false then some .denied
    else if off then some .domainOff
    else match s.cvSt p with
      | .retired => some .fault
      | .filling | .ready => if s.keyValid (keyId addr) then none else some .denied
      | _ => some .busy

/-- Port of an offset, and its line address. -/
def cavePort (o : Nat) : Nat := (o - caveStart) / 2 ^ 37

/-- Store one line at a port's engine and send what that changes: the page when it was initialised or re-encrypted, else
the line (10 R326, R327, 09 R285). Its status, whether a message was sent, the state. -/
def cavePut (e addr : Nat) (data : List Byte) (be : List Bool) (poison : Bool) (seen : Line × RsFound) (f : EngFetch)
    (req : Option Nat) (s : State) : Status × Bool × State :=
  let o := offsetOf addr
  let la := o / 64
  let before := s.page (pageKey o)
  let r := lineWriteOp e addr data be poison seen f s
  let after := r.state.page (pageKey o)
  let wrote := r.status = .ok ∨ (r.status = .integrity ∧ s.tableBad (pageKey o) = false ∧ f.tableFail = false)
  if wrote then
    if before.touched ≠ after.touched ∨ before.major ≠ after.major then
      (r.status, true, writeSend (e - 36) (la / 64 * 64) 64 req r.state)
    else (r.status, true, writeSend (e - 36) la 1 req r.state)
  else (r.status, false, r.state)

/-- Store the whole lines of a write, `n` from a line address, without a message for each: the first bad status. -/
def cavePutLines (e : Nat) (addr off : Nat) (poison : Bool) : Nat → List Byte → List Bool → Nat → State → State
  | 0, _, _, _, s => s
  | n + 1, data, be, id, s =>
    let line := (List.replicate off 0 ++ data).take 64
    let mask := (List.replicate off false ++ (be.take data.length ++ List.replicate (data.length - be.length) false)).take 64
    let mask := mask ++ List.replicate (64 - mask.length) false
    let p := e - 36
    let s :=
      if mask.all (fun b => b) then
        let r := cavePut e addr line mask poison ({}, .clean) plainFetch (some id) s
        if r.2.1 then r.2.2 else reqDone p id r.1 r.2.2
      else if mask.any (fun b => b) then
        let pend := CavePend.merge id addr line mask poison
        let gate := lineWriteOp e addr line (List.replicate 64 true) poison ({}, .clean) plainFetch s
        if gate.status = .ok then readSend p (offsetOf addr / 64 % 2 ^ 31) 1 pend s else reqDone p id gate.status gate.state
      else reqDone p id .ok s
    cavePutLines e (addr + 64) 0 poison n (data.drop (64 - off)) (be.drop (64 - off)) id s

/-- CAVE_ACCESS (R286, R287, R290): the request is answered by the port's state, or becomes READ and WRITE messages; a
partial line is read first (10 R333). Its answer comes with the bridge's. -/
def caveAccess (req : Requester) (addr : Nat) (acc : MemAcc) (s : State) : State :=
  match caveGate req addr s with
  | some st => (s.countDenied addr st).answer st
  | none =>
    let p := cavePort (offsetOf addr)
    let base := addr / 64 * 64
    match acc with
    | .read len => readSend p (offsetOf base / 64 % 2 ^ 31) (min 64 (lineSpan addr len)) (.read addr len) s
    | .write data be poison =>
      let n := lineSpan addr data.length
      if n = 0 then s.answer .ok
      else
        let id := (s.cv p).nextReq
        let s := s.modCv p (fun c => { c with nextReq := id + 1, reqs := c.reqs ++ [{ id := id, left := n, status := .ok }] })
        cavePutLines (36 + p) base (addr % 64) poison n data be id s
    | .atomic _ _ _ => s.answer .denied

/-- CAVE_ACCESS (R290). -/
def execCaveAccess (req : Requester) (addr : BitVec 48) (acc : MemAcc) (s : State) : Out :=
  whenClocked s.nocClocked s <| .next (caveAccess req addr.toNat acc s)

/-- The fields of a message's header (R285). -/
def caveType (m : List Byte) : Nat := bits (beVal (m.take 8)) 63 60
def caveTag (m : List Byte) : Nat := bits (beVal (m.take 8)) 59 48
def caveCount (m : List Byte) : Nat := bits (beVal (m.take 8)) 47 42 + 1
def caveArg (m : List Byte) : Nat := bits (beVal (m.take 8)) 39 32
def caveLine (m : List Byte) : Nat := bits (beVal (m.take 8)) 30 0

/-- The value of a message's 4-byte body. -/
def caveValue (m : List Byte) : Nat := beVal ((m.drop 8).take 4)

/-- The lines of an RDATA: poison bitmap, metadata and data (R285). -/
def caveLines (m : List Byte) : List CaveLine :=
  let n := caveCount m
  (List.range n).map (fun i =>
    let tag := beVal ((m.drop (16 + 4 * i)).take 4)
    { data := (m.drop (16 + 4 * n + 64 * i)).take 64, tag := BitVec.ofNat 24 (tag / 256), minor := BitVec.ofNat 8 tag
      poison := (beVal ((m.drop 8).take 8)).testBit i })

/-- The oldest message of a type in a port's inbox, and the state without it. -/
def takeCaveMsg (p typ : Nat) (s : State) : Option (List Byte × State) :=
  match (s.cv p).inbox.find? (fun m => caveType m == typ) with
  | none => none
  | some m => some (m, s.modCv p (fun c => { c with inbox := c.inbox.erase m }))

/-- Count an uncorrectable line of a port; the fourth at different addresses within 1 s retires it (R310, R313). While
the bridge fills, poison is no error of it (R307). -/
def caveUnc (p line : Nat) (s : State) : State :=
  if s.cvSt p = .filling then s
  else
    let s := s.bump F.cavePeccUncorrectable p
    let recent := (s.cv p).errs.filter (fun e => decide (s.since e.2 ≤ 1000000000) && e.1 != line)
    let s := s.modCv p (fun c => { c with errs := (line, s.pt) :: recent })
    if 3 ≤ recent.length then caveRetire p s else s

/-! ### Line commands of an engine (10 R330, R333) -/

/-- The offset is one that engine `e` serves. -/
def engineServes (e o : Nat) (s : State) : Bool :=
  if e < 36 then
    decide (nearStart ≤ o) && decide (o < nearEnd) && onChannel s.mirrored e ((o - nearStart) / 4096)
  else decide (caveStart + (e - 36) * 2 ^ 37 ≤ o) && decide (o < caveStart + (e - 35) * 2 ^ 37)

/-- A read of a cave line by its engine, and what its port counts. -/
def caveLineRead (e addr : Nat) (f : EngFetch) (s : State) : LineResult :=
  let la := offsetOf addr / 64
  let s := s.upsetLine la f.upsets
  let r := lineReadOp e addr (seenLine f (s.lineAt la)) f s
  if r.rs = .uncorrectable then { r with state := caveUnc (e - 36) (la % 2 ^ 31) r.state } else r

/-- A write of a cave line by its engine; what it changes goes to the bridge. -/
def caveLineWrite (e addr : Nat) (data : List Byte) (be : List Bool) (poison : Bool) (f : EngFetch) (s : State) : LineResult :=
  let la := offsetOf addr / 64
  let s := s.upsetLine la f.upsets
  let r := cavePut e addr data be poison (seenLine f (s.lineAt la)) f none s
  { status := r.1, state := r.2.2 }

/-- LINE_READ (10 R330, R331, R335). -/
def execLineRead (e : Fin 52) (addr : BitVec 48) (fetch : EngFetch) (s : State) : Out :=
  whenClocked (s.engineClocked e) s <| let a := addr.toNat / 64 * 64
  let o := offsetOf a
  if engineServes e o s then
    let r :=
      match (if keyId a = 0 then tablePage o else none) with
      | some k => tableRead k fetch s
      | none => if e.val < 36 then nearLineRead e a fetch s else caveLineRead e a fetch s
    .next (r.state.answer r.status (ofBytes r.data) r.poison)
  else .next (s.answer .decode)

/-- LINE_WRITE (10 R326 to R328, R332, R333, R335). -/
def execLineWrite (e : Fin 52) (addr : BitVec 48) (data : List Byte) (be : List Bool) (poison : Bool) (fetch : EngFetch)
    (s : State) : Out :=
  whenClocked (s.engineClocked e) s <| let a := addr.toNat / 64 * 64
  let o := offsetOf a
  if engineServes e o s then
    let r :=
      match (if keyId a = 0 then tablePage o else none) with
      | some k => tableWrite k data be poison s
      | none => if e.val < 36 then nearLineWrite e a data be poison fetch s else caveLineWrite e a data be poison fetch s
    .next (r.state.answer r.status)
  else .next (s.answer .decode)

/-! ### Messages of the bridge (R285, R286) -/

/-- What an engine sees of a line that the bridge sends (R285, R286). -/
def caveSeen (l : CaveLine) : Line × RsFound :=
  ({ ct := l.data, tag := l.tag.toNat, minor := l.minor.toNat }, if l.poison then .uncorrectable else .clean)

/-- Check and decrypt the lines of an RDATA (10 R330): the first bad status, data, poison, state. -/
def rdataLines (e addr : Nat) : List CaveLine → State → MemResult
  | [], s => { status := .ok, state := s }
  | l :: rest, s =>
    let r := lineReadOp e addr (caveSeen l) plainFetch s
    let tail := rdataLines e (addr + 64) rest r.state
    { status := firstBad r.status tail.status, data := r.data ++ tail.data, poison := r.poison || tail.poison, state := tail.state }

/-- Count the uncorrectable lines of an RDATA. -/
def rdataUnc (p line : Nat) : List CaveLine → State → State
  | [], s => s
  | l :: rest, s => rdataUnc p (line + 1) rest (if l.poison then caveUnc p line s else s)

/-- The lines of a read arrive: checked, decrypted and answered (R286, 10 R330). -/
def rdataRead (p addr len : Nat) (lines : List CaveLine) (s : State) : State :=
  let r := rdataLines (36 + p) (addr / 64 * 64) lines s
  let s := match r.status with
    | .ok => r.state.answer .ok (ofBytes ((r.data.drop (addr % 64)).take len)) r.poison
    | .integrity => r.state.answer .integrity (ofBytes ((r.data.drop (addr % 64)).take len)) true
    | st => r.state.answer st
  rdataUnc p (offsetOf addr / 64 % 2 ^ 31) lines s

/-- The line that a partial write merges into arrives (10 R333). -/
def rdataMerge (p req addr : Nat) (data : List Byte) (be : List Bool) (poison : Bool) (lines : List CaveLine) (s : State) : State :=
  match lines with
  | [] => reqDone p req .fault s
  | l :: _ =>
    let r := cavePut (36 + p) addr data be poison (caveSeen l) plainFetch (some req) s
    let note (q : CaveReq) : CaveReq := if q.id = req then { q with status := firstBad q.status r.1 } else q
    let s := if r.2.1 then r.2.2.modCv p (fun c => { c with reqs := c.reqs.map note }) else reqDone p req r.1 r.2.2
    if l.poison then caveUnc p (offsetOf addr / 64 % 2 ^ 31) s else s

/-- CAVE_RDATA (R285, R286, 10 R330, R333): the lines of a read, or the line that a partial write merges into. That arg 1 says
an address error, as in WDONE, is DEDUCED (log entry 112). -/
def execCaveRdata (p : Fin 16) (s : State) : Out :=
  whenClocked s.nocClocked s <| .next <|
    match takeCaveMsg p 8 s with
    | none => s
    | some (m, s) =>
      match (s.cv p).pend.find? (fun e => e.1 == caveTag m) with
      | none => s
      | some (_, pend) =>
        let s := s.modCv p (fun c => { c with pend := c.pend.filter (fun e => e.1 != caveTag m) })
        match pend with
        | .read addr len => if caveArg m = 1 then s.answer .decode else rdataRead p addr len (caveLines m) s
        | .merge req addr data be poison =>
          if caveArg m = 1 then reqDone p req .decode s else rdataMerge p req addr data be poison (caveLines m) s
        | .creg _ => s

/-- CAVE_WDONE (R285, R286). -/
def execCaveWdone (p : Fin 16) (s : State) : Out :=
  whenClocked s.nocClocked s <| .next <|
    match takeCaveMsg p 9 s with
    | none => s
    | some (m, s) =>
      match (s.cv p).writes.find? (fun e => e.1 == caveTag m) with
      | none => s
      | some (_, req) =>
        reqDone p req (if caveArg m = 1 then .decode else .ok)
          (s.modCv p (fun c => { c with writes := c.writes.filter (fun e => e.1 != caveTag m) }))

/-- CAVE_CREG_RSP (R285, R288, R310): a bridge register; BRG_PAGES below CAVE_RING_PAGES retires a port in service. -/
def execCaveCregRsp (p : Fin 16) (s : State) : Out :=
  whenClocked s.nocClocked s <| .next <|
    match takeCaveMsg p 10 s with
    | none => s
    | some (m, s) =>
      match (s.cv p).pend.find? (fun e => e.1 == caveTag m) with
      | some (_, .creg index) =>
        let s := s.modCv p (fun c => { c with pend := c.pend.filter (fun e => e.1 != caveTag m)
                                              bridge := Tab.put 0 c.bridge index (caveValue m) })
        if index = 1 ∧ s.cvSt p ≠ .probe ∧ caveValue m < s.get F.caveRingPagesVal then caveRetire p s else s
      | _ => s

/-- CAVE_STATUS (R282, R285, R307, R310): 1 FILL_DONE, 2 temperature alarm, 3 uncorrectable line, 4 fatal, 5 capacity
lost, on which BRG_PAGES is read again. That the header's line is the uncorrectable line is DEDUCED (log entry 112). -/
def execCaveStatus (p : Fin 16) (s : State) : Out :=
  whenClocked s.nocClocked s <| .next <|
    match takeCaveMsg p 11 s with
    | none => s
    | some (m, s) =>
      if s.linkUp p = false then s
      else match caveArg m with
      | 1 => if s.cvSt p = .filling then s.setCvSt p (if s.bit F.cavePcfgEn p then .ready else .stopping) else s
      | 3 => caveUnc p (caveLine m) s
      | 4 => caveRetire p s
      | 5 => cregRead p 1 s
      | _ => s

/-- CAVE_CREDIT (R287): credits come back; waiting messages go. -/
def execCaveCredit (p : Fin 16) (s : State) : Out :=
  whenClocked s.nocClocked s <| .next <|
    match takeCaveMsg p 12 s with
    | none => s
    | some (m, s) =>
      if s.linkUp p then
        let s := (s.addSat F.cavePstatusWcred (bits (caveValue m) 31 16) p).addSat F.cavePstatusRcred (bits (caveValue m) 15 0) p
        caveFlush p (s.cv p).waiting s
      else s

/-- A port's domain is switched off (01 R18): a READY port stops as when disabled, so what is owed is delivered first
(R282); one not yet in service goes DOWN. That CAVE_PCFG.en is cleared too, so that the port is enabled anew after the
power-up, is a DESIGN CHOICE (log entry 108). -/
def cavePowerDown (p : Nat) (s : State) : State :=
  match s.cvSt p with
  | .retired => s
  | .ready | .stopping => caveDisable p s
  | .down | .linking | .probe | .filling => caveDown p ((discardRequests p s).clear F.cavePcfgEn p)

/-- A port whose domain is being switched off holds no work any more. -/
def State.caveStill (s : State) (p : Nat) : Bool :=
  match s.cvSt p with
  | .down | .retired => true
  | .linking | .probe | .filling | .ready | .stopping => false

/-! ### Release (10 R334) -/

/-- RELEASE_DONE (10 R334): the pages are in their filled state; on a cave port the bridge is told to fill them. -/
def execReleaseDone (s : State) : Out :=
  whenClocked s.nocClocked s <| .next <|
    if s.get F.xcrRelStatusState = 1 then
      let first := s.get F.xcrRelPageVal
      let n := s.get F.xcrRelCountVal + 1
      let cave := s.bit F.xcrRelCtrlTier
      let p := s.get F.xcrRelCtrlPort
      let one (s : State) (i : Nat) : State :=
        if cave then
          let k := 2 ^ 27 + p * 2 ^ 25 + first + i
          let bad := s.tableBad k
          let s := releasePage k s
          if bad then fillSend p ((first + i) / 8 * 8) 8 s
          else if (s.page k).exhausted then s else fillSend p (first + i) 1 s
        else releasePage (first + i) s
      let s := (List.range n).foldl one s
      ((s.put F.xcrRelStatusProgress n).put F.xcrRelStatusState 0).clear F.xcrRelCtrlGo
    else s

end Sys2Proof.Machine
end

