-- ==== Sys2Proof/Machine/Access.lean ====
section
/-!
DEFINITION. Memory accesses of the device's own engines by system address (01 R22 to R29): on-chip memories, near store,
cave; and the last steps of the pattern update channels (07 R231 to R236) and of the scrub engines (08 R270, R271).
-/
namespace Sys2Proof.Machine

/-- A cave access of an engine of the device: it sees the lines as last written, and its writes go to the bridge. -/
def caveServe (req : Requester) (addr : Nat) (acc : MemAcc) (s : State) : MemResult :=
  match caveGate req addr s with
  | some st => { status := st, state := s.countDenied addr st }
  | none =>
    let e := 36 + cavePort (offsetOf addr)
    let base := addr / 64 * 64
    let rd (a : Nat) (f : EngFetch) (s : State) : LineResult :=
      if s.cvSt (e - 36) = .filling then { status := .ok, data := List.replicate 64 0, poison := true, state := s }
      else caveLineRead e a f s
    let wr (poison : Bool) (a : Nat) (d : List Byte) (m : List Bool) (f : EngFetch) (s : State) : LineResult :=
      caveLineWrite e a d m poison f s
    match acc with
    | .read len =>
      let r := linesRead rd base (lineSpan addr len) [] s
      match r.status with
      | .ok => { r with data := (r.data.drop (addr % 64)).take len }
      | .integrity => { r with data := (r.data.drop (addr % 64)).take len }
      | _ => { r with data := [], poison := false }
    | .write data be poison => linesWrite (wr poison) base (addr % 64) (lineSpan addr data.length) data be [] s
    | .atomic _ _ _ => { status := .denied, state := s }

/-- The Quill group of a core-memory address. -/
def coreGroup (addr : Nat) : Nat := (addr - 0x20000000) / 0x80000

/-- An access of an engine through a bank's window, at the next edge of the serving port's clock (08 R252). -/
def bankServe (n addr : Nat) (acc : MemAcc) (s : State) : MemResult := windowServe n (s.edgesMade n (s.windowPort n)) addr acc s

/-- Serve an access by system address, within one 4 KiB page (01 R23 to R29). Register blocks answer 32-bit accesses
alone, which engines do not make (01 R6). -/
def memServe (req : Requester) (addr : Nat) (acc : MemAcc) (s : State) : MemResult :=
  let o := offsetOf addr
  if o < 2 ^ 32 then
    if keyId addr ≠ 0 then { status := .decode, state := s }
    else if 0x10000000 ≤ o ∧ o < 0x14000000 then scratchServe (Fin.ofNat 256 ((o - 0x10000000) / 0x40000)) o acc s
    else if 0x20000000 ≤ o ∧ o < 0x20800000 then
      if (s.dom (100 + coreGroup o)).st ≠ .on then { status := .domainOff, state := s }
      else if s.quillClocked (coreGroup o) = false then { status := .nocTimeout, state := s }
      else coreMemServe o acc s
    else if 0x40000000 ≤ o ∧ o < 0x44000000 then bankServe ((o - 0x40000000) / 0x2000) o acc s
    else if o < 0x1100000 then { status := .denied, state := s }
    else { status := .decode, state := s }
  else if nearStart ≤ o ∧ o < nearEnd then nearServe req addr acc [] s
  else if caveStart ≤ o ∧ o < caveStart + 2 ^ 41 then caveServe req addr acc s
  else { status := .decode, state := s }

/-- An address is one of system memory: scratch banks, core memories, block-bank window, near store or cave. -/
def isMemory (addr : Nat) : Bool :=
  let o := offsetOf addr
  (decide (o < 2 ^ 32) && keyId addr == 0 &&
      ((decide (0x10000000 ≤ o) && decide (o < 0x14000000)) || (decide (0x20000000 ≤ o) && decide (o < 0x20800000))
        || (decide (0x40000000 ≤ o) && decide (o < 0x44000000))))
    || (decide (nearStart ≤ o) && decide (o < nearEnd)) || (decide (caveStart ≤ o) && decide (o < caveStart + 2 ^ 41))

/-- Bytes from an address to the end of its 4 KiB page (11 R343). -/
def toPageEnd (addr : Nat) : Nat := 4096 - addr % 4096

/-- Read any number of bytes, a packet for each 4 KiB page touched (11 R343); `n` bounds the packets. -/
def memRead (req : Requester) : Nat → Nat → Nat → State → MemResult
  | 0, _, _, s => { status := .ok, state := s }
  | n + 1, addr, len, s =>
    if len = 0 then { status := .ok, state := s }
    else
      let k := min len (toPageEnd addr)
      let r := memServe req addr (.read k) s
      let rest := memRead req n (addr + k) (len - k) r.state
      { status := firstBad r.status rest.status, data := r.data ++ rest.data, poison := r.poison || rest.poison, state := rest.state }

/-- Write any number of bytes, a packet for each 4 KiB page touched; it stops at the first error. -/
def memWrite (req : Requester) (poison : Bool) : Nat → Nat → List Byte → State → MemResult
  | 0, _, _, s => { status := .ok, state := s }
  | n + 1, addr, data, s =>
    if data.isEmpty then { status := .ok, state := s }
    else
      let k := toPageEnd addr
      let part := data.take k
      let r := memServe req addr (.write part (List.replicate part.length true) poison) s
      if r.status = .ok then memWrite req poison n (addr + k) (data.drop k) r.state else r

/-- Read bytes of memory. -/
def engineRead (req : Requester) (addr len : Nat) (s : State) : MemResult := memRead req (len / 4096 + 2) addr len s

/-- Write bytes of memory. -/
def engineWrite (req : Requester) (addr : Nat) (data : List Byte) (s : State) : MemResult :=
  memWrite req false (data.length / 4096 + 2) addr data s

/-- Free bytes over a range whose contents an error leaves undefined, page by page; what cannot be written keeps its bytes. -/
def engineScatter (req : Requester) : Nat → Nat → Nat → State → State
  | 0, _, _, s => s
  | n + 1, addr, len, s =>
    if len = 0 then s
    else
      let k := min len (toPageEnd addr)
      let bytes := (List.range k).map (fun i => BitVec.ofNat 8 (Config.freeValue (s.free + i)))
      let r := memServe req addr (.write bytes (List.replicate k true) false) { s with free := s.free + k }
      engineScatter req n (addr + k) (len - k) r.state

/-- Store a summary record: the status of the store, and the state; an error leaves the record's bytes undefined (08 R270). -/
def storeSummary (req : Requester) (addr : Nat) (rec_ : List Byte) (s : State) : Bool × State :=
  let r := engineWrite req addr rec_ s
  if r.status = .ok then (true, r.state) else (false, engineScatter req (rec_.length / 4096 + 2) addr rec_.length r.state)

/-! ### Pattern update channels (07 R231 to R236) -/

/-- FAB_PMU_ADDR. -/
def State.pmuAddr (s : State) (c : Nat) : Nat := s.pair .fabPmuAddrLo .fabPmuAddrHi c % 2 ^ 48

/-- The row that a record gives (07 R227). -/
def rowOfRecord (bs : List Byte) (poison : Bool) : PmRow :=
  let w := ofBytes ((bs.drop 16).take 4)
  { value := ofBytes (bs.take 8), care := ofBytes ((bs.drop 8).take 8), dc := w % 256, set := w.testBit 30
    valid := w.testBit 31, poison := poison }

/-- The record of a row (07 R227). -/
def recordOfRow (r : PmRow) : List Byte :=
  bytesOf r.value 8 ++ bytesOf r.care 8 ++ bytesOf (b2n r.valid * 2 ^ 31 + b2n r.set * 2 ^ 30 + r.dc % 256) 4 ++ bytesOf 0 12

/-- A channel counts a row as done; the last one ends the operation. -/
def pmuAdvance (c : Nat) (s : State) : State :=
  let done := s.get F.fabPmuStatusProgress c + 1
  let s := s.put F.fabPmuStatusProgress done c
  if s.get F.fabPmuCountVal c < done then
    s.setPmu c { s.pmu c with finished := some (if (s.pmu c).srcPoison then 3 else 0) }
  else s

/-- An error response ends the operation (07 R232). -/
def pmuError (c : Nat) (s : State) : State := s.setPmu c { s.pmu c with finished := some 2 }

/-- The bits of a row that are upset. -/
def PmRow.upset (r : PmRow) : List Nat := (List.range 148).filter (fun i => r.err.testBit i)

/-- What the check of a row finds (07 R217, R236): nothing; the bit taken as the one in error; or an uncorrectable error. Of
three or more errors the spec does not say how the code takes them: that is free (log entry 111). -/
def PmRow.check (r : PmRow) (free : Nat) : Option (Option Nat) :=
  match r.upset with
  | [] => none
  | [i] => some (some i)
  | [_, _] => some none
  | _ => if free % 3 = 0 then none else if free % 3 = 1 then some (some (free / 3 % 148)) else some none

/-- A row is read and checked (07 R236): a single-bit error is corrected and written back; an uncorrectable row is poisoned and
written back, as it is stored, with fresh check bits. -/
def pmuCheckRow (c a row : Nat) (s : State) : State :=
  let p := s.pmu c
  let r := s.pmRow a row
  let found := r.check (Config.freeValue s.free)
  let s := if 2 < r.upset.length then { s with free := s.free + 1 } else s
  match found with
  | none => if r.poison then s.setPmu c { p with poisoned := p.poisoned + 1 } else s
  | some (some i) =>
    let fixed : PmRow := { r.flip i with err := 0 }
    let s := (s.setPmRow a row fixed).bump F.fabPmEccCorrected a
    s.setPmu c { p with corrected := p.corrected + 1, first := some (p.first.getD row), last := some row
                        poisoned := p.poisoned + b2n fixed.poison }
  | some none =>
    let s := (s.setPmRow a row { r with poison := true, err := 0 }).flag F.fabPmErrUncorrectable
    let s := s.blot 0xC03 2 (a * 2 ^ 32 + row)
    s.setPmu c { p with uncorrectable := p.uncorrectable + 1, first := some (p.first.getD row), last := some row }

/-- PMU_ROW (07 R228, R231, R232, R236): a channel completes its next row. -/
def execPmuRow (c : Fin 4) (upsets : List (Fin 32768 × Fin 148)) (s : State) : Out :=
  whenClocked s.nocClocked s <| .next <|
    let s := upsetRows (s.get F.fabPmuCtrlArray c) upsets s
    if s.get F.fabPmuStatusState c = 1 ∧ (s.pmu c).finished = none ∧ s.frozen F.dbgFreezePmu = false then
      let a := s.get F.fabPmuCtrlArray c
      let j := s.get F.fabPmuStatusProgress c
      let row := s.get F.fabPmuFirstVal c + j
      let addr := s.pmuAddr c + 32 * j
      match s.get F.fabPmuCtrlOp c with
      | 0 =>
        let r := memServe (.pmu c) addr (.read 32) s
        if r.status ≠ .ok then pmuError c r.state
        else
          let s := r.state.setPmRow a row (rowOfRecord r.data r.poison)
          let s := if r.poison then (s.flag F.fabPmErrSrcPoison).setPmu c { s.pmu c with srcPoison := true } else s
          pmuAdvance c s
      | 1 => pmuAdvance c (s.setPmRow a row {})
      | 2 =>
        let s := pmuCheckRow c a row s
        let row := s.pmRow a row
        let r := memServe (.pmu c) addr (.write (recordOfRow row) (List.replicate 32 true) row.poison) s
        if r.status = .ok then pmuAdvance c r.state else pmuError c r.state
      | _ => pmuAdvance c (pmuCheckRow c a row s)
    else s

/-- The summary record of a SCRUB: row numbers for addresses, the array for the bank (07 R228, 08 R271). -/
def pmuSummary (c status : Nat) (s : State) : List Byte :=
  let p := s.pmu c
  summaryRecord 2 status (s.get F.fabPmuStatusProgress c) p.corrected p.uncorrectable p.poisoned p.first p.last s.pt
    [(s.get F.fabPmuCtrlArray c, 0, p.corrected, p.uncorrectable, p.poisoned)]

/-- PMU_COMPLETE (07 R228, R235): a channel whose operation has ended goes to IDLE, writes its completion word and posts
it; a SCRUB first writes its summary record. -/
def execPmuComplete (c : Fin 4) (s : State) : Out :=
  whenClocked s.nocClocked s <| .next <|
    match (s.pmu c).finished with
    | some st =>
      let op := s.get F.fabPmuCtrlOp c
      let done := if op = 4 then 0 else s.get F.fabPmuStatusProgress c
      let stored : Nat × State :=
        if op = 3 then
          let r := storeSummary (.pmu c) (s.pmuAddr c) (pmuSummary c st s) s
          (if r.1 then st else 2, r.2)
        else (st, s)
      let st := stored.1
      let s := stored.2
      let w := pmuCompletion st c (s.get F.fabPmuCtrlArray c) done
      let s := ((s.put F.fabPmuStatusState 0 c).clear F.fabPmuCtrlGo c).put F.fabPmuLastVal w c
      let s := if st = 2 then s.flag F.fabPmErrAccessErr else s
      let s := s.setPmu c {}
      if s.bit F.fabPmuWxqEn c then s.postToken (s.get F.fabPmuWxqQueue c) w else s
    | none => s

/-! ### Scrub engines (08 R270, R271) -/

/-- SCRUB_COMPLETE (08 R270, R271): the summary record is stored, the completion word is written and posted. An error
response to the store leaves the summary undefined. -/
def execScrubComplete (e : Fin 2) (s : State) : Out :=
  whenClocked s.nocClocked s <| .next <|
    let p := s.scrub e
    match p.finished with
    | some st =>
      let kind := if s.scrBase e < 0x40000000 then 1 else 0
      let rec_ := summaryRecord kind st p.read p.corrected p.uncorrectable p.poisoned p.first p.last s.pt p.banks
      let dest := s.pair .membScrDestLo .membScrDestHi e % 2 ^ 48
      let r := storeSummary (.scrub e) dest rec_ s
      let st := if r.1 then st else 2
      let s := r.2
      let w := st * 2 ^ 28 + e.val * 2 ^ 24 + s.get F.membScrStatusProgress e
      let s := ((s.put F.membScrStatusState 0 e).clear F.membScrCtrlGo e).put F.membScrLastVal w e
      let s := s.setScrub e {}
      if s.bit F.membScrWxqEn e then s.postToken (s.get F.membScrWxqQueue e) w else s
    | none => s

end Sys2Proof.Machine
end

