-- ==== Sys2Proof/Machine/Flash.lean ====
section
/-!
DEFINITION. Reading the configuration flash (13 R426) and the repair map in it (15 R483, R499, R500, 04 R136).
-/
namespace Sys2Proof.Machine

/-! ### Flash (R426, R427) -/

/-- Bytes of the configuration flash. -/
def State.flashBytes (s : State) (a n : Nat) : List Byte := Tab.range 0xFF s.flash a n

/-- One bit of CRC-32C, least significant bit first. -/
def crc32cStep (reg : Nat) : Nat → Nat
  | 0 => reg
  | n + 1 => crc32cStep (if reg.testBit 0 then reg / 2 ^^^ 0x82F63B78 else reg / 2) n

/-- CRC-32C over bytes, in its usual reflected form (R427). -/
def crc32cBytes (bs : List Byte) : Nat := 0xFFFFFFFF ^^^ bs.foldl (fun r b => crc32cStep (r ^^^ b.toNat) 8) 0xFFFFFFFF

/-- A 32-bit little-endian word of a list of bytes. -/
def wordAt (bs : List Byte) (k : Nat) : Nat := ofBytes ((bs.drop k).take 4)

/-! ### The repair map (15 R483, R499) -/

/-- A repair-map entry (R499): block type, kind, block index, failing location, redundant element. -/
structure RepairEntry where
  block : Nat
  kind : Nat
  index : Nat
  place : Nat
  element : Nat
  deriving DecidableEq, Repr

/-- An element that exists (R497, R499): redundant rows and columns, the bank's own spare, spare riser wires, the
router's spare crossbar. -/
def RepairEntry.ok (e : RepairEntry) : Bool :=
  match e.block, e.kind with
  | 1, 1 => decide (e.index < 8192) && decide (e.element < 4)
  | 1, 2 => decide (e.index < 8192) && decide (e.element < 2)
  | 1, 3 => decide (e.index < 8192) && e.element == e.index / 64
  | 2, 1 => decide (e.index < 256) && decide (e.element < 8)
  | 2, 2 => decide (e.index < 256) && decide (e.element < 2)
  | 2, 3 => decide (e.index < 256) && e.element == e.index / 16
  | 3, 1 => decide (e.index < 128) && decide (e.element < 2)
  | 4, 1 => decide (e.index < 256) && decide (e.element < 16)
  | 7, 2 => decide (e.index < 768) && decide (e.element < 2)
  | 8, 4 => decide (e.index < riserSites) && decide (e.place < 32) && decide (e.element < 2)
  | 9, 3 => decide (e.index < 144) && e.element == 0
  | _, _ => false

/-- Bytes of flash as a little-endian number. -/
def State.flashNum (s : State) (a n : Nat) : Nat := ofBytes (s.flashBytes a n)

/-- Flash offset of a repair-map copy (R483). -/
def repairBase (copy : Nat) : Nat := 0x01100000 + copy * 0x40000

/-- A repair-map copy is valid: magic, at most 16,382 entries, CRC-32C (R483, R499). -/
def State.repairValid (s : State) (copy : Nat) : Bool :=
  let b := repairBase copy
  let n := s.flashNum (b + 16) 4
  s.flashNum b 4 == 0xB5F0AE00 && decide (n ≤ 16382)
    && s.flashNum (b + 28) 4 == crc32cBytes (s.flashBytes b 28 ++ s.flashBytes (b + 32) (16 * n))

/-- The repair-map copy in use: the valid one, of two the one with the greater sequence (R483). -/
def State.repairCopy (s : State) : Option Nat :=
  match s.repairValid 0, s.repairValid 1 with
  | false, false => none
  | true, false => some 0
  | false, true => some 1
  | true, true => some (if s.flashNum (repairBase 0 + 4) 4 < s.flashNum (repairBase 1 + 4) 4 then 1 else 0)

/-- The entries of a copy. -/
def State.repairEntries (s : State) (copy : Nat) : List RepairEntry :=
  let b := repairBase copy
  (List.range (s.flashNum (b + 16) 4)).map (fun i =>
    let a := b + 32 + 16 * i
    { block := s.flashNum a 1, kind := s.flashNum (a + 1) 1, index := s.flashNum (a + 4) 4, place := s.flashNum (a + 8) 4
      element := s.flashNum (a + 12) 4 })

/-- The device serial as one number. -/
def State.serial (s : State) : Nat := s.pair .scmSerialLo .scmSerialHi

/-- The map to be applied: its entries, none where a map is rejected whole (R499). -/
def repairMap (s : State) : List RepairEntry × State :=
  match s.repairCopy with
  | none => ([], s)
  | some c =>
    let es := s.repairEntries c
    if s.flashNum (repairBase c + 8) 8 = s.serial ∧ es.all RepairEntry.ok = true then (es, s)
    else ([], (s.flag F.scmErrRepairRejected).raise .scmRepairRejected 0 c)

/-- The spare riser wires that the map assigns at a full load (04 R136): site, wire, spare. -/
def takeSpareWires (s : State) : State :=
  let m := repairMap s
  { m.2 with riserSpares := (m.1.filter (fun e => e.block == 8 && e.kind == 4)).map (fun e => (e.index, e.place, e.element)) }

end Sys2Proof.Machine
end

