-- ==== Sys2Proof/Machine/Ring.lean ====
section
/-!
DEFINITION. The history ring (09 R291 to R299), look-back requests and the look-back transmit channels (R300 to R305).
-/
namespace Sys2Proof.Machine

/-! ### Writer ports (R291, R292) -/

/-- A history writer port. -/
def State.hwPort (s : State) (i : Nat) : HwSt := Tab.get {} s.hw i

/-- Replace a history writer port. -/
def State.setHw (s : State) (i : Nat) (h : HwSt) : State := { s with hw := Tab.put {} s.hw i h }

/-- Lines in a port's FIFO. -/
def HwSt.lines (h : HwSt) : Nat :=
  (match h.cur with | some r => r.lines.length | none => 0) + (h.closed.map (fun r => r.lines.length)).sum

/-- HW_READY: at least 64 of the 128 lines are free (R291). -/
def HwSt.ready (h : HwSt) : Bool := decide (h.lines + 64 ≤ 128)

/-- HW_READY of a port: 0 without the network's clock (16 R526). -/
def State.hwReady (s : State) (i : Nat) : Bool := (s.hwPort i).ready && s.nocClocked

/-- The stamp of a record of crossing `cross` (R292). -/
def State.recordStamp (s : State) (cross : Nat) : Nat :=
  let orbit := if cross ≤ s.mt.cross then s.mt.orbit else s.mt.orbit + 2 ^ 48 - 1
  s.get F.mtimeStatusCoasting * 2 ^ 63 + s.get F.mtimeStatusUnaligned * 2 ^ 62 + orbit % 2 ^ 48 * 2 ^ 14 + cross % 2 ^ 14

/-- A record of crossing `cross` lies more than 64 crossings before the current one (R292). -/
def State.recordLate (s : State) (cross : Nat) : Bool :=
  if cross ≤ s.mt.cross then decide (64 < s.mt.cross - cross) else decide (64 < s.mt.prevLen + s.mt.cross - cross)

/-- Close the record being taken; a late one is dropped and counted (R292). -/
def hwClose (i : Nat) (s : State) : State :=
  let h := s.hwPort i
  match h.cur with
  | some r =>
    if r.late then ringDrop F.nearRingDropLate (s.setHw i { h with cur := none })
    else s.setHw i { cur := none, closed := h.closed ++ [r] }
  | none => s

/-- Take a line into the record being taken; at 64 lines it closes and a continuation follows (R292). -/
def hwTake (i : Nat) (data : List Byte) (last poison : Bool) (s : State) : State :=
  let h := s.hwPort i
  match h.cur with
  | none => s
  | some r =>
    let r' := if r.late then r else { r with lines := r.lines ++ [(data, poison)] }
    let s := s.setHw i { h with cur := some r' }
    if last then hwClose i s
    else if 64 ≤ r'.lines.length then
      let s := hwClose i s
      s.setHw i { s.hwPort i with cur := some { stamp := r'.stamp, lines := [], cont := true, late := false } }
    else s

/-- HW_LINE (R291, R292): a line offered at an edge of the port's clock; dropped and counted while HW_READY is 0. A line
outside a record belongs to none and is dropped; HW_FIRST closes a record left open. -/
def execHwLine (i : Fin 16) (data : List Byte) (first last : Bool) (cross : BitVec 14) (poison : Bool) (s : State) : Out :=
  .next <|
    if s.regionRuns (if i.val < 8 then 192 else 193) = false then s
    else if s.hwReady i = false then ringDrop F.nearRingDropFull s
    else
      let line := (data ++ List.replicate 64 0).take 64
      if first then
        let s := hwClose i s
        let r : HwRecord := { stamp := s.recordStamp cross.toNat, lines := [], cont := false, late := s.recordLate cross.toNat }
        hwTake i line last poison (s.setHw i { s.hwPort i with cur := some r })
      else hwTake i line last poison s

/-! ### Homes of ring pages (R295, R297) -/

/-- A near-store page lies on a retired channel. -/
def State.nearDead (s : State) (page : Nat) : Bool :=
  match s.nearSt (s.nearServer (nearPlace s.mirrored page).1) with | .failed => true | .retired => true | _ => false

/-- The collector must skip a ring page: its near slot lies on a retired channel or its cave slot on a retired port
(R297). -/
def State.mustSkip (s : State) (g : Nat) : Bool :=
  (!s.ringDirect && s.nearDead (s.nearSlot g))
    || (match s.caveSlot g with | some slot => s.cvSt slot.1 == .retired | none => false)

/-! ### The collector and migration (R293, R294, R296, R298) -/

/-- The head comes to a ring page: the page whose near slot it takes is lost if it is not yet migrated (R296). -/
def enterPage (g : Nat) (s : State) : State :=
  if s.ringDirect || s.ringPorts.isEmpty || decide (g < s.nNear) then s
  else
    let old := g - s.nNear
    if old < s.ring.migrated then s
    else
      let s := ((s.bump F.nearRingDropLag).flag F.nearErrLag).raise .nearMigrateLag
      let s := setSkip old true s
      { s with ring := { s.ring with migrated := old + 1 } }

/-- The place for a record of `len` lines: the head, or the start of the next page that is not skipped (R293, R297). A
skipped page's slot bit is set. `n` bounds the pages looked at. -/
def placeRecord (len : Nat) : Nat → Nat → State → Option Nat × State
  | 0, _, s => (none, s)
  | n + 1, pos, s =>
    let g := pos / 64
    let s := if pos % 64 = 0 then enterPage g s else s
    if s.mustSkip g then
      let s := setSkip g true s
      let s := if s.ring.lost.contains g then s else { s with ring := { s.ring with lost := g :: s.ring.lost } }
      placeRecord len n ((g + 1) * 64) s
    else if pos % 64 + len ≤ 64 then (some pos, s)
    else placeRecord len n ((g + 1) * 64) s

/-- Write the lines of a record from a line address. -/
def writeLines (req : Requester) (addr : Nat) : List (List Byte × Bool) → State → Status × State
  | [], s => (.ok, s)
  | l :: rest, s =>
    let r := memServe req addr (.write l.1 (List.replicate 64 true) l.2) s
    let t := writeLines req (addr + 64) rest r.state
    (firstBad r.status t.1, t.2)

/-- The bits of an index entry (R293). -/
def IdxEntry.word (e : IdxEntry) : Nat :=
  e.stamp % 2 ^ 64 * 2 ^ 64 + e.pos % 2 ^ 48 * 2 ^ 16 + (e.len - 1) % 64 * 2 ^ 10 + e.port % 16 * 2 ^ 6 + b2n e.poison * 2 ^ 5
    + b2n e.cont * 2 ^ 4 + e.epoch % 16

/-- Entries the index ring holds. -/
def State.idxSize (s : State) : Nat := s.get F.nearIdxLenVal * 256

/-- Append an index entry: written to the index ring in the near store, the oldest making room (R293). -/
def addIndex (e : IdxEntry) (s : State) : State :=
  let slot := s.ring.entries % s.idxSize
  let addr := s.ringNear (s.get F.nearIdxBaseVal) + 16 * slot
  let r := if s.idxSize = 0 then { status := Status.ok, state := s } else
    memServe .collector addr (.write (bytesOf e.word 16) (List.replicate 16 true) false) s
  let s := r.state
  let kept := s.ring.index ++ [e]
  { s with ring := { s.ring with index := kept.drop (kept.length - s.idxSize), entries := s.ring.entries + 1 } }

/-- System address of a ring line position (R295). -/
def State.ringAddr (s : State) (pos : Nat) : Nat :=
  match s.ringDirect, s.caveSlot (pos / 64) with
  | true, some slot => s.ringCave slot + 64 * (pos % 64)
  | _, _ => s.ringNear (s.nearSlot (pos / 64)) + 64 * (pos % 64)

/-- The collector appends a record (R293, R295, R297); none while the memory it belongs to answers BUSY and cannot take it
(R298). -/
def appendRecord (i : Nat) (r : HwRecord) (s : State) : Option State :=
  match placeRecord r.lines.length 1024 s.ringHead s with
  | (none, s) => some (ringDrop F.nearRingDropFull s)
  | (some pos, s) =>
    let w := writeLines .collector (s.ringAddr pos) r.lines s
    if w.1 = .busy then none
    else
      let s := if s.ringDirect then setSkip (pos / 64) false w.2 else w.2
      let e : IdxEntry := { stamp := r.stamp, pos := pos, len := r.lines.length, port := i, poison := r.lines.any (·.2), cont := r.cont, epoch := s.get F.nearRingStatusEpoch }
      some ((addIndex e s).setPair .nearRingHeadLo .nearRingHeadHi ((pos + r.lines.length) % 2 ^ 48))

/-- The collector writes the records in its FIFO in arrival order, as far as the memory takes them; `n` bounds them. -/
def collectorDrain : Nat → State → State
  | 0, s => s
  | n + 1, s =>
    match s.ring.fifo with
    | [] => s
    | (i, r) :: rest =>
      match appendRecord i r { s with ring := { s.ring with fifo := rest } } with
      | some t => collectorDrain n t
      | none => s

/-- The records in the collector's FIFO are written. -/
def collect (s : State) : State := collectorDrain s.ring.fifo.length s

/-- Lines in the collector's FIFO; its 2 MiB hold 32,768 (R298). -/
def State.fifoLines (s : State) : Nat := (s.ring.fifo.map (fun e => e.2.lines.length)).sum

/-- COLLECTOR_RECORD (R293, R297 to R299): the oldest closed record of a port reaches the collector's FIFO and is dropped as
full where it has no room, outside OPEN as closed. -/
def execCollectorRecord (i : Fin 16) (s : State) : Out :=
  whenClocked s.nocClocked s <| .next <|
    let h := s.hwPort i
    match h.closed with
    | [] => s
    | r :: rest =>
      let s := s.setHw i { h with closed := rest }
      if s.ringSt ≠ 2 then ringDrop F.nearRingDropClosed s
      else if 32768 < s.fifoLines + r.lines.length then ringDrop F.nearRingDropFull s
      else if r.lines.isEmpty then s
      else collect { s with ring := { s.ring with fifo := s.ring.fifo ++ [(i.val, r)] } }

/-- MIGRATE_PAGE (R296, R297): in STAGED mode the oldest page that the head has left and that is not yet migrated goes to
its cave slot, decrypted and encrypted again; it waits for a port that does not serve it. A page on a retired channel or
port, or one the collector skipped, is passed over. -/
def execMigratePage (s : State) : Out :=
  whenClocked s.nocClocked s <| .next <|
    let g := s.ring.migrated
    let live := (s.ringSt = 2 ∨ s.ringSt = 3) ∧ s.ringDirect = false ∧ s.ring.fresh = false
    if live ∧ g < s.ringHead / 64 then
      match s.caveSlot g with
      | none => s
      | some slot =>
        let next (s : State) : State := { s with ring := { s.ring with migrated := g + 1, lost := s.ring.lost.filter (fun x => x != g) } }
        if s.ring.lost.contains g then next s
        else if s.mustSkip g then next (setSkip g true s)
        else if s.cvSt slot.1 ≠ .ready ∨ (s.dom (300 + slot.1)).st ≠ .on then s
        else
          let line (s : State) (k : Nat) : State :=
            let r := memServe .migration (s.ringNear (s.nearSlot g) + 64 * k) (.read 64) s
            let data := (r.data ++ List.replicate 64 0).take 64
            let bad := r.poison || (match r.status with | .ok => false | _ => true)
            (memServe .migration (r.state.ringCave slot + 64 * k) (.write data (List.replicate 64 true) bad) r.state).state
          next (setSkip g false ((List.range 64).foldl line s))
    else s

/-- The epoch counts a realignment or an orbit load (R294). -/
def epochStep (s : State) : State :=
  if s.ring.enabledOnce then s.put F.nearRingStatusEpoch ((s.get F.nearRingStatusEpoch + 1) % 16) else s

/-! ### Ring states (R299) -/

/-- Put the ring into a state. -/
def State.setRingSt (s : State) (n : Nat) : State := s.put F.nearRingStatusState n

/-- Enable the ring from OFF: after a change of its registers the head is 0 and the index empty. -/
def ringEnable (s : State) : State :=
  let s :=
    if s.ring.fresh then
      ({ s with ring := { enabledOnce := s.ring.enabledOnce, fresh := false } }).setPair .nearRingHeadLo .nearRingHeadHi 0
    else s
  ({ s with ring := { s.ring with enabledOnce := true } }).setRingSt 1

/-- The effect of the en field (R299). -/
def ringEn (en : Bool) (s : State) : State :=
  let s := s.putBit F.nearRingCtrlEn en
  match en, s.ringSt with
  | true, 0 => ringEnable s
  | true, 3 => s.flag F.nearRingStatusPendingEnable
  | false, 1 => s.setRingSt 0
  | false, 2 => s.setRingSt 3
  | false, 3 => s.clear F.nearRingStatusPendingEnable
  | _, _ => s

/-- A write of NEAR_RING_CTRL (R295, R299, R312): DENIED for a mode that is neither STAGED nor DIRECT, and for an enable in
DIRECT with no port; BUSY for a change of mode or key outside OFF. -/
def ringCtrlWrite (v : Nat) (s : State) : State × Status :=
  let mode := bits v 9 8
  let key := bits v 4 0
  let change := mode != s.get F.nearRingCtrlMode || key != s.get F.nearRingCtrlKey
  if mode = 0 ∨ mode = 3 ∨ (mode = 2 ∧ bitAt v 31 = true ∧ s.ringPorts.isEmpty = true) then (s, .denied)
  else if change && s.ringSt != 0 then (s, .busy)
  else
    let s := (s.put F.nearRingCtrlMode mode).put F.nearRingCtrlKey key
    let s := if change then { s with ring := { s.ring with fresh := true } } else s
    (ringEn (bitAt v 31) s, .ok)

/-- A write of another ring register (R299). -/
def ringRegWrite (r : RegName) (v : Nat) (s : State) : State × Status :=
  let w := BitVec.ofNat 32 (v % 2 ^ 27)
  if w = s.word r then (s, .ok)
  else if s.ringSt ≠ 0 then (s, .busy)
  else (({ s with ring := { s.ring with fresh := true } }).setWord r w, .ok)

/-- RING_CTRL_WRITE (R299). -/
def execRingCtrlWrite (reg : RingReg) (v : Word) (s : State) : Out :=
  match reg with
  | .ctrl => reply (ringCtrlWrite v.toNat s)
  | .nbase => reply (ringRegWrite .nearRingNbase v.toNat s)
  | .nlen => reply (ringRegWrite .nearRingNlen v.toNat s)
  | .idxBase => reply (ringRegWrite .nearIdxBase v.toNat s)
  | .idxLen => reply (ringRegWrite .nearIdxLen v.toNat s)

/-- The near-store pages from `first` on, `n` of them, are filled: no channel is still to fill up to the last of them. -/
def State.pagesFilled (s : State) (first n : Nat) : Bool :=
  n == 0 || (List.range 36).all (fun c =>
    match s.nearSt c with
    | .training => false
    | .filling => decide ((nearPlace s.mirrored (first + n - 1)).2 < s.get F.nearChFillVal c)
    | _ => true)

/-- RING_OPEN (R299): the near segment, the index and every port of the ring are filled and READY. -/
def execRingOpen (s : State) : Out :=
  .next <|
    if s.ringSt = 1 ∧ s.pagesFilled (s.get F.nearRingNbaseVal) s.nNear = true
        ∧ s.pagesFilled (s.get F.nearIdxBaseVal) (s.get F.nearIdxLenVal) = true
        ∧ s.ringPorts.all (fun p => s.cvSt p == .ready) = true then s.setRingSt 2
    else s

/-- RING_STOP_DONE (R299): every accepted record is written; OFF, or WAIT_FILL when an enable is latched. -/
def execRingStopDone (s : State) : Out :=
  whenClocked s.nocClocked s <| .next <|
    let s := collect s
    if s.ringSt = 3 ∧ s.ring.fifo.isEmpty = true then
      let again := s.bit F.nearRingStatusPendingEnable
      let s := (s.clear F.nearRingStatusPendingEnable).setRingSt 0
      if again then ringEnable s else s
    else s

/-! ### Look-back (R300 to R304) -/

/-- Push a descriptor of eight words (R300). -/
def lookbackPush (ws : List Nat) (s : State) : State × Status :=
  let w (i : Nat) : Nat := ws.getD i 0
  let dest := w 5 + w 6 / 65536 * 2 ^ 32
  let size := (w 6 % 65536 + 1) * 65536
  if 64 ≤ s.lbQueue.length then (s, .busy)
  else if dest % 64 ≠ 0 ∨ isMemory dest = false ∨ isMemory (dest + size - 1) = false then (s, .denied)
  else
    let s := { s with lbQueue := s.lbQueue ++ [(List.range 8).map w] }
    (s.put F.nearLbStatusQueued s.lbQueue.length, .ok)

/-- A write of NEAR_LB_D7 pushes the descriptor. -/
def lbD7Write (v : Nat) (s : State) : State × Status :=
  lookbackPush ((List.range 7).map (fun i => (s.word .nearLbD i).toNat) ++ [v]) s

/-- LOOKBACK_PUSH (R300). -/
def execLookbackPush (v : Word) (s : State) : Out := reply (lbD7Write v.toNat s)

/-- A look-back engine. -/
def State.lbEng (s : State) (e : Nat) : LbEng := Tab.get {} s.lbEngs e

/-- NEAR_LB_STATUS.busy and queued follow the engines and the FIFO. -/
def lbShow (s : State) : State :=
  let busy := ((List.range 4).map (fun e => if (s.lbEng e).busy then 2 ^ e else 0)).sum
  (s.put F.nearLbStatusBusy busy).put F.nearLbStatusQueued s.lbQueue.length

/-- LOOKBACK_START (R301): a free engine takes the next descriptor. -/
def execLookbackStart (e : Fin 4) (s : State) : Out :=
  whenClocked s.nocClocked s <| .next <|
    match s.lbQueue with
    | ws :: rest =>
      if (s.lbEng e).busy || s.frozen F.dbgFreezeLookback then s
      else lbShow { s with lbQueue := rest, lbEngs := Tab.put {} s.lbEngs e { busy := true, words := ws } }
    | [] => s

/-- A stamp moved by 64 crossings, back or forth (R301); flag bits are ignored. -/
def stampBack (l st : Nat) : Nat :=
  let v := st % 2 ^ 62
  if 64 ≤ v % 2 ^ 14 then v - 64 else if v < 2 ^ 14 then 0 else v / 2 ^ 14 * 2 ^ 14 - 2 ^ 14 + (v % 2 ^ 14 + l - 64)
def stampOn (l st : Nat) : Nat :=
  let v := st % 2 ^ 62
  if v % 2 ^ 14 + 64 < l then v + 64 else v / 2 ^ 14 * 2 ^ 14 + 2 ^ 14 + (v % 2 ^ 14 + 64 - l)

/-- The index entries a descriptor finds (R301): of its epoch, from the first entry not earlier than the range less 64
crossings to the first one later than it by more than 64, within the range and the port mask. -/
def lbSearch (ws : List Nat) (s : State) : List IdxEntry :=
  let w (i : Nat) : Nat := ws.getD i 0
  let first := (w 0 + w 1 * 2 ^ 32) % 2 ^ 62
  let last := (w 2 + w 3 * 2 ^ 32) % 2 ^ 62
  let l := s.orbitLen
  let held := s.ring.index.filter (fun e => e.epoch == bits (w 4) 15 12)
  let from_ := held.dropWhile (fun e => decide (e.stamp % 2 ^ 62 < stampBack l first))
  let span := from_.takeWhile (fun e => decide (e.stamp % 2 ^ 62 ≤ stampOn l last))
  span.filter (fun e => decide (first ≤ e.stamp % 2 ^ 62) && decide (e.stamp % 2 ^ 62 ≤ last) && (bits (w 4) 31 16).testBit e.port)

/-- What becomes of a record in a look-back (R302). -/
inductive LbHome where
  | near | cave | tooOld | lost | fault
  deriving DecidableEq, Repr

/-- Where a record is read from (R302). -/
def State.lbHome (s : State) (e : IdxEntry) : LbHome :=
  let g := e.pos / 64
  let head := s.ringHead / 64
  let n := s.ringPorts.length
  if s.ringDirect = false ∧ head ≤ g + s.nNear then (if s.nearDead (s.nearSlot g) then .fault else .near)
  else match s.caveSlot g with
  | none => .tooOld
  | some slot =>
    if g + n * s.get F.caveRingPagesVal < head then .tooOld
    else if s.skipped g then .lost
    else if s.ringDirect = false ∧ s.ring.migrated ≤ g then .tooOld
    else if s.cvSt slot.1 = .retired then .fault else .cave

/-- The result as it is gathered: counts of TOO_OLD, LOST, FAULT and poisoned lines, delivered records, bytes; records left
over from the destination's end. -/
structure LbResult where
  tooOld : Nat := 0
  lost : Nat := 0
  fault : Nat := 0
  poisoned : Nat := 0
  count : Nat := 0
  firstStamp : Nat := 0
  lastStamp : Nat := 0
  bytes : List Byte := []
  truncated : Bool := false

/-- Read the lines of a record: first bad status, data, poisoned lines. -/
def nearRecord (req : Requester) (addr : Nat) : Nat → State → Status × List Byte × Nat × State
  | 0, s => (.ok, [], 0, s)
  | n + 1, s =>
    let r := memServe req addr (.read 64) s
    let st := if r.status = .integrity then .ok else r.status
    let rest := nearRecord req (addr + 64) n r.state
    (firstBad st rest.1, r.data ++ rest.2.1, b2n r.poison + rest.2.2.1, rest.2.2.2)

/-- Deliver a record. -/
def lbDeliver (room : Nat) (e : IdxEntry) (data : List Byte) (poisoned : Nat) (r : LbResult) : LbResult :=
  let bs := bytesOf e.word 16 ++ data
  if room < r.bytes.length + bs.length then { r with truncated := true }
  else
    { r with bytes := r.bytes ++ bs, count := r.count + 1, poisoned := r.poisoned + poisoned, lastStamp := e.stamp
             firstStamp := if r.count = 0 then e.stamp else r.firstStamp }

/-- Gather the records found (R302, R303). -/
def lbGather (eng : Fin 4) (room : Nat) : List IdxEntry → LbResult → State → LbResult × State
  | [], r, s => (r, s)
  | e :: rest, r, s =>
    let g := e.pos / 64
    let read (addr : Nat) : LbResult × State :=
      let d := nearRecord (.lookback eng) (addr + 64 * (e.pos % 64)) e.len s
      (if d.1 = .ok then lbDeliver room e d.2.1 d.2.2.1 r else { r with fault := r.fault + 1 }, d.2.2.2)
    if r.truncated then (r, s)
    else
      let t :=
        match s.lbHome e with
        | .tooOld => ({ r with tooOld := r.tooOld + 1 }, s)
        | .lost => ({ r with lost := r.lost + 1 }, s)
        | .fault => ({ r with fault := r.fault + 1 }, s)
        | .near => read (s.ringNear (s.nearSlot g))
        | .cave => read (s.ringCave ((s.caveSlot g).getD (0, 0)))
      lbGather eng room rest t.1 t.2

/-- The status of a look-back (R304). -/
def lbStatus (found : Nat) (r : LbResult) : Nat :=
  if found = 0 then 2 else if r.truncated then 4 else if r.tooOld = found then 3
  else if 0 < r.tooOld + r.lost + r.fault then 1 else 0

/-- The result header (R303). -/
def lbHeader (status id : Nat) (r : LbResult) : List Byte :=
  bytesOf (status * 2 ^ 28 + id % 65536) 4 ++ bytesOf r.count 4 ++ bytesOf r.bytes.length 8 ++ bytesOf r.tooOld 4
    ++ bytesOf r.lost 4 ++ bytesOf r.fault 4 ++ bytesOf r.poisoned 4 ++ bytesOf r.firstStamp 8 ++ bytesOf r.lastStamp 8
    ++ bytesOf 0 16

/-- Free bytes: what a discarded request leaves in the part of the destination already written (R304). -/
def freeBytes (n : Nat) (s : State) : List Byte × State :=
  ((List.range n).map (fun i => BitVec.ofNat 8 (Config.freeValue (s.free + i))), { s with free := s.free + n })

/-- LOOKBACK_COMPLETE (R302 to R304): the engine writes its result, NEAR_LB_LAST, and posts a token if asked. `fault`: a fault
of the engine discards the request. -/
def execLookbackComplete (e : Fin 4) (fault : Bool) (s : State) : Out :=
  whenClocked s.nocClocked s <| .next <|
    let eng := s.lbEng e
    if eng.busy = false ∨ s.frozen F.dbgFreezeLookback = true then s
    else
      let w (i : Nat) : Nat := eng.words.getD i 0
      let dest := w 5 + w 6 / 65536 * 2 ^ 32
      let room := (w 6 % 65536 + 1) * 65536 - 64
      let found := lbSearch eng.words s
      let g := lbGather e room found {} s
      let st := lbStatus found.length g.1
      let image := lbHeader st (w 7) g.1 ++ g.1.bytes
      let wrote :=
        if fault then
          let f := freeBytes image.length g.2
          engineWrite (.lookback e) dest f.1 f.2
        else engineWrite (.lookback e) dest image g.2
      let st := if fault || wrote.status != .ok then 5 else st
      let word := st * 2 ^ 28 + e.val * 2 ^ 26 + w 7 % 65536
      let s := wrote.state.put F.nearLbLastVal word
      let s := lbShow { s with lbEngs := Tab.put {} s.lbEngs e {} }
      if bitAt (w 7) 31 then s.postToken (bits (w 7) 29 16) word else s

/-! ### Look-back transmit channels (R305) -/

/-- A transmit channel. -/
def State.lbtxCh (s : State) (t : Nat) : LbtxSt := Tab.get {} s.lbtx t

/-- Read the bytes of a transfer, line by line with their poison. -/
def lbtxLines (req : Requester) : Nat → Nat → Nat → State → List (List Byte × Bool) × State
  | 0, _, _, s => ([], s)
  | n + 1, addr, len, s =>
    if len = 0 then ([], s)
    else
      let k := min len (64 - addr % 64)
      let r := memServe req addr (.read k) s
      let rest := lbtxLines req n (addr + k) (len - k) r.state
      let bad := r.poison || (match r.status with | .ok => false | _ => true)
      (((r.data ++ List.replicate k 0).take k, bad) :: rest.1, rest.2)

/-- A write of NEAR_LBTX_CTRL (R305): go sends NEAR_LBTX_LEN bytes; refused with DENIED while the channel is not enabled or
its bundle is not in detector mode, BUSY while it sends. -/
def lbtxWrite (t : Fin 2) (v : Nat) (s : State) : State × Status :=
  if s.bit F.nearLbtxCtrlGo t then (s, .busy)
  else
    let set (s : State) : State := (s.put F.nearLbtxCtrlQueue (bits v 29 16) t).put F.nearLbtxCtrlReq (bits v 15 0) t
    if bitAt v 31 then
      let b := s.get F.nearLbtxCfgBundle t
      if s.bit F.nearLbtxCfgEn t = false ∨ 48 ≤ b ∨ s.get F.laneCfgMode b ≠ modeDetector then (s, .denied)
      else
        let len := s.get F.nearLbtxLenVal t
        let r := lbtxLines (.lbtx t) (len / 64 + 2) (s.pair .nearLbtxAddrLo .nearLbtxAddrHi t % 2 ^ 48) len (set s)
        let s := r.2.flag F.nearLbtxCtrlGo t
        ({ s with lbtx := Tab.put {} s.lbtx t { frame := 0, data := r.1 } }, .ok)
    else (set s, .ok)

/-- LBTX_SEND (R305). -/
def execLbtxSend (t : Fin 2) (v : Word) (s : State) : Out := reply (lbtxWrite t (2 ^ 31 + v.toNat % 2 ^ 31) s)

/-- Take up to `n` bytes from the front of a transfer: bytes, poison, rest. -/
def takeBytes : Nat → List (List Byte × Bool) → List Byte × Bool × List (List Byte × Bool)
  | _, [] => ([], false, [])
  | n, (bs, p) :: rest =>
    if n = 0 then ([], false, (bs, p) :: rest)
    else if bs.length ≤ n then
      let r := takeBytes (n - bs.length) rest
      (bs ++ r.1, p || r.2.1, r.2.2)
    else (bs.take n, p, (bs.drop n, p) :: rest)

/-- The delivery header of a frame (R305). -/
def lbtxHeader (req frame : Nat) (last : Bool) (n : Nat) : Nat :=
  req % 2 ^ 16 * 2 ^ 48 + frame % 2 ^ 24 * 2 ^ 24 + (if frame = 0 then 2 ^ 23 else 0) + b2n last * 2 ^ 22 + n % 2 ^ 16

/-- Fill the data lanes of a sending channel for the present boundary (R305). -/
def lbtxFill (t : Nat) (s : State) : State :=
  if s.bit F.nearLbtxCtrlGo t && !s.frozen F.dbgFreezeLookback then
    let b := s.get F.nearLbtxCfgBundle t
    let m := s.frameBits b
    let per := (m - 128) / 8
    (List.range 8).foldl
      (fun s i =>
        let c := s.lbtxCh t
        if c.data.isEmpty then s
        else
          let r := takeBytes per c.data
          let head := lbtxHeader (s.get F.nearLbtxCtrlReq t) c.frame r.2.2.isEmpty r.1.length
          let payload := head * 2 ^ (m - 128) + beVal r.1 * 2 ^ (m - 128 - 8 * r.1.length)
          let w : TxWord := { data := payload, user := false, poison := r.2.1 }
          let s := s.modLane b i (fun l => { l with tx := Tab.set l.tx s.mt.boundary w })
          { s with lbtx := Tab.put {} s.lbtx t { frame := c.frame + 1, data := r.2.2 } }) s
  else s

/-- The transmit channels at a crossing boundary. -/
def lbtxBoundary (s : State) : State := lbtxFill 1 (lbtxFill 0 s)

/-- LBTX_DONE (R305): the last frame has been sent; go reads 0 again. -/
def execLbtxDone (t : Fin 2) (s : State) : Out :=
  whenClocked s.nocClocked s <| .next <|
    if s.bit F.nearLbtxCtrlGo t ∧ (s.lbtxCh t).data.isEmpty = true then
      ({ s with lbtx := Tab.put {} s.lbtx t {} }).clear F.nearLbtxCtrlGo t
    else s

end Sys2Proof.Machine
end

