-- ==== Sys2Proof/Machine/Noc.lean ====
section
/-!
DEFINITION. The packet network (11): routes, requests and responses at the network interfaces, timeouts, routers with
their drains and spares.
-/
namespace Sys2Proof.Machine

/-! ### Endpoints and paths (R338, R340, R341, R348) -/

/-- NI number of port `p` of router (x, y) (R338). -/
def niAt (x y p : Nat) : Nat := 2 * (12 * y + x) + p

/-- NI of a near-store channel (R340). -/
def niNear (c : Nat) : Nat := if c < 12 then niAt 0 c 0 else if c < 24 then niAt 11 (c - 12) 0 else niAt (c - 24) 0 1

/-- NI of a cave port. -/
def niCave (p : Nat) : Nat := if p < 10 then niAt (p + 1) 11 0 else niAt (p - 9) 11 1

/-- NI of tile router `t` of Quill group `g`, on port `p`. -/
def niTile (g t p : Nat) : Nat := niAt (1 + 2 * (g % 4) + t % 2) (1 + 2 * (g / 4) + t / 2) p

/-- NI of the Work Exchange, of Sceum, of the block-bank window, of the register port. -/
def niExchange : Nat := niAt 5 9 0
def niSceum : Nat := niAt 2 0 0
def niWindow : Nat := niAt 5 10 0
def niRegs : Nat := niAt 6 10 0

/-- A local port of a router has an NI (R340). -/
def niPresent (n : Nat) : Bool :=
  let x := n / 2 % 12
  let y := n / 24
  if n % 2 = 0 then
    x == 0 || x == 11 || y == 0 || y == 11 || (decide (1 ≤ y) && decide (y ≤ 8)) || (y == 9 && x != 6) || (y == 10 && (x == 5 || x == 6))
  else y == 0 || (decide (1 ≤ x) && ((y == 11 && decide (x ≤ 6)) || (decide (1 ≤ y) && decide (y ≤ 8) && decide (x ≤ 10))))

/-- The NI of a block that issues requests (R340); commands of the host leave through the NI of Ethernet. -/
def niOfReq : Requester → Nat
  | .core n => niTile (n / 8) (n % 8 / 2) 0
  | .fabPort i => niAt (9 + i / 8) (i % 8 + 1) 1
  | .writer i => niAt (9 + i / 8) (i % 8 + 1) 0
  | .pmu c => niAt (1 + c) 9 0
  | .scrub e => niAt (7 + e) 9 0
  | .lookback e => niAt (4 + e) 0 0
  | .lbtx t => niAt (8 + t) 0 0
  | .host | .ethernet => niAt 1 0 0
  | .debug | .sceum => niSceum
  | .loader => niAt 3 0 0
  | .engine => niAt 10 9 0
  | .collector => niAt 10 0 0
  | .migration => niAt 9 9 0
  | .exchange => niExchange

/-- Destination NI of a system address; none where the source NI answers DECODE (R341). -/
def State.niOf (s : State) (addr : Nat) : Option Nat :=
  let o := offsetOf addr
  if o < 2 ^ 32 then
    if keyId addr ≠ 0 then none
    else if 0x10000000 ≤ o ∧ o < 0x14000000 then
      let b := (o - 0x10000000) / 0x40000
      some (niTile (b / 16) (b % 16 / 4) 1)
    else if 0x20000000 ≤ o ∧ o < 0x20800000 then
      let q := (o - 0x20000000) / 0x10000
      some (niTile (q / 8) (q % 8 / 2) 0)
    else if 0x40000000 ≤ o ∧ o < 0x44000000 then some niWindow
    else if o < 0x1100000 then some niRegs
    else none
  else if nearStart ≤ o ∧ o < nearEnd then
    let place := nearPlace s.mirrored ((o - nearStart) / 4096)
    if s.chPages ≤ place.2 then none else some (niNear (s.nearServer place.1))
  else if caveStart ≤ o ∧ o < caveStart + 2 ^ 41 then
    if caveGate .engine addr s = some .decode then none else some (niCave (cavePort o))
  else none

/-- Power domain of an NI: near-store channels, cave ports and Quill tiles have one (01 R17). -/
def niDom (ni : Nat) : Option Nat :=
  match (List.range 36).find? (fun c => niNear c == ni) with
  | some c => some (200 + c)
  | none =>
    match (List.range 16).find? (fun p => niCave p == ni) with
    | some p => some (300 + p)
    | none =>
      match (List.range 64).find? (fun k => niTile (k / 4) (k % 4) 0 == ni) with
      | some k => some (100 + k / 4)
      | none => none

/-- The NI is fenced: its domain is not ON (R364). -/
def State.fenced (s : State) (ni : Nat) : Bool :=
  match niDom ni with
  | some d => decide ((s.dom d).st ≠ .on)
  | none => false

/-- Routers on the way between two routers, both included: along x, then along y (R348). -/
def xyPath (a b : Nat) : List Nat :=
  let ax := a % 12
  let ay := a / 12
  let bx := b % 12
  let by' := b / 12
  let xs := (List.range 12).filter (fun x => (decide (ax ≤ x) && decide (x ≤ bx)) || (decide (bx ≤ x) && decide (x ≤ ax)))
  let ys := (List.range 12).filter (fun y => (decide (ay ≤ y) && decide (y ≤ by')) || (decide (by' ≤ y) && decide (y ≤ ay)))
  let xs := if ax ≤ bx then xs else xs.reverse
  let ys := if ay ≤ by' then ys else ys.reverse
  xs.map (fun x => 12 * ay + x) ++ (ys.drop 1).map (fun y => 12 * y + bx)

/-- Router states (R359): 0 RUN, 1 DRAIN, 2 RECONF, 3 DEAD. -/
def State.rtrSt (s : State) (r : Nat) : Nat := s.get F.nocRtrStatusState r

/-- The router at the other end of the link at input `d` (0 N, 1 E, 2 S, 3 W) of a router. -/
def neighbour (r d : Nat) : Option Nat :=
  match d with
  | 0 => if 12 ≤ r then some (r - 12) else none
  | 1 => if r % 12 < 11 then some (r + 1) else none
  | 2 => if r < 132 then some (r + 12) else none
  | _ => if 0 < r % 12 then some (r - 1) else none

/-- The link from one router to the next is DEAD (R361). -/
def State.linkDead (s : State) (a b : Nat) : Bool :=
  (List.range 4).any (fun d => neighbour b d == some a && (s.get F.nocRtrStatusDeadLink b).testBit d)

/-- The last router before a DEAD router or link on a path, where the packet is discarded (R362). -/
def State.deadBefore (s : State) : Nat → List Nat → Option Nat
  | _, [] => none
  | before, r :: rest => if s.rtrSt r = 3 ∨ s.linkDead before r = true then some before else s.deadBefore r rest

/-- The router that discards a packet from one NI to another, if any (R362). -/
def State.cutAt (s : State) (src dst : Nat) : Option Nat := s.deadBefore (src / 2) (xyPath (src / 2) (dst / 2))

/-- A router discards packets. -/
def rtrDiscard (r n : Nat) (s : State) : State := s.addSat F.nocRtrErrcntDiscards n r

/-- The code of a response status (11 R346). -/
def statusCode : Status → Nat
  | .ok => 0 | .decode => 1 | .denied => 2 | .busy => 3 | .domainOff => 4 | .fault => 5 | .integrity => 6
  | .keyExhausted => 7 | .nocTimeout => 8

/-! ### Network interfaces (R341, R345, R353, R357, R358, R364, R365) -/

/-- A network interface. -/
def State.ni (s : State) (n : Nat) : NiSt := Tab.get {} s.noc.nis n

/-- Change a network interface. -/
def State.modNi (s : State) (n : Nat) (f : NiSt → NiSt) : State :=
  { s with noc := { s.noc with nis := Tab.put {} s.noc.nis n (f (s.ni n)) } }

/-- FP_TX_RDY of a fabric packet port: the network has its clock (16 R526), and no packet waits in the port's NI to start. -/
def State.fpReady (s : State) (i : Nat) : Bool := s.nocClocked && (s.ni (niOfReq (.fabPort (Fin.ofNat 16 i)))).wait.isEmpty

/-- A transaction id rests until a powered time, which is not far ahead (R358). -/
def State.idRests (s : State) (until_ : Nat) : Bool :=
  elapsed until_ s.pt != 0 && decide (elapsed until_ s.pt < 2 ^ 63)

/-- A transaction id that may be used (R358). -/
def State.freeTxn (s : State) (n : Nat) : Option Nat :=
  let q := s.ni n
  (List.range 1024).find? (fun t => !q.outs.any (fun r => r.txn == t) && !q.held.any (fun h => h.1 == t && s.idRests h.2))

/-- Virtual channel of a request (R345): VC3 for Sceum and the Work Exchange, and for the debug port (19 R587). -/
def vcOf (req : Requester) (vc : Nat) : Nat :=
  match req with
  | .sceum => 3
  | .exchange => 3
  | .debug => 3
  | _ => vc

/-! ### Flits (R342 to R344) -/

/-- CRC-16 with polynomial 0x8BB7 over the low `n` bits of `v`, the most significant first, from a value on (R344). -/
def crc16 (v : Nat) : Nat → Nat → Nat
  | 0, acc => acc
  | n + 1, acc => crc16 v n ((acc * 2 % 65536) ^^^ (if acc.testBit 15 != v.testBit n then 0x8BB7 else 0))

/-- A flit with its sideband (R344): virtual channel, type, poison, and the CRC of data and sideband, data first (log entry
114). -/
def flit (vc ftype : Nat) (poison : Bool) (data : Nat) : Nat × Nat :=
  let side := vc % 4 * 8 + ftype % 4 * 2 + b2n poison
  (data, side * 65536 + crc16 (data * 32 + side) 517 0)

/-- The place of an NI in a head flit: x, y, port. -/
def niPlace (n : Nat) : Nat := n / 2 % 12 * 32 + n / 24 * 2 + n % 2

/-- The payload travels inline (R343). -/
def Packet.inlined (p : Packet) : Bool := decide (p.payload.length ≤ 32)

/-- The byte enables of an inline payload; a payload without byte enables of its own is enabled whole. -/
def Packet.enables (p : Packet) : Nat :=
  if p.inlined then (List.range p.payload.length).foldl (fun v i => if p.be.getD i (p.be == []) then v + 2 ^ i else v) 0 else 0

/-- The head flit of a packet (R342). -/
def Packet.head (p : Packet) : Nat :=
  p.cmd * 2 ^ 508 + niPlace p.dst * 2 ^ 495 + niPlace p.src * 2 ^ 486 + p.txn % 1024 * 2 ^ 476 + b2n p.retry * 2 ^ 475
    + (p.len - 1) % 8192 * 2 ^ 462 + p.addr % 2 ^ 48 * 2 ^ 414 + p.enables * 2 ^ 382 + p.aop * 2 ^ 378
    + (if p.inlined then ofBytes p.payload else 0)

/-- The 64-byte pieces of a payload. -/
def Packet.pieces (p : Packet) : List Nat :=
  (List.range ((p.payload.length + 63) / 64)).map (fun k => ofBytes ((p.payload.drop (64 * k)).take 64))

/-- The flits of a packet: the head alone with its payload inline, or the head and the data flits (R343, R344, R347). -/
def Packet.flits (p : Packet) : List (Nat × Nat) :=
  if p.inlined then [flit p.vc 3 (p.poison && p.payload != []) p.head]
  else
    let n := p.pieces.length
    flit p.vc 0 false p.head :: p.pieces.zipIdx.map (fun d => flit p.vc (if d.2 + 1 = n then 2 else 1) p.poison d.1)

/-! ### Injection regulator (R354) -/

/-- 1,024 clocks of the network in nanoseconds, as a fraction: the NPLL's 25 MHz x n / d, or 1.0 GHz (16 R520). -/
def State.nocTurn (s : State) : Nat × Nat :=
  if s.bit F.clkStatusNocPpll then (1024, 1) else (40960 * s.get F.clkNocD, s.get F.clkNocN)

/-- The NI regulates a virtual channel: VC0 and VC2, at a rate of 1 to 1,023. -/
def State.regulated (s : State) (n vc : Nat) : Bool :=
  (vc == 0 || vc == 2) && s.get F.nocNiRegRate n != 0 && decide (s.get F.nocNiRegRate n < 1024)

/-- The balance of an NI now, and the powered time of its last increase. -/
def State.niBalance (s : State) (n : Nat) : Int × Nat :=
  let q := s.ni n
  let t := s.nocTurn
  let turns := s.since q.balanceAt * t.2 / t.1
  (min ((max 1 (s.get F.nocNiRegBurst n) : Nat) : Int) (q.balance + (turns * s.get F.nocNiRegRate n : Nat)),
    (q.balanceAt + turns * t.1 / t.2) % 2 ^ 64)

/-- A packet may start on a virtual channel of an NI. -/
def State.mayStart (s : State) (n vc : Nat) : Bool := !s.regulated n vc || decide (0 < (s.niBalance n).1)

/-- An NI sends flits on a virtual channel. -/
def niSpend (n vc flits : Nat) (s : State) : State :=
  if s.regulated n vc then
    let b := s.niBalance n
    s.modNi n (fun q => { q with balance := b.1 - (flits : Nat), balanceAt := b.2 })
  else s

/-- A write of NOC_NI_REG: what the balance has gained at the old rate is settled first. -/
def niRegWrite (mask n v : Nat) (s : State) : State × Status :=
  let b := s.niBalance n
  let s := s.modNi n (fun q => { q with balance := b.1, balanceAt := b.2 })
  (s.setWord .nocNiReg (BitVec.ofNat 32 (v &&& mask)) n, .ok)

/-- Take a request off its NI. -/
def dropReq (n txn : Nat) (s : State) : State := s.modNi n (fun q => { q with outs := q.outs.filter (fun r => r.txn != txn) })

/-- A core beyond its registers. -/
def State.core (s : State) (n : Nat) : CoreSt := Tab.get {} s.cores n

/-- Change a core's data. -/
def State.modCore (s : State) (n : Nat) (f : CoreSt → CoreSt) : State := { s with cores := Tab.put {} s.cores n (f (s.core n)) }

/-- A store of a core has its response: it is no longer outstanding (12 R373). -/
def storeDone (n addr : Nat) (s : State) : State :=
  s.modCore n (fun c =>
    { c with stores := c.stores.takeWhile (fun e => e.2 != addr) ++ (c.stores.dropWhile (fun e => e.2 != addr)).drop 1 })

/-- A response comes to a core: to its outstanding load or AMO, or to one of its stores, of which an error is kept for it (12
R373, R377). -/
def coreAnswered (n : Nat) (r : NocReq) (st : Status) (data : Nat) (poison : Bool) (s : State) : State :=
  if r.cmd = 1 then
    if st = .ok then storeDone n r.addr s else s.modCore n (fun c => { c with storeErrs := c.storeErrs ++ [(r.addr, st)] })
  else s.modCore n (fun c => { c with answer := some (st, data, poison) })

/-- A request ends with a response: the debug port takes the result of the access it waits for, and discards a late one (19
R587); a core takes it when it comes to it; any other requester is answered. -/
def respond (r : NocReq) (st : Status) (data : Nat) (poison : Bool) (s : State) : State :=
  match r.req with
  | .debug =>
    if s.dbg.running = some (r.addr, r.txn) then
      { s with dbg := { s.dbg with running := none, result := (statusCode st, data, poison) } }
    else s
  | .core n => coreAnswered n r st data poison s
  | _ => s.answer st data poison

/-- A request of the debug port goes by its transaction id from the moment it starts. -/
def debugStarts (r : NocReq) (txn : Nat) (s : State) : State :=
  match r.req with
  | .debug => if s.dbg.running = some (r.addr, r.txn) then { s with dbg := { s.dbg with running := some (r.addr, txn) } } else s
  | _ => s

/-- Send a non-posted request's packet: a DEAD router on its way answers FAULT, a fenced destination DOMAIN_OFF; else the
response comes later (R362, R364). -/
def sendReq (n : Nat) (r : NocReq) (s : State) : State :=
  match s.niOf r.addr with
  | none => respond r .decode 0 false (dropReq n r.txn s)
  | some dst =>
    let p : Packet :=
      { src := n, dst := dst, cmd := r.cmd, vc := r.vc, txn := r.txn, retry := decide (0 < r.tries), addr := r.addr,
        len := r.len, payload := r.payload, be := r.be, aop := r.aop, poison := r.poison }
    let s := (niSpend n r.vc p.flits.length s).emit (.packet p p.flits)
    match s.cutAt n dst with
    | some at_ => respond r .fault 0 false (dropReq n r.txn (rtrDiscard at_ 1 s))
    | none => if s.fenced dst then respond r .domainOff 0 false (dropReq n r.txn s) else s

/-- A posted packet on its way to an NI: dropped and counted at a DEAD router or at a fence (R362, R364); whether it
arrives. -/
def sendPosted (p : Packet) (s : State) : Bool × State :=
  let s := (niSpend p.src p.vc p.flits.length s).emit (.packet p p.flits)
  match s.cutAt p.src p.dst with
  | some at_ => (false, rtrDiscard at_ 1 s)
  | none =>
    if s.fenced p.dst then (false, (s.bump F.nocNiCntFenced p.dst).flag F.nocErrFencedDrop) else (true, s)

/-- A token has come to the Work Exchange. -/
def tokenArrives (r : NocReq) (s : State) : State := s.postToken (r.addr % 16384) (ofBytes r.payload)

/-- A packet starts at its source NI: a request takes a transaction id, which the caller has found free. -/
def niStart (n : Nat) (r : NocReq) (s : State) : State :=
  if r.cmd = 4 then
    let o := sendPosted { src := n, dst := niExchange, cmd := 4, vc := r.vc, addr := r.addr, len := r.len, payload := r.payload } s
    if o.1 then tokenArrives r o.2 else o.2
  else if r.cmd = 2 then
    match s.niOf r.addr with
    | none => s
    | some dst =>
      (sendPosted { src := n, dst := dst, cmd := 2, vc := r.vc, addr := r.addr, len := r.len
                    payload := r.payload, be := r.be, poison := r.poison } s).2
  else match s.freeTxn n with
    | none => s
    | some txn =>
      let s := debugStarts r txn s
      let r := { r with txn := txn }
      sendReq n r (s.modNi n (fun q => { q with outs := q.outs ++ [r], held := q.held.filter (fun h => h.1 != txn) }))

/-- A head flit can leave its source NI: the injection regulator lets it, the local router takes head flits (R359), a request
has a transaction id, and none waits before it on its virtual channel. NIs are held without the network's clock (16 R526). -/
def State.canStart (s : State) (n : Nat) (r : NocReq) : Bool :=
  s.nocClocked && s.mayStart n r.vc && s.rtrSt (n / 2) != 1 && s.rtrSt (n / 2) != 2 && (r.cmd == 2 || r.cmd == 4 || (s.freeTxn n).isSome)
    && !(s.ni n).wait.any (fun w => w.vc == r.vc)

/-- Packets at a source NI, oldest first: each starts, or waits (R353, R354, R356). -/
def niServe (n : Nat) : List NocReq → State → State
  | [], s => s
  | r :: rest, s =>
    niServe n rest (if s.canStart n r then niStart n r s else s.modNi n (fun q => { q with wait := q.wait ++ [r] }))

/-- The packets that wait at an NI start as far as they can; those of a fenced NI are gone (R365). -/
def niDrain (n : Nat) (s : State) : State :=
  match (s.ni n).wait with
  | [] => s
  | w => niServe n (if s.fenced n then [] else w) (s.modNi n (fun q => { q with wait := [] }))

/-- The packets that wait at all NIs start as far as they can. -/
def nocDrain (s : State) : State := s.noc.nis.foldl (fun s e => niDrain e.1 s) s

/-- A source NI accepts a packet of its block (R340): a fenced NI issues none (R365); an address that decodes as DECODE is
answered so at once, and a posted write to it dropped and counted (R341). -/
def nocRequest (n : Nat) (r : NocReq) (s : State) : State :=
  if niPresent n = false ∨ s.fenced n = true then s
  else if r.cmd ≠ 4 ∧ (s.niOf r.addr).isNone = true then
    if r.cmd = 2 then (s.bump F.nocStatDecodeDrop).flag F.nocErrDecodeDrop else respond r .decode 0 false s
  else niServe n [r] s

/-- A block sends from its own NI (R340). -/
def blockRequest (n : Nat) (r : NocReq) (s : State) : State := if niOfReq r.req = n then nocRequest n r s else s

/-- NOC_READ (R345). -/
def execNocRead (ni : Fin 288) (req : Requester) (addr : BitVec 48) (len : Nat) (s : State) : Out :=
  .next (blockRequest ni { req := req, cmd := 0, addr := addr.toNat, len := len, vc := vcOf req 0 } s)

/-- NOC_WRITE (R345). -/
def execNocWrite (ni : Fin 288) (req : Requester) (addr : BitVec 48) (data : List Byte) (be : List Bool) (poison : Bool)
    (s : State) : Out :=
  .next (blockRequest ni
    { req := req, cmd := 1, addr := addr.toNat, len := data.length, payload := data, be := be, poison := poison, vc := vcOf req 0 } s)

/-- NOC_ATOMIC (R345). -/
def execNocAtomic (ni : Fin 288) (req : Requester) (addr : BitVec 48) (aop : Fin 16) (size : Nat) (operand : DWord)
    (s : State) : Out :=
  .next (blockRequest ni
    { req := req, cmd := 3, addr := addr.toNat, len := size, payload := bytesOf operand.toNat size, aop := aop, vc := vcOf req 0 } s)

/-- NOC_PWRITE (R341, R345, R354): a posted write; to an address that decodes as DECODE it is dropped and counted. -/
def execNocPwrite (ni : Fin 288) (req : Requester) (addr : BitVec 48) (data : List Byte) (be : List Bool) (poison : Bool)
    (s : State) : Out :=
  .next (blockRequest ni
    { req := req, cmd := 2, addr := addr.toNat, len := data.length, payload := data, be := be, poison := poison, vc := vcOf req 2 } s)

/-- NOC_TOKEN (R341, R345, R354): to the Work Exchange, not decoded. -/
def execNocToken (ni : Fin 288) (queue : BitVec 14) (v : DWord) (s : State) : Out :=
  .next (nocRequest ni
    { req := .engine, cmd := 4, addr := queue.toNat, len := 8, payload := bytesOf v.toNat 8
      vc := if ni.val = niSceum ∨ ni.val = niExchange then 3 else 2 } s)

/-- NOC_RESP (R358, R365): a response matched to its request comes to the requester; any other, or one for a fenced
domain, is discarded and counted as late. A response whose way is cut is discarded at a router (R362). -/
def execNocResp (ni : Fin 288) (txn : Nat) (status : Status) (data : List Byte) (poison : Bool) (s : State) : Out :=
  whenClocked s.nocClocked s <| .next <|
    match (s.ni ni).outs.find? (fun r => r.txn == txn) with
    | some r =>
      if s.fenced ni then (dropReq ni txn s).bump F.nocNiCntLate ni
      else match (s.niOf r.addr).bind (fun dst => s.cutAt dst ni) with
        | some at_ => rtrDiscard at_ 1 s
        | none =>
          niDrain ni (respond r status (ofBytes data) (poison || status == .integrity) (dropReq ni txn s))
    | none => s.bump F.nocNiCntLate ni

/-- NOC_NI_CFG.rto in nanoseconds: values below 16 µs count as 16 (R357, R366). -/
def State.rtoNs (s : State) (n : Nat) : Nat := max 16 (s.get F.nocNiCfgRto n) * 1000

/-- The request may be re-issued: a READ, or a WRITE of whole aligned lines to the near store or the cave (R357). -/
def NocReq.repeatable (r : NocReq) : Bool :=
  r.cmd == 0 || (r.cmd == 1 && decide (nearStart ≤ offsetOf r.addr) && r.addr % 64 == 0 && r.len % 64 == 0)

/-- A request returned with E_NOC_TIMEOUT is re-issued while it may be, else the requester has it (R357). -/
def retryOrReturn (n : Nat) (r : NocReq) (s : State) : State :=
  let s := s.bump F.nocNiCntTimeouts n
  if r.repeatable ∧ r.tries < s.get F.nocNiCfgRetries n then
    niServe n [{ r with tries := r.tries + 1 }] (s.bump F.nocNiCntReissues n)
  else respond r .nocTimeout 0 false s

/-- A request meets E_NOC_TIMEOUT; its id rests (R357, R358). -/
def reqTimeout (n txn : Nat) (s : State) : State :=
  match (s.ni n).outs.find? (fun r => r.txn == txn) with
  | none => s
  | some r =>
    let until_ := (s.pt + 2 * s.rtoNs n) % 2 ^ 64
    retryOrReturn n r ((dropReq n txn s).modNi n (fun q => { q with held := (txn, until_) :: q.held.filter (fun h => h.1 != txn) }))

/-- NOC_RESPONSE_TIMEOUT (R357). -/
def execNocResponseTimeout (ni : Fin 288) (txn : Nat) (s : State) : Out :=
  whenClocked s.nocClocked s <| .next (reqTimeout ni txn s)

/-- A router has discarded a packet: a request, by NI and transaction, is answered; any other is dropped and counted. -/
def packetLost (answer : Nat → Nat → State → State) (req : Option (Fin 288 × Nat)) (s : State) : State :=
  match req with
  | some q => answer q.1 q.2 s
  | none => s

/-- A request discarded by a router is answered FAULT (R359, R361). -/
def reqFault (n txn : Nat) (s : State) : State :=
  match (s.ni n).outs.find? (fun r => r.txn == txn) with
  | none => s
  | some r => respond r .fault 0 false (dropReq n txn s)

/-- A head flit has waited 10 µs in its source NI: the oldest that waits there is returned to its requester, and nothing
enters the network (R356). -/
def niStall (n : Nat) (s : State) : State :=
  match (s.ni n).wait with
  | [] => s
  | r :: rest => retryOrReturn n r ((s.modNi n (fun q => { q with wait := rest })).flag F.nocErrStallDiscard)

/-- NOC_STALL_TIMEOUT (R356): a head flit has waited 10 µs at an input of a router, which discards its packet, or in its
source NI. -/
def execNocStallTimeout (at_ : StallAt) (s : State) : Out :=
  whenClocked s.nocClocked s <| .next <|
    match at_ with
    | .router r req => packetLost reqTimeout req (rtrDiscard r 1 (s.flag F.nocErrStallDiscard))
    | .ni n => niStall n s

/-! ### Routers (R350, R355, R359 to R363) -/

/-- The object word of a router. -/
def rtrObj (r : Nat) : Nat := objWord 4 r

/-- The next latched drain is carried out once no router drains or reconfigures (R360). -/
def nextDrain (s : State) : State :=
  match s.noc.active, s.noc.latched with
  | none, (r, why) :: rest =>
    let s := { s with noc := { s.noc with active := some (r, why), latched := rest } }
    let s := s.put F.nocRtrStatusState 1 r
    let s := s.putBit F.nocRtrStatusPendingDrain (rest.any (fun d => d.1 == r)) r
    s.put F.nocStatQueued (min rest.length 255)
  | _, _ => s

/-- A drain for a fault goes ahead of those for commands (R360). -/
def DrainFor.isFault : DrainFor → Bool
  | .crossbar => true
  | .link _ => true
  | .command => false
  | .reinstate => false

/-- Latch a drain; each cause of a router once (R360). -/
def latchDrain (r : Nat) (why : DrainFor) (s : State) : State :=
  if s.noc.latched.contains (r, why) then s
  else
    let faults := s.noc.latched.filter (fun d => d.2.isFault)
    let commands := s.noc.latched.filter (fun d => !d.2.isFault)
    let all := if why.isFault then faults ++ [(r, why)] ++ commands else faults ++ commands ++ [(r, why)]
    let s := { s with noc := { s.noc with latched := all } }
    nextDrain ((s.flag F.nocRtrStatusPendingDrain r).put F.nocStatQueued (min all.length 255))

/-- A drain by command (R359, R360): a DEAD router drains only at its reinstatement. -/
def routerDrain (r : Nat) (s : State) : State := if s.rtrSt r = 3 then s else latchDrain r .command s

/-- ROUTER_DRAIN (R360). -/
def execRouterDrain (r : Fin 144) (s : State) : Out := reply (routerDrain r s, .ok)

/-- Reinstate a router (R363): a DEAD one drains; any other is left. -/
def routerReinstate (r : Nat) (s : State) : Nat × State :=
  if s.rtrSt r = 3 then (1, latchDrain r .reinstate s) else (0, s)

/-- ROUTER_REINSTATE (R363). -/
def execRouterReinstate (r : Fin 144) (s : State) : Out := reply ((routerReinstate r s).2, .ok)

/-- A write of NOC_RTR_CMD. -/
def rtrCmdWrite (r v : Nat) (s : State) : State × Status :=
  let s := if bitAt v 1 then (routerReinstate r s).2 else s
  (if bitAt v 0 then routerDrain r s else s, .ok)

/-- ROUTER_DRAIN_END (R359): the router is empty, or 7.5 µs have passed and the packets still inside are discarded: requests,
by NI and transaction, are answered FAULT, the others dropped; all are counted. -/
def execRouterDrainEnd (r : Fin 144) (discarded : List (Option (Fin 288 × Nat))) (s : State) : Out :=
  whenClocked s.nocClocked s <| .next <|
    if s.rtrSt r = 1 then
      let s := if discarded = [] then s else (rtrDiscard r discarded.length s).flag F.nocErrDrainDiscard
      (discarded.foldl (fun s q => packetLost reqFault q s) s).put F.nocRtrStatusState 2 r
    else s

/-- NOC_STAT.dead and spare_xbar. -/
def nocCounts (s : State) : State :=
  let s := s.put F.nocStatDead (((List.range 144).filter (fun r => s.rtrSt r == 3)).length)
  s.put F.nocStatSpareXbar (((List.range 144).filter (fun r => s.bit F.nocRtrStatusSpareXbar r)).length)

/-- A router goes DEAD: it leaves that state by reinstatement only, so the drains latched for it are gone (R359, R363; log
entry 122). -/
def routerDead (r : Nat) (s : State) : State :=
  let rest := s.noc.latched.filter (fun d => d.1 != r)
  let s := { s with noc := { s.noc with latched := rest } }
  let s := (s.clear F.nocRtrStatusPendingDrain r).put F.nocStatQueued (min rest.length 255)
  ((s.put F.nocRtrStatusState 3 r).flag F.nocErrDead).raise .nocDead (rtrObj r)

/-- A spare is taken into use (R361). -/
def nocRetired (r : Nat) (s : State) : State := (s.flag F.nocErrRetired).raise .nocRetired (rtrObj r)

/-- What a reconfiguration finds (R359, R361, R363): whether the router comes back. `wires`: failing wires of the link
tested; `xbar`: at a reinstatement, 0 the first crossbar passes, 1 only the spare does, 2 neither. -/
def reconf (r : Nat) (why : DrainFor) (wires : Nat) (xbar : Nat) (s : State) : Bool × State :=
  match why with
  | .crossbar =>
    if s.bit F.nocRtrStatusSpareXbar r || s.scm.badXbars.contains r then (false, s) else (true, nocRetired r (s.flag F.nocRtrStatusSpareXbar r))
  | .link d =>
    if 8 < wires then (false, s.put F.nocRtrStatusDeadLink (s.get F.nocRtrStatusDeadLink r ||| 2 ^ d) r)
    else if 0 < wires then (true, nocRetired r (s.put F.nocRtrStatusRemapped (s.get F.nocRtrStatusRemapped r ||| 2 ^ d) r))
    else (true, s)
  | .command => (true, s)
  | .reinstate =>
    let s := ((s.clear F.nocRtrStatusRemapped r).clear F.nocRtrStatusDeadLink r).clear F.nocRtrStatusSpareXbar r
    if xbar = 2 ∨ 8 < wires then (false, s.blot 0xC0D 2 (rtrObj r))
    else (true, (s.blot 0xC0C 0 (rtrObj r)).putBit F.nocRtrStatusSpareXbar (xbar == 1) r)

/-- ROUTER_RECONF_DONE (R350, R359, R361): RUN with NOC_RTR_VCDEPTH in force, or DEAD. -/
def execRouterReconfDone (r : Fin 144) (wires : Nat) (xbar : Fin 3) (s : State) : Out :=
  whenClocked s.nocClocked s <| .next <|
    match s.noc.active with
    | some (q, why) =>
      if q = r.val ∧ s.rtrSt r = 2 then
        let d := reconf r why wires xbar s
        let s := d.2
        let depth := (s.word .nocRtrVcdepth r).toNat
        let s :=
          if d.1 then
            { s.put F.nocRtrStatusState 0 r with noc := { s.noc with depth := Tab.put 0x10101010 s.noc.depth r depth } }
          else routerDead r s
        let s := { s with noc := { s.noc with active := none, parity := Tab.put [] s.noc.parity r [] } }
        nocDrain (nextDrain (nocCounts s))
      else s
    | none => s

/-- The input at the other end that the same link direction joins. -/
def opposite (d : Nat) : Nat := (d + 2) % 4

/-- FLIT_CRC_ERROR (R355, R361): a flit arrives with a CRC error at input `dir` and is replayed; `again`: it is the flit
replayed there before. Four replays of one flit, or 16 within 1 ms, make both ends of the link drain. -/
def execFlitCrcError (r : Fin 144) (dir : Fin 4) (again : Bool) (s : State) : Out :=
  whenClocked s.nocClocked s <| .next <|
    let k := 4 * r.val + dir.val
    let s := (s.bump F.nocRtrErrcntReplays r).flag F.nocErrLinkReplay
    let run := if again then Tab.get 0 s.noc.again k + 1 else 1
    let times := s.pt :: (Tab.get [] s.noc.replays k).filter (fun t => decide (s.since t < 1000000))
    if 4 ≤ run ∨ 16 ≤ times.length then
      let s := { s with noc := { s.noc with again := Tab.put 0 s.noc.again k 0, replays := Tab.put [] s.noc.replays k [] } }
      let s := if s.rtrSt r = 3 then s else latchDrain r (.link dir.val) s
      match neighbour r dir with
      | some q => if s.rtrSt q = 3 then s else latchDrain q (.link (opposite dir)) s
      | none => s
    else { s with noc := { s.noc with again := Tab.put 0 s.noc.again k run, replays := Tab.put [] s.noc.replays k times } }

/-- XBAR_PARITY_ERROR (R361): the packet is discarded as at the end of DRAIN, a request answered FAULT; two errors within 1 s
make the router drain, once for the crossbar in use. -/
def execXbarParityError (r : Fin 144) (req : Option (Fin 288 × Nat)) (s : State) : Out :=
  whenClocked s.nocClocked s <| .next <|
    let s := packetLost reqFault req (rtrDiscard r 1 (s.bump F.nocRtrErrcntXbar r))
    let times := s.pt :: (Tab.get [] s.noc.parity r).filter (fun t => decide (s.since t ≤ 1000000000))
    let s := { s with noc := { s.noc with parity := Tab.put [] s.noc.parity r times } }
    if 2 ≤ times.length ∧ s.rtrSt r ≠ 3 ∧ s.noc.active ≠ some (r.val, .crossbar) then latchDrain r .crossbar s else s

/-- A write of NOC_RTR_VCDEPTH (R350). -/
def vcdepthWrite (r v : Nat) (s : State) : State × Status :=
  let d (k : Nat) : Nat := v / 256 ^ k % 256
  if d 0 < 2 ∨ d 1 < 2 ∨ d 2 < 2 ∨ d 3 < 2 ∨ 64 < d 0 + d 1 + d 2 + d 3 then (s, .denied)
  else (s.setWord .nocRtrVcdepth (BitVec.ofNat 32 v) r, .ok)

/-- VCDEPTH_WRITE (R350). -/
def execVcdepthWrite (r : Fin 144) (v : Word) (s : State) : Out := reply (vcdepthWrite r v.toNat s)

end Sys2Proof.Machine
end

