-- ==== Sys2Proof/Machine/WorkExchange.lean ====
section
/-!
DEFINITION. The Work Exchange (12 R381 to R399): items, queues, tokens, dispatch, pre-emption, delay lists, cancellation
and completion; the core states that it moves (R400).
-/
namespace Sys2Proof.Machine

/-! ### Cores (R400) -/

/-- The states of a core (R400). -/
inductive QSt where
  | off | held | boot | wait | item | urgent | retired
  deriving DecidableEq, Repr

/-- QC_STATUS.state. -/
def QSt.code : QSt → Nat
  | .off => 0 | .held => 1 | .boot => 2 | .wait => 3 | .item => 4 | .urgent => 5 | .retired => 6

/-- The state a code stands for. -/
def QSt.ofCode : Nat → QSt
  | 0 => .off | 1 => .held | 2 => .boot | 3 => .wait | 4 => .item | 5 => .urgent | _ => .retired

/-- The state of a core. -/
def State.qSt (s : State) (n : Nat) : QSt := QSt.ofCode (s.get F.qcStatusState n)

/-- Put a core into a state. -/
def State.setQSt (s : State) (n : Nat) (q : QSt) : State := s.put F.qcStatusState q.code n

/-- The domain of a core's group is ON. -/
def State.groupOn (s : State) (g : Nat) : Bool := decide ((s.dom (100 + g)).st = .on)

/-- On-chip address of a core's memories. -/
def coreBase (n : Nat) : Nat := 0x20000000 + n * 0x10000

/-- Write bytes to a core's own memory. -/
def coreWrite (n offset : Nat) (bs : List Byte) (s : State) : State :=
  (coreMemServe (coreBase n + offset) (.write bs (List.replicate bs.length true) false) s).state

/-! ### Items (R381 to R384) -/

/-- A 32-bit word of an item. -/
def Item.word (i : Item) (k : Nat) : Nat := ofBytes ((i.bytes.drop (4 * k)).take 4)

/-- Fields of an item (R382). -/
def Item.prio (i : Item) : Nat := bits (i.word 0) 31 30
def Item.delay (i : Item) : Bool := bitAt (i.word 0) 29
def Item.list (i : Item) : Nat := bits (i.word 0) 28 27
def Item.need (i : Item) : Nat := bits (i.word 0) 23 20
def Item.aff (i : Item) : Nat := bits (i.word 0) 19 18
def Item.pin (i : Item) : Nat := bits (i.word 1) 30 24
def Item.queue (i : Item) : Nat := bits (i.word 1) 13 0
def Item.ticks (i : Item) : Nat := i.word 2
def Item.cplAddr (i : Item) : Nat := (i.word 4 + i.word 5 * 2 ^ 32) % 2 ^ 48
def Item.cqEn (i : Item) : Bool := bitAt (i.word 6) 31
def Item.cq (i : Item) : Nat := bits (i.word 6) 13 0

/-- An item with a 32-bit word replaced. -/
def Item.setWord (i : Item) (k v : Nat) : Item :=
  { i with bytes := i.bytes.take (4 * k) ++ bytesOf v 4 ++ i.bytes.drop (4 * k + 4) }

/-- The handle of an item in a slot (R381). -/
def handleOf (seq slot : Nat) : Nat := seq % 65536 * 2 ^ 15 + slot % 32768

/-- An item of the store. -/
def State.item (s : State) (slot : Nat) : Item := Tab.get {} s.wx.items slot

/-- A slot is occupied. -/
def State.hasItem (s : State) (slot : Nat) : Bool := (Tab.look s.wx.items slot).isSome

/-- Write an item; a slot is listed while it is occupied. -/
def State.setItem (s : State) (slot : Nat) (i : Item) : State := { s with wx := { s.wx with items := Tab.set s.wx.items slot i } }

/-- A post is refused (R383). -/
def badItem (i : Item) : Bool :=
  let o := offsetOf i.cplAddr
  decide (8 < i.need) || (i.aff == 2 && decide (15 < i.pin)) || i.cplAddr % 16 != 0
    || (keyId i.cplAddr == 0 && ((decide (nearStart ≤ o) && decide (o < nearEnd)) || decide (caveStart ≤ o ∧ o < caveStart + 2 ^ 41)))

/-! ### Tokens and matching (R386, R387) -/

/-- Unmatched tokens of a queue, oldest first. -/
def State.tokensOf (s : State) (q : Nat) : List Nat := Tab.get [] s.wx.tokens q

/-- Unmatched tokens held in all. -/
def State.tokensHeld (s : State) : Nat := (s.wx.tokens.map (fun e => e.2.length)).sum

/-- Make an item ready: it takes its place in its queue's order. -/
def makeReady (slot : Nat) (s : State) : State :=
  let i := s.item slot
  let s := { s with wx := { s.wx with tick := s.wx.tick + 1 } }
  s.setItem slot { i with st := .ready, order := s.wx.tick, waited := false }

/-- Give a token to an item that waits (R386). -/
def giveToken (slot v : Nat) (s : State) : State :=
  let i := s.item slot
  let i := { i.setWord (8 + (8 - i.need + i.given)) v with given := i.given + 1 }
  let s := s.setItem slot i
  if i.need ≤ i.given then makeReady slot s else s

/-- An item enters its queue: it takes the queue's oldest unmatched tokens, and is ready or waits (R386). -/
def enterQueue (slot : Nat) (s : State) : State :=
  let i := s.item slot
  if i.need = 0 then makeReady slot s
  else
    let s := s.setItem slot { i with st := .waiting }
    let held := s.tokensOf i.queue
    let s := { s with wx := { s.wx with tokens := Tab.put [] s.wx.tokens i.queue (held.drop i.need) } }
    (held.take i.need).foldl (fun s v => giveToken slot v s) s

/-- The oldest item of a queue that waits for tokens: in the order of entering the queue. -/
def State.waitingItem (s : State) (q : Nat) : Option Nat :=
  let ws := s.wx.items.filter (fun e => e.2.st == .waiting && e.2.queue == q)
  match ws with
  | [] => none
  | e :: rest => some (rest.foldl (fun best f => if f.2.order < best.2.order then f else best) e).1

/-- A token is dropped (R387). -/
def dropToken (s : State) : State := (s.bump F.wxCntTokensDropped).flag F.wxErrTokenDrop

/-- A token enters matching (R386, R387): to the oldest waiting item, or held, or dropped. -/
def tokenEnter (q v : Nat) (s : State) : State :=
  if s.bit F.wxQcfgEn q = false then dropToken s
  else match s.waitingItem q with
    | some slot => giveToken slot v s
    | none =>
      if 65536 ≤ s.tokensHeld then dropToken s
      else { s with wx := { s.wx with tokens := Tab.put [] s.wx.tokens q (s.tokensOf q ++ [v]) } }

/-- WX_TOKEN_ARRIVE (R384, R386, R387): a token of 32 bits reaches the Work Exchange. -/
def execWxTokenArrive (q : BitVec 14) (v : DWord) (s : State) : Out :=
  whenClocked s.nocClocked s <| .next <|
    let gone := s.tokens.takeWhile (fun t => t != (q.toNat, v.toNat)) ++ (s.tokens.dropWhile (fun t => t != (q.toNat, v.toNat))).drop 1
    tokenEnter q.toNat (v.toNat % 2 ^ 32) { s with tokens := gone }

/-! ### Posting (R381, R383, R384, R396) -/

/-- The outcome of a post. -/
inductive PostResult where
  | ok (handle : Nat) | full | disabled | bad
  deriving DecidableEq, Repr

/-- The lowest free slot of the item store. -/
def State.freeSlot (s : State) : Option Nat := (List.range 32768).find? (fun k => !s.hasItem k)

/-- Post an item of 64 bytes (R381, R383, R386, R396). -/
def postItem (bs : List Byte) (s : State) : PostResult × State :=
  let i : Item := { bytes := (bs ++ List.replicate 64 0).take 64 }
  if badItem i then (.bad, s.flag F.wxErrBadItem)
  else if s.bit F.wxQcfgEn i.queue = false then (.disabled, s)
  else match s.freeSlot with
  | none => (.full, s.flag F.wxErrStoreFull)
  | some slot =>
    let seq := match Tab.look s.wx.seqs slot with | some n => (n + 1) % 65536 | none => 0
    let handle := handleOf seq slot
    let tick := s.wx.tick + 1
    let i := { i.setWord 3 handle with seq := seq, posted := tick, order := tick }
    let s := { s with wx := { s.wx with seqs := Tab.set s.wx.seqs slot seq, tick := tick } }
    if i.delay then
      let due := Tab.get 0 s.wx.counts i.list + max 1 i.ticks
      (.ok handle, s.setItem slot { i with st := .delayed due })
    else (.ok handle, enterQueue slot (s.setItem slot i))

/-- WX_POST_WINDOW (R384): a post by a requester that is no core. -/
def wxPostWindow (addr : Nat) (item : List Byte) (s : State) : State × Status :=
  if addr ≠ 0xB08000 ∨ item.length ≠ 64 then (s, .denied)
  else match postItem item s with
    | (.ok _, s) => (s, .ok)
    | (.full, s) => (s, .busy)
    | (_, s) => (s, .denied)

/-- WX_POST_WINDOW (R384). -/
def execWxPostWindow (addr : Nat) (item : List Byte) (s : State) : Out := reply (wxPostWindow addr item s)

/-! ### Completion (R399) -/

/-- An item completes with a status: its record and its token follow. -/
def completeItem (slot status result : Nat) (s : State) : State :=
  if s.hasItem slot then
    let i := s.item slot
    let core := match i.st with | .sent c => some c | .running c => some c | _ => none
    let s := s.setItem slot { i with st := .done status result core }
    match core with
    | some c => s.bump F.qcCntItems c
    | none => s
  else s

/-- The completion record of an item (R399). -/
def completionRecord (i : Item) (slot status result : Nat) (core : Option Nat) (pt : Nat) : List Byte :=
  let w := status % 16 * 2 ^ 28 + (match core with | some c => 2 ^ 23 + c % 128 * 2 ^ 16 | none => 0) + i.queue
  bytesOf (handleOf i.seq slot) 4 ++ bytesOf w 4 ++ bytesOf result 4 ++ bytesOf (pt / 1024 % 2 ^ 32) 4

/-- ITEM_COMPLETION (R399): the completion record of a completed item is written. -/
def execItemCompletion (slot : Fin 32768) (s : State) : Out :=
  whenClocked s.nocClocked s <| .next <|
    let i := s.item slot
    match i.st, i.record with
    | .done status result core, none =>
      if i.cplAddr = 0 then s.setItem slot { i with record := some .ok }
      else
        let rec_ := completionRecord i slot status result core s.pt
        let r := memServe .exchange i.cplAddr (.write rec_ (List.replicate 16 true) false) s
        r.state.setItem slot { i with record := some r.status }
    | _, _ => s

/-- COMPLETION_TOKEN (R399): after the response to the record write the completion token enters matching and the slot is
free. -/
def execCompletionToken (slot : Fin 32768) (status : Status) (s : State) : Out :=
  whenClocked s.nocClocked s <| .next <|
    let i := s.item slot
    match i.st, i.record with
    | .done st _ _, some own =>
      let s := if i.cplAddr ≠ 0 ∧ firstBad own status ≠ .ok then (s.bump F.wxStat1CplErrors).flag F.wxErrCplErr else s
      let s := { s with wx := { s.wx with items := Tab.del s.wx.items slot } }
      if i.cqEn then tokenEnter i.cq (st * 2 ^ 28 + handleOf i.seq slot % 2 ^ 28) s else s
    | _, _ => s

/-- WX_QSTAT of a queue: items ready and unmatched tokens (R409). -/
def State.queueStat (s : State) (q : Nat) : Nat :=
  let ready := (s.wx.items.filter (fun e => e.2.st == .ready && e.2.queue == q)).length
  min ready 65535 * 2 ^ 16 + min (s.tokensOf q).length 65535

/-! ### Cancellation (R397) -/

/-- Cancel the item a handle names; the status of the instruction status table. -/
def cancelItem (handle : Nat) (s : State) : Nat × State :=
  let slot := handle % 32768
  let i := s.item slot
  if bitAt handle 31 || !s.hasItem slot || handle / 32768 % 65536 != i.seq then (0x80000006, s)
  else match i.st with
    | .delayed _ => (0, completeItem slot 1 0 s)
    | .waiting | .ready =>
      let s := if i.given = 0 then s else (s.addSat F.wxCntTokensDiscarded i.given).flag F.wxErrTokenDiscard
      (0, completeItem slot 1 0 s)
    | .sent _ => (0x80000005, s)
    | .running _ => (0x80000005, s)
    | .done _ _ _ => (0x80000006, s)

/-- A write of WX_CANCEL (R397). -/
def cancelWrite (v : Nat) (s : State) : State × Status :=
  let r := cancelItem v s
  (r.2.put F.wxCancelResVal r.1, .ok)

/-- WX_CANCEL_WRITE (R397). -/
def execWxCancelWrite (handle : Word) (s : State) : Out := reply (cancelWrite handle.toNat s)

/-! ### Delay lists (R395, R396) -/

/-- DELAY_LIST_TICK (R395, 19 R602): list 1 counts only a boundary at which the crossing counter is back at 0, list 3 only a boundary whose TP_MARK meets the mark mask. -/
def execDelayListTick (l : Fin 4) (s : State) : Out :=
  whenClocked s.nocClocked s <| .next <|
    if s.frozen F.dbgFreezeWxDelay || (l.val == 1 && s.mt.cross != 0) || (l.val == 3 && s.marks &&& s.get F.wxCtrlMarkMask == 0) then s
    else { s with wx := { s.wx with counts := Tab.put 0 s.wx.counts l ((Tab.get 0 s.wx.counts l + 1) % 2 ^ 64) } }

/-- DELAY_DUE (R396): of the items whose due count is reached, the first in order of due count and of posting enters its
queue. -/
def execDelayDue (l : Fin 4) (s : State) : Out :=
  whenClocked s.nocClocked s <| .next <|
    let now := Tab.get 0 s.wx.counts l
    let key (e : Nat × Item) : Option (Nat × Nat × Nat) :=
      match e.2.st with
      | .delayed due => if e.2.list = l.val ∧ due ≤ now then some (due, e.2.posted, e.1) else none
      | _ => none
    match s.wx.items.filterMap key with
    | [] => s
    | d :: rest =>
      let best := rest.foldl (fun b e => if e.1 < b.1 ∨ (e.1 = b.1 ∧ e.2.1 < b.2.1) then e else b) d
      let s := { s with wx := { s.wx with tick := s.wx.tick + 1 } }
      enterQueue best.2.2 (s.setItem best.2.2 { s.item best.2.2 with order := s.wx.tick })

/-! ### Dispatch (R388 to R391) -/

/-- The ready heads: the first ready item of every queue that has one, as queue and slot. -/
def State.heads (s : State) : List (Nat × Nat) :=
  let ready := s.wx.items.filter (fun e => e.2.st == .ready)
  let first (q : Nat) : Option (Nat × Item) :=
    (ready.filter (fun e => e.2.queue == q)).foldl
      (fun b e => match b with | some x => if e.2.order < x.2.order then some e else some x | none => some e) none
  ((ready.map (fun e => e.2.queue)).eraseDups).filterMap (fun q => (first q).map (fun e => (q, e.1)))

/-- A core may run an item but for its state: not halted, its group ON and in the queue's gmask, the item's pin met
(R388). -/
def State.mayRun (s : State) (n : Nat) (i : Item) : Bool :=
  let g := n / 8
  !s.coreHalted n && s.groupOn g && (s.get F.wxQcfgGmask i.queue).testBit g
    && (i.aff != 2 || i.pin == g) && (i.aff != 3 || i.pin == n)

/-- A core is eligible for an item (R388): it waits, and no item is on its way to it. -/
def State.eligible (s : State) (n : Nat) (i : Item) : Bool :=
  s.qSt n == .wait && (s.core n).sent.isNone && s.mayRun n i

/-- The remembered core keeps a head waiting: it is busy, and the wait is not over (R389). -/
def State.affinityHolds (s : State) (i : Item) : Bool :=
  let last := s.get F.wxQcfgLast i.queue
  let busy := s.qSt last == .item || s.qSt last == .urgent || (s.core last).sent.isSome
  decide (i.aff < 2) && s.bit F.wxQcfgAff i.queue && s.wx.remembered.contains i.queue && busy && !s.coreHalted last
    && s.groupOn (last / 8) && !i.waited && s.get F.wxCtrlAffWait != 0

/-- The core an item is to go to, if any: the remembered one, or the one that has waited longest (R388, R389). -/
def State.coreFor (s : State) (i : Item) : Option Nat :=
  let last := s.get F.wxQcfgLast i.queue
  if decide (i.aff < 2) && s.bit F.wxQcfgAff i.queue && s.wx.remembered.contains i.queue && s.eligible last i then some last
  else if s.affinityHolds i then none
  else
    ((List.range 128).filter (fun n => s.eligible n i)).foldl
      (fun b n => match b with
        | some m => if (s.core n).waitOrder < (s.core m).waitOrder then some n else some m
        | none => some n) none

/-- A head is pinned to a retired core, or to a group whose cores are all retired (R390). -/
def State.pinnedDead (s : State) (i : Item) : Bool :=
  (i.aff == 3 && s.qSt i.pin == .retired) || (i.aff == 2 && (List.range 8).all (fun k => s.qSt (8 * i.pin + k) == .retired))

/-- Queues in round-robin order after the one served last. -/
def rrKey (last q : Nat) : Nat := if last < q then q - last else 16384 + q - last

/-- Of the heads of one priority, the next one in round robin. -/
def State.nextHead (s : State) (prio : Nat) (hs : List (Nat × Nat)) : Option (Nat × Nat) :=
  let last := Tab.get 16383 s.wx.served prio
  hs.foldl (fun b h => match b with | some x => if rrKey last h.1 < rrKey last x.1 then some h else some x | none => some h) none

/-- The head and the core to dispatch next: highest priority first, round robin within it (R388). -/
def State.choice (s : State) : Option (Nat × Nat × Nat) :=
  let can := s.heads.filter (fun h => (s.coreFor (s.item h.2)).isSome)
  let top := (can.map (fun h => (s.item h.2).prio)).foldl max 0
  match s.nextHead top (can.filter (fun h => (s.item h.2).prio == top)) with
  | some h => (s.coreFor (s.item h.2)).map (fun n => (h.1, h.2, n))
  | none => none

/-- Complete the heads that are pinned to retired cores (R390). -/
def pinnedFaults (s : State) : State :=
  s.heads.foldl
    (fun s h => if s.pinnedDead (s.item h.2) then (completeItem h.2 2 0 s).flag F.wxErrPinnedFault else s) s

/-- WX_DISPATCH (R388 to R391, 19 R602). -/
def execWxDispatch (s : State) : Out :=
  whenClocked s.nocClocked s <| .next <|
    if s.frozen F.dbgFreezeWxDispatch then s
    else
      let s := pinnedFaults s
      match s.choice with
      | none => s
      | some (q, slot, n) =>
        let i := s.item slot
        let s := (s.setItem slot { i with st := .sent n }).modCore n (fun c => { c with sent := some slot })
        let s := { s with wx := { s.wx with served := Tab.put 16383 s.wx.served i.prio q } }
        let p : Packet := { src := niExchange, dst := niTile (n / 8) (n % 8 / 2) 0, cmd := 2, vc := 3
                            addr := coreBase n + 0xFF80, len := 64, payload := i.bytes }
        s.emit (.packet p p.flits)

/-- AFFINITY_WAIT_EXPIRY (R389): the head of a queue has waited for its remembered core as long as it may. -/
def execAffinityWaitExpiry (q : BitVec 14) (s : State) : Out :=
  whenClocked s.nocClocked s <| .next <|
    match s.heads.find? (fun h => h.1 == q.toNat) with
    | some h => s.setItem h.2 { s.item h.2 with waited := true }
    | none => s

/-- An item on its way returns to the head of its queue, with its tokens and its place (R391). -/
def returnItem (slot : Nat) (s : State) : State :=
  if s.hasItem slot then s.setItem slot { s.item slot with st := .ready } else s

/-- A queue remembers the core that runs one of its items (R389, R409). -/
def rememberCore (q n : Nat) (s : State) : State :=
  let s := s.put F.wxQcfgLast n q
  { s with wx := { s.wx with remembered := if s.wx.remembered.contains q then s.wx.remembered else q :: s.wx.remembered } }

/-- QC_STATUS shows the item a core runs. -/
def showItem (n : Nat) (i : Item) (s : State) : State := (s.put F.qcStatusPrio i.prio n).put F.qcStatusQueue i.queue n

/-- QC_STATUS shows no item. -/
def showNoItem (n : Nat) (s : State) : State := (s.put F.qcStatusPrio 0 n).put F.qcStatusQueue 0 n

/-! ### The shadow check (R406 to R408) -/

/-- The shadow check of a group. -/
def State.shadow (s : State) (g : Nat) : ShadowSt := Tab.get {} s.shadows g

/-- Change the shadow check of a group. -/
def State.modShadow (s : State) (g : Nat) (f : ShadowSt → ShadowSt) : State :=
  { s with shadows := Tab.put {} s.shadows g (f (s.shadow g)) }

/-- A shadow can check a core: it is not HELD, OFF, RETIRED or halted (R406). -/
def State.checkable (s : State) (n : Nat) : Bool :=
  (match s.qSt n with | .held => false | .off => false | .retired => false | _ => true) && !s.coreHalted n

/-- The shadow takes the next core in number order that can be checked (R406). -/
def nextTarget (g : Nat) (s : State) : State :=
  let now := s.get F.qcShstatTarget g
  match (List.range 8).find? (fun k => s.checkable (8 * g + (now + 1 + k) % 8)) with
  | some k => s.put F.qcShstatTarget (8 * g + (now + 1 + k) % 8) g
  | none => s

/-- The target of a group's shadow; at first its core 0. -/
def State.shadowTarget (s : State) (g : Nat) : Nat := 8 * g + s.get F.qcShstatTarget g % 8

/-- A target that cannot be checked is passed over: at first, and after its retirement (R406; log entry 122). -/
def settleTarget (g : Nat) (s : State) : State :=
  if s.bit F.qcShstatChecking g ∨ s.checkable (s.shadowTarget g) = true then s else nextTarget g s

/-- A check window ends without a verdict when its target is pre-empted, halted or ended (R406). -/
def windowCut (n : Nat) (s : State) : State :=
  let g := n / 8
  if s.bit F.qcShstatChecking g ∧ s.shadowTarget g = n then nextTarget g ((s.clear F.qcShstatChecking g).modShadow g (fun h => { h with items := 0 }))
  else s

/-- A window starts at a dispatch to the target (R406). -/
def windowStart (n : Nat) (s : State) : State :=
  let g := n / 8
  let s := settleTarget g s
  if s.bit F.qcShadowEn g ∧ s.bit F.qcShstatRetired g = false ∧ s.bit F.qcShstatChecking g = false ∧ s.shadowTarget g = n then
    (s.flag F.qcShstatChecking g).modShadow g (fun h => { h with items := 0 })
  else s

/-- An item of the target ends in a window; after its items the window is complete (R406). -/
def windowItem (n : Nat) (s : State) : State :=
  let g := n / 8
  if s.bit F.qcShstatChecking g ∧ s.shadowTarget g = n then
    let k := (s.shadow g).items + 1
    if max 1 (s.get F.qcShadowItems g) ≤ k then
      nextTarget g (((s.clear F.qcShstatChecking g).bump F.qcShstatWindows g).modShadow g (fun h => { h with items := 0 }))
    else s.modShadow g (fun h => { h with items := k })
  else s

/-! ### Delivery and pre-emption (R391 to R394) -/

/-- A core halts with a cause: it stops at its pc, clears its reservation and ends a shadow window (12 R374, R406, 19
R595). -/
def haltCore (n cause : Nat) (s : State) : State :=
  let s := (windowCut n s).flag F.qcStatusHalted n
  let s := s.modCore n (fun c => { c with haltReq := false, haltPending := false, stepping := false, haltCause := cause })
  { s with resv := Tab.del s.resv n }

/-- An instruction of a core has retired: the pc moves on, instret counts, a step ends with a halt (19 R598). -/
def retire (n pc : Nat) (s : State) : State :=
  let urgent := s.qSt n == .urgent
  let inhibit := (Tab.get 0 (s.core n).csrs 0x320).testBit 2
  let s := s.modCore n (fun c =>
    let c := { c with minstret := if inhibit then c.minstret else (c.minstret + 1) % 2 ^ 64 }
    if urgent then { c with urg := { c.urg with pc := pc % 2 ^ 32 } } else { c with norm := { c.norm with pc := pc % 2 ^ 32 } })
  if (s.core n).stepping then haltCore n 3 s else s

/-- Write a register of the normal bank; x0 discards it. -/
def setNormX (n rd v : Nat) (s : State) : State :=
  if rd = 0 then s else s.modCore n (fun c => { c with norm := { c.norm with x := Tab.put 0 c.norm.x rd (v % 2 ^ 32) } })

/-- The instruction a waiting core stands at writes this register: WX.NEXT's rd. -/
def State.nextRd (s : State) (n : Nat) : Nat :=
  let pc := (s.core n).norm.pc
  ofBytes (s.memBytes (coreBase n + pc % 0x8000) 4) / 128 % 32

/-- ITEM_DELIVERED (R391, R400): the item is in the core's normal slot and WX.NEXT retires with its handle; if the core is
no longer eligible the item returns to its queue. The slot of a halted core is written, and its WX.NEXT retires after
resume (19 R597). -/
def execItemDelivered (n : Fin 128) (s : State) : Out :=
  whenClocked (s.quillClocked (n / 8)) s <| .next <|
    match (s.core n).sent with
    | none => s
    | some slot =>
      if s.qSt n ≠ .wait ∨ s.groupOn (n.val / 8) = false then
        returnItem slot (s.modCore n (fun c => { c with sent := none }))
      else if s.coreHalted n then coreWrite n 0xFF80 (s.item slot).bytes s
      else
        let i := s.item slot
        let s := { coreWrite n 0xFF80 i.bytes s with wx := { s.wx with tick := s.wx.tick + 1 } }
        let s := s.setItem slot { i with st := .running n }
        let s := s.modCore n (fun c => { c with sent := none, slot := some slot, runOrder := s.wx.tick, warned := false })
        let s := rememberCore i.queue n (showItem n i (s.setQSt n .item))
        let s := setNormX n (s.nextRd n) (handleOf i.seq slot) s
        windowStart n (retire n ((s.core n).norm.pc + 4) s)

/-- PREEMPTION (R392): a ready head of priority 3 with no eligible core takes a core that runs a lower priority: the lowest
one, and of those the one that has run longest. -/
def execPreemption (s : State) : Out :=
  whenClocked s.nocClocked s <| .next <|
    if s.frozen F.dbgFreezeWxDispatch then s
    else
    let heads := s.heads.filter (fun h => (s.item h.2).prio == 3 && !(List.range 128).any (fun n => s.eligible n (s.item h.2)))
    let prioOf (n : Nat) : Nat := match (s.core n).slot with | some k => (s.item k).prio | none => 3
    let victims (i : Item) : List Nat :=
      (List.range 128).filter (fun n => s.qSt n == .item && (s.core n).preempt.isNone && s.mayRun n i && decide (prioOf n < 3))
    match s.nextHead 3 (heads.filter (fun h => !(victims (s.item h.2)).isEmpty)) with
    | none => s
    | some h =>
      let i := s.item h.2
      let better (a b : Nat) : Bool :=
        decide (prioOf a < prioOf b) || (prioOf a == prioOf b && decide ((s.core a).runOrder < (s.core b).runOrder))
      match (victims i).foldl (fun b n => match b with | some m => if better n m then some n else some m | none => some n) none with
      | none => s
      | some n =>
        let s := (s.setItem h.2 { i with st := .sent n }).modCore n (fun c => { c with preempt := some h.2 })
        { s with wx := { s.wx with served := Tab.put 16383 s.wx.served 3 h.1 } }

/-- PREEMPT_SWITCH (R393): with its outstanding loads answered the core switches to its urgent bank. A core that no longer
runs an item lets the urgent item return to its queue. -/
def execPreemptSwitch (n : Fin 128) (s : State) : Out :=
  whenClocked (s.quillClocked (n / 8)) s <| .next <|
    match (s.core n).preempt with
    | none => s
    | some slot =>
      if s.qSt n ≠ .item ∨ s.coreHalted n = true ∨ s.groupOn (n.val / 8) = false then
        returnItem slot (s.modCore n (fun c => { c with preempt := none }))
      else if (s.core n).pend.isSome then s
      else
        let i := s.item slot
        let s := windowCut n (coreWrite n 0xFFC0 i.bytes s)
        let s := { s with resv := Tab.del s.resv n }
        let s := s.setItem slot { i with st := .running n }
        let pc := Tab.get 0x30000000 (s.core n).csrs 0x7CA / 2 * 2
        let s := s.modCore n (fun c =>
          { c with preempt := none, urgSlot := some slot, urgWarned := false, urg := { c.urg with pc := pc, user := false } })
        rememberCore i.queue n (showItem n i (s.setQSt n .urgent))

/-! ### Ends of work (R402, R404, R407, R408) -/

/-- A core's work is discarded: its items complete with the statuses given, an item on its way returns to its queue, and
outstanding loads are dropped (R391, R402). -/
def discardWork (n : Nat) (running preempted : Nat) (s : State) : State :=
  let c := s.core n
  let s := match c.slot with
    | some k => completeItem k (if c.urgSlot.isSome then preempted else running) 0 s
    | none => s
  let s := match c.urgSlot with | some k => completeItem k running 0 s | none => s
  let s := match c.sent with | some k => returnItem k s | none => s
  let s := match c.preempt with | some k => returnItem k s | none => s
  showNoItem n s

/-- The NI of a core. -/
def coreNi (n : Nat) : Nat := niTile (n / 8) (n % 8 / 2) 0

/-- A core's outstanding loads and AMOs are dropped: their responses will match no request (R402, 11 R358). -/
def dropLoads (n : Nat) (s : State) : State :=
  let mine (r : NocReq) : Bool := r.req == .core (Fin.ofNat 128 n) && r.cmd != 1
  let q := s.ni (coreNi n)
  if q.outs.any mine || q.wait.any mine then
    s.modNi (coreNi n) (fun q => { q with outs := q.outs.filter (fun r => !mine r), wait := q.wait.filter (fun r => !mine r) })
  else s

/-- The core is reset, its memories kept; outstanding stores stand (R400, R402). -/
def resetCore (n : Nat) (s : State) : State :=
  let s := (dropLoads n s).modCore n (fun c =>
    { stores := c.stores, storeErrs := c.storeErrs, haltPending := c.haltPending, haltReq := c.haltReq, stepping := c.stepping })
  { s with resv := Tab.del s.resv n }

/-- A core leaves HELD or restarts: BOOT; a halt latched for its release, or DBG_CONNECT.halt_quill, halts it before its
first instruction (R400, 19 R592, R593). -/
def bootCore (n : Nat) (fromHeld : Bool) (s : State) : State :=
  let s := s.setQSt n .boot
  if fromHeld && s.bit F.dbgConnectHaltQuill then haltCore n 4 s
  else if (s.core n).haltPending then haltCore n 1 s
  else s

/-- A forced end or a mismatch (R402, R404, R407): the work ends and the core boots again. -/
def forceEnd (n running preempted : Nat) (s : State) : State :=
  bootCore n false (resetCore n (discardWork n running preempted (windowCut n s)))

/-- WATCHDOG_EXPIRY (R404, R405): the first expiry of the running bank raises the warning, the second forces an end. -/
def execWatchdogExpiry (n : Fin 128) (s : State) : Out :=
  whenClocked (s.quillClocked (n / 8)) s <| .next <|
    let urgent := s.qSt n = .urgent
    if s.bit F.qcWdogEn n ∧ (s.qSt n = .item ∨ urgent) ∧ s.coreHalted n = false ∧ (s.core n).stepping = false then
      let s := s.bump F.qcCntWdog n
      if (if urgent then (s.core n).urgWarned else (s.core n).warned) then
        (forceEnd n 3 2 s).flag F.qcErrWatchdog
      else
        s.modCore n (fun c =>
          let c := { c with csrs := Tab.put 0 c.csrs 0x344 (Tab.get 0 c.csrs 0x344 ||| 2 ^ 17) }
          if urgent then { c with urgWarned := true } else { c with warned := true })
    else s

/-- The object word of a core. -/
def coreObj (n : Nat) : Nat := objWord 5 n

/-- A core is retired (R402, R408). -/
def retireCore (n : Nat) (s : State) : State :=
  let s := resetCore n (discardWork n 2 2 (windowCut n s))
  ((s.setQSt n .retired).flag F.qcErrRetired).raise .qcRetired (coreObj n)

/-- SHADOW_MISMATCH (R406 to R408). -/
def execShadowMismatch (g : Fin 16) (s : State) : Out :=
  whenClocked (s.quillClocked g) s <| .next <|
    if s.bit F.qcShstatChecking g then
      let n := s.shadowTarget g
      let s := ((s.bump F.qcCntMismatch n).flag F.qcErrMismatch).raise .qcMismatch
      let recent := (s.shadow g).mismatches.filter (fun m => decide (s.since m.2 ≤ 1000000000))
      let other := recent.any (fun m => m.1 != n)
      let again := recent.any (fun m => m.1 == n)
      let s := (s.clear F.qcShstatChecking g).modShadow g (fun _ => { items := 0, mismatches := (n, s.pt) :: recent })
      if other then
        let s := bootCore n false (resetCore n (discardWork n 2 2 s))
        let s := (s.flag F.qcShstatRetired g).modShadow g (fun _ => {})
        (s.flag F.qcErrShadowRetired).raise .qcShadowRetired (objWord 6 g)
      else if again then retireCore n (s.modShadow g (fun h => { h with mismatches := [] }))
      else bootCore n false (resetCore n (discardWork n 2 2 s))
    else s

/-- Reinstate a shadow core (R408). -/
def shadowReinstate (g : Nat) (s : State) : Nat × State :=
  if s.bit F.qcShstatRetired g then (1, ((s.blot 0xC0C 0 (objWord 6 g)).clear F.qcShstatRetired g).modShadow g (fun _ => {})) else (0, s)

/-- SHADOW_REINSTATE (R408). -/
def execShadowReinstate (g : Fin 16) (s : State) : Out := reply ((shadowReinstate g s).2, .ok)

/-- A write of QC_SHADOW (R406, R408): en = 0 ends a running window. -/
def shadowWrite (g v : Nat) (s : State) : State × Status :=
  let s := (s.put F.qcShadowEn (bits v 31 31) g).put F.qcShadowItems (bits v 7 0) g
  let s := if bitAt v 31 then s else (s.clear F.qcShstatChecking g).modShadow g (fun h => { h with items := 0 })
  (if bitAt v 30 then (shadowReinstate g s).2 else s, .ok)

/-- The fill of on-chip memory after power-on has not ended (16 R537). -/
def State.fillPending (s : State) : Bool := !s.bit F.sysStatusOnchipFilled && !s.warm

/-- Release a core (R400, R401, 16 R537). -/
def coreRelease (n : Nat) (s : State) : State :=
  if s.groupOn (n / 8) = false ∨ s.fillPending = true then s.flag F.qcStatusPendingEnable n
  else if s.qSt n = .held then bootCore n true (resetCore n (s.clear F.qcStatusPendingEnable n))
  else s

/-- CORE_RELEASE (R401). -/
def execCoreRelease (n : Fin 128) (s : State) : Out := reply (coreRelease n s, .ok)

/-- Reinstate a core (R403). -/
def coreReinstate (n : Nat) (s : State) : Nat × State :=
  if s.qSt n = .retired then (1, resetCore n ((s.blot 0xC0C 0 (objWord 5 n)).setQSt n (if s.groupOn (n / 8) then .held else .off))) else (0, s)

/-- CORE_REINSTATE (R403). -/
def execCoreReinstate (n : Fin 128) (s : State) : Out := reply ((coreReinstate n s).2, .ok)

/-- A write of QC_CMD. -/
def qcCmdWrite (n v : Nat) (s : State) : State × Status :=
  let s := if bitAt v 1 then (coreReinstate n s).2 else s
  (if bitAt v 0 then coreRelease n s else s, .ok)

/-- The group's domain is switched off (01 R18, R402): the work of its cores is discarded; they read OFF. -/
def quillPowerDown (g : Nat) (s : State) : State :=
  (List.range 8).foldl
    (fun s k =>
      let n := 8 * g + k
      let s := resetCore n (discardWork n 2 2 (windowCut n s))
      let s := (s.clear F.qcStatusHalted n).modCore n (fun c => { c with haltReq := false, stepping := false })
      if s.qSt n = .retired then s else s.setQSt n .off) s

/-- The core memories of a group are zero: lost at its switch-off, filled at its power-up (01 R17, R400). -/
def clearTcm (g : Nat) (s : State) : State :=
  let lo := 0x20000000 + g * 0x80000
  { s with
    mem := s.mem.filter (fun e => decide (e.1 < lo) || decide (lo + 0x80000 ≤ e.1))
    syn := s.syn.filter (fun e => decide (e.1 < lo / 8) || decide ((lo + 0x80000) / 8 ≤ e.1)) }

/-- The group's domain is ON again: its cores are HELD, and latched releases take effect (R400, R401). -/
def quillPowerUp (g : Nat) (s : State) : State :=
  (List.range 8).foldl
    (fun s k =>
      let n := 8 * g + k
      let s := if s.qSt n = .off then s.setQSt n .held else s
      if s.bit F.qcStatusPendingEnable n then coreRelease n s else s) s

end Sys2Proof.Machine
end

