-- ==== Sys2Proof/Machine/Loader.lean ====
section
/-!
DEFINITION. The loader (13): folios from flash or memory, their header and segments, failures and the fall-back, frames
with their image copies, scrubbing and frame rewrites. The end of a load, which writes registers, is in LoaderEnd.
-/
namespace Sys2Proof.Machine

/-! ### Flash (R426, R427) -/

/-- A folio region: base and size. -/
abbrev Region := Nat × Nat

/-- Capacity of the flash: 4 Gib (R426). -/
def flashSize : Nat := 2 ^ 29

/-- A region of a directory is placed legally (R427). -/
def regionOk (r : Region) : Bool := r.1 % 65536 == 0 && decide (0x02000000 ≤ r.1) && decide (r.1 + r.2 ≤ flashSize)

/-- Two regions overlap. -/
def overlaps (a b : Region) : Bool := decide (a.1 < b.1 + b.2) && decide (b.1 < a.1 + a.2)

/-- A directory copy: sequence, golden and update region, update_present and boot_golden (R427). -/
structure Directory where
  seq : Nat
  golden : Region
  update : Region
  present : Bool
  bootGolden : Bool
  deriving DecidableEq, Repr

/-- A valid directory copy (R427). -/
def directoryOf (bs : List Byte) : Option Directory :=
  let d : Directory :=
    { seq := wordAt bs 4, golden := (wordAt bs 8, wordAt bs 12), update := (wordAt bs 16, wordAt bs 20)
      present := bitAt (wordAt bs 24) 0, bootGolden := bitAt (wordAt bs 24) 1 }
  if wordAt bs 0 = 0xB5F0D100 ∧ wordAt bs 60 = crc32cBytes (bs.take 60) ∧ regionOk d.golden = true ∧ regionOk d.update = true
      ∧ overlaps d.golden d.update = false then some d
  else none

/-- The directory in use: the valid copy with the greater sequence; with none, a golden region alone (R427). -/
def State.directory (s : State) : Directory :=
  match directoryOf (s.flashBytes 0 64), directoryOf (s.flashBytes 0x1000 64) with
  | some a, some b => if b.seq ≤ a.seq then a else b
  | some a, none => a
  | none, some b => b
  | none, none =>
    { seq := 0, golden := (0x02000000, flashSize - 0x02000000), update := (0x02000000, 0), present := false, bootGolden := true }

/-! ### Loader states and the end of a load (R429 to R432, R435) -/

/-- Replace the loader's data. -/
def State.modLoader (s : State) (f : LoaderSt → LoaderSt) : State := { s with loader := f s.loader }

/-- CFG_STATUS.state: 0 IDLE, 1 HEADER, 2 PREPARE, 3 STREAM, 4 VERIFY, 5 START. -/
def State.ldSt (s : State) : Nat := s.get F.cfgStatusState

/-- The load is a hoop load. -/
def State.ldHoop (s : State) : Bool := s.bit F.cfgStatusKind

/-- The target hoop of a hoop load. -/
def State.ldTarget (s : State) : Nat := s.get F.cfgStatusHoop

/-- A load begins (R429): source 0 golden, 1 update, 2 memory. -/
def startLoad (src kind hoop : Nat) (powerOn fallback host : Bool) (s : State) : State :=
  let d := s.directory
  let place : Region :=
    match src with
    | 0 => d.golden
    | 1 => d.update
    | _ => (s.pair .cfgLoadAddrLo .cfgLoadAddrHi % 2 ^ 48, s.get F.cfgLoadLenVal)
  let s := ((s.put F.cfgStatusState 1).put F.cfgStatusSrc src).put F.cfgStatusKind kind
  let s := if kind = 1 then s.put F.cfgStatusHoop hoop else s
  s.modLoader (fun l =>
    { powerOn := powerOn, fallback := fallback, host := host, base := place.1, limit := place.2, queue := l.queue
      rewriting := l.rewriting })

/-- A session that waits for the load learns its code (14 R466). -/
def loadEnded (code : Nat) (s : State) : State := if s.loader.host then s.objectEnded 0 code else s

/-- A failed hoop load after HEADER: the hoop is INCOMPLETE (R432), a stopping one once its stop has run to completion (05
R184). -/
def hoopIncomplete (n : Nat) (s : State) : State :=
  if s.hoopSt n = .stopping then s.modHoop n (fun h => { h with stopFor := .failed })
  else enterIncomplete n (s.modHoop n (fun h => { h with releaseAt := none }))

/-- The power-on load has ended: start-up passes from BOOT to RUNNING (16 R536, R541). -/
def bootDone (s : State) : State :=
  let s := s.flag F.sysStatusLoaderDone
  if s.get F.sysStatusPhase = 3 then (s.put F.sysStatusPhase 4).setPair .sysTrunLo .sysTrunHi s.pt else s

/-- A load fails with a code, at a byte offset, with a frame address or 0xFFFFFFFF (R429, R432, R435). A trip that is
latched leaves out the fall-back (15 R489). -/
def loadFail (code ofs frame : Nat) (s : State) : State :=
  let header := s.ldSt == 1
  let golden := s.get F.cfgStatusSrc == 0
  let atPower := s.loader.powerOn
  let again := s.loader.fallback
  let s := ((s.put F.cfgStatusCode code).put F.cfgFailOfsVal ofs).put F.cfgFailFrameVal frame
  let s := (s.flag F.cfgErrLoadFail).raise .cfgLoadFail 0 (ofs * 2 ^ 32 + code)
  let s := loadEnded code s
  let idle := (s.put F.cfgStatusState 0).modLoader (fun l => { queue := l.queue, rewriting := l.rewriting })
  let idle := if atPower then bootDone idle else idle
  if s.ldHoop then if header then idle else hoopIncomplete s.ldTarget idle
  else if code = 20 then idle
  else if golden then
    if atPower || again || !header then (idle.flag F.cfgErrNoFolio).raise .cfgNoFolio else idle
  else if (header && !atPower) || s.bit F.scmStatusTrip then idle
  else startLoad 0 0 0 atPower true false (((s.put F.cfgStatusState 0).flag F.cfgErrFellBack).raise .cfgFallback)

/-- Fail with no frame address. -/
def loadFailAt (code ofs : Nat) (s : State) : State := loadFail code ofs 0xFFFFFFFF s

/-! ### Commands (R428, R430) -/

/-- go_full (R430, 15 R489). -/
def loadFull (src : Nat) (s : State) : State × Status :=
  if s.bit F.scmStatusTrip ∨ 3 ≤ src then (s, .denied)
  else if s.ldSt ≠ 0 then (s, .busy)
  else (startLoad src 0 0 false false false s, .ok)

/-- LOAD_FULL (R429, R430). -/
def execLoadFull (src : BitVec 3) (s : State) : Out := reply (loadFull src.toNat s)

/-- go_hoop (R430, 15 R489). -/
def loadHoop (src hoop : Nat) (s : State) : State × Status :=
  if s.bit F.scmStatusTrip ∨ src ≠ 2 then (s, .denied)
  else if s.ldSt ≠ 0 then (s, .busy)
  else (startLoad 2 1 hoop false false false s, .ok)

/-- LOAD_HOOP (R430). -/
def execLoadHoop (src : BitVec 3) (hoop : BitVec 8) (s : State) : Out := reply (loadHoop src.toNat hoop.toNat s)

/-- cancel (R430). -/
def loadCancel (s : State) : State := if s.ldSt = 0 then s else loadFailAt 19 s.loader.bytes.length s

/-- LOAD_CANCEL (R430). -/
def execLoadCancel (s : State) : Out := reply (loadCancel s, .ok)

/-- A write of CFG_LOAD_CMD (R430, R440). -/
def loadCmdWrite (v : Nat) (s : State) : State × Status :=
  if 1 < b2n (bitAt v 31) + b2n (bitAt v 30) + b2n (bitAt v 29) then (s, .denied)
  else if bitAt v 31 then loadFull (bits v 25 24) s
  else if bitAt v 30 then loadHoop (bits v 25 24) (bits v 7 0) s
  else if bitAt v 29 then (loadCancel s, .ok)
  else (s, .ok)

/-- POWER_ON_LOAD (R428, 16 R537): in BOOT, after self-test or after a system reset, unless a debugger holds it (19
R592). -/
def execPowerOnLoad (s : State) : Out :=
  whenClocked s.mgmtClocked s <| .next <|
    if s.ldSt = 0 ∧ s.get F.sysStatusPhase = 3 ∧ s.bit F.sysStatusLoaderDone = false ∧ s.bit F.dbgConnectHoldLoad = false
        ∧ (s.bit F.sysStatusSelftestDone = true ∨ s.warm = true) then
      let d := s.directory
      startLoad (if d.present && !d.bootGolden then 1 else 0) 0 0 true false false s
    else s

/-! ### Reading the folio -/

/-- Read bytes of the folio: none where the source answers with an error or poison (R435, SOURCE_ERROR). -/
def srcRead (ofs n : Nat) (s : State) : Option (List Byte) × State :=
  if s.get F.cfgStatusSrc = 2 then
    let r := engineRead .loader (s.loader.base + ofs) n s
    (if r.status = .ok ∧ r.poison = false then some r.data else none, r.state)
  else (some (s.flashBytes (s.loader.base + ofs) n), s)

/-- Read the next bytes of the folio and keep them. -/
def srcNext (n : Nat) (s : State) : Option (List Byte) × State :=
  let r := srcRead s.loader.bytes.length n s
  match r.1 with
  | some bs => (some bs, r.2.modLoader (fun l => { l with bytes := l.bytes ++ bs }))
  | none => r

/-! ### The header (R415, R416, R425, R433) -/

/-- Fields of the header (R415). -/
def State.folioLength (s : State) : Nat := wordAt s.loader.bytes 12
def State.folioSegments (s : State) : Nat := ofBytes ((s.loader.bytes.drop 20).take 2)
def State.folioBounds (s : State) : Nat := ofBytes ((s.loader.bytes.drop 22).take 2)
def State.folioEncrypted (s : State) : Bool := ofBytes ((s.loader.bytes.drop 29).take 1) == 1
def State.folioByte (s : State) (k : Nat) : Nat := ofBytes ((s.loader.bytes.drop k).take 1)

/-- Bytes of the header as numbers. -/
def State.folioNums (s : State) (k n : Nat) : List Nat := ((s.loader.bytes.drop k).take n).map (fun b => b.toNat)

/-- A bounding entry: kind and index (R416). -/
def State.folioBound (s : State) (k : Nat) : Nat × Nat × Nat :=
  let e := ofBytes ((s.loader.bytes.drop (256 + 8 * k)).take 8)
  (bits e 63 60, bits e 15 0, bits e 59 16)

/-- The owner of a block by kind: 2 bank, 3 rank unit, 4 pattern array; none for another kind or an index out of range. -/
def State.blockOwner (s : State) (kind i : Nat) : Option Nat :=
  match kind with
  | 2 => if i < 8192 then some (s.get F.membBownOwner i) else none
  | 3 => if i < 192 then some (s.get F.fabBindRuOwner i) else none
  | 4 => if i < 256 then some (s.get F.fabBindPmOwner i) else none
  | _ => none

/-- A bounding entry is one a hoop folio may hold (R416). -/
def State.boundOk (s : State) (k : Nat) : Bool :=
  let e := s.folioBound k
  e.2.2 == 0 && (if e.1 = 1 then e.2.1 == s.ldTarget else s.blockOwner e.1 e.2.1 == some s.ldTarget)

/-- A block is in the bounding list. -/
def State.bounded (s : State) (kind i : Nat) : Bool :=
  (List.range s.folioBounds).any (fun k => (s.folioBound k).1 == kind && (s.folioBound k).2.1 == i)

/-- Every byte of a range of the header is 0. -/
def State.headerZero (s : State) (k n : Nat) : Bool := (s.folioNums k n).all (fun b => b == 0)

/-- The header's layout is refused, with the offset of the field (R415, R435 BAD_HEADER). -/
def badHeader (s : State) : Option Nat :=
  let kind := s.folioByte 6
  let w := wordAt s.loader.bytes 24
  let hoop := s.ldHoop
  let checks : List (Bool × Nat) :=
    [(ofBytes ((s.loader.bytes.drop 4).take 2) != 1, 4), (kind != (if hoop then 2 else 1), 6), (s.folioByte 7 != 0, 7),
     (bits (s.folioByte 8) 3 2 != 0, 8), (wordAt s.loader.bytes 16 != 256 + 8 * s.folioBounds, 16),
     (s.folioSegments == 0, 20),
     (if hoop then s.folioBounds == 0 || decide (2048 < s.folioBounds) else s.folioBounds != 0, 22),
     (if hoop then decide (191 < bits w 7 0) || bits w 31 11 != 0 || bits w 7 0 != s.ldTarget else w != 0, 24)] ++
    [(decide (3 < s.folioByte 28), 28), (decide (1 < s.folioByte 29), 29),
     (if s.folioEncrypted then decide (3 < s.folioByte 30) else s.folioByte 30 != 0, 30), (s.folioByte 31 != 0, 31),
     (!s.folioEncrypted && !s.headerZero 32 40, 32), (!s.headerZero 92 164, 92)]
  (checks.find? (fun c => c.1)).map (fun c => c.2)

/-- A verification key that may be used. -/
def State.vkUsable (s : State) (n : Nat) : Bool := (s.get F.cfgPolicyVkPresent).testBit n && !(s.get F.cfgPolicyVkRevoked).testBit n

/-- The first bounding entry that is refused. -/
def State.badBound (s : State) : Option Nat := (List.range s.folioBounds).find? (fun k => !s.boundOk k)

/-- The hoop is off, or on its way there. -/
def State.hoopAway (s : State) (n : Nat) : Bool :=
  s.hoopSt n == .off || (s.hoopSt n == .stopping && (s.hoop n).stopFor == .switchOff)

/-- The checks of HEADER after its 16 bytes have been read and its magic was found: a code and the offset (R429, R435). -/
def headerFault (s : State) : Option (Nat × Nat) :=
  let dev := ofBytes ((s.loader.bytes.drop 8).take 2)
  if bits dev 15 4 ≠ 0xA49 then some (3, 8)
  else if (ofBytes ((s.loader.bytes.drop 10).take 2)).testBit (s.get F.cfgIdStepping) = false then some (4, 10)
  else if bits dev 1 0 &&& s.get F.cfgIdGrade = 0 then some (5, 8)
  else match badHeader s with
    | some k => some (6, k)
    | none =>
      if s.vkUsable (s.folioByte 28) = false then some (7, 28)
      else if s.folioEncrypted && !(s.get F.cfgPolicyFkPresent).testBit (s.folioByte 30) then some (7, 30)
      else if s.bit F.cfgPolicyRequireEnc && !s.folioEncrypted then some (8, 29)
      else if s.loader.limit < s.folioLength then some (11, 12)
      else none

/-- PREPARE begins for a hoop: in RUN or REPAIR it is stopped first; in HELD or INCOMPLETE its stream begins (R433, 05
R187). -/
def prepareHoop (n : Nat) (s : State) : State :=
  match s.hoopSt n with
  | .run => beginStop n .load s
  | .repair => beginStop n .load s
  | .stopping => s.modHoop n (fun h => { h with stopFor := .load })
  | .held => enterLoading n s
  | .incomplete => enterLoading n s
  | .loading => s
  | .off => s

/-- A full load that enters PREPARE discards the releases latched before global start (05 R189). -/
def discardReleases (s : State) : State :=
  if s.started then s
  else (List.range 192).foldl (fun s n => if s.hoopSt n = .held then s.clear F.fabHoopStatusPendingEnable n else s) s

/-- The header passes: segment key 0 is known, PREPARE begins. -/
def headerPass (key : List Nat) (s : State) : State :=
  let s := (s.put F.cfgStatusState 2).modLoader (fun l => { l with key := key })
  if s.ldHoop then prepareHoop s.ldTarget s else discardReleases s

/-- The rest of HEADER: header and bounding list are read and checked (R429). -/
def headerRest (s : State) : State :=
  match srcNext 240 s with
  | (none, s) => loadFailAt 12 16 s
  | (some _, s) =>
    match headerFault s with
    | some f => loadFailAt f.1 f.2 s
    | none =>
      match srcNext (8 * s.folioBounds) s with
      | (none, s) => loadFailAt 12 256 s
      | (some _, s) =>
        match (if s.ldHoop then s.badBound else none) with
        | some k => loadFailAt 10 (256 + 8 * k) s
        | none =>
          if s.ldHoop && s.hoopAway s.ldTarget then loadFailAt 9 24 s
          else if s.folioEncrypted then
            let fk := (Tab.get [] s.otp.fks (s.folioByte 30)).map (fun b => b.toNat)
            match Crypto.keyUnwrap fk (s.folioNums 32 40) with
            | some key => headerPass key s
            | none => loadFailAt 7 32 s
          else headerPass [] s

/-- LOADER_HEADER_DONE (R429, R433, R435). -/
def execLoaderHeaderDone (s : State) : Out :=
  whenClocked s.mgmtClocked s <| .next <|
    if s.ldSt = 1 then
      match srcNext 16 s with
      | (none, s) => loadFailAt 12 0 s
      | (some bs, s) =>
        if wordAt bs 0 = 0x9A3C0001 then loadFailAt 2 0 s
        else if wordAt bs 0 ≠ 0xB5F07A49 then loadFailAt 1 0 s
        else headerRest s
    else s

/-! ### Frames and image copies (R411, R413, R418, R436, R437) -/

/-- The region of a frame address. -/
def faRegion (fa : Nat) : Nat := bits fa 26 19

/-- The layer frame index of a frame address (R436). -/
def faIndex (fa : Nat) : Nat := if faRegion fa < 192 then 880 * (faRegion fa % 96) + bits fa 16 0 else 84480 + bits fa 16 0

/-- The layer of a region. -/
def regionLayer (r : Nat) : Nat := if r < 192 then r / 96 else r - 192

/-- The frame slot of a frame address (R436). -/
def faSlot (fa : Nat) : Nat := (4 * regionLayer (faRegion fa) + bits fa 28 27) * 168960 + faIndex fa

/-- Frames of a region in one context. -/
def regionFrames (r : Nat) : Nat := if r < 192 then 880 else 84480

/-- A frame address of the form of R411. -/
def faLegal (fa : Nat) : Bool :=
  bits fa 31 29 == 0 && bits fa 18 17 == 0 && decide (faRegion fa < 194) && decide (bits fa 16 0 < regionFrames (faRegion fa))

/-- System address of image copy `h` (R436). -/
def imageBase (h : Nat) : Nat := nearStart + h * 0x100000000

/-- Copy `h` is usable. -/
def imgOk (h : Nat) : Fld := if h = 0 then F.cfgStatusImg0Ok else F.cfgStatusImg1Ok

/-- A copy is marked unusable (R437). -/
def imageLost (h : Nat) (s : State) : State := ((s.clear (imgOk h)).flag F.cfgErrImageLost).raise .cfgImageLost

/-- Write bytes to an image copy; an error response marks the copy (R437). -/
def imageWrite (h ofs : Nat) (bs : List Byte) (s : State) : State :=
  if s.bit (imgOk h) then
    let r := engineWrite .loader (imageBase h + ofs) bs s
    if r.status = .ok then r.state else imageLost h r.state
  else s

/-- Store a frame in an image copy and then set its presence bit (R436). -/
def imageFrame (h slot v : Nat) (s : State) : State :=
  let s := imageWrite h (512 * slot) (bytesOf v 512) s
  if s.bit (imgOk h) then
    let r := engineRead .loader (imageBase h + 0x30000000 + slot / 8) 1 s
    if r.status = .ok then imageWrite h (0x30000000 + slot / 8) [BitVec.ofNat 8 (ofBytes r.data ||| 2 ^ (slot % 8))] r.state
    else imageLost h r.state
  else s

/-- Write a frame of the load to its layer and to both image copies. -/
def loadFrame (fa v : Nat) (s : State) : State :=
  let slot := faSlot fa
  let s := imageFrame 1 slot v (imageFrame 0 slot v (s.setFrame slot v))
  if v = 0 then s
  else
    let r := faRegion fa
    s.modLoader (fun l => { l with valid := Tab.put 0 l.valid r (Tab.get 0 l.valid r ||| 2 ^ bits fa 28 27) })

/-- Write consecutive frames, each from its own 512 bytes or all from the same. -/
def loadFrames (fa : Nat) (same : Bool) : Nat → List Byte → State → State
  | 0, _, s => s
  | n + 1, bs, s => loadFrames (fa + 1) same n (if same then bs else bs.drop 512) (loadFrame fa (ofBytes (bs.take 512)) s)

/-! ### PREPARE (R413, R431, R433) -/

/-- A near-store channel has filled its part of the Sceum reserve. -/
def State.reserveFilled (s : State) (c : Nat) : Bool :=
  s.nearSt c == .on || (s.nearSt c == .filling && decide ((if s.mirrored then 116509 else 58255) ≤ s.get F.nearChFillVal c))

/-- The image region of copy `h` has been filled: its 18 channels have, or with mirroring one of each pair has. -/
def State.imageFilled (s : State) (h : Nat) : Bool :=
  (List.range 18).all (fun k =>
    let c := 18 * h + k
    s.reserveFilled c || (s.mirrored && s.reserveFilled (partner c)))

/-- IMAGE_FILL_WAIT_TIMEOUT (R431). -/
def execImageFillWaitTimeout (s : State) : Out :=
  whenClocked s.mgmtClocked s <| .next (if s.ldSt = 2 ∧ s.ldHoop = false then s.modLoader (fun l => { l with waited := true }) else s)

/-- Every bundle not in cave mode stops, and its transmitters send electrical idle (R431, 05 R188). -/
def stopBundles (s : State) : State :=
  (List.range 48).foldl
    (fun s n =>
      if s.get F.laneCfgMode n = modeCave then s
      else ((List.range 9).foldl (fun s m => laneDisable n m s) s).modBundle n (fun b => { b with live := false })) s

/-- PREPARE of a full load: images are judged, the fabric returns to reset, all frames and presence bits are cleared. -/
def prepareFull (s : State) : State :=
  let s := (s.putBit F.cfgStatusImg0Ok (s.imageFilled 0)).putBit F.cfgStatusImg1Ok (s.imageFilled 1)
  let s := takeSpareWires (spansHold (fun _ => true) (stopBundles (stopFabric s)))
  let s := { s with frames := [], frameFlips := [], sliceCfgs := [], fixValid := (0, 0) }
  let s := (List.range 192).foldl (fun s n => s.clear F.fabHoopCfgCtxValid n) s
  imageWrite 1 0x30000000 (List.replicate 168960 0) (imageWrite 0 0x30000000 (List.replicate 168960 0) s)

/-- The first slot of a hoop's frames in a context. -/
def hoopSlot (n ctx : Nat) : Nat := (4 * (n / 96) + ctx) * 168960 + 880 * (n % 96)

/-- PREPARE of a hoop load: the hoop's frames and their presence bits are cleared, and none of its contexts holds a design
(DEDUCED, log entry 109). -/
def clearHoopFrames (n : Nat) (s : State) : State :=
  let s := s.clear F.fabHoopCfgCtxValid n
  (List.range 4).foldl
    (fun s ctx =>
      let lo := hoopSlot n ctx
      let outside (k : Nat) : Bool := decide (k < lo) || decide (lo + 880 ≤ k)
      let s := { s with frames := s.frames.filter (fun e => outside e.1), frameFlips := s.frameFlips.filter (fun e => outside e.1) }
      let zero := List.replicate 110 (0 : Byte)
      imageWrite 1 (0x30000000 + lo / 8) zero (imageWrite 0 (0x30000000 + lo / 8) zero s)) s

/-- LOADER_PREPARE_DONE (R431, R433): a full load waits for the image regions, a hoop load for its hoop. -/
def execLoaderPrepareDone (s : State) : Out :=
  whenClocked s.mgmtClocked s <| .next <|
    if s.ldSt = 2 then
      if s.ldHoop then
        if s.hoopSt s.ldTarget = .loading then (clearHoopFrames s.ldTarget s).put F.cfgStatusState 3 else s
      else if (s.imageFilled 0 && s.imageFilled 1) || s.loader.waited then (prepareFull s).put F.cfgStatusState 3
      else s
    else s

/-! ### Segments (R417, R423) -/

/-- The IV of a segment (R423): the last four bytes of the base XORed with its number. -/
def State.segmentIv (s : State) (n : Nat) : List Nat :=
  let iv := s.folioNums 72 12
  iv.take 8 ++ Crypto.xorBytes (iv.drop 8) (Crypto.beBytes n 4)

/-- Decrypt bytes of the current segment that lie at an offset in its body. -/
def segmentText (at_ : Nat) (bs : List Byte) (s : State) : List Byte :=
  if s.folioEncrypted then
    let stream := Crypto.ctrStream s.loader.key (s.segmentIv s.loader.seg) (2 + at_ / 16) ((at_ % 16 + bs.length + 15) / 16)
    (Crypto.xorBytes (bs.map (fun b => b.toNat)) (stream.drop (at_ % 16))).map (fun n => BitVec.ofNat 8 n)
  else bs

/-- A type this kind of folio may hold (R417). -/
def typeAllowed (hoop : Bool) (t : Nat) : Bool := t == 1 || t == 2 || t == 3 || (t == 4 && !hoop)

/-- Make sure that a segment is open: its header is read and checked (R417). -/
def openSegment (s : State) : Option Segment × State :=
  match s.loader.cur with
  | some g => (some g, s)
  | none =>
    let start := s.loader.bytes.length
    match srcNext 16 s with
    | (none, s) => (none, loadFailAt 12 start s)
    | (some bs, s) =>
      let g : Segment := { start := start, typ := wordAt bs 0, len := wordAt bs 8 }
      let bad := !typeAllowed s.ldHoop g.typ || wordAt bs 4 != s.loader.seg || g.len % 8 != 0 || wordAt bs 12 != 0
        || decide (8388608 < g.len + 64) || decide (s.folioLength < start + 64 + g.len + 1612)
        || decide (s.folioSegments ≤ s.loader.seg)
      if bad then (none, loadFailAt 13 start s) else (some g, s.modLoader (fun l => { l with cur := some g }))

/-- Bytes of a segment's body still to be read. -/
def State.bodyLeft (s : State) (g : Segment) : Nat := g.start + 16 + g.len - s.loader.bytes.length

/-- Read the next bytes of the body in clear; a record may not pass the body's end. -/
def bodyNext (g : Segment) (n : Nat) (s : State) : Option (List Byte) × State :=
  let ofs := s.loader.bytes.length
  if s.bodyLeft g < n then (none, loadFailAt 13 ofs s)
  else match srcNext n s with
    | (none, s) => (none, loadFailAt 12 ofs s)
    | (some bs, s) => (some (segmentText (ofs - g.start - 16) bs s), s)

/-- A row takes the next record of its type: none where the load is not at one. -/
def atRecord (typ : Nat) (run : Segment → State → State) (s : State) : State :=
  if s.ldSt = 3 then
    match openSegment s with
    | (none, s) => s
    | (some g, t) => if g.typ = typ ∧ t.bodyLeft g ≠ 0 then run g t else if s.loader.cur.isSome then s else t
  else s

/-! ### Records (R418 to R421) -/

/-- A frame run (R418, R433). -/
def frameRun (g : Segment) (s : State) : State :=
  let ofs := s.loader.bytes.length
  match bodyNext g 8 s with
  | (none, s) => s
  | (some bs, s) =>
    let h := ofBytes bs
    let fa := h / 2 ^ 32
    let count := bits h 16 0 + 1
    let op := bits h 31 30
    if 1 < op ∨ bits h 29 17 ≠ 0 ∨ faLegal fa = false ∨ regionFrames (faRegion fa) < bits fa 16 0 + count then loadFailAt 13 ofs s
    else if s.ldHoop = true ∧ faRegion fa ≠ s.ldTarget then loadFail 10 ofs fa s
    else match bodyNext g (if op = 1 then 512 else 512 * count) s with
      | (none, s) => s
      | (some data, s) => loadFrames fa (op == 1) count data s

/-- FRAME_RUN (R418, R429, R436, R437). -/
def execFrameRun (s : State) : Out :=
  whenClocked s.mgmtClocked s <| .next (atRecord 1 frameRun s)

/-- The fields of MEMB_BCFG that a record carries (08 R272); the bits between them are reserved. -/
def bcfgMask : Nat := 0x33FC07F

/-- A record gives a value that the loader refuses: a bank's mode, write mode or reserved bit (08 R243); a binding (05 R174); an
array's field-start mask or miss_max (07 R218). -/
def blockRefused (kind a b mask : Nat) : Bool :=
  match kind with
  | 2 => bits a 25 24 == 3 || bits a 5 4 == 3 || bits a 19 18 == 3 || bits a 25 0 &&& bcfgMask != bits a 25 0
  | 3 => decide (4 < bits b 2 0)
  | _ =>
    decide (4 < bits b 2 0) || !bitAt mask 0 || decide (8 < (fieldStarts mask).length)
      || decide ((fieldStarts mask).length ≤ bits a 10 8)

/-- Apply the record of a bank (R419). -/
def mblockBank (i owner a : Nat) (s : State) : State :=
  (s.setWord .membBcfg (BitVec.ofNat 32 (setBits (s.word .membBcfg i).toNat 25 0 (a &&& bcfgMask))) i).put F.membBownOwner owner i

/-- Apply the record of a rank unit (R419). -/
def mblockRank (i owner a b : Nat) (s : State) : State :=
  let cfg : RankCfg := { clk := bits a 1 0, kw := bitAt a 4, asc := bitAt a 5, chain := bitAt a 6 }
  ((s.setRank i { s.rank i with cfg := cfg }).put F.fabBindRuOwner owner i).put F.fabBindRuBind (bits b 2 0) i

/-- Apply the record of a pattern match array; its set selection waits for the start or release edge (R419). -/
def mblockArray (i owner a b mask : Nat) (s : State) : State :=
  let s := s.setWord .fabPmCfg (BitVec.ofNat 32 (a % 2 ^ 11 + (fieldStarts mask).length * 2 ^ 16)) i
  let s := (s.setPair .fabPmFldLo .fabPmFldHi mask i).setPm i { s.pm i with setAtStart := some (bits b 5 4) }
  (s.put F.fabBindPmOwner owner i).put F.fabBindPmBind (bits b 2 0) i

/-- A record whose form R419 excludes. -/
def mblockBad (kind w a b mask : Nat) (rest : List Byte) : Bool :=
  let reserved := bits w 27 16 != 0 || rest.any (fun x => x != 0)
  reserved ||
    match kind with
    | 2 => decide (8192 ≤ bits w 15 0) || bits a 31 26 != 0 || b != 0 || mask != 0
    | 3 => decide (192 ≤ bits w 15 0) || a &&& 0xFFFFFF8C != 0 || bits b 31 3 != 0 || mask != 0
    | 4 => decide (256 ≤ bits w 15 0) || bits a 31 11 != 0 || b &&& 0xFFFFFFC8 != 0
    | _ => true

/-- A block record (R419, R433). -/
def mblockRecord (g : Segment) (s : State) : State :=
  let ofs := s.loader.bytes.length
  match bodyNext g 32 s with
  | (none, s) => s
  | (some bs, s) =>
    let w := wordAt bs 0
    let kind := bits w 31 28
    let i := bits w 15 0
    let owner := wordAt bs 4
    let a := wordAt bs 8
    let b := wordAt bs 12
    let mask := ofBytes ((bs.drop 16).take 8)
    if mblockBad kind w a b mask (bs.drop 24) = true ∨ 193 < owner then loadFailAt 13 ofs s
    else if s.ldHoop = true ∧ (s.bounded kind i = false ∨ owner ≠ s.ldTarget) then loadFailAt 10 ofs s
    else
      let s := s.modLoader (fun l =>
        { l with blocks := l.blocks ++ [(ofs, kind, i)]
                 refused := if l.refused.isNone && blockRefused kind a b mask then some ofs else l.refused })
      match kind with
      | 2 => mblockBank i owner a s
      | 3 => mblockRank i owner a b s
      | _ => mblockArray i owner a b mask s

/-- MBLOCK_RECORD (R419). -/
def execMblockRecord (s : State) : Out :=
  whenClocked s.mgmtClocked s <| .next (atRecord 2 mblockRecord s)

/-- The initial contents of a bank are written to its words (R420). -/
def fillBank (i : Nat) (bs : List Byte) (s : State) : State :=
  writeBytes (fun w d _ s => s.putWord w d 0) (0x40000000 + 0x2000 * i) bs (List.replicate bs.length true) s

/-- A bank's initial contents (R420, R433, 08 R267): a bank that is not ON is brought there first, and the record waits. -/
def bankinitRecord (g : Segment) (s : State) : State :=
  let ofs := s.loader.bytes.length
  match bodyNext g 8200 s with
  | (none, t) => t
  | (some bs, t) =>
    let h := ofBytes (bs.take 8)
    let i := bits h 15 0
    if bits h 63 16 ≠ 0 ∨ 8192 ≤ i then loadFailAt 13 ofs t
    else if t.ldHoop = true ∧ t.bounded 2 i = false then loadFailAt 10 ofs t
    else if (t.bank (blockId i)).unspared then t
    else if t.power (blockId i) = .on ∧ (t.bank (blockId i)).latched = none then fillBank i (bs.drop 8) t
    else (powerRequest (blockId i) 0 s).1

/-- BANKINIT_RECORD (R420). -/
def execBankinitRecord (s : State) : Out :=
  whenClocked s.mgmtClocked s <| .next (atRecord 3 bankinitRecord s)

/-- An on-chip offset that a REGS record may name: in CLK, MTIME, LANE, FAB, MEMB, NEAR, CAVE, NOC, WX, QC or CASC, by
the place of the block, 1 MiB each (R421, 01 R29). -/
def regsAllowed (ofs : Nat) : Bool := [1, 2, 3, 5, 6, 7, 8, 10, 11, 12, 16].contains (ofs / 0x100000)

/-- A register record (R421): buffered until the signature is verified. -/
def regsRecord (g : Segment) (s : State) : State :=
  let ofs := s.loader.bytes.length
  match bodyNext g 8 s with
  | (none, s) => s
  | (some bs, s) =>
    let r := ofBytes bs
    if regsAllowed (r / 2 ^ 32) = false ∨ 8192 ≤ s.loader.regs.length then loadFailAt 13 ofs s
    else s.modLoader (fun l => { l with regs := l.regs ++ [(ofs, r / 2 ^ 32, r % 2 ^ 32)] })

/-- REGS_RECORD (R421). -/
def execRegsRecord (s : State) : Out :=
  whenClocked s.mgmtClocked s <| .next (atRecord 4 regsRecord s)

/-- The trailer of an encrypted segment: the key of the next one, or none where the tag fails (R423). -/
def trailerKey (g : Segment) (trailer : List Byte) (s : State) : Option (List Nat) :=
  let nums (b : List Byte) : List Nat := b.map (fun x => x.toNat)
  let cipher := nums ((s.loader.bytes.drop (g.start + 16)).take (g.len + 32))
  let aad := nums ((s.loader.bytes.drop g.start).take 16)
  if Crypto.gcmTag s.loader.key (s.segmentIv s.loader.seg) aad cipher = nums (trailer.drop 32) then
    some (nums (segmentText g.len (trailer.take 32) s))
  else none

/-- A segment ends: its tag is checked; the last one ends where the signature begins (R417, R423). -/
def segmentEnd (g : Segment) (s : State) : State :=
  match srcNext 48 s with
  | (none, s) => loadFailAt 12 (g.start + 16 + g.len) s
  | (some trailer, s) =>
    let key := if s.folioEncrypted then trailerKey g trailer s else some []
    match key with
    | none => loadFailAt 14 (g.start + 16 + g.len) s
    | some key =>
      let s := s.modLoader (fun l => { l with key := key, seg := l.seg + 1, cur := none })
      if s.loader.seg < s.folioSegments then s
      else if s.loader.bytes.length + 1612 = s.folioLength then s.put F.cfgStatusState 4
      else loadFailAt 13 s.loader.bytes.length s

/-- SEGMENT_END (R417, R423). -/
def execSegmentEnd (s : State) : Out :=
  whenClocked s.mgmtClocked s <| .next <|
    if s.ldSt = 3 then
      match openSegment s with
      | (none, s) => s
      | (some g, t) => if t.bodyLeft g = 0 then segmentEnd g t else if s.loader.cur.isSome then s else t
    else s

/-- FLASH_READ_TIMEOUT (R435): a flash read takes 1 ms. -/
def execFlashReadTimeout (s : State) : Out :=
  whenClocked s.mgmtClocked s <| .next (if (s.ldSt = 1 ∨ s.ldSt = 3) ∧ s.get F.cfgStatusSrc ≠ 2 then loadFailAt 12 s.loader.bytes.length s else s)

/-! ### Scrubbing and frame rewrites (R414, R438, R439) -/

/-- The scrubbers skip a frame: of a hoop in LOADING or INCOMPLETE, or being written (R414). -/
def State.scrubSkips (s : State) (fa : Nat) : Bool :=
  let r := faRegion fa
  (decide (r < 192) && (s.hoopSt r == .loading || s.hoopSt r == .incomplete)) || s.loader.rewriting == some fa

/-- SCRUB_FRAME_READ (R414, R438): a frame is read, `upsets` having come to it since it was read last. One or two wrong bits
are corrected in place; three or more are reported, and a report that finds the queue full is dropped. A frame already queued
waits once. -/
def execScrubFrameRead (fa : Word) (upsets : List (Fin 4128)) (s : State) : Out :=
  whenClocked s.mgmtClocked s <| .next <|
    let fa := fa.toNat
    let slot := faSlot fa
    let s := if faLegal fa then s.upsetFrame slot upsets else s
    if faLegal fa = false ∨ s.scrubSkips fa = true ∨ s.flips slot = [] then s
    else if (s.flips slot).length < 3 then spansMended slot (s.mendFrame slot)
    else if s.loader.queue.contains fa = true then s
    else if 16 ≤ s.loader.queue.length then (s.bump F.cfgRwStatDropped).flag F.cfgErrRewriteDrop
    else s.modLoader (fun l => { l with queue := l.queue ++ [fa] })

/-- FRAME_REWRITE_START (R438, 05 R181): the oldest queued rewrite begins; its hoop may enter REPAIR. -/
def execFrameRewriteStart (s : State) : Out :=
  whenClocked s.mgmtClocked s <| .next <|
    match s.loader.rewriting, s.loader.queue with
    | none, fa :: rest =>
      let s := s.modLoader (fun l => { l with queue := rest, rewriting := some fa })
      let r := faRegion fa
      if r < 192 ∧ s.bit F.fabHoopCfgRepairClamp r = true then enterRepair r s else s
    | _, _ => s

/-- Read a frame's slot in copy `h`: none on an error response, poison, or a copy marked unusable; a clear presence bit
gives a zero frame (R438). -/
def imageRead (h slot : Nat) (s : State) : Option Nat × State :=
  if s.bit (imgOk h) then
    let p := engineRead .loader (imageBase h + 0x30000000 + slot / 8) 1 s
    if p.status ≠ .ok ∨ p.poison = true then (none, p.state)
    else if (ofBytes p.data).testBit (slot % 8) = false then (some 0, p.state)
    else
      let r := engineRead .loader (imageBase h + 512 * slot) 512 p.state
      (if r.status = .ok ∧ r.poison = false then some (ofBytes r.data) else none, r.state)
  else (none, s)

/-- A rewrite has written its frame (R438): counted, logged, flagged; a hoop in REPAIR resumes after its last one. -/
def rewriteDone (fa v : Nat) (s : State) : State :=
  let r := faRegion fa
  let s := ((s.setFrame (faSlot fa) v).bump F.cfgRwStatDone).put F.cfgRwLogVal fa
  let s := spansMended (faSlot fa) s
  if r < 192 then
    let s := s.flag F.fabHoopFlagFrame r
    if s.hoopSt r = .repair ∧ s.rewritePending r = false then s.modHoop r (fun h => { h with resumeAt := some (s.mt.boundary + 1) })
    else s
  else s

/-- Both copies of a frame have failed (R439): its hoop stays flagged, in REPAIR until it is stopped. -/
def rewriteLost (fa : Nat) (s : State) : State :=
  let r := faRegion fa
  let s := ((s.bump F.cfgRwStatFailed).flag F.cfgErrRewriteFail).raise .cfgRewriteFail 0 fa
  if r < 192 then (s.flag F.fabHoopFlagFrame r).modHoop r (fun h => { h with rewriteFailed := h.rewriteFailed || s.hoopSt r == .repair })
  else s

/-- FRAME_REWRITE_DONE (R438, R439): the frame comes from copy 0, or from copy 1, or is lost. -/
def execFrameRewriteDone (s : State) : Out :=
  whenClocked s.mgmtClocked s <| .next <|
    match s.loader.rewriting with
    | none => s
    | some fa =>
      let s := s.modLoader (fun l => { l with rewriting := none })
      let slot := faSlot fa
      match imageRead 0 slot s with
      | (some v, s) => rewriteDone fa v s
      | (none, s) =>
        match imageRead 1 slot s with
        | (some v, s) => rewriteDone fa v s
        | (none, s) => rewriteLost fa s

end Sys2Proof.Machine
end

