-- ==== Sys2Proof/Machine/Clocks.lean ====
section
/-!
DEFINITION. Clocks, resets and start-up (16): synthesisers, glitch-free switches, loss and return of sources, power-on and
system resets, the start-up phases.
-/
namespace Sys2Proof.Machine

/-- Change the clocks' data. -/
def State.modClk (s : State) (f : ClkSt → ClkSt) : State := { s with clk := f s.clk }

/-! ### Switches (R523 to R525, R528) -/

/-- A switch takes its new source: CLK_STATUS and, for the root, powered time's source follow (R528, R66). -/
def switchTo (mux source : Nat) (s : State) : State :=
  let s := s.modClk (fun c => { c with source := Tab.put (clkReset mux) c.source mux source, busy := Tab.put 0 c.busy mux 0 })
  match mux with
  | 0 =>
    let ito := source == 1
    let s := ((s.putBit F.clkCtrlRootSel ito).putBit F.clkStatusRootIto ito).putBit F.mtimeStatusPtInternal ito
    -- Powered time counts on from the source selected, if that runs (R66, R529).
    let runs := ito || s.bit F.clkStatusXoOk
    let s := { s with ptRuns := (s.ptRuns || s.clk.rootStopped) && runs }
    (s.modClk (fun c => { c with rootStopped := !runs })).blot 0xC0A 1 (if ito then 0 else 1)
  | 1 => s.putBit F.clkStatusNocPpll (source == 1)
  | _ => s

/-- A switch completes, forced or not, and a latched request starts (R524, R525). -/
def switchDone (mux : Nat) (forced : Bool) (s : State) : State :=
  match Tab.get 0 s.clk.busy mux with
  | 0 => s
  | t + 1 =>
    let s := switchTo mux t ((s.put F.clkStatusLastMux mux).putBit F.clkStatusForced forced)
    let s := if forced then (s.flag F.clkErrForced).blot 0xC07 1 mux else s
    match Tab.get 0 s.clk.latched mux with
    | 0 => s
    | u + 1 => clkRequest mux u (s.modClk (fun c => { c with latched := Tab.put 0 c.latched mux 0 }))

/-- CLOCK_SWITCH_DONE (R523, R525). -/
def execClockSwitchDone (mux : Fin 32) (s : State) : Out := .next (switchDone mux false s)

/-- CLK_FORCED (R524, R528). -/
def execClkForced (mux : Fin 32) (s : State) : Out := .next (switchDone mux true s)

/-! ### Writes of the CLK block (R520 to R522, R528) -/

/-- A write that is ignored for its frequency (R520, R521). -/
def badFreq (s : State) : State × Status := (s.flag F.clkErrBadFreq, .ok)

/-- A write of CLK_NOC (R520). -/
def clkNocWrite (v : Nat) (s : State) : State × Status :=
  let n := bits v 23 16
  let d := bits v 3 0
  let moves := n != s.get F.clkNocN || d != s.get F.clkNocD
  if moves && !s.bit F.clkNocSel then (s, .busy)
  else if moves && (decide (n < 128) || decide (d < 2) || decide (1600 * d < 25 * n)) then badFreq s
  else
    let s := ((s.put F.clkNocSel (bits v 31 31)).put F.clkNocN n).put F.clkNocD d
    let s := if moves then s.clear F.clkStatusNpllLock else s
    (clkRequest 1 (bits v 31 31) s, .ok)

/-- CLK_NOC_WRITE (R520). -/
def execClkNocWrite (v : Word) (s : State) : Out := reply (clkNocWrite v.toNat s)

/-- Put bit `i` of a field. -/
def State.putNth (s : State) (f : Fld) (i : Nat) (b : Bool) : State := s.put f (setBits (s.get f) i i (b2n b))

/-- A write of CLK_QPLLq (R521). -/
def clkQpllWrite (q v : Nat) (s : State) : State × Status :=
  let n := bits v 23 16
  if (List.range 16).any (fun g => s.get F.clkGrpSrc g == q) then (s, .busy)
  else if n < 128 then badFreq s
  else if n = s.get F.clkQpllN q then (s, .ok)
  else ((s.put F.clkQpllN n q).putNth F.clkStatusQpllLock q false, .ok)

/-- CLK_QPLL_WRITE (R521). -/
def execClkQpllWrite (q : Fin 4) (v : Word) (s : State) : Out := reply (clkQpllWrite q v.toNat s)

/-- A write of CLK_GRPg (R521). -/
def clkGrpWrite (g v : Nat) (s : State) : State × Status :=
  let src := bits v 25 24
  let sdiv := bits v 11 8
  let qdiv := bits v 3 0
  let divides := sdiv != s.get F.clkGrpSdiv g || qdiv != s.get F.clkGrpQdiv g
  let idle := (List.range 8).all (fun k =>
    match s.qSt (8 * g + k) with | .held => true | .retired => true | .off => true | _ => false)
  let n := s.get F.clkQpllN src
  if divides && !idle then (s, .busy)
  else if 1200 * qdiv < 25 * n ∨ 1200 * sdiv < 25 * n then badFreq s
  else
    let s := ((s.put F.clkGrpSrc src g).put F.clkGrpSdiv sdiv g).put F.clkGrpQdiv qdiv g
    (clkRequest (2 + g) src s, .ok)

/-- CLK_GRP_WRITE (R521). -/
def execClkGrpWrite (g : Fin 16) (v : Word) (s : State) : Out := reply (clkGrpWrite g v.toNat s)

/-- A write of CLK_NCTL (R522). -/
def clkNctlWrite (v : Nat) (s : State) : State × Status :=
  let sel := bits v 5 4
  let quiet := (List.range 36).all (fun c => match s.nearSt c with | .off => true | .failed => true | .retired => true | _ => false)
  if sel ≠ s.get F.clkNctlSel ∧ quiet = false then (s, .busy)
  else
    let s := ((s.put F.clkNctlSel sel).put F.clkNctlSrcA (bits v 8 8)).put F.clkNctlSrcB (bits v 9 9)
    (clkRequest 19 (bits v 9 9) (clkRequest 18 (bits v 8 8) s), .ok)

/-- CLK_NCTL_WRITE (R522). -/
def execClkNctlWrite (v : Word) (s : State) : Out := reply (clkNctlWrite v.toNat s)

/-- A write of CLK_CTRL (R528): root_sel, root_auto while not locked, lock. -/
def clkCtrlWrite (v : Nat) (s : State) : State × Status :=
  let s := if s.bit F.clkCtrlLock then s else s.put F.clkCtrlRootAuto (bits v 1 1)
  let s := if bitAt v 0 then s.flag F.clkCtrlLock else s
  (clkRequest 0 (bits v 2 2) (s.put F.clkCtrlRootSel (bits v 2 2)), .ok)

/-- ROOT_SELECT_WRITE (R528). -/
def execRootSelectWrite (v : Word) (s : State) : Out := reply (clkCtrlWrite v.toNat s)

/-! ### Loss and return of sources (R516, R526 to R530) -/

/-- XO_LOSS (R526, R528, R529): with root_auto the root is to switch to the ITO; else it stops. -/
def execXoLoss (s : State) : Out :=
  .next <|
    let s := (s.flag F.clkErrXoFail).clear F.clkStatusXoOk
    if s.clkSource 0 ≠ 0 then s
    else if s.bit F.clkCtrlRootAuto then clkRequest 0 1 s
    else { s.modClk (fun c => { c with rootStopped := true }) with ptRuns := false }

/-- XO_VALID (R516, R529, R536): start-up passes from WAIT_XO to CLOCKS and powered time starts; a stopped root runs again. -/
def execXoValid (s : State) : Out :=
  .next <|
    if s.clk.held then s
    else
      let s := s.flag F.clkStatusXoOk
      let s := if s.clk.rootStopped then { s.modClk (fun c => { c with rootStopped := false }) with ptRuns := true } else s
      if s.get F.sysStatusPhase = 1 then { s.put F.sysStatusPhase 2 with ptRuns := true } else s

/-- Show a synthesiser's lock; with EPLL's the Ethernet ports lose PCS block lock (R526). -/
def pllShow (p : Nat) (lock : Bool) (s : State) : State :=
  match p with
  | 1 => s.putBit F.clkStatusPpllLock lock
  | 2 => s.putBit F.clkStatusNpllLock lock
  | 9 =>
    let s := if lock then s else (s.clear F.ethStatusLink0).clear F.ethStatusLink1
    s.modClk (fun c => { c with epllLost := !lock })
  | p => if p < 7 then s.putNth F.clkStatusQpllLock (p - 3) lock else s.putNth F.clkStatusMpllLock (p - 7) lock

/-- Show whether a synthesiser is declared failed; PPLL and EPLL have no bit. -/
def pllFailed (p : Nat) (fail : Bool) (s : State) : State :=
  let s := s.modClk (fun c => { c with failed := if fail then p :: c.failed else c.failed.filter (fun x => x != p) })
  if p = 2 then s.putBit F.clkStatusNpllFail fail
  else if 3 ≤ p ∧ p < 7 then s.putNth F.clkStatusQpllFail (p - 3) fail
  else if p = 7 ∨ p = 8 then s.putNth F.clkStatusMpllFail (p - 7) fail
  else s

/-- PLL_UNLOCK (R526): a synthesiser, by source number, loses lock. -/
def execPllUnlock (p : Fin 10) (s : State) : Out :=
  .next (if p.val = 0 ∨ s.pllLocked p = false then s else (pllShow p false s).flag F.clkErrPllUnlock)

/-- PLL_RELOCK (R527): it locks again, which takes a root that runs (R529); one that was declared failed is reported back. -/
def execPllRelock (p : Fin 10) (s : State) : Out :=
  .next <|
    if p.val = 0 ∨ s.clk.rootStopped = true then s
    else
      let s := pllShow p true s
      if s.clk.failed.contains p.val then (pllFailed p false s).blot 0xC09 0 p else s

/-- A synthesiser is declared failed (R527, R532): a failed PPLL, with XO_IN valid, causes a system reset. -/
def pllFail (p : Nat) (s : State) : State :=
  let s := ((pllFailed p true s).flag F.clkErrPllFail).blot 0xC08 2 p
  if p = 1 ∧ s.bit F.clkStatusXoOk = true then s.modClk (fun c => { c with resetDue := c.resetDue ||| 16 }) else s

/-- PLL_FAIL_TIMEOUT (R527): a synthesiser has not locked again within 100 µs. -/
def execPllFailTimeout (p : Fin 10) (s : State) : Out :=
  .next (if p.val = 0 ∨ s.pllLocked p = true ∨ s.clk.failed.contains p.val = true then s else pllFail p s)

/-! ### Power-on reset (R532) -/

/-- Everything but flash, one-time-programmable storage and the model's own fields returns to reset. Production lock-out
takes effect (19 R603); the blocks of leaves burnt so far are gone (15 R509). -/
def powerOnReset (s : State) : State :=
  let t : State :=
    { flash := s.flash, otp := s.otp, pending := s.pending, out := s.out, free := s.free
      scm := { records := s.scm.records } }
  let t := t.putBit F.dbgStatusLocked s.otp.locked
  let t := t.put F.scmLeafBlocks (t.get F.scmLeafBlocks - s.otp.leafBlocks)
  t.modClk (fun c => { c with held := true })

/-- POWER_ON_RESET (R532). -/
def execPowerOnReset (s : State) : Out := .next (powerOnReset s)

/-- PGOOD_FALL (R532, 20 R617). -/
def execPgoodFall (s : State) : Out := .next (powerOnReset s)

/-- SUPPLY_MONITOR_FALL (R532, 20 R616). -/
def execSupplyMonitorFall (s : State) : Out := .next (powerOnReset s)

/-- POWER_STABLE (R536): POWER_ON ends, and the straps are sampled. -/
def execPowerStable (s : State) : Out :=
  .next (if s.clk.held ∧ s.warm = false then s.modClk (fun c => { c with held := false }) else s)

/-! ### System reset (R532 to R534) -/

/-- Registers that a system reset keeps whole: reset causes, fill marks, valid keys, bank retirements and spares, broken
sensors, blotter and event numbering, the debug block (R533, 19 R581). -/
def keptRegs : List RegName :=
  [.sysRstcause, .nearChFill, .xcrKeyValid, .membBret, .membSret, .membRetcnt, .membSpmapB, .membSpmapS, .scmBrokenLo] ++
  [.scmBrokenHi, .scmStcnt, .scmBlotNext, .scmBlotDrop, .ethEvtNext, .scmSerialLo, .scmSerialHi, .scmLeaf] ++ regsDbg

/-- Registers that a system reset keeps. -/
def keepRegs (regs : Tab Word) : Tab Word := regs.filter (fun e => keptRegs.any (fun r => r.ctorIdx == e.1 / 4294967296))

/-- Retirements of lanes, channels, ports, routers, cores and shadows are kept (R533). -/
def keepRetired (old s : State) : State :=
  let s := (List.range (48 * 9)).foldl
    (fun s k =>
      if old.laneSt (k / 9) (k % 9) = .retired then
        -- With what it learnt in CAPS, which names it to the far end (03 R106).
        let s := s.setWord .laneCapsLo (old.word .laneCapsLo (k / 9) (k % 9)) (k / 9) (k % 9)
        ((s.setLaneSt (k / 9) (k % 9) .retired).put F.laneLstFarLane (old.get F.laneLstFarLane (k / 9) (k % 9)) (k / 9) (k % 9)).modLane
          (k / 9) (k % 9) (fun l => { l with capsKnown := (old.lane (k / 9) (k % 9)).capsKnown })
      else s) s
  let s := (List.range 48).foldl
    (fun s n => if (old.bundle n).steerFor.isSome then s.modBundle n (fun b => { b with steerFor := (old.bundle n).steerFor }) else s) s
  let s := (List.range 36).foldl
    (fun s c => match old.nearSt c with
      | .failed => s.put F.nearChStatusState NearState.failed.code c
      | .retired => s.put F.nearChStatusState NearState.retired.code c
      | _ => s) s
  let s := (List.range 16).foldl
    (fun s p => match old.cvSt p with | .retired => s.setCvSt p .retired | _ => s) s
  let s := (List.range 144).foldl
    (fun s r =>
      let s := if old.rtrSt r = 3 then s.put F.nocRtrStatusState 3 r else s
      ((s.put F.nocRtrStatusSpareXbar (old.get F.nocRtrStatusSpareXbar r) r).put F.nocRtrStatusRemapped
        (old.get F.nocRtrStatusRemapped r) r).put F.nocRtrStatusDeadLink (old.get F.nocRtrStatusDeadLink r) r) s
  let s := (List.range 128).foldl (fun s n => match old.qSt n with | .retired => s.setQSt n .retired | _ => s) s
  let s := (List.range 16).foldl (fun s g => if old.bit F.qcShstatRetired g then s.flag F.qcShstatRetired g else s) s
  nocCounts s

/-- What self-test and the cross-check have found is kept (R533): broken sensors, unrepaired frame storage. -/
def keepTested (old s : State) : State :=
  let s := s.put F.scmStatusBroken (old.get F.scmStatusBroken)
  let s := (s.put F.fabCtrlFixBadL1 (old.get F.fabCtrlFixBadL1)).put F.fabCtrlFixBadL2 (old.get F.fabCtrlFixBadL2)
  old.badFrames.foldl (fun s n => (s.setHoopSt n .off).setDom (hoopDom n) { st := .off }) s

/-- Every bank is handled by its state (R533, 08 R266). -/
def resetBanks (s : State) : State :=
  let s := (List.range 8192).foldl (fun s n => bankReset (.block (Fin.ofNat 8192 n)) s) s
  (List.range 256).foldl (fun s n => bankReset (.scratch (Fin.ofNat 256 n)) s) s

/-- A pattern match array keeps its rows (R533). -/
def keepRows (pms : Tab PmArr) : Tab PmArr :=
  (pms.map (fun e => (e.1, { rows := e.2.rows : PmArr }))).filter (fun e => e.2 != {})

/-- FAB_PM_ECC.poisoned counts the poisoned rows that are kept (07 R237). -/
def keepRowMarks (old s : State) : State :=
  s.pms.foldl (fun s e => s.put F.fabPmEccPoisoned (old.get F.fabPmEccPoisoned e.1) e.1) s

/-- A system reset with its causes (R533): what it keeps is kept, everything else takes its reset value. -/
def systemReset (causes : Nat) (s : State) : State :=
  let s := resetBanks s
  let t : State :=
    { regs := keepRegs s.regs, mem := s.mem, syn := s.syn, near := s.near, xcr := s.xcr,
      nears := (s.nears.map (fun e => (e.1, { junk := e.2.junk : NearSt }))).filter (fun e => e.2 != {}), pms := keepRows s.pms
      banks := (s.banks.map (fun e => (e.1, { unspared := e.2.unspared : BankSt }))).filter (fun e => e.2 != {})
      flash := s.flash, otp := s.otp, log := s.log, failed := s.failed, badFrames := s.badFrames, riserBad := s.riserBad
      scm := { next := s.scm.next, round := s.scm.round, raw := s.scm.raw, hist := s.scm.hist, off := s.scm.off
               results := s.scm.results, badXbars := s.scm.badXbars, records := s.scm.records, leafBlock := s.scm.leafBlock }
      dbg := { s.dbg with sceumHalted := false, sceumPending := false, sceumStep := false, running := none }
      pt := s.pt, ptRuns := s.ptRuns, warm := true, pending := s.pending, out := s.out, free := s.free }
  let t := keepRowMarks s (keepTested s (keepRetired s t))
  let t := t.setWord .sysRstcause (BitVec.ofNat 32 ((t.word .sysRstcause).toNat ||| causes))
  t.modClk (fun c => { c with held := true })

/-- A system reset is about to begin. -/
def resetFor (cause : Nat) (s : State) : State := s.modClk (fun c => { c with resetDue := c.resetDue ||| cause })

/-- SRST_ASSERT (R534): SRST_N has been low for 1 µs. -/
def execSrstAssert (s : State) : Out := .next (resetFor 2 s)

/-- A write of SYS_RST (R534): only the key with sys = 1 has an effect. -/
def sysRstWrite (v : Nat) (s : State) : State × Status :=
  if bits v 31 20 = 0xA49 ∧ bitAt v 0 = true then (resetFor 4 s, .ok) else (s, .ok)

/-- SYS_RST_WRITE (R534): the response goes out before the reset begins. -/
def execSysRstWrite (v : Word) (s : State) : Out := reply (sysRstWrite v.toNat s)

/-- SYSTEM_RESET (R532, R533): a reset that is due begins. -/
def execSystemReset (s : State) : Out := .next (if s.clk.resetDue = 0 then s else systemReset s.clk.resetDue s)

/-- SYSTEM_RESET_RELEASE (R534, R536, 19 R592): start-up proceeds from WAIT_XO; DBG_CONNECT takes effect. -/
def execSystemResetRelease (s : State) : Out :=
  .next <|
    if s.clk.held ∧ s.warm = true then
      let s := s.modClk (fun c => { c with held := false })
      let s := if s.bit F.dbgConnectAttach then (s.flag F.dbgCtrlAttach).flag F.dbgStatusAttached else s
      if s.bit F.dbgConnectHoldSceum then { s with dbg := { s.dbg with sceumHalted := true, sceumCause := 4 } } else s
    else s

/-! ### Start-up (R536, R537) -/

/-- A near-store channel trains in BOOT; after a system reset its fill resumes where it was (R537). -/
def bootChannel (c : Nat) (s : State) : State :=
  match s.nearSt c with
  | .retired => s
  | .failed => s
  | _ =>
    let fill := s.get F.nearChFillVal c
    let s := nearTrain c s
    if s.warm then s.put F.nearChFillVal fill c else s

/-- CLOCKS_PHASE_DONE (R536, R537): PPLL is locked, one-time-programmable storage is read, start-up enters BOOT; `unlocked`: by source number, the synthesisers
that have not locked, which are declared failed. After a power-on K0 is drawn (10 R315). -/
def execClocksPhaseDone (unlocked : BitVec 10) (s : State) : Out :=
  .next <|
    if s.get F.sysStatusPhase = 2 ∧ unlocked.toNat.testBit 1 = false then
      let s := (s.put F.sysStatusPhase 3).setWord .cfgPolicy (BitVec.ofNat 32 s.otp.policy)
      let s := (List.range 9).foldl
        (fun s k => if unlocked.toNat.testBit (k + 1) then pllFail (k + 1) (pllShow (k + 1) false s) else pllShow (k + 1) true s) s
      drawK0 ((List.range 36).foldl (fun s c => bootChannel c s) s)
    else s

/-- The power-on fill leaves a bank that is not retired ON in native mode (08 R266); where it was on the way to another state it
is so afterwards, with what was latched discarded. -/
def bankFilled (id : BankId) (s : State) : State :=
  if (s.bank id).unspared ∨ s.power id = .on then s.modBank id (fun b => { b with compat := false })
  else
    let s := s.clear (id.fld F.membBpwrPendingEnable F.membSpwrPendingEnable) id.idx
    let s := s.clear (id.fld F.membBpwrPendingDown F.membSpwrPendingDown) id.idx
    ((s.put (id.fld F.membBpwrTarget F.membSpwrTarget) 0 id.idx).setPower id .on).modBank id (fun b =>
      { b with compat := false, latched := none, toOff := false, fromOff := false })

/-- ONCHIP_FILL_DONE (08 R266, R537): every on-chip word is zero with valid check bits and every bank ON; latched releases of
cores take effect. -/
def execOnchipFillDone (s : State) : Out :=
  .next <|
    if s.get F.sysStatusPhase = 3 ∧ s.fillPending = true ∧ s.bit F.sysStatusSelftestDone = true then
      let s := { s with mem := [], syn := [] }.flag F.sysStatusOnchipFilled
      let s := (List.range 8192).foldl (fun s n => bankFilled (.block (Fin.ofNat 8192 n)) s) s
      let s := (List.range 256).foldl (fun s n => bankFilled (.scratch (Fin.ofNat 256 n)) s) s
      (List.range 128).foldl (fun s n => if s.bit F.qcStatusPendingEnable n then coreRelease n s else s) s
    else s

end Sys2Proof.Machine
end

