-- ==== Sys2Proof/Machine/Domains.lean ====
section
/-!
DEFINITION. Power domains (01 R17 to R21, R635): requests, gating and power-up, with what each kind of domain loses and
wakes with.
-/
namespace Sys2Proof.Machine

/-- Key of a switchable domain; none for one that is never switched off (R17). -/
def domKey : Dom → Option Nat
  | .quill g => some (100 + g)
  | .near c => some (200 + c)
  | .cave p => some (300 + p)
  | .iob n => some (400 + n)
  | .bundle n => some (1000 + n)
  | .hoop n => some (2000 + n)
  | .alwaysOn | .coreServices | .config _ | .memoryLayer => none

/-- The lanes of a bundle stop; those in service or enabled come up again with the domain (R17, 03 R98). -/
def bundlePowerDown (n : Nat) (s : State) : State :=
  (List.range 9).foldl
    (fun s m =>
      let st := s.laneSt n m
      let was := (st != .off && st != .stopping && st != .retired) || (s.lane n m).wanted || s.bit F.laneLstPendingEnable n m
      (laneDisable n m s).modLane n m (fun l => { l with wanted := was })) s

/-- A bundle is gated: its lanes have stopped and their receivers and ports hold nothing. -/
def bundleGated (n : Nat) (s : State) : State :=
  (List.range 9).foldl
    (fun s m => (laneStopDone n m s).modLane n m (fun l =>
      -- What a retired lane learnt in CAPS names it to the far end (03 R106).
      { wanted := l.wanted, capsKnown := l.capsKnown && s.laneSt n m == .retired })) s

/-- The lanes of a bundle enter bring-up (R17). -/
def bundleWake (n : Nat) (s : State) : State :=
  (List.range 9).foldl (fun s m => if (s.lane n m).wanted then laneEnable n m s else s) s

/-- The pins of a bank are released and lose the words on their way (04 R156, R158). -/
def iobPowerDown (n : Nat) (s : State) : State :=
  let s := releasePins (fun m => m == n) s
  { s with pins := s.pins.filter (fun e => e.1 / 32 != n) }

/-- The pins of a bank take their configured state at its power-up (R17). -/
def iobWake (n : Nat) (s : State) : State :=
  (List.range 32).foldl
    (fun s i =>
      let p := 32 * n + i
      { s with pins := Tab.put {} s.pins p { taps := s.get F.fabIodTaps p, slip := s.get F.fabIodSlip p } }) s

/-- A domain enters POWERING_DOWN (R18): its work is discarded. -/
def domainDown (d : Dom) (k : Nat) (s : State) : State :=
  let s := s.setDom k { s.dom k with st := .poweringDown, pendingOff := false }
  match d with
  | .quill g => quillPowerDown g s
  | .near c => nearPowerDown c s
  | .cave p => cavePowerDown p s
  | .iob n => iobPowerDown n s
  | .bundle n => bundlePowerDown n s
  | .hoop n => hoopPowerDown n s
  | .alwaysOn | .coreServices | .config _ | .memoryLayer => s

/-- A switch-off request (R17 to R21, 05 R185). -/
def domainOff (d : Dom) (s : State) : State × Status :=
  match domKey d with
  | none => (s, .denied)
  | some k =>
    let e := s.dom k
    match e.st with
    | .on =>
      match d with
      | .hoop n =>
        match s.hoopSt n with
        | .loading => (s, .busy)
        | .run | .repair => (beginStop n .switchOff s, .ok)
        | .stopping =>
          if (s.hoop n).stopFor = .load then (s, .busy)
          else ((s.setDom k { e with pendingEnable := false }).modHoop n (fun h => { h with stopFor := .switchOff }), .ok)
        | .off | .held | .incomplete => (domainDown d k s, .ok)
      | .quill _ | .near _ | .cave _ | .iob _ | .bundle _ | .alwaysOn | .coreServices | .config _ | .memoryLayer =>
        (domainDown d k s, .ok)
    | .poweringDown | .off => (s.setDom k { e with pendingEnable := false }, .ok)
    | .poweringUp => (s.setDom k { e with pendingOff := true }, .ok)

/-- DOMAIN_SWITCH_OFF (R18). -/
def execDomainSwitchOff (d : Dom) (s : State) : Out := reply (domainOff d s)

/-- A domain enters POWERING_UP (R18): its wake actions begin. -/
def domainUp (d : Dom) (k : Nat) (s : State) : State :=
  let s := s.setDom k { st := .poweringUp }
  match d with
  | .near c => nearPowerUp c s
  | .quill _ | .cave _ | .iob _ | .bundle _ | .hoop _ | .alwaysOn | .coreServices | .config _ | .memoryLayer => s

/-- A hoop on its way down by R185, whose domain is still ON. -/
def State.hoopLeaving (s : State) (d : Dom) : Bool :=
  match d with
  | .hoop n => s.hoopSt n == .stopping && decide ((s.hoop n).stopFor = .switchOff)
  | .quill _ | .near _ | .cave _ | .iob _ | .bundle _ | .alwaysOn | .coreServices | .config _ | .memoryLayer => false

/-- A hoop whose domain is kept OFF (05 R190). -/
def State.keptOff (s : State) (d : Dom) : Bool :=
  match d with
  | .hoop n => s.badFrames.contains n.val
  | .quill _ | .near _ | .cave _ | .iob _ | .bundle _ | .alwaysOn | .coreServices | .config _ | .memoryLayer => false

/-- An enable request (R18, R19, R21). -/
def domainEnable (d : Dom) (s : State) : State × Status :=
  match domKey d with
  | none => (s, .ok)
  | some k =>
    let e := s.dom k
    match e.st with
    | .on => (if s.hoopLeaving d then s.setDom k { e with pendingEnable := true } else s, .ok)
    | .poweringDown => (s.setDom k { e with pendingEnable := true }, .ok)
    | .off => if s.keptOff d then (s, .denied) else (domainUp d k s, .ok)
    | .poweringUp => (s.setDom k { e with pendingOff := false }, .ok)

/-- DOMAIN_ENABLE (R18). -/
def execDomainEnable (d : Dom) (s : State) : Out := reply (domainEnable d s)

/-- What gating loses. -/
def domainGated (d : Dom) (s : State) : State :=
  match d with
  | .quill g => clearTcm g s
  | .bundle n => bundleGated n s
  | .near _ | .cave _ | .iob _ | .hoop _ | .alwaysOn | .coreServices | .config _ | .memoryLayer => s

/-- A domain owes no response: no request in the network is at one of its NIs (11 R364). -/
def State.owesNone (s : State) (k : Nat) : Bool :=
  s.noc.nis.all (fun e => e.2.outs.all (fun r => (s.niOf r.addr).bind niDom != some k))

/-- The work of a domain being switched off has ended: the responses that it owes are delivered (11 R364), a cave port has
stopped (09 R282). -/
def State.gatingReady (s : State) (d : Dom) : Bool :=
  match d with
  | .cave p => s.caveStill p && s.owesNone (300 + p)
  | .quill g => s.owesNone (100 + g)
  | .near c => s.owesNone (200 + c)
  | .iob _ | .bundle _ | .hoop _ | .alwaysOn | .coreServices | .config _ | .memoryLayer => true

/-- DOMAIN_GATING_DONE (R18, R19): the domain is OFF, or powers up at once with an enable latched. -/
def execDomainGatingDone (d : Dom) (s : State) : Out :=
  .next <|
    match domKey d with
    | none => s
    | some k =>
      let e := s.dom k
      if e.st = .poweringDown ∧ s.gatingReady d = true then
        let s := domainGated d s
        if e.pendingEnable && !s.keptOff d then domainUp d k s else s.setDom k { st := .off }
      else s

/-- The power-up condition of a domain can be met (R17): a near-store channel is no longer training. -/
def State.powerUpReady (s : State) (d : Dom) : Bool :=
  match d with
  | .near c => s.nearSt c != .training
  | .quill _ | .cave _ | .iob _ | .bundle _ | .hoop _ | .alwaysOn | .coreServices | .config _ | .memoryLayer => true

/-- What a domain does as it reaches ON. -/
def domainWake (d : Dom) (s : State) : State :=
  match d with
  | .quill g => quillPowerUp g s
  | .bundle n => bundleWake n s
  | .hoop n => heldNext n (s.bit F.fabHoopCfgAutoRun n) (resetHoop n (s.setHoopSt n .held))
  | .iob n => iobWake n s
  | .near _ | .cave _ | .alwaysOn | .coreServices | .config _ | .memoryLayer => s

/-- DOMAIN_POWER_UP_DONE (R17, R18, R20): the wake actions are complete. The domain is ON and its fence is lifted, or with a
switch-off latched it goes straight down again, the fence up. -/
def execDomainPowerUpDone (d : Dom) (s : State) : Out :=
  .next <|
    match domKey d with
    | none => s
    | some k =>
      let e := s.dom k
      if e.st = .poweringUp ∧ s.powerUpReady d = true then
        if e.pendingOff then domainDown d k (domainWake d s) else domainWake d (s.setDom k {})
      else s

end Sys2Proof.Machine
end

