-- ==== Sys2Proof/Machine/Sessions.lean ====
section
/-!
DEFINITION. Sessions of the host command protocol (14 R444 to R457, R475 to R477): replies, their storage and segments,
the end of a session, ends of ACCEPTED commands, data streams; and the sending of cascade messages (18 R569).
-/
namespace Sys2Proof.Machine

/-! ### Status codes (14 R469) -/

def vOk : Nat := 0x00
def vAccepted : Nat := 0x01
def vBadPacket : Nat := 0x10
def vBadOpcode : Nat := 0x11
def vBadParam : Nat := 0x12
def vTooBig : Nat := 0x13
def vSequence : Nat := 0x14
def vDenied : Nat := 0x15
def vBusy : Nat := 0x16
def vRate : Nat := 0x17
def vSessionLimit : Nat := 0x18
def vNotStored : Nat := 0x19
def vAborted : Nat := 0x1A
def vMem : Nat := 0x1B
def vDomainOff : Nat := 0x1C
def vKeyExhausted : Nat := 0x1D
def vFlash : Nat := 0x1E
def vLoad : Nat := 0x1F

/-- The status of a reply to a refusal by a target (14 R465, R466). -/
def statusReply : Status → Nat
  | .ok => vOk
  | .busy => vBusy
  | .denied => vDenied
  | .domainOff => vDomainOff
  | .fault => vAborted
  | .decode | .integrity | .keyExhausted | .nocTimeout => vMem

/-! ### Cascade messages (18 R569) -/

/-- A service channel. -/
def State.clink (s : State) (l : Nat) : CLink := Tab.get {} s.casc.links l

/-- Change a service channel. -/
def State.modClink (s : State) (l : Nat) (f : CLink → CLink) : State :=
  { s with casc := { s.casc with links := Tab.put {} s.casc.links l (f (s.clink l)) } }

/-- This device's member number in force: 0 for the master (18 R562). -/
def State.cascMember (s : State) : Nat := s.get F.cascStatusMember

/-- The link toward a member, if it has a route and the link is enabled (18 R569, CASC_ROUTE). -/
def State.cascRoute (s : State) (m : Nat) : Option Nat :=
  let l := if m < 8 then bits (s.get F.cascRoute0Val) (4 * m + 3) (4 * m) else bits (s.get F.cascRoute1Val) (4 * (m - 8) + 3) (4 * (m - 8))
  if l < 15 ∧ s.bit F.cascLinkEn l = true then some l else none

/-- A 32-bit word of a message, most significant byte first, as a message's header is. -/
def beWord (v : Nat) : List Nat := (nums v 4).reverse

/-- The bytes of a message: header as one big-endian value, and body. -/
def cascMessage (typ dst src tag : Nat) (body : List Byte) : List Byte :=
  (bytesOf (typ % 16 * 2 ^ 60 + dst % 16 * 2 ^ 56 + src % 16 * 2 ^ 52 + tag % 65536 * 2 ^ 32 + body.length % 2 ^ 17) 8).reverse
    ++ body

/-- A message is put into the stream of the link that leads to its destination; without a route it is discarded and
counted (18 R569). -/
def cascForward (via : Nat) (dst : Nat) (msg : List Byte) (s : State) : State :=
  match s.cascRoute dst with
  | some l => s.modClink l (fun c => { c with stream := c.stream ++ msg })
  | none => (s.bump F.cascLcntProtocol via).flag F.cascErrProtocol

/-- Send a message of this device's own. -/
def cascSend (typ dst tag : Nat) (body : List Nat) (s : State) : State :=
  match s.cascRoute dst with
  | some l =>
    s.modClink l (fun c => { c with stream := c.stream ++ cascMessage typ dst s.cascMember tag (body.map (BitVec.ofNat 8)) })
  | none => s.flag F.cascErrProtocol

/-! ### Replies (14 R445, R454, R455) -/

/-- The packets of a reply: segments of at most `window` - 64 bytes of the result. -/
def replyPackets (key : List Nat) (relay id seq code status window : Nat) (result : List Nat) (s : State) :
    List (List Nat) :=
  let room := window - 64
  let n := if result.length ≤ room then 1 else (result.length + room - 1) / room
  (List.range n).map (fun i =>
    s.vcpBytes key 1 0 relay id seq code status i n result.length (i * room) ((result.drop (i * room)).take room))

/-- Send packets to a partner. -/
def sendAll (dest : Peer) (ps : List (List Nat)) (s : State) : State := ps.foldl (fun s p => s.sendVcp dest p) s

/-- A reply that is sent without being stored (R454). -/
def replyUnstored (k seq code status relay : Nat) (s : State) : State :=
  let c := s.sess k
  sendAll c.peer (replyPackets c.key relay (s.sessId k) seq code status c.window [] s) s

/-! ### Streams (R475, R476) -/

/-- A stream has ended: 0 SENT, 1 SESSION_GONE, 2 READ_ERROR. -/
def streamOver (x : Stream) (status : Nat) (s : State) : State :=
  let s := s.bump F.ethSendStatEnded
  match x.queue with
  | some q => s.postToken q (status * 2 ^ 28 + x.stream % 2 ^ 28)
  | none => s

/-- The streams of a session stop with it. -/
def dropStreams (id : Nat) (s : State) : State :=
  let gone := s.host.streams.filter (fun x => x.id == id)
  let s := { s with host := { s.host with streams := s.host.streams.filter (fun x => x.id != id) } }
  gone.foldl (fun s x => streamOver x 1 s) s

/-! ### Sessions (R452) -/

/-- A session ends: its slot is FREE, with its subscriptions, stored reply and streams gone. -/
def endSession (k : Nat) (s : State) : State :=
  let s := if (s.sess k).st = 0 then s else dropStreams (s.sessId k) s
  let s := s.modSess k (fun c => { gen := c.gen })
  { s with host := { s.host with order := s.host.order.filter (· != k) } }

/-- The reply to the request of a BUSY session is stored and sent; the session is OPEN, or ends with it (R452, R454). -/
def storeReply (k status : Nat) (result : List Nat) (s : State) : State :=
  let c := s.sess k
  let ps := replyPackets c.key c.relay (s.sessId k) c.last c.op status c.window result s
  let s := sendAll c.peer ps s
  let s := { s with host := { s.host with order := s.host.order.filter (· != k) } }
  let s := s.modSess k (fun c => { c with st := 1, stored := ps, idleFrom := s.pt, params := [] })
  if c.ending then endSession k s else s

/-! ### Ends of ACCEPTED commands (R457, 18 R578) -/

/-- An ACCEPTED command ends: CMD_DONE goes to its session and to the event log, or a DONE to the master that relayed it. -/
def jobOver (j : Job) (status : Nat) (result : List Nat) (s : State) : State :=
  let s := { s with host := { s.host with jobs := s.host.jobs.filter (· != j) } }
  match j.origin with
  | .session slot id seq =>
    let live := (s.sess slot).st ≠ 0 ∧ s.sessId slot = id
    let s := s.logEvent Ev.cmdDone.code 0 0 (some (id, seq, j.op, status, (result.take 28).map (BitVec.ofNat 8)))
      (if live then some slot.val else none)
    s.blot Ev.cmdDone.code Ev.cmdDone.severity 0
  | .relay m tag => cascSend 3 m tag (beWord status ++ result.take 28) s

/-- Take the report that an object's operation has ended. -/
def takeEnded (obj : Nat) (s : State) : Option Nat × State :=
  match s.ended.find? (fun e => e.1 == obj) with
  | some e => (some e.2, { s with ended := s.ended.erase e })
  | none => (none, s)

/-! ### Flash (13 R426, 14 R467) -/

/-- A flash sector of 64 KiB is erased; slot state records in it are gone (15 R506). -/
def eraseSector (k : Nat) (s : State) : State :=
  let out (e : Nat) : Bool := decide (e < k * 65536) || decide (k * 65536 + 65536 ≤ e)
  { s with
    flash := s.flash.filter (fun e => out e.1)
    scm := { s.scm with records := s.scm.records.filter (fun e => out e.1) } }

/-- A flash sector whose erasure was cut short: its contents are undefined (14 R470). -/
def spoilSector (k : Nat) (s : State) : State :=
  let s := eraseSector k s
  let before := s.flash.filter (fun e => decide (e.1 < k * 65536))
  let after := s.flash.filter (fun e => decide (k * 65536 + 65536 ≤ e.1))
  let spoilt := (List.range 65536).map (fun i => (k * 65536 + i, BitVec.ofNat 8 (Config.freeValue (s.free + i))))
  { s with flash := before ++ spoilt.filter (fun e => e.2 != 0xFF) ++ after, free := s.free + 65536 }

/-- Erase sectors in ascending order. -/
def eraseSectors (first n : Nat) (s : State) : State := (List.range n).foldl (fun s i => eraseSector (first + i) s) s

/-! ### Commands ended by a restart of Sceum (R470, 15 R481, R513) -/

/-- An ACCEPTED command ends with E_ABORTED_FAULT: a load ends with ABORTED; of an erasure the sectors before a point that
nothing fixes are erased and the one in progress is undefined; a reinstatement and the copies of a repair run on. -/
def abortJob (s : State) (j : Job) : State :=
  if j.op = 0x67 then s
  else
    let s :=
      if j.op = 0x30 ∨ j.op = 0x31 then
        let s := loadCancel s
        { s with ended := s.ended.filter (fun e => e.1 != 0) }
      else if j.op = 0x42 then
        let r := s.fresh 16
        let d := r.1 % max 1 j.count
        spoilSector (j.first + d) (eraseSectors j.first d r.2)
      else s
    jobOver j vAborted [] s

/-- Every command that executes ends with E_ABORTED_FAULT; those still waiting for their turn go on waiting. -/
def abortCommands (s : State) : State :=
  let s := (s.host.order.take 16).foldl (fun s k => storeReply k vAborted [] s) s
  s.host.jobs.foldl abortJob s

end Sys2Proof.Machine
end

