-- ==== Sys2Proof/Machine/Sceum.lean ====
section
/-!
DEFINITION. Sceum (15): the housekeeping round, limits and trip, cross-check, calibration, self-test and repair, the
blotter in flash, firmware slots and restarts.
-/
namespace Sys2Proof.Machine

/-- Change Sceum's data. -/
def State.modScm (s : State) (f : ScmSt → ScmSt) : State := { s with scm := f s.scm }

/-- Sceum firmware runs (R481). -/
def State.sceumRuns (s : State) : Bool := s.bit F.scmStatusRunning

/-! ### The housekeeping round (R485, R486, R491) -/

/-- HK_CONVERSION (R485): the next channel is converted; reserved channels read 0, and channel 123 does unless machine
time is ALIGNED. -/
def execHkConversion (value : BitVec 16) (s : State) : Out :=
  whenClocked s.mgmtClocked s <| .next <|
    let c := s.scm.next
    if c < 128 ∧ s.clk.held = false then
      let v := if 126 ≤ c ∨ (c = 123 ∧ s.mtSt ≠ .aligned) then 0 else value.toNat
      (s.modScm (fun m => { m with next := c + 1, raw := Tab.put 0 m.raw c v })).flag F.scmChValid c
    else s

/-- Sensor `c` has been declared broken. -/
def State.brokenSensor (s : State) (c : Nat) : Bool :=
  if c < 32 then (s.get F.scmBrokenLoVal).testBit c else (s.get F.scmBrokenHiVal).testBit (c - 32)

/-- Mark a sensor broken or not. -/
def State.setBroken (s : State) (c : Nat) (b : Bool) : State :=
  let f := if c < 32 then F.scmBrokenLoVal else F.scmBrokenHiVal
  let s := s.put f (setBits (s.get f) (c % 32) (c % 32) (b2n b))
  s.put F.scmStatusBroken ((List.range 48).filter (fun k => s.brokenSensor k)).length

/-- The neighbours of a sensor that are not broken (R485, R491). -/
def State.neighbours (s : State) (c : Nat) : List Nat :=
  let d := c / 8
  let ring := [8 * d + (c + 7) % 8, 8 * d + (c + 1) % 8]
  let below := if 0 < d then [c - 8] else []
  let above := if d < 5 then [c + 8] else []
  (ring ++ below ++ above).filter (fun k => !s.brokenSensor k)

/-- Insert into a rising list. -/
def insertInt (x : Int) : List Int → List Int
  | [] => [x]
  | y :: ys => if x ≤ y then x :: y :: ys else y :: insertInt x ys

/-- Twice the median: with an even number, the sum of the middle two (R491). -/
def median2 (xs : List Int) : Int :=
  let l := xs.foldl (fun acc x => insertInt x acc) []
  let n := l.length
  if n % 2 = 1 then 2 * l.getD (n / 2) 0 else l.getD (n / 2 - 1) 0 + l.getD (n / 2) 0

/-- A reading of the running round, signed (R485). -/
def State.reading (s : State) (c : Nat) : Int := signed16 (Tab.get 0 s.scm.raw c)

/-- Twice the value that replaces a broken sensor's reading, if it has a source (R491). -/
def State.replacement (s : State) (c : Nat) : Option Int :=
  let near := s.neighbours c
  let die := ((List.range 8).map (fun k => c / 8 * 8 + k)).filter (fun k => !s.brokenSensor k)
  if 2 ≤ near.length then some (median2 (near.map (fun k => s.reading k)))
  else if die.isEmpty then none
  else some (median2 (die.map (fun k => s.reading k)))

/-- A value in use from twice its value: the spec does not say how half a step is rounded. -/
def halve (v : Int) (s : State) : Int × State :=
  if v % 2 = 0 then (v / 2, s)
  else
    let r := s.fresh 1
    (v / 2 + r.1, r.2)

/-- The value in use of channel `c` is shown (R486, R491): a broken sensor's replacement, or its last value in use where
it has none. -/
def takeValue (c : Nat) (s : State) : State :=
  if c < 48 ∧ s.brokenSensor c = true then
    match s.replacement c with
    | some v =>
      let r := halve v s
      ((r.2.put F.scmChValue (toSigned16 r.1) c).flag F.scmChReplaced c)
    | none => s.flag F.scmStatusBlind
  else (s.put F.scmChValue (Tab.get 0 s.scm.raw c) c).clear F.scmChReplaced c

/-- Which VCCIO rails measure 1.8 V: nearer to it than to 1.2 V, that is 1.5 V or more (04 R153, FAB_IOB_STATUS.vccio_18). -/
def takeVccio (s : State) : State :=
  (List.range 13).foldl (fun s n => s.putBit F.fabIobStatusVccio18 (decide (6000 ≤ s.get F.scmChValue (99 + n))) n) s

/-- The values in use of a round; the user I/O banks follow their rails (04 R153). -/
def takeRound (s : State) : State :=
  (List.range 13).foldl (fun s n => iobFollow n s) <| takeVccio ((List.range 128).foldl (fun s c => takeValue c s) (s.clear F.scmStatusBlind))

/-- The value in use of a sensor. -/
def State.temp (s : State) (c : Nat) : Int := signed16 (s.get F.scmChValue c)

/-- The values in use of the sensors join their history. -/
def takeHistory (s : State) : State :=
  s.modScm (fun m =>
    { m with hist := (List.range 48).foldl (fun t c => Tab.put [] t c (((Tab.get [] t c).insertIdx 0 (s.get F.scmChValue c)).take 103)) m.hist })

/-! ### Limits and trip (R487 to R489) -/

/-- A check at the end of a round (R487): `cond`, the lowest channel that meets its condition; `clear`, that the round
counts toward its exit; whether it enters now. -/
def hkCheck (i rounds : Nat) (cond : Option Nat) (clear : Bool) (s : State) : Bool × State :=
  let k := Tab.get {} s.scm.checks i
  let put (k : HkCheck) : State := s.modScm (fun m => { m with checks := Tab.put {} m.checks i k })
  if k.entered then
    if clear then (false, put (if 64 ≤ k.run + 1 then {} else { k with run := k.run + 1 })) else (false, put { k with run := 0 })
  else if cond.isSome then
    if rounds ≤ k.run + 1 then (true, put { entered := true }) else (false, put { k with run := k.run + 1 })
  else (false, put {})

/-- The response to an alarm (R488). -/
def alarmResponse (s : State) : State :=
  if s.get F.scmCtrlAlarmAct = 0 then s
  else
    let s := (List.range 192).foldl
      (fun s n => if (s.get F.scmShedGrp).testBit (s.get F.fabHoopCfgGrp n) then (hoopStop n s).1 else s) s
    (List.range 16).foldl
      (fun s g => if (s.get F.scmShedQ).testBit g then (domainOff (.quill (Fin.ofNat 16 g)) s).1 else s) s

/-- A check that has entered: its flag, its event and, for an alarm, the response. -/
def hkEnter (r : Bool × State) (err : Fld) (e : Ev) (ch : Option Nat) (alarm : Bool) : State :=
  if r.1 then
    let s := (r.2.flag err).raise e 0 (ch.getD 0)
    if alarm then alarmResponse s else s
  else r.2

/-- The lowest sensor at or above a limit in °C. -/
def State.hotSensor (s : State) (limit : Nat) : Option Nat :=
  (List.range 48).find? (fun c => decide ((16 * limit : Nat) ≤ s.temp c))

/-- No sensor is closer than 2 °C below a limit. -/
def State.coolBy2 (s : State) (limit : Nat) : Bool :=
  (List.range 48).all (fun c => decide (s.temp c + 32 ≤ (16 * limit : Nat)))

/-- The rise of a sensor over 100 rounds in sixteenths of a degree, once it can be formed (R487). -/
def State.rise (s : State) (c : Nat) : Option Int :=
  let h := Tab.get [] s.scm.hist c
  let med (k : Nat) : Int := median2 [signed16 (h.getD k 0), signed16 (h.getD (k + 1) 0), signed16 (h.getD (k + 2) 0)] / 2
  if h.length < 103 then none else some (med 0 - med 100)

/-- The lowest sensor that rises by at least `rate` °C/s. -/
def State.risingSensor (s : State) (rate : Int) : Option Nat :=
  (List.range 48).find? (fun c => match s.rise c with | some d => decide (2048 * rate ≤ 1000 * d) | none => false)

/-- Nominal of a supply channel in steps of 0.25 mV (20 R614); VCCIO is judged against the nearer of 1.2 V and 1.8 V. -/
def railNominal (c v : Nat) : Nat :=
  if c < 56 then 3000 else if c < 60 then 3200 else if c < 68 then 3000 else if c < 72 then 3200 else if c < 80 then 3400
  else if c < 84 then 4800 else if c < 90 then 2400 else if c < 96 then 4400 else if c < 99 then 7200
  else if v < 6000 then 4800 else 7200

/-- A rail is outside 5 % of its nominal; a VCCIO below 0.3 V is not judged (R487). -/
def State.railBad (s : State) (c : Nat) : Bool :=
  let v := s.get F.scmChValue c
  let n := railNominal c v
  decide (n < 20 * ((v - n) + (n - v))) && !(decide (99 ≤ c) && decide (v < 1200))

/-- The lowest rail outside its band. -/
def State.badRail (s : State) : Option Nat := ((List.range 64).map (· + 48)).find? (fun c => s.railBad c)

/-- The limit checks of a round (R487). -/
def limitChecks (s : State) : State :=
  let warn := s.get F.scmTlimWarn
  let alarm := min 109 (s.get F.scmTlimAlarm)
  let hot := s.hotSensor warn
  let hotter := s.hotSensor alarm
  let rise2 := s.risingSensor 2
  let rise5 := s.risingSensor 5
  let rail := s.badRail
  let s := hkEnter (hkCheck 0 2 hot (s.coolBy2 warn) s) F.scmErrTemp .scmTempWarn hot false
  let s := hkEnter (hkCheck 1 2 hotter (s.coolBy2 alarm) s) F.scmErrTemp .scmTempAlarm hotter true
  let s := hkEnter (hkCheck 2 4 rise2 rise2.isNone s) F.scmErrRise .scmRiseWarn rise2 false
  let s := hkEnter (hkCheck 3 4 rise5 rise5.isNone s) F.scmErrRise .scmRiseAlarm rise5 true
  let s := hkEnter (hkCheck 4 2 rail rail.isNone s) F.scmErrVolt .scmVoltAlarm rail false
  let on (i : Nat) : Bool := (Tab.get {} s.scm.checks i).entered
  (s.putBit F.scmStatusWarn (on 0 || on 2)).putBit F.scmStatusAlarm (on 1 || on 3)

/-- A value in use above 110.0 °C latches the trip (R489). -/
def tripCheck (s : State) : State :=
  match (List.range 48).find? (fun c => decide (1760 < s.temp c)) with
  | some c =>
    if s.bit F.scmStatusTrip then s
    else (((s.flag F.scmStatusTrip).flag F.scmErrTemp).raise .scmTrip 0 c).modScm (fun m => { m with tripDue := true })
  | none => s

/-- A sensor reads more than 6.0 °C off the median of at least two unbroken neighbours (R491). -/
def State.sensorOff (s : State) (c : Nat) : Bool :=
  let near := s.neighbours c
  let d := 2 * s.reading c - median2 (near.map (fun k => s.reading k))
  !s.brokenSensor c && decide (2 ≤ near.length) && (decide (192 < d) || decide (d < -192))

/-- The cross-check of a round (R491): a sensor off in three rounds in a row is declared broken. -/
def crossCheck (s : State) : State :=
  let count (c : Nat) : Nat := if s.sensorOff c then Tab.get 0 s.scm.off c + 1 else 0
  let counts := (List.range 48).map (fun c => (c, count c))
  let broken := (counts.filter (fun e => decide (3 ≤ e.2))).map (·.1)
  let s := s.modScm (fun m => { m with off := counts.filter (fun e => decide (0 < e.2) && decide (e.2 < 3)) })
  match broken with
  | [] => s
  | c :: _ => ((broken.foldl (fun s k => s.setBroken k true) s).flag F.scmErrSensorBroken).raise .scmSensorBroken 0 c

/-- Keys of the trims that follow the temperature (R492): the oscillator, the reference of each lane PLL, the input-delay
taps of each user I/O bank. -/
def trimKeys : List Nat := 0 :: (List.range 48).map (100 + ·) ++ (List.range 13).map (200 + ·)

/-- A trim moved by at most one step toward what the firmware aims at. -/
def trimStep (now target : Int) : Int := if now < target then now + 1 else if target < now then now - 1 else now

/-- Firmware follows the temperature (R492). -/
def compensate (s : State) : State :=
  if s.sceumRuns then
    let temps := (List.range 48).map (fun c => s.get F.scmChValue c)
    s.modScm (fun m => { m with trims := trimKeys.foldl (fun t k => Tab.put 0 t k (trimStep (Tab.get 0 t k) (Config.trimTarget k temps))) m.trims })
  else s

/-- HK_ROUND_END (R487, R489, R491, R492): values in use, limit checks, trip, cross-check and compensation; the next round
begins. -/
def execHkRoundEnd (s : State) : Out :=
  whenClocked s.mgmtClocked s <| .next <|
    if s.scm.next = 128 then
      let s := compensate (crossCheck (tripCheck (limitChecks (takeHistory (takeRound s)))))
      s.modScm (fun m => { m with next := 0, round := m.round + 1, raw := [] })
    else s

/-- TRIP_FABRIC_RESET (R489): at the next boundary a load in progress is aborted, the fabric returns to reset, lanes send
poisoned empty frames. -/
def execTripFabricReset (s : State) : Out :=
  .next <|
    if s.scm.tripDue then
      let s := stopFabric (loadCancel s)
      { s.modScm (fun m => { m with tripDue := false }) with txTripped := true }
    else s

/-- Reinstate a broken sensor (R491): no rate is formed until it has 102 rounds again (R487). -/
def sensorReinstate (c : Nat) (s : State) : State :=
  (s.setBroken c false).modScm (fun m => { m with hist := Tab.put [] m.hist c [], off := Tab.put 0 m.off c 0 })

/-! ### Calibration (R493 to R496) -/

/-- Key of a calibration item. -/
def calKey : CalItem → Nat
  | .sampler n m => 16 * n + m
  | .termination r => 1000 + r
  | .oscillator => 2000
  | .references => 2001

/-- A calibration item. -/
def State.calItem (s : State) (i : CalItem) : CalSt := Tab.get {} s.scm.cal (calKey i)

/-- Change a calibration item. -/
def State.modCal (s : State) (i : CalItem) (f : CalSt → CalSt) : State :=
  s.modScm (fun m => { m with cal := Tab.put {} m.cal (calKey i) (f (s.calItem i)) })

/-- Calibration works: enabled, and Sceum runs (R481, R494). -/
def State.calRuns (s : State) : Bool := s.bit F.scmCtrlCalEn && s.sceumRuns

/-- Results are lists of numbers: for a sampler, of each usable slice the margin in 1/64 UI and in mV; for a termination
the resistance in mΩ; for the oscillator 1/16 ppm; for the references 0.01 mV. How far two of them may differ (R493). -/
def calTolerance : CalItem → Nat → Int
  | .sampler _ _, k => if k % 2 = 0 then 2 else 4
  | .termination _, _ => 1000
  | .oscillator, _ => 32
  | .references, _ => 50

/-- Two results agree. -/
def calAgree (i : CalItem) (a b : List Int) : Bool :=
  a.length == b.length && (List.range a.length).all (fun k =>
    decide (a.getD k 0 - b.getD k 0 ≤ calTolerance i k) && decide (b.getD k 0 - a.getD k 0 ≤ calTolerance i k))

/-- CAL_ITEM_DUE (R493). -/
def execCalItemDue (item : CalItem) (s : State) : Out :=
  whenClocked s.mgmtClocked s <| .next (if s.calRuns then s.modCal item (fun c => { c with due := true }) else s)

/-- The results of an item are discarded (R494). -/
def calDiscard (i : CalItem) (s : State) : State :=
  ((s.modCal i (fun c => { c with due := false, deferred := false })).bump F.scmCalcntDiscarded).flag F.scmErrCalDiscard

/-- CAL_MEASUREMENT_DONE (R494): in a gap crossing both results of an item are complete; if they agree, the selection they
give waits for the next orbit boundary. -/
def execCalMeasurementDone (item : CalItem) (first second : List Int) (sel : Nat) (s : State) : Out :=
  whenClocked s.mgmtClocked s <| .next <|
    if s.calRuns && (s.calItem item).due && s.gapNow && !s.frozen F.dbgFreezeSceumCal then
      if calAgree item first second then s.modCal item (fun c => { c with due := false, deferred := false, agreed := some sel })
      else calDiscard item s
    else s

/-- CAL_APPLY (R494, 03 R115): at the boundary at which the crossing counter returns to 0 the selection takes effect. A
lane takes only a usable slice. -/
def execCalApply (item : CalItem) (s : State) : Out :=
  .next <|
    match (s.calItem item).agreed with
    | some sel =>
      if s.mt.cross = 0 ∧ s.bit F.scmCtrlCalEn = true then
        let s := match item with
          | .sampler n m => if (s.get F.laneSliceUsable n m).testBit sel then s.put F.laneSliceActive sel n m else s
          | .termination _ | .oscillator | .references => s.modCal item (fun c => { c with sel := sel })
        let s := s.modCal item (fun c => { c with agreed := none })
        (s.bump F.scmCalcntApplied).modScm (fun m => { m with calStamp := s.stamp })
      else s
    | none => s

/-- CAL_RESULT_TIMEOUT (R494, 19 R602). -/
def execCalResultTimeout (item : CalItem) (s : State) : Out :=
  whenClocked s.mgmtClocked s <| .next (if (s.calItem item).due then calDiscard item s else s)

/-- SCM_CAL_DEFERRED (R496). -/
def execScmCalDeferred (item : CalItem) (s : State) : Out :=
  whenClocked s.mgmtClocked s <| .next <|
    if s.calRuns && (s.calItem item).due && !(s.calItem item).deferred then
      ((s.modCal item (fun c => { c with deferred := true })).flag F.scmStatusCalDeferred).raise .scmCalDeferred
    else s

/-- Calibration resumes at a gap crossing (R496). -/
def scmBoundary (s : State) : State :=
  if s.bit F.scmStatusCalDeferred && s.gapNow then
    let on (e : Nat × CalSt) : Nat × CalSt := (e.1, { e.2 with deferred := false })
    (s.clear F.scmStatusCalDeferred).modScm (fun m => { m with cal := m.cal.map on })
  else s

/-! ### Self-test (R497 to R501) -/

/-- The bank of a type code and index. -/
def bankOf (block i : Nat) : BankId := if block = 1 then .block (Fin.ofNat 8192 i) else .scratch (Fin.ofNat 256 i)

/-- A spare-block entry takes effect at power-on (R500). -/
def repairAtStart (s : State) (e : RepairEntry) : State :=
  if e.kind = 3 then
    if e.block = 9 then nocCounts (s.flag F.nocRtrStatusSpareXbar e.index)
    else
      let id := bankOf e.block e.index
      if s.spareSt id = 0 then (s.setSpare id 2).setRetired id true else s
  else s

/-- What an unrepaired failure leads to (R497). -/
def failureEffect (f : SelfFail) (s : State) : State :=
  match f.block with
  | 1 | 2 =>
    let id := bankOf f.block f.index
    if s.spareSt id = 0 then ((s.setSpare id 2).setRetired id true).raise .membRetired id.obj id.spare
    else retireUnspared id s
  | 3 => if f.index < 128 then retireCore f.index s else s
  | 8 => { s with riserBad := if s.riserBad.contains (f.index, f.bit) then s.riserBad else s.riserBad ++ [(f.index, f.bit)] }
  | 4 | 5 | 6 => { s with failed := if s.failed.contains (f.block, f.index) then s.failed else s.failed ++ [(f.block, f.index)] }
  | 7 =>
    match faRegion f.place with
    | 192 => s.flag F.fabCtrlFixBadL1
    | 193 => s.flag F.fabCtrlFixBadL2
    | r =>
      if s.badFrames.contains r then s
      else { (s.setHoopSt r .off).setDom (hoopDom r) { st := .off } with badFrames := s.badFrames ++ [r] }
  | 9 => nocCounts (((s.put F.nocRtrStatusState 3 f.index).flag F.nocErrDead).raise .nocDead (rtrObj f.index))
  | _ => s

/-- A failure is recorded (R497, R498): at most 4,096 results are held. -/
def recordFail (s : State) (f : SelfFail) : State :=
  let s := s.modScm (fun m => { m with results := (m.results ++ [f]).take 4096 })
  ((s.bump F.scmStcntPowerOn).flag F.scmErrSelftestFail).raise .scmSelftestFail 0 (f.block % 256 * 2 ^ 24 + f.index % 2 ^ 24)

/-- SELFTEST_DONE (R497, R500, 16 R537): the repair map is applied, then what the test found. -/
def execSelftestDone (fails : List SelfFail) (s : State) : Out :=
  whenClocked s.mgmtClocked s <| .next <|
    if s.get F.sysStatusPhase = 3 ∧ s.warm = false ∧ s.bit F.sysStatusSelftestDone = false then
      let m := repairMap s
      let s := m.1.foldl repairAtStart m.2
      let s := fails.foldl (fun s f => failureEffect f (recordFail s f)) s
      s.flag F.sysStatusSelftestDone
    else s

/-- A spare is unused: it can be tested (R501). -/
def State.spareIdle (s : State) : SpareId → Bool
  | .block k => s.get F.membSpmapBState k == 0
  | .scratch k => s.get F.membSpmapSState k == 0
  | .crossbar r => !s.bit F.nocRtrStatusSpareXbar r && !s.scm.badXbars.contains r.val

/-- The bank that a spare is copying (17 R552). -/
def State.spareCopies (s : State) : SpareId → Option BankId
  | .block k => if s.get F.membSpmapBState k = 1 then some (.block (Fin.ofNat 8192 (s.get F.membSpmapBBank k))) else none
  | .scratch k => if s.get F.membSpmapSState k = 1 then some (.scratch (Fin.ofNat 256 (s.get F.membSpmapSBank k))) else none
  | .crossbar _ => none

/-- A spare bank is found faulty: it is UNUSABLE, and a bank that it was copying is retired without a spare (17 R552). -/
def spareFaulty (spare : SpareId) (s : State) : State :=
  match s.spareCopies spare with
  | some id => retireUnspared id (s.setSpare id 3)
  | none =>
    match spare with
    | .block k => s.put F.membSpmapBState 3 k
    | .scratch k => s.put F.membSpmapSState 3 k
    | .crossbar _ => s

/-- Calibration claims the gap crossing: an item is due (R495). -/
def State.calClaims (s : State) : Bool := s.calRuns && s.scm.cal.any (fun e => e.2.due)

/-- SPARE_TEST (R495, R501): in a gap crossing that calibration does not claim an unused spare is tested; one that fails is
unusable until the next power-on. A spare bank that fails while it copies ends the copy (17 R552). -/
def execSpareTest (spare : SpareId) (ok : Bool) (s : State) : Out :=
  whenClocked s.mgmtClocked s <| .next <|
    if s.bit F.scmCtrlSpareEn && s.sceumRuns && s.gapNow && !s.calClaims && !s.frozen F.dbgFreezeSceumCal
        && (s.spareIdle spare || (s.spareCopies spare).isSome) && !ok then
      let s := spareFaulty spare ((s.bump F.scmStcntSpare).flag F.scmErrSelftestFail)
      match spare with
      | .block k => s.raise .scmSpareFail 0 (1 * 2 ^ 24 + k)
      | .scratch k => s.raise .scmSpareFail 0 (2 * 2 ^ 24 + k)
      | .crossbar r =>
        (s.modScm (fun m => { m with badXbars := m.badXbars ++ [r.val] })).raise .scmSpareFail 0 (9 * 2 ^ 24 + r)
    else s

/-! ### The blotter in flash (R502 to R504) -/

/-- Record slots of the ring: 224 sectors of 2,048. -/
def ringSlots : Nat := 224 * 2048

/-- Flash offset of a record slot. -/
def blotAt (pos : Nat) : Nat := 0x01200000 + 32 * pos

/-- Program one record at the write position; when the position enters a sector, the next one of the ring is erased. -/
def programRecord (s : State) (r : List Byte) : State :=
  let pos := s.log.pos
  let s := if pos % 2048 = 0 then eraseSector (blotAt ((pos + 2048) % ringSlots) / 65536) s else s
  { s with flash := Tab.putList 0xFF s.flash (blotAt pos) r, log := { s.log with pos := (pos + 1) % ringSlots } }

/-- BLOTTER_PROGRAM (R503): 1 to 8 waiting records go to flash within one 256-byte page, once Sceum runs. -/
def execBlotterProgram (count : Nat) (s : State) : Out :=
  whenClocked s.mgmtClocked s <| .next <|
    if s.sceumRuns then
      let n := min (min count (8 - s.log.pos % 8)) s.log.buffer.length
      let s := (s.log.buffer.take n).foldl programRecord s
      let rest := s.log.buffer.drop n
      { s with log := { s.log with buffer := rest, dropReported := s.log.dropReported && !rest.isEmpty } }
    else s

/-- The slots of `size` bytes between two flash offsets that are not wholly erased. -/
def State.usedSlots (s : State) (base top size : Nat) : List Nat :=
  let here := (s.flash.filter (fun e => decide (base ≤ e.1) && decide (e.1 < top))).map (fun e => (e.1 - base) / size)
  here.foldl (fun acc k => if acc.getLast? = some k then acc else acc ++ [k]) []

/-- A record in flash is valid: its CRC-8 is correct and it is not all ones (R504). -/
def validRecord (r : List Byte) : Bool :=
  crc8 (r.take 7 ++ r.drop 8) == (r.getD 7 0).toNat && r.any (fun b => b != 0xFF)

/-- The valid record with the greatest number in serial-number arithmetic: slot, number, power-on count (R504). -/
def State.newestRecord (s : State) : Option (Nat × Nat × Nat) :=
  let newer (a b : Nat) : Bool := decide ((a + 2 ^ 32 - b) % 2 ^ 32 < 2 ^ 31) && a != b
  (s.usedSlots 0x01200000 0x02000000 32).foldl
    (fun best k =>
      let r := s.flashBytes (blotAt k) 32
      if validRecord r then
        let x := (k, ofBytes (r.take 4), ofBytes ((r.drop 22).take 2))
        match best with
        | some b => if newer x.2.1 b.2.1 then some x else best
        | none => some x
      else best) none

/-- A waiting record takes its number and power-on count. -/
def renumber (base powerOns : Nat) (r : List Byte) : List Byte :=
  let head := bytesOf ((ofBytes (r.take 4) + base) % 2 ^ 32) 4 ++ (r.drop 4).take 3
  let tail := (r.drop 8).take 14 ++ bytesOf powerOns 2 ++ r.drop 24
  head ++ bytesOf (crc8 (head ++ tail)) 1 ++ tail

/-- At power-on Sceum scans the ring and goes on after its newest record; records raised since take their numbers there;
POWER_ON is written (R504). -/
def scanRing (s : State) : State :=
  let found := s.newestRecord
  let base := match found with | some (_, num, _) => (num + 1) % 2 ^ 32 | none => 0
  let pos := match found with | some (k, _, _) => (k + 1) % ringSlots | none => 0
  let ons := match found with | some (_, _, c) => (c + 1) % 65536 | none => 0
  let s := s.put F.scmBlotNextVal ((s.get F.scmBlotNextVal + base) % 2 ^ 32)
  let log := { s.log with pos := pos, powerOns := ons, buffer := s.log.buffer.map (renumber base ons) }
  ({ s with log := log }).blot 0xC00 0 0

/-! ### The network record (R484) -/

/-- A copy of the network record is valid. -/
def State.netValid (s : State) (copy : Nat) : Bool :=
  let b := 0x01180000 + copy * 0x10000
  s.flashNum b 4 == 0xB5F02E70 && s.flashNum (b + 60) 4 == crc32cBytes (s.flashBytes b 60)

/-- The network record is written to the ETH registers, unless they are locked, and lock is set if it asks for it. -/
def applyNetwork (s : State) : State :=
  let seq (c : Nat) : Nat := s.flashNum (0x01180004 + c * 0x10000) 4
  let copy : Option Nat := match s.netValid 0, s.netValid 1 with
    | false, false => none
    | true, false => some 0
    | false, true => some 1
    | true, true => some (if seq 0 < seq 1 then 1 else 0)
  match copy with
  | none => s
  | some c =>
    if s.bit F.ethCtrlLock then s
    else
      let w (ofs : Nat) : Nat := s.flashNum (0x01180000 + c * 0x10000 + ofs) 4
      let s := s.put F.ethIp4Val (w 8)
      let s := (List.range 4).foldl (fun s i => s.put F.ethIp6Val (w (12 + 4 * i)) i) s
      let s := s.put F.ethUdpVal (w 28)
      let s := (s.put F.ethNetVlan (bits (w 32) 27 16)).put F.ethNetMtu (bits (w 32) 13 0)
      let k := w 36
      let s := (s.put F.ethCtrlIp6En (bits k 11 11)).put F.ethCtrlIp4En (bits k 10 10)
      let s := (s.put F.ethCtrlAuto (bits k 9 9)).put F.ethCtrlActive (bits k 8 8)
      let s := s.put F.ethStatusActive (bits k 8 8)
      if bitAt k 0 then s.flag F.ethCtrlLock else s

/-! ### Firmware slots (R505 to R507) -/

/-- Flash offset of a firmware slot: 0 A, 1 B. -/
def fwBase (slot : Nat) : Nat := 0x00100000 + slot * 0x00800000

/-- The slot state records of a slot in its last 64 KiB, each with its place: those the firmware wrote, and those that other
bytes there are (R506). -/
def State.slotRecords (s : State) (slot : Nat) : List (Nat × (Nat × Nat × Nat)) :=
  let b := fwBase slot + 0x7F0000
  let own := (s.scm.records.filter (fun e => decide (b ≤ e.1) && decide (e.1 < b + 0x10000))).map (fun e => ((e.1 - b) / 32, e.2))
  let other := ((s.usedSlots b (b + 0x10000) 32).filter (fun k => !own.any (fun e => e.1 == k))).filterMap
    (fun k => (Config.recordOf (s.flashNum (b + 32 * k) 32)).map (fun r => (k, r)))
  own ++ other

/-- The latest of some records. -/
def latestOf (rs : List (Nat × (Nat × Nat × Nat))) : Option (Nat × (Nat × Nat × Nat)) :=
  rs.foldl (fun best r => match best with | some b => if b.1 < r.1 then some r else some b | none => some r) none

/-- The latest record of a slot: sequence, state (0 TRIAL, 1 GOOD, 2 BAD), attempts. -/
def State.slotState (s : State) (slot : Nat) : Option (Nat × Nat × Nat) := (latestOf (s.slotRecords slot)).map (·.2)

/-- The first place of a slot's last 64 KiB after everything written there. -/
def State.nextPlace (s : State) (slot : Nat) : Nat :=
  let b := fwBase slot + 0x7F0000
  let used := s.usedSlots b (b + 0x10000) 32 ++ (s.slotRecords slot).map (·.1)
  used.foldl (fun n k => max n (k + 1)) 0

/-- Append a record to a slot; a full sector is erased first. -/
def appendState (slot : Nat) (r : Nat × Nat × Nat) (s : State) : State :=
  let b := fwBase slot + 0x7F0000
  let next := s.nextPlace slot
  let s := if next < 2048 then s else eraseSector (b / 65536) s
  let a := b + 32 * (next % 2048)
  let bs := (List.range 32).map (fun i => Config.recordByte r.1 r.2.1 r.2.2 i)
  { s with flash := Tab.putList 0xFF s.flash a bs, scm := { s.scm with records := Tab.set s.scm.records a r } }

/-- Length of a slot's image, signature included. -/
def State.fwLength (s : State) (slot : Nat) : Nat := s.flashNum (fwBase slot + 12) 4

/-- Security version of a slot's image. -/
def State.fwVersion (s : State) (slot : Nat) : Nat := s.flashNum (fwBase slot + 6) 1

/-- The image of a slot verifies (R505): header, size, a usable key, the signature over the SHA-256 of what precedes it. -/
def State.fwVerifies (s : State) (slot : Nat) : Bool :=
  let b := fwBase slot
  let len := s.fwLength slot
  let key := s.flashNum (b + 7) 1
  s.flashNum b 4 == 0xB5F05C00 && bits (s.flashNum (b + 4) 2) 15 4 == 0xA49 && decide (key < 4) && s.vkUsable key
    && s.flashNum (b + 16) 48 == 0 && decide (64 + 1612 ≤ len) && decide (len ≤ 8323072)
    && Crypto.lmsVerify ((Tab.get [] s.otp.vks key).map BitVec.toNat)
        (Crypto.sha256 ((s.flashBytes b (len - 1612)).map BitVec.toNat))
        ((s.flashBytes (b + len - 1612) 1612).map BitVec.toNat)

/-- The boot ROM may start a slot (R506). -/
def State.fwStarts (s : State) (slot : Nat) : Bool :=
  match s.slotState slot with
  | some (_, st, tries) =>
    (st == 1 || (st == 0 && decide (tries < 2))) && decide (s.otp.fwMin ≤ s.fwVersion slot) && s.fwVerifies slot
  | none => false

/-- The slot to start: of two the one with the greater sequence (R506). -/
def State.fwChoice (s : State) : Option Nat :=
  let seq (k : Nat) : Nat := match s.slotState k with | some r => r.1 | none => 0
  match s.fwStarts 0, s.fwStarts 1 with
  | false, false => none
  | true, false => some 0
  | false, true => some 1
  | true, true => some (if seq 0 < seq 1 then 1 else 0)

/-- The model's own object of an activation's end. -/
def fwObject : Nat := 1

/-- A trial ends: the slot is BAD and Sceum falls back (R507). -/
def trialBad (slot : Nat) (s : State) : State :=
  match s.slotState slot with
  | some (seq, _, tries) => (appendState slot (seq, 2, tries) s).raise .scmFwFallback 0 slot
  | none => s

/-- A trial that has restarted twice without confirmation is given up (R506, R507). -/
def trialSpent (s : State) (slot : Nat) : State :=
  match s.slotState slot with
  | some (_, 0, tries) => if 2 ≤ tries then trialBad slot s else s
  | _ => s

/-- The end of an activation is known: the named slot runs, or another or none does (R507). -/
def activationEnd (running : Option Nat) (s : State) : State :=
  match s.scm.activating with
  | some slot => (s.modScm (fun m => { m with activating := none })).objectEnded fwObject (if running = some slot then 0 else 1)
  | none => s

/-- What firmware does when it first runs after a reset (R484, R504, 16 R539). -/
def firstBoot (s : State) : State :=
  if s.scm.booted then s
  else
    let s := if s.warm then s.blot 0xC0B 1 (s.word .sysRstcause).toNat else scanRing s
    (applyNetwork s).modScm (fun m => { m with booted := true })

/-- Firmware of a slot runs. -/
def startFirmware (slot : Nat) (s : State) : State :=
  let s := match s.slotState slot with
    | some (seq, 0, tries) => appendState slot (seq, 0, tries + 1) s
    | _ => s
  let trial := match s.slotState slot with | some (_, 0, _) => true | _ => false
  let b := fwBase slot
  let s := (s.put F.scmFwSlotB slot).putBit F.scmFwTrial trial
  let s := (s.put F.scmFwSecver (s.fwVersion slot)).put F.scmFwRelease (s.flashNum (b + 8) 2)
  let image := Crypto.sha256 ((s.flashBytes b (s.fwLength slot)).map BitVec.toNat)
  (s.flag F.scmStatusRunning).modScm (fun m => { m with image := image, release := s.flashNum (b + 8) 4 })

/-- BOOT_ROM_START (R506, R507): the boot ROM chooses and starts a slot, or stays in the boot ROM. -/
def execBootRomStart (s : State) : Out :=
  whenClocked s.mgmtClocked s <| .next <|
    if 3 ≤ s.get F.sysStatusPhase ∧ s.clk.held = false ∧ s.scm.bootDue = true ∧ s.dbg.sceumHalted = false then
      let s := trialSpent (trialSpent s 0) 1
      let choice := s.fwChoice
      let s := s.modScm (fun m => { m with bootDue := false, inRom := choice.isNone })
      activationEnd choice <|
        match choice with
        | some slot => firstBoot (startFirmware slot s)
        | none => s
    else s

/-! ### Restarts (R481, R482, R507) -/

/-- Sceum restarts (R481): what it executes ends with E_ABORTED_FAULT, a halt of its core is released (19 R601), the
monitor returns to its first rate (19 R605). -/
def restartSceum (cause : Nat) (s : State) : State :=
  let s := if s.dbg.sceumHalted then { s.blot 0xC10 1 1 with dbg := { s.dbg with sceumHalted := false, sceumStep := false } } else s
  let s := (s.clear F.scmStatusRunning).modScm (fun m =>
    { m with bootDue := true, inRom := false, restartDue := none, baud := 115200 })
  (abortCommands s).raise .scmRestart 0 cause

/-- SCEUM_WATCHDOG_EXPIRY (R482, 19 R601). -/
def execSceumWatchdogExpiry (s : State) : Out :=
  .next (if s.sceumRuns ∨ s.dbg.sceumHalted = true then restartSceum 0 s else s)

/-- SCEUM_RESTART (R481): at the activation of a slot and at the fall-back of a trial slot. -/
def execSceumRestart (s : State) : Out :=
  whenClocked s.mgmtClocked s <| .next (match s.scm.restartDue with | some cause => restartSceum cause s | none => s)

/-- FW_TRIAL_TIMEOUT (R507): a trial not confirmed within 600 s is BAD, and Sceum falls back. -/
def execFwTrialTimeout (s : State) : Out :=
  whenClocked s.mgmtClocked s <| .next <|
    if s.sceumRuns ∧ s.bit F.scmFwTrial = true then
      (trialBad (s.get F.scmFwSlotB) s).modScm (fun m => { m with restartDue := some 2 })
    else s

end Sys2Proof.Machine
end

