-- ==== Sys2Proof/Machine/Cascade.lean ====
section
/-!
DEFINITION. Cascading devices (18 R562 to R575): roles and links, service blocks with retry, time alignment, member states,
loss of members and of the master.
-/
namespace Sys2Proof.Machine

/-- The cascade states (R572, CASC_STATUS.state). -/
inductive CascState where
  | off | master | joining | aligned | mismatch | hold
  deriving DecidableEq, Repr

/-- CASC_STATUS.state. -/
def CascState.code : CascState → Nat
  | .off => 0 | .master => 1 | .joining => 2 | .aligned => 3 | .mismatch => 4 | .hold => 5

/-- The state a code stands for. -/
def CascState.ofCode : Nat → CascState
  | 1 => .master | 2 => .joining | 3 => .aligned | 4 => .mismatch | 5 => .hold | _ => .off

/-- The cascade state. -/
def State.cascSt (s : State) : CascState := CascState.ofCode (s.get F.cascStatusState)

/-- Change the controller's data. -/
def State.modCasc (s : State) (f : CascSt → CascSt) : State := { s with casc := f s.casc }

/-- The enabled links with up = 1 (R565). -/
def State.upLinks (s : State) : List Nat := (List.range 15).filter (fun l => s.bit F.cascLinkEn l && s.bit F.cascLinkUp l)

/-- The up link. -/
def State.upLink (s : State) : Option Nat := s.upLinks.head?

/-- A link has delivered a good block in the last 10 µs (CASC_LSTAT.live). -/
def State.linkLive (s : State) (l : Nat) : Bool :=
  match (s.clink l).lastGood with | some t => decide (s.since t ≤ 10000) | none => false

/-- up_ok as sent in block headers (R567). -/
def State.upOk (s : State) : Bool :=
  match s.cascSt with
  | .master => true
  | .aligned => match s.upLink with | some l => s.linkLive l | none => false
  | .off | .joining | .mismatch | .hold => false

/-- The configuration is valid for the role that the strap gives (R562, R565). -/
def State.cascValid (s : State) : Bool :=
  if s.bit F.sysStrapCascMaster then s.upLinks.isEmpty
  else s.get F.cascCtrlMember != 0 && s.upLinks.length == 1

/-- Put the controller into a state. -/
def State.setCasc (s : State) (c : CascState) : State := (s.put F.cascStatusState c.code).modCasc (fun k => { k with run := 0, badRun := 0 })

/-- JOINING begins with no orbit load issued (R572). -/
def enterJoining (s : State) : State := (s.setCasc .joining).modCasc (fun k => { k with loads := 0 })

/-- With en = 1 and a valid configuration the controller leaves OFF (R562, R572). -/
def cascStart (s : State) : State :=
  if s.cascSt = .off ∧ s.bit F.cascCtrlEn = true ∧ s.cascValid = true then
    if s.bit F.sysStrapCascMaster then (s.put F.cascStatusMember 0).setCasc .master
    else enterJoining (s.put F.cascStatusMember (s.get F.cascCtrlMember))
  else s

/-- The controller returns to OFF: nothing is left of the service channels. -/
def cascOff (s : State) : State :=
  if s.cascSt = .off then s
  else
    let s := (s.setCasc .off).put F.cascStatusMember 0
    let s := (s.put F.cascMembersPresent 0).put F.cascMembersAligned 0
    let s := (List.range 15).foldl (fun s l => s.setWord .cascLstat 0 l) s
    s.modCasc (fun k =>
      { relays := k.relays, nextTag := k.nextTag, upOk := k.upOk, present := k.present, aligned := k.aligned, linkOk := k.linkOk })

/-- Rejoin (R572). -/
def cascRejoin (s : State) : State :=
  match s.cascSt with
  | .mismatch | .hold => enterJoining s
  | .off | .master | .joining | .aligned => s

/-- CASC_REJOIN (R572). -/
def execCascRejoin (s : State) : Out := reply (cascRejoin s, .ok)

/-- A write of CASC_CTRL (R562, R572, R580). -/
def cascCtrlWrite (v : Nat) (s : State) : State × Status :=
  let s :=
    if s.bit F.cascCtrlLock then s
    else
      let s := ((s.put F.cascCtrlAutoOrbit (bits v 16 16)).put F.cascCtrlMember (bits v 15 12)).put F.cascCtrlEn (bits v 8 8)
      if bitAt v 8 then
        let s := cascStart s
        if s.cascSt = .off then s.flag F.cascErrProtocol else s
      else cascOff s
  let s := if bitAt v 31 then cascRejoin s else s
  (if bitAt v 0 then s.flag F.cascCtrlLock else s, .ok)

/-- CASC_CTRL_WRITE (R562, R572). -/
def execCascCtrlWrite (v : Word) (s : State) : Out := reply (cascCtrlWrite v.toNat s)

/-- A write of CASC_LINK (R565): an enable is DENIED for a bundle not in cascade mode or named by another enabled link. -/
def cascLinkWrite (l v : Nat) (s : State) : State × Status :=
  if s.bit F.cascCtrlLock then (s, .ok)
  else
    let b := bits v 5 0
    let other := (List.range 15).any (fun k => k != l && s.bit F.cascLinkEn k && s.get F.cascLinkBundle k == b)
    if bitAt v 31 && (decide (48 ≤ b) || s.get F.laneCfgMode b != modeCascade || other) then (s, .denied)
    else
      let fresh := s.bit F.cascLinkEn l != bitAt v 31 || s.get F.cascLinkBundle l != b || s.get F.cascLinkSvc l != bits v 10 8
      let s := ((s.put F.cascLinkEn (bits v 31 31) l).put F.cascLinkUp (bits v 30 30) l).put F.cascLinkSvc (bits v 10 8) l
      let s := s.put F.cascLinkBundle b l
      let s := if fresh then (s.setWord .cascLstat 0 l).modClink l (fun _ => {}) else s
      (cascStart s, .ok)

/-- CASC_LINK_WRITE (R565). -/
def execCascLinkWrite (l : Fin 15) (v : Word) (s : State) : Out := reply (cascLinkWrite l v.toNat s)

/-! ### Service blocks (R567, R568) -/

/-- The words 1 and 2 of a block header: the sender's stamp at the launch boundary. -/
def State.blockStamp (s : State) : List Byte :=
  (bytesOf (s.mt.orbit % 2 ^ 32) 4).reverse ++
    (bytesOf (s.get F.mtimeStatusCoasting * 2 ^ 31 + s.get F.mtimeStatusUnaligned * 2 ^ 30 + s.mt.cross % 2 ^ 14 * 2 ^ 16
      + s.mt.orbit / 2 ^ 32 % 2 ^ 16) 4).reverse

/-- A service block: the header of R567 and a body. -/
def State.serviceBlock (s : State) (btype seq ack : Nat) (nak : Bool) (body : List Byte) : List Byte :=
  (bytesOf (btype * 2 ^ 30 + seq % 1024 * 2 ^ 20 + ack % 1024 * 2 ^ 10 + b2n nak * 2 ^ 9 + b2n (s.cascSt = .master) * 2 ^ 8
    + s.cascMember % 16 * 2 ^ 4 + b2n s.upOk * 2 ^ 3) 4).reverse ++ s.blockStamp ++ body

/-- The block a link sends in a crossing: a replayed one, a new data block, or an idle one (R568, 09 R284). -/
def nextService (l : Nat) (s : State) : List Byte × State :=
  let c := s.clink l
  let body := (s.frameBits (s.get F.cascLinkBundle l) - 64) / 8 - 12
  let ack := (c.rxNext + 1023) % 1024
  let pad (bs : List Byte) : List Byte := bs ++ List.replicate (body - bs.length) 0
  match c.resend with
  | (seq, bs) :: rest =>
    (s.serviceBlock 1 seq ack c.nakDue (pad bs), s.modClink l (fun c => { c with resend := rest, nakDue := false }))
  | [] =>
    if c.stream.isEmpty || decide (256 ≤ c.unacked.length) then
      (s.serviceBlock 0 0 ack c.nakDue (pad []), s.modClink l (fun c => { c with nakDue := false }))
    else
      let bs := pad (c.stream.take body)
      (s.serviceBlock 1 c.nextSeq ack c.nakDue bs,
        s.modClink l (fun c => { c with stream := c.stream.drop body, unacked := c.unacked ++ [(c.nextSeq, bs)]
                                        nextSeq := (c.nextSeq + 1) % 1024, nakDue := false }))

/-- The signals to both fixed regions change at a crossing boundary (R575). -/
def cascSignals (s : State) : State :=
  let up := match s.cascSt with | .master => true | .aligned => true | .off | .joining | .mismatch | .hold => false
  s.modCasc (fun k =>
    { k with
      upOk := up, present := s.get F.cascMembersPresent
      aligned := if s.cascSt = .master then s.get F.cascMembersAligned else b2n up
      linkOk := (List.range 15).foldl (fun acc l => if s.linkLive l then acc + 2 ^ l else acc) 0 })

/-- At a crossing boundary every enabled link sends a service block in the frame of its service lane (R566, R567). -/
def cascBoundary (s : State) : State :=
  let s := cascSignals s
  if s.cascSt = .off then s
  else
    (List.range 15).foldl
      (fun s l =>
        if s.bit F.cascLinkEn l then
          let r := nextService l s
          let w : TxWord := { data := ofBytes r.1.reverse, user := false, poison := false, link := true }
          r.2.modLane (s.get F.cascLinkBundle l) (s.get F.cascLinkSvc l) (fun k => { k with tx := Tab.set k.tx s.mt.boundary w })
        else s) s

/-- Replay from the oldest unacknowledged block (R568, 09 R284). -/
def serviceReplay (l : Nat) (s : State) : State :=
  if (s.clink l).unacked.isEmpty then s
  else (s.modClink l (fun c => { c with resend := c.unacked })).bump F.cascLcntReplays l

/-- SERVICE_REPLAY_TIMEOUT (R568): ack has not advanced for 512 crossings with blocks outstanding. -/
def execServiceReplayTimeout (l : Fin 15) (s : State) : Out :=
  .next (if s.cascSt ≠ .off ∧ s.bit F.cascLinkEn l = true then serviceReplay l s else s)

/-- Drop the blocks that an acknowledgement covers. -/
def ackService (l ack : Nat) (s : State) : State :=
  s.modClink l (fun c =>
    if c.unacked.any (fun u => u.1 == ack) then
      let left := (c.unacked.dropWhile (fun u => u.1 != ack)).drop 1
      { c with unacked := left, resend := c.resend.filter (fun r => left.any (fun u => u.1 == r.1)) }
    else c)

/-- Take whole messages out of a byte stream (R567, R569): messages and bytes left. -/
def takeService : Nat → List Byte → List (List Byte) × List Byte
  | 0, bs => ([], bs)
  | n + 1, bs =>
    match bs with
    | [] => ([], [])
    | b :: rest =>
      if b = 0 then takeService n rest
      else
        let len := 8 + bits (ofBytes (bs.take 8).reverse) 16 0
        if bs.length < 8 ∨ bs.length < len then ([], bs)
        else
          let r := takeService n (bs.drop len)
          (bs.take len :: r.1, r.2)

/-- Type of a message: 1 REQ, 2 RSP, 3 DONE, 4 ROLL; destination, source, tag (R569). -/
def msgType (m : List Byte) : Nat := bits (ofBytes (m.take 8).reverse) 63 60
def msgDst (m : List Byte) : Nat := bits (ofBytes (m.take 8).reverse) 59 56
def msgSrc (m : List Byte) : Nat := bits (ofBytes (m.take 8).reverse) 55 52
def msgTag (m : List Byte) : Nat := bits (ofBytes (m.take 8).reverse) 47 32

/-- Discard a message and count it (R569, R578). -/
def msgDiscard (l : Nat) (s : State) : State := s.bump F.cascLcntProtocol l

/-- A data block in order: its body joins the stream, whole messages are taken, those of an unknown type are discarded. -/
def takeData (l : Nat) (body : List Byte) (s : State) : State :=
  let c := s.clink l
  let bs := c.rxStream ++ body
  let r := takeService (bs.length + 1) bs
  let known (m : List Byte) : Bool := 1 ≤ msgType m && msgType m ≤ 4
  let bad := (r.1.filter (fun m => !known m)).length
  let s := s.modClink l (fun c =>
    { c with rxNext := (c.rxNext + 1) % 1024, rxStream := r.2, inbox := c.inbox ++ r.1.filter known })
  if bad = 0 then s else (s.addSat F.cascLcntProtocol bad l).flag F.cascErrProtocol

/-! ### Time alignment and member states (R571, R572, R574) -/

/-- How a block compares with its slot (R571). -/
inductive Compared where
  | same | orbit | crossing
  deriving DecidableEq, Repr

/-- MISMATCH is entered (R572). -/
def enterMismatch (l : Nat) (c : Compared) (s : State) : State :=
  let s := s.setCasc .mismatch
  let s := if c = .crossing then s.flag F.cascErrCrossMismatch else s.flag F.cascErrOrbitDiff
  s.raise .cascMismatch 0 (l * 2 ^ 32 + b2n (decide (c = .crossing)))

/-- An orbit load of JOINING (R572, 02 R39): MTIME_ORBIT_LOAD takes the local orbit + 1 + the difference. -/
def cascLoad (theirs slot : Nat) (s : State) : State :=
  let v := (s.mt.orbit + 1 + theirs + 2 ^ 48 - slot % 2 ^ 48) % 2 ^ 48
  let s := mtOrbitLoad (s.setPair .mtimeOrbitLoadLo .mtimeOrbitLoadHi v)
  (s.modCasc (fun k => { k with loads := k.loads + 1 })).raise .cascOrbitLoaded 0 ((theirs + 2 ^ 64 - slot) % 2 ^ 64)

/-- A matching block of the up link counts; the eighth in a row leads to ALIGNED (R572). -/
def countMatch (s : State) : State :=
  let s := s.modCasc (fun k => { k with run := k.run + 1 })
  if 8 ≤ s.casc.run then s.setCasc .aligned else s

/-- A compared block of the up link (R572). While an orbit load waits for the orbit boundary, the difference it is to
remove counts for nothing. -/
def upBlock (l : Nat) (c : Compared) (theirs slot : Nat) (s : State) : State :=
  let none' (s : State) : State := s.modCasc (fun k => { k with run := 0 })
  match s.cascSt, c with
  | .joining, .same => countMatch s
  | .joining, .orbit =>
    let s := none' s
    if s.mt.orbitLoad then s
    else if s.bit F.cascCtrlAutoOrbit = false ∨ 2 ≤ s.casc.loads then enterMismatch l c s
    else if s.mtSt = .aligned then cascLoad theirs slot s
    else s
  | .joining, .crossing => enterMismatch l c s
  | .aligned, .same => s.modCasc (fun k => { k with badRun := 0 })
  | .aligned, _ =>
    let n := if s.casc.badAt + 1 = s.mt.boundary then s.casc.badRun + 1 else 1
    let s := s.modCasc (fun k => { k with badRun := n, badAt := s.mt.boundary })
    if 3 ≤ n then enterMismatch l c s else s
  | .mismatch, .same => countMatch s
  | .mismatch, _ => none' s
  | .hold, .same => if s.casc.lost then s else countMatch s
  | .hold, _ => none' s
  | .off, _ | .master, _ => s

/-- A good block with up_ok = 1 on the up link brings a lost master back (R574). -/
def masterSeen (l : Nat) (upOk : Bool) (s : State) : State :=
  if s.casc.lost ∧ upOk = true ∧ s.upLink = some l then
    (s.modCasc (fun k => { k with lost := false })).raise .cascMasterBack 0 l
  else s

/-- The comparison of a good block's stamp (R571): suspended in ACQUIRE and FREE. -/
def compareBlock (l orbit cross : Nat) (s : State) : State :=
  if s.mtSt = .acquire ∨ s.mtSt = .free then s
  else
    let b := s.bundle (s.get F.cascLinkBundle l)
    let c : Compared := if cross ≠ b.rxCross then .crossing else if orbit ≠ b.rxOrbit then .orbit else .same
    let s :=
      if c = .same then s.modClink l (fun k => { k with run := min 8 (k.run + 1) })
      else (s.modClink l (fun k => { k with run := 0 })).bump F.cascLcntMismatched l
    let s := s.putBit F.cascLstatAligned (8 ≤ (s.clink l).run) l
    if s.upLink = some l then upBlock l c orbit b.rxOrbit s else s

/-- The block that the last slot of a link's service lane carries, first byte in the most significant payload bits (R567, 09
R283). -/
def State.serviceRx (s : State) (l : Nat) : List Byte :=
  let n := s.get F.cascLinkBundle l
  (bytesOf (s.lane n (s.get F.cascLinkSvc l)).service.data ((s.frameBits n - 64) / 8)).reverse

/-- SERVICE_BLOCK_RX (R567, R568, R571, R574): the block that a link's service lane last delivered; it is bad when its frame
filled the slot with RX_BAD. On a master, a link that carries the master bit is ignored but for that (R563). -/
def execServiceBlockRx (l : Fin 15) (s : State) : Out :=
  .next <|
    if s.cascSt = .off ∨ s.bit F.cascLinkEn l = false then s
    else if (s.lane (s.get F.cascLinkBundle l) (s.get F.cascLinkSvc l)).service.bad then s.modClink l (fun c => { c with nakDue := true })
    else
      let block := s.serviceRx l
      let h := ofBytes (block.take 4).reverse
      let w1 := ofBytes ((block.drop 4).take 4).reverse
      let w2 := ofBytes ((block.drop 8).take 4).reverse
      let master := bitAt h 8
      let upOk := bitAt h 3
      let s := s.modClink l (fun c => { c with lastGood := some s.pt, lastUp := if upOk then some s.pt else c.lastUp })
      let s := ((s.putBit F.cascLstatPeerMaster master l).putBit F.cascLstatPeerUpOk upOk l).put F.cascLstatPeerMember (bits h 7 4) l
      let two := s.cascSt = .master ∧ master = true
      let s := if two ∧ s.bit F.cascErrTwoMasters = false then (s.flag F.cascErrTwoMasters).raise .cascTwoMasters 0 l else s
      let s := ackService l (bits h 19 10) s
      let s := if bitAt h 9 then serviceReplay l s else s
      let s :=
        if bits h 31 30 = 1 ∧ bits h 29 20 = (s.clink l).rxNext then
          if two then s.modClink l (fun c => { c with rxNext := (c.rxNext + 1) % 1024 }) else takeData l (block.drop 12) s
        else s
      if two then s else compareBlock l (w1 + w2 % 65536 * 2 ^ 32) (bits w2 29 16) (masterSeen l upOk s)

/-! ### Messages between members (R570, R573) -/

/-- Take the oldest message of a link if it has the given type. -/
def takeMessage (l typ : Nat) (s : State) : Option (List Byte) × State :=
  match (s.clink l).inbox with
  | m :: rest => if msgType m = typ then (some m, s.modClink l (fun c => { c with inbox := rest })) else (none, s)
  | [] => (none, s)

/-- Act on a link's oldest message of a type, or forward it to the member it is for (R569). -/
def onMessage (l typ : Nat) (act : List Byte → State → State) (s : State) : State :=
  match takeMessage l typ s with
  | (some m, s) => if msgDst m = s.cascMember then act m s else cascForward l (msgDst m) m s
  | (none, s) => s

/-- ROLL_TIMER (R570). -/
def execRollTimer (s : State) : Out :=
  .next <|
    match s.cascSt with
    | .joining | .aligned | .mismatch | .hold =>
      cascSend 4 0 0 (beWord (s.get F.cascStatusState * 2 ^ 29 + s.cascMember)) s
    | .off | .master => s

/-- Put bit `i` of a mask. -/
def maskBit (mask i : Nat) (b : Bool) : Nat := setBits mask i i (b2n b)

/-- A ROLL at the master (R563, R573). -/
def rollSeen (l : Nat) (m : List Byte) (s : State) : State :=
  if s.cascSt ≠ .master then msgDiscard l s
  else
    let k := msgSrc m
    let via := Tab.get 0 s.casc.rollVia k
    let dup := decide (via ≠ 0) && decide (via ≠ l + 1)
    let s :=
      if dup ∧ s.bit F.cascErrDupMember = false then
        (s.flag F.cascErrDupMember).raise .cascDupMember 0 (l * 2 ^ 32 + k)
      else s
    if dup ∧ via < l + 1 then s
    else
      let back := s.casc.gone.contains k
      let aligned := bits (ofBytes ((m.drop 8).take 4).reverse) 31 29 = 3
      let s := s.modCasc (fun c => { c with rollVia := Tab.put 0 c.rollVia k (l + 1), gone := c.gone.filter (· != k) })
      let s := s.put F.cascMembersPresent (maskBit (s.get F.cascMembersPresent) k true)
      let s := s.put F.cascMembersAligned (maskBit (s.get F.cascMembersAligned) k aligned)
      if back then s.raise .cascMemberBack 0 k else s

/-- CASC_ROLL (R563, R569, R573). -/
def execCascRoll (l : Fin 15) (s : State) : Out := .next (onMessage l 4 (rollSeen l) s)

/-- The up link has delivered no good block with up_ok = 1 for 10 µs: no good block at all, or every one with up_ok = 0
(R574). -/
def State.masterGone (s : State) (l : Nat) : Bool :=
  match (s.clink l).lastUp with | some t => decide (10000 ≤ s.since t) | none => true

/-- CASC_MASTER_LOST (R574). -/
def execCascMasterLost (s : State) : Out :=
  .next <|
    match s.cascSt, s.upLink with
    | .joining, some l | .aligned, some l | .mismatch, some l =>
      if s.masterGone l then
        let s := (s.setCasc .hold).modCasc (fun k => { k with lost := true })
        (s.flag F.cascErrMasterLost).raise .cascMasterLost 0 l
      else s
    | _, _ => s

/-- A relayed command ends with E_ABORTED_FAULT (R578). -/
def relayAborted (s : State) (r : Relay) : State :=
  let s := (s.modCasc (fun c => { c with relays := c.relays.filter (· != r) })).flag F.cascErrRelayTimeout
  if r.accepted then jobOver { origin := .session (Fin.ofNat 1024 r.slot) r.id r.seq, op := r.op, obj := 0 } vAborted [] s
  else if (s.sess r.slot).st = 2 ∧ s.sessId r.slot = r.id then storeReply r.slot vAborted [] s
  else s

/-- RELAY_TIMEOUT (R578): the oldest relayed command has had no RSP or DONE for 100 ms. -/
def execRelayTimeout (s : State) : Out :=
  .next (match s.casc.relays with | r :: _ => relayAborted s r | [] => s)

/-- CASC_MEMBER_LOST (R573, R578). -/
def execCascMemberLost (m : Fin 16) (s : State) : Out :=
  .next <|
    if s.cascSt = .master ∧ (s.get F.cascMembersPresent).testBit m = true then
      let s := s.put F.cascMembersPresent (maskBit (s.get F.cascMembersPresent) m false)
      let s := s.put F.cascMembersAligned (maskBit (s.get F.cascMembersAligned) m false)
      let s := s.modCasc (fun c => { c with rollVia := Tab.put 0 c.rollVia m 0, gone := c.gone ++ [m.val] })
      let s := (s.flag F.cascErrMemberLost).raise .cascMemberLost 0 m
      (s.casc.relays.filter (fun r => r.member == m.val)).foldl relayAborted s
    else s


end Sys2Proof.Machine
end

