-- ==== Sys2Proof/Machine/Cells.lean ====
section
/-!
DEFINITION. What the fabric computes: cells, crossbars, cluster routing, risers and span segments (04 R124 to R145), its
flip-flops at the edges of the fabric clocks (R125 to R127, R148, 05 R169), and the isolation clamps (05 R178, R179).
-/
namespace Sys2Proof.Machine

/-! ### Signals of ports (R123) -/

/-- The region on whose side a port lies: ports of lanes, time and pins, and HOOP_LIVE, are in the fixed regions (R123, R154,
05 R180), a slice in its own region, a block in M with its owner (01 R12). -/
def State.portFits (s : State) (region : Nat) : Config.PortSig → Bool
  | .time _ _ | .rx _ _ _ _ | .rxStb _ | .txLast _ | .hoopLive _ | .casc _ _ => decide (192 ≤ region)
  | .pin p _ => region == 192 + s.get F.fabIobCfgLayer (p / 32 % 13)
  | .hwReady i | .fpReady i => region == 192 + i / 8
  | .slice k _ | .sliceFlag k _ => region == sliceOwner (k % 12288)
  | .rank r _ _ | .rankFlag r _ => region == s.get F.fabBindRuOwner (r % 192)
  | .array a _ | .arrayFlag a _ => region == s.get F.fabBindPmOwner (a % 256)
  | .bank _ _ _ => true
  | .bankFlag _ _ _ => true

/-- The fields of the time port by number (02 R52). -/
def TimePort.field (t : TimePort) : Nat → Nat
  | 0 => t.cross | 1 => t.orbit | 2 => t.phase | 3 => t.cls | 4 => t.user | 5 => t.mark
  | 6 => b2n t.gap | 7 => b2n t.coast | 8 => b2n t.unaligned | _ => t.event.toNat

/-- The signals of a lane's receive port by number (03 R93). -/
def State.rxField (s : State) (layer n m : Nat) : Nat → Nat
  | 0 => (s.rxSignals layer n m).data
  | 1 => (s.rxSignals layer n m).kind
  | 2 => (s.rxSignals layer n m).user
  | 3 => b2n (s.rxSignals layer n m).poison
  | 4 => b2n (s.rxSignals layer n m).bad
  | 5 => (s.bundle n).rxOrbit
  | _ => (s.bundle n).rxCross

/-- The cascade signals by number (18 R575). -/
def CascSt.signal (c : CascSt) : Nat → Nat
  | 0 => b2n c.upOk | 1 => c.present | 2 => c.aligned | _ => c.linkOk

/-- OVF, PRESAT and SWAP of a slice (06 R194). -/
def SliceSt.flags (t : SliceSt) : Nat := t.ovf % 16 + b2n t.presat * 16 + b2n t.swap * 32

/-- The value of a port's signal as a region sees it. -/
def State.portSig (s : State) (region : Nat) (p : Config.PortSig) : Bool :=
  s.portFits region p &&
    match p with
    | .time f i => (s.timePort.field f).testBit i
    | .rx n m sig i => (s.rxField (region - 192) n m sig).testBit i
    | .rxStb n => s.rxStb (region - 192) n
    | .txLast n => s.txLast (region - 192) n
    | .hoopLive n => (s.hoop n).live
    | .pin p i => (s.pinIn p).testBit i
    | .hwReady i => s.hwReady i
    | .fpReady i => s.fpReady i
    | .casc sig i => (s.casc.signal sig).testBit i
    | .slice k i => (s.slice k).acc.testBit i
    | .sliceFlag k i => (s.slice k).flags.testBit i
    | .rank r j i => ((s.rank r).outs.out.getD j (0, 0)).1.testBit i
    | .rankFlag r i => (s.rankFlags r).testBit i
    | .array a i => ((s.pm a).outs.hits.getD (i / 32) 0).testBit (i % 32)
    | .arrayFlag a i => (s.pmFlags a).testBit i
    | .bank b port i => (s.bankRdata region (.block (Fin.ofNat 8192 b)) (if port = 0 then .a else .b)).testBit i
    | .bankFlag b port i => (s.bankFlags region (.block (Fin.ofNat 8192 b)) (if port = 0 then .a else .b)).testBit i

/-! ### Nodes -/

/-- A place of the fabric that carries a value. -/
inductive FabNode where
  /-- Output of a cell (R124): 0 LF, 1 LG, 2 QF, 3 QG; the carry into a cell (R128). -/
  | cellOut (c : Cluster) (cell k : Nat)
  | carry (c : Cluster) (cell : Nat)
  /-- A routing input and an output of a cluster (R130), a wire it drives (R131). -/
  | routed (c : Cluster) (i : Nat)
  | output (c : Cluster) (i : Nat)
  | wire (c : Cluster) (dir j : Nat)
  /-- A span segment by key (R137), a riser wire (R134). -/
  | seg (key : Nat)
  | riser (site w : Nat)
  deriving DecidableEq, Repr

/-- The context in which a cluster's configuration is in force (05 R162). -/
def State.ctxAt (s : State) (c : Cluster) : Nat := s.ctxOf c.region % 4

/-- A value the spec leaves open at a place of the fabric, fresh at every edge. -/
def State.openBit (s : State) (key : Nat) : Bool := (Config.freeValue s.free).testBit key

/-! ### Cells (R124 to R130) -/

/-- The crossbar source, of 128, that choice `j` of a crossbar multiplexer takes: 32 for each multiplexer, arranged so that
every source reaches each cell by two inputs, one of its first four and one of its last four (R130). `id`: 8 x cell + input,
or 128 and on for the CE and SR lines. -/
def crossbarSource (id j : Nat) : Nat := (4 * j + id % 4 + Config.crossbarTurn (id / 4)) % 128

/-- What a crossbar source carries: the routing inputs, then the outputs of the cells (R130). -/
def crossbarNode (c : Cluster) (src : Nat) : FabNode :=
  if src < 64 then .routed c src else .cellOut c ((src - 64) / 4) ((src - 64) % 4)

/-- Input `i` of a cell: I1 to I6, DF, DG; 0 where its multiplexer is off. -/
def State.cellInput (s : State) (v : FabNode → Bool) (c : Cluster) (cell i : Nat) : Bool :=
  match s.cellField c (s.ctxAt c) (.input cell i) with
  | 0 => false
  | k + 1 => v (crossbarNode c (crossbarSource (8 * cell + i) k))

/-- A CE or SR line: tied to 0, tied to 1, or a crossbar source (R129, R130). `id`: 0 CE_A, 1 CE_B, 2 SR_A, 3 SR_B. -/
def State.lineValue (s : State) (v : FabNode → Bool) (c : Cluster) (id : Nat) : Bool :=
  match s.cellField c (s.ctxAt c) (if id < 2 then .enable id else .setReset (id - 2)) with
  | 0 => false
  | 1 => true
  | k + 2 => v (crossbarNode c (crossbarSource (128 + id) k))

/-- The inputs I1 to I6 of a cell as a number, I1 lowest. -/
def State.tableInputs (s : State) (v : FabNode → Bool) (c : Cluster) (cell : Nat) : Nat :=
  ((List.range 6).map (fun i => b2n (s.cellInput v c cell i) * 2 ^ i)).sum

/-- LF and LG from the 64 table bits (R124): one function of six inputs, or two of five that share I1 to I4. -/
def lookup (dual : Bool) (table inputs : Nat) : Bool × Bool :=
  if dual then (table.testBit (inputs % 32), table.testBit (32 + inputs % 16 + inputs / 32 % 2 * 16))
  else (table.testBit (inputs % 64), false)

/-- The lookup table of a cell in its region's context. -/
def State.cellTable (s : State) (v : FabNode → Bool) (c : Cluster) (cell : Nat) : Bool × Bool :=
  lookup (s.cellField c (s.ctxAt c) (.dual cell) != 0) (s.cellField c (s.ctxAt c) (.table cell)) (s.tableInputs v c cell)

/-- The state bit of a flip-flop for a context: the initial value of its frame until an edge has given it another. -/
def State.flop (s : State) (c : Cluster) (cell g ctx : Nat) : Bool :=
  (Tab.look s.flops (flopKey c cell g ctx)).getD (s.initField c ctx (.initial cell g) != 0)

/-- The set-reset line of a flip-flop is asserted (R127). -/
def State.setAsserted (s : State) (v : FabNode → Bool) (c : Cluster) (cell g : Nat) : Bool :=
  s.lineValue v c (2 + s.cellField c (s.ctxAt c) (.ffSetReset cell g) % 2)

/-- The set-reset line of a flip-flop is asynchronous (R127). -/
def State.setAsync (s : State) (c : Cluster) (cell g : Nat) : Bool :=
  s.cellField c (s.ctxAt c) (.setAsync (s.cellField c (s.ctxAt c) (.ffSetReset cell g) % 2)) != 0

/-- The set-reset value of a flip-flop in its region's context (R127). -/
def State.setTo (s : State) (c : Cluster) (cell g : Nat) : Bool := s.initField c (s.ctxAt c) (.setValue cell g) != 0

/-- QF or QG: the state bit of the current context (R126), or the set-reset value while an asynchronous line of a region that
runs is asserted (R127). -/
def State.flopOut (s : State) (v : FabNode → Bool) (c : Cluster) (cell g : Nat) : Bool :=
  if s.regionRuns c.region && s.setAsync c cell g && s.setAsserted v c cell g then s.setTo c cell g
  else s.flop c cell g (s.ctxAt c)

/-- The carry-out of a cell: generate from the table's first half, propagate from its second, in dual mode (R128). -/
def State.carryOut (s : State) (v : FabNode → Bool) (c : Cluster) (cell : Nat) : Bool :=
  if s.cellField c (s.ctxAt c) (.dual cell) != 0 then v (.cellOut c cell 0) || (v (.cellOut c cell 1) && v (.carry c cell))
  else Config.sixCarry c.index cell (s.ctxAt c)

/-- The carry into a cell: from the cell below, cell 15 of the cluster below for cell 0; a configured constant for cell 0 in
the lowest row of a band, where the chain is cut (R128). -/
def State.carryIn (s : State) (v : FabNode → Bool) (c : Cluster) (cell : Nat) : Bool :=
  if cell ≠ 0 then s.carryOut v c (cell - 1)
  else if c.y % 20 = 0 then s.cellField c (s.ctxAt c) .carryIn != 0
  else s.carryOut v { c with y := c.y - 1 } 15

/-! ### Routing (R130 to R135) -/

/-- The state bit of a riser register for a context. -/
def State.riserBit (s : State) (layer site w ctx : Nat) : Bool :=
  (Tab.look s.flops (riserFlop layer site w ctx)).getD (s.initField (siteCluster layer site) ctx (.riserInitial w) != 0)

/-- A riser wire as its receiving end picks it up (R134, R135): the wire, or the riser register that captures it; the end
that drives a wire picks up nothing. -/
def State.riserPick (s : State) (v : FabNode → Bool) (layer site w : Nat) : Bool :=
  let c := siteCluster layer site
  if s.riserDrive layer site w (s.ctxAt c) ≠ 0 then false
  else if s.columnField c (s.ctxAt c) (.riserReg w) ≠ 0 then s.riserBit layer site w (s.ctxAt c)
  else v (.riser site w)

/-- What a pickup multiplexer can take at a cluster: the ends of the 96 wires that reach it, the 32 segments that pass it,
the 32 riser wires of its site, the ports beside it (R123, R131, R135, R137). A wire that would come from past the grid's
edge reads 0 (R133). -/
def State.pickSource (s : State) (v : FabNode → Bool) (c : Cluster) (j : Nat) : Bool :=
  if j < 96 then
    match c.toward (facing (j / 24)) (wireLength (j % 24)) with
    | some d => v (.wire d (j / 24) (j % 24))
    | none => false
  else if j < 112 then
    v (.seg (SpanSeg.key { layer := c.layer, vertical := false, span := j - 96, segment := c.x / 40, line := c.y }))
  else if j < 128 then
    v (.seg (SpanSeg.key { layer := c.layer, vertical := true, span := j - 112, segment := c.y / 20, line := c.x }))
  else if j < 160 then s.riserPick v c.layer c.site (j - 128)
  else s.portSig c.region (Config.portAt c.index (j - 160))

/-- What a wire, span driver or riser wire is driven from: one of the cluster's outputs or what can be picked up there. -/
def State.routeSource (s : State) (v : FabNode → Bool) (c : Cluster) : Nat → Bool
  | 0 => false
  | k + 1 => if k < 32 then v (.output c k) else s.pickSource v c (k - 32)

/-- What a clamped wire carries (05 R178): 0, 1, or what it carried before the clamp engaged. -/
def State.clampValue (s : State) (layer n key : Nat) : Bool :=
  match s.fixedField layer (s.ctxOf (192 + layer) % 4) (.clamp key) with
  | 0 => false
  | 1 => true
  | _ => (s.hoop n).carried.contains key

/-- A value that leaves a region by a boundary wire or riser wire: through the clamp while a hoop's is engaged (05 R179). -/
def State.clamped (s : State) (c : Cluster) (key : Nat) (value : Bool) : Bool :=
  if c.region < 192 ∧ (s.hoop c.region).live = false then s.clampValue c.layer c.region key else value

/-- A cluster wire, driven by its multiplexer in the switch box of its source cluster (R131, R132). -/
def State.wireValue (s : State) (v : FabNode → Bool) (c : Cluster) (dir j : Nat) : Bool :=
  let value := s.routeSource v c (s.cellField c (s.ctxAt c) (.wire dir j))
  if c.leaves dir j then s.clamped c (c.wireKey dir j) value else value

/-- A riser wire driven at a layer's end. -/
def State.riserFrom (s : State) (v : FabNode → Bool) (layer site w : Nat) : Bool :=
  let c := siteCluster layer site
  s.clamped c (riserKey layer site w) (s.routeSource v c (s.riserDrive layer site w (s.ctxAt c)))

/-- A riser wire: upward, downward, or off and 0 (R134). Driven from both ends, its level is open. -/
def State.riserValue (s : State) (v : FabNode → Bool) (site w : Nat) : Bool :=
  let driven (layer : Nat) : Bool := s.riserDrive layer site w (s.ctxAt (siteCluster layer site)) != 0
  match driven 0, driven 1 with
  | true, true => s.openBit (riserKey 0 site w)
  | true, false => s.riserFrom v 0 site w
  | false, true => s.riserFrom v 1 site w
  | false, false => false

/-! ### Span segments (R137 to R144) -/

/-- What a driver forces on its segment. -/
def State.driverValue (s : State) (v : FabNode → Bool) (g : SpanSeg) : SpanDriver → Bool
  | .cluster c => s.routeSource v c (s.columnField c (s.ctxAt c) (.span g.vertical g.span))
  | .joint up => v (.seg (g.before up).key)

/-- A segment's level: undefined while drivers contend (R144), 0 while they are disabled (R143) and with no enabled driver
(R139), else what its driver forces. -/
def State.segValue (s : State) (v : FabNode → Bool) (key : Nat) : Bool :=
  let g := SpanSeg.ofKey key
  let p := Tab.get {} s.spans key
  if p.openTo ≠ 0 then s.openBit key
  else if p.st ≠ .driven then false
  else match g.drivers.filter (s.driverOn g) with
    | [] => false
    | [d] => s.driverValue v g d
    | _ => s.openBit key

/-! ### The value of a node -/

/-- The value of a node from those of the nodes it depends on. -/
def State.nodeValue (s : State) (v : FabNode → Bool) : FabNode → Bool
  | .cellOut c cell 0 => (s.cellTable v c cell).1
  | .cellOut c cell 1 => (s.cellTable v c cell).2
  | .cellOut c cell k => s.flopOut v c cell (k - 2)
  | .carry c cell => s.carryIn v c cell
  | .routed c i =>
    match s.cellField c (s.ctxAt c) (.pick i) with
    | 0 => false
    | k + 1 => s.pickSource v c k
  | .output c i =>
    match s.cellField c (s.ctxAt c) (.output i) with
    | 0 => false
    | k + 1 => v (.cellOut c (k / 4 % 16) (k % 4))
  | .wire c dir j => s.wireValue v c dir j
  | .seg key => s.segValue v key
  | .riser site w => s.riserValue v site w

/-- The value of a node, followed to a depth; beyond it, where only a loop of multiplexers and tables leads, it is open. -/
def State.fabValue (s : State) : Nat → FabNode → Bool
  | 0, _ => s.openBit (2 ^ 42)
  | n + 1, x => s.nodeValue (s.fabValue n) x

/-- More places than any path without a loop passes. -/
def fabDepth : Nat := 2 ^ 32

/-- The value of a node. -/
def State.nodeAt (s : State) (x : FabNode) : Bool := s.fabValue fabDepth x

/-! ### Edges (R125 to R127, R135, R146 to R149, 05 R169) -/

/-- What an edge gives a flip-flop, none where it holds: an asserted asynchronous line sets it at once and a synchronous one at
its clock's edge whatever its enable, and with its enable it takes its table output or bypass input (R125, R127). `hits`: the
fabric clocks that have an edge now. -/
def State.flopNext (s : State) (hits : Nat → Bool) (c : Cluster) (cell g : Nat) : Option Bool :=
  let f (x : Config.FabField) : Nat := s.cellField c (s.ctxAt c) x
  let clock := hits (f (.clock (f (.ffClock cell g) % 2)))
  if s.setAsserted s.nodeAt c cell g && (s.setAsync c cell g || clock) then some (s.setTo c cell g)
  else if clock && s.lineValue s.nodeAt c (f (.ffEnable cell g) % 2) then
    some (if f (.ffBypass cell g) = 0 then s.nodeAt (.cellOut c cell g) else s.cellInput s.nodeAt c cell (6 + g))
  else none

/-- What an edge gives a riser register of a site, none where it holds (R135). -/
def State.riserNext (s : State) (hits : Nat → Bool) (layer site w : Nat) : Option Bool :=
  let c := siteCluster layer site
  let f (x : Config.FabField) : Nat := s.columnField c (s.ctxAt c) x
  let enabled : Bool :=
    match f (.riserEnable w) with
    | 0 => false
    | 1 => true
    | k + 2 => s.pickSource s.nodeAt c k
  if hits (f (.riserClock w)) && enabled && s.riserDrive layer site w (s.ctxAt c) == 0 then some (s.nodeAt (.riser site w)) else none

/-- The state bits that an edge changes in the column of a frame slot: those of the current context of a region that runs
(R126). Parts 0 to 19 hold a cluster's cells, part 20 the riser sites of its column. -/
def State.slotEdge (s : State) (hits : Nat → Bool) (slot : Nat) : List (Nat × Bool) :=
  let p := slotPlace slot
  let ctx := p.2.1
  let low := p.2.2
  if s.regionRuns low.region = false ∨ s.ctxOf low.region % 4 ≠ ctx then []
  else if p.1 < 20 then
    let c : Cluster := { low with y := low.y + p.1 }
    (List.range 32).filterMap (fun i => (s.flopNext hits c (i / 2) (i % 2)).map (fun b => (flopKey c (i / 2) (i % 2) ctx, b)))
  else if p.1 = 20 ∧ low.x % 4 = 0 then
    (List.range 160).filterMap (fun i =>
      let site := ({ low with y := low.y + 4 * (i / 32) } : Cluster).site
      (s.riserNext hits low.layer site (i % 32)).map (fun b => (riserFlop low.layer site (i % 32) ctx, b)))
  else []

/-- An instant at which fabric clocks have an edge: every flip-flop takes its next value at once; a column whose frame is empty
holds (13 R413). -/
def fabEdge (hits : Nat → Bool) (s : State) : State :=
  let next := s.frames.flatMap (fun e => s.slotEdge hits e.1)
  { s with flops := next.foldl (fun t e => Tab.set t e.1 e.2) s.flops, free := s.free + 1 }

/-- The fabric clocks with an edge at an instant of the crossing: edge `e` of a clock of multiple k is at e / k (R146, R148). -/
def State.edgesAt (s : State) (t clk : Nat) : Bool := s.kOf clk != 0 && t * s.kOf clk % fabGrid == 0

/-- The next instant with an edge. -/
def State.nextEdge (s : State) (t : Nat) : Nat :=
  (List.range 4).foldl (fun m c => if s.kOf c = 0 then m else min m ((t * s.kOf c / fabGrid + 1) * (fabGrid / s.kOf c))) fabGrid

/-- An instant comes: a contention whose drivers have been disabled before it is over (R144). -/
def spansTo (t : Nat) (s : State) : State :=
  if s.spans.any (fun e => e.2.openTo != 0 && decide (e.2.openTo < t)) then
    { s with spans := s.spans.map (fun e => if e.2.openTo < t then (e.1, { e.2 with openTo := 0 }) else e) }
  else s

/-- Make the edges up to an instant; a crossing has fewer than 100 (R146). What an edge captures is what stood before it. -/
def fabRun (limit : Nat) : Nat → State → State
  | 0, s => s
  | n + 1, s =>
    let t := s.nextEdge s.mt.fabTick
    if limit < t then s
    else
      let s := fabEdge (s.edgesAt t) (spansTo t s)
      fabRun limit n { s with mt := { s.mt with fabTick := t } }

/-- The fabric runs on to an instant of the crossing. Nothing in it changes before global start, or while no frame is written. -/
def fabTo (limit : Nat) (s : State) : State :=
  let s := spansTo limit (if s.started && !s.frames.isEmpty then fabRun limit 100 s else s)
  { s with mt := { s.mt with fabTick := max s.mt.fabTick limit } }

/-- The wires leaving a hoop, by key, whose clamp holds and that carry 1 (05 R178). -/
def State.carriedNow (s : State) (n : Nat) : List Nat :=
  let layer := n / 96
  let x0 := 40 * (n % 12)
  let y0 := 40 * (n % 96 / 12)
  let holds (k : Nat) : Bool := s.fixedField layer (s.ctxOf (192 + layer) % 4) (.clamp k) == 2
  let wires := (List.range 800).flatMap (fun i =>
    let c : Cluster := { layer := layer, x := x0 + i / 20, y := y0 + i % 20 }
    ((List.range 96).filter (fun w =>
      c.leaves (w / 24) (w % 24) && holds (c.wireKey (w / 24) (w % 24)) && s.nodeAt (.wire c (w / 24) (w % 24)))).map
        (fun w => c.wireKey (w / 24) (w % 24)))
  let risers := (List.range 50).flatMap (fun i =>
    let site := ({ layer := layer, x := x0 + 4 * (i / 5), y := y0 + 4 * (i % 5) } : Cluster).site
    ((List.range 32).filter (fun w =>
      s.riserDrive layer site w (s.ctxOf n % 4) != 0 && holds (riserKey layer site w) && s.nodeAt (.riser site w))).map
        (fun w => riserKey layer site w))
  wires ++ risers

/-- What the wires leaving the live hoops carry in the last fabric clock of the crossing. -/
def keepCarried (s : State) : State :=
  if s.frames.isEmpty then s
  else { s with hoops := s.hoops.map (fun e => if e.2.live then (e.1, { e.2 with carried := s.carriedNow e.1 }) else e) }

/-- The fabric reaches the crossing boundary: the remaining edges of the crossing, and edge 0 of every clock, at which the
flip-flops capture under the old contexts (05 R169); a new crossing begins. -/
def fabCross (s : State) : State :=
  let s := fabTo fabGrid (keepCarried (fabTo (fabGrid - 1) s))
  { s with
    mt := { s.mt with fabTick := 0, fabNs := 0 }
    spans := if s.spans.any (fun e => e.2.openTo != 0) then s.spans.map (fun e => (e.1, { e.2 with openTo := e.2.openTo - fabGrid }))
             else s.spans }

/-- A nanosecond passes in the fabric: it runs on, but not past the end of the crossing. -/
def fabIdle (s : State) : State :=
  let s := { s with mt := { s.mt with fabNs := s.mt.fabNs + 1 } }
  fabTo (min (fabGrid - 1) (s.nsTicks s.mt.fabNs)) s

end Sys2Proof.Machine
end

