-- ==== Sys2Proof/Machine/RegBus.lean ====
section
/-!
DEFINITION. The register bus (00 R6 to R8, 01 R15, R29): which register an address names, what a read of it returns, what a
write of it does, on the packet network's register port and on the management ring.
-/
namespace Sys2Proof.Machine

/-! ### Addresses -/

/-- The indices of a register family that an address names. -/
def RegInfo.index (n : RegInfo) (addr : Nat) : Option (Nat × Nat) :=
  if addr < n.base then none
  else
    let o := addr - n.base
    let i := if n.step1 = 0 then 0 else o / n.step1
    let o := if n.step1 = 0 then o else o % n.step1
    let j := if n.step2 = 0 then 0 else o / n.step2
    let o := if n.step2 = 0 then o else o % n.step2
    if o = 0 ∧ i < n.count1 ∧ j < n.count2 then some (i, j) else none

/-- The block an on-chip address lies in (01 R29). -/
def blockAt (addr : Nat) : Option Block :=
  match addr / 0x100000 with
  | 0x0 => some .sys | 0x1 => some .clk | 0x2 => some .mtime | 0x3 => some .lane | 0x4 => some .cfg | 0x5 => some .fab
  | 0x6 => some .memb | 0x7 => some .near | 0x8 => some .cave | 0x9 => some .xcr | 0xA => some .noc | 0xB => some .wx
  | 0xC => some .qc | 0xD => some .eth | 0xE => some .scm | 0xF => some .dbg | 0x10 => some .casc
  | _ => none

/-- The register of a block that an address names, with its indices. -/
def regIn (rs : List RegName) (addr : Nat) : Option (RegName × Nat × Nat) :=
  rs.findSome? (fun r => (r.info.index addr).map (fun ij => (r, ij.1, ij.2)))

/-- The windows that take one access of their own each and deny any other: WX_POST and ETH_SEND (00 R6). -/
def isWindow (addr : Nat) : Bool :=
  (decide (0xB08000 ≤ addr) && decide (addr < 0xB08040)) || (decide (0xD00100 ≤ addr) && decide (addr < 0xD00120))

/-! ### Locks and access codes (00 R8) -/

/-- The lock bit of a block; SYS and DBG have none. -/
def Block.lock : Block → Option Fld
  | .sys => none
  | .clk => some F.clkCtrlLock
  | .mtime => some F.mtimeCtrlLock
  | .lane => some F.laneGctrlLock
  | .cfg => some F.cfgCtrlLock
  | .fab => some F.fabCtrlLock
  | .memb => some F.membCtrlLock
  | .near => some F.nearCtrlLock
  | .cave => some F.caveCtrlLock
  | .xcr => some F.xcrCtrlLock
  | .noc => some F.nocCtrlLock
  | .wx => some F.wxCtrlLock
  | .qc => some F.qcCtrlLock
  | .eth => some F.ethCtrlLock
  | .scm => some F.scmCtrlLock
  | .dbg => none
  | .casc => some F.cascCtrlLock

/-- The RWL fields of a block are locked. -/
def State.lockedBlock (s : State) (b : Block) : Bool :=
  match b.lock with | some f => s.bit f | none => false

/-- The word a register holds after a write, by its fields' access codes. -/
def codedWord (n : RegInfo) (locked : Bool) (old v : Word) : Word :=
  let set : Word := BitVec.ofNat 32 (n.rw ||| (if locked then 0 else n.rwl))
  let one : Word := BitVec.ofNat 32 n.w1s
  let zero : Word := BitVec.ofNat 32 n.w1c
  (((old &&& ~~~set) ||| (v &&& set)) ||| (v &&& one)) &&& ~~~(v &&& zero)

/-- A write with no effect beyond its fields' access codes. -/
def codedWrite (r : RegName) (i j : Nat) (v : Word) (s : State) : State × Status :=
  (s.setWord r (codedWord r.info (s.lockedBlock r.block) (s.word r i j) v) i j, .ok)

/-! ### The active Ethernet port (14 R441, R442) -/

/-- Send a frame of the network protocols. -/
def sendCtl (k : CtlKind) (answer : Bool) (dest : Peer) (s : State) : State := s.sendEth (.ctl k answer dest)

/-- The static IPv6 address. -/
def State.ip6 (s : State) : Nat := (List.range 4).foldl (fun a k => a * 2 ^ 32 + (s.word .ethIp6 k).toNat) 0

/-- The MAC address as a number, first octet most significant. -/
def State.mac (s : State) : Nat :=
  Crypto.beNat (nums (s.get F.ethMacLoVal) 4 ++ nums (s.get F.ethMacHiVal) 2)

/-- The link-local address formed from the MAC address (14 R443). -/
def State.linkLocal (s : State) : Nat :=
  let m := s.mac
  0xFE80 * 2 ^ 112 + ((m / 2 ^ 24) ^^^ 0x20000) * 2 ^ 40 + 0xFFFE * 2 ^ 24 + m % 2 ^ 24

/-- The IPv6 addresses in use. -/
def State.ip6s (s : State) : List Nat :=
  if s.bit F.ethCtrlIp6En then s.linkLocal :: (if s.ip6 = 0 then [] else [s.ip6]) else []

/-- The IPv4 address in use. -/
def State.ip4s (s : State) : List Nat := if s.bit F.ethCtrlIp4En && s.get F.ethIp4Val != 0 then [s.get F.ethIp4Val] else []

/-- The other port becomes the active one. -/
def ethSwitch (port : Bool) (s : State) : State :=
  let s := (s.putBit F.ethStatusActive port).putBit F.ethCtrlActive port
  let s := s.ip4s.foldl (fun s a => sendCtl .arp false { ip := a, mac := s.mac } s) s
  let s := s.ip6s.foldl (fun s a => sendCtl .neighbour false { v6 := true, ip := a, mac := s.mac } s) s
  (s.flag F.ethErrFailover).raise .ethFailover

/-- A write of ETH_CTRL.active: it switches ports whatever the link states (R442). -/
def ethActiveWrite (port : Bool) (s : State) : State := if s.bit F.ethStatusActive = port then s else ethSwitch port s

/-- A write of ETH_CTRL. -/
def ethCtrlWrite (v : Word) (s : State) : State × Status :=
  let port := bitAt v.toNat 8
  let s1 := (codedWrite .ethCtrl 0 0 v s).1.putBit F.ethCtrlActive (s.bit F.ethStatusActive)
  (ethActiveWrite port s1, .ok)

/-! ### Writes -/

/-- The bits of a register that a write sets, whatever the lock. -/
def RegName.setMask (r : RegName) : Nat := r.info.rw ||| r.info.rwl

/-- A write of a register by any requester but the debug port: the rule of the register where it has one, else its fields'
access codes. -/
def writeReg (r : RegName) (i j : Nat) (v : Word) (s : State) : State × Status :=
  let n := v.toNat
  match r with
  | .sysRst => sysRstWrite n s
  | .clkCtrl => clkCtrlWrite n s
  | .clkNoc => clkNocWrite n s
  | .clkQpll => clkQpllWrite i n s
  | .clkGrp => clkGrpWrite i n s
  | .clkNctl => clkNctlWrite n s
  | .mtimeCtrl => mtCtrlWrite n s
  | .mtimeNomPeriod => mtNomPeriod n s
  | .mtimeSnap => (if bitAt n 0 then mtSnap s else s, .ok)
  | .mtimeRtCtrl => rtCtrlWrite n s
  | .mtimeSteal => stealWrite i n s
  | .mtimeEvtTLo => evtTargetWrite i false v s
  | .mtimeEvtTHi => evtTargetWrite i true v s
  | .laneCfg => laneCfgWrite i n s
  | .laneRxdly => laneHeldWrite r r.setMask i n s
  | .laneGang => laneHeldWrite r r.setMask i n s
  | .laneCmd => laneCmdWrite i n s
  | .laneReinstate => laneReinstateWrite i n s
  | .laneEyeCtrl => eyeWrite i n s
  | .fabFclkCtrl => fclkWrite n s
  | .fabIod => iodWrite i n s
  | .fabGrp => grpWrite i n s
  | .fabFixGrp => fixGrpWrite n s
  | .fabHoopCfg => hoopCfgWrite i n s
  | .fabHoopCmd => hoopCmdWrite i n s
  | .fabPmuCtrl => pmuCtrlWrite i n s
  | .fabPmuFirst => pmuRegWrite r r.setMask i n s
  | .fabPmuCount => pmuRegWrite r r.setMask i n s
  | .fabPmuAddrLo => pmuRegWrite r r.setMask i n s
  | .fabPmuAddrHi => pmuRegWrite r r.setMask i n s
  | .fabPmuWxq => pmuRegWrite r r.setMask i n s
  | .fabPmuStatus => pmuIdleWrite i s
  | .fabPmuLast => pmuIdleWrite i s
  | .membBown => handoverWrite i n s
  | .membBpwr => powerWrite (.block (Fin.ofNat 8192 i)) n s
  | .membSpwr => powerWrite (.scratch (Fin.ofNat 256 i)) n s
  | .membScrCtrl => scrubCtrlWrite i n s
  | .membScrBaseLo => scrubRegWrite r r.setMask i n s
  | .membScrBaseHi => scrubRegWrite r r.setMask i n s
  | .membScrLen => scrubRegWrite r r.setMask i n s
  | .membScrDestLo => scrubRegWrite r r.setMask i n s
  | .membScrDestHi => scrubRegWrite r r.setMask i n s
  | .membScrWxq => scrubRegWrite r r.setMask i n s
  | .membScrStatus => scrubIdleWrite i s
  | .membScrLast => scrubIdleWrite i s
  | .nearCtrl => nearCtrlWrite n s
  | .nearRingCtrl => ringCtrlWrite n s
  | .nearRingNbase => ringRegWrite r n s
  | .nearRingNlen => ringRegWrite r n s
  | .nearIdxBase => ringRegWrite r n s
  | .nearIdxLen => ringRegWrite r n s
  | .nearLbD => if i = 7 then lbD7Write n s else (s.setWord r v i, .ok)
  | .nearLbtxCtrl => lbtxWrite (Fin.ofNat 2 i) n s
  | .cavePcfg => cavePcfgWrite i n s
  | .xcrKeyErase => (keyErase n s, .ok)
  | .xcrRelCtrl => releaseCtrlWrite n s
  | .xcrRelPage => releaseRegWrite r r.setMask n s
  | .xcrRelCount => releaseRegWrite r r.setMask n s
  | .nocRtrCmd => rtrCmdWrite i n s
  | .nocRtrVcdepth => vcdepthWrite i n s
  | .nocNiReg => niRegWrite r.setMask i n s
  | .wxCancel => cancelWrite n s
  | .qcCmd => qcCmdWrite i n s
  | .qcShadow => shadowWrite i n s
  | .cfgLoadCmd => loadCmdWrite n s
  | .ethCtrl => ethCtrlWrite v s
  | .cascCtrl => cascCtrlWrite n s
  | .cascLink => cascLinkWrite i n s
  | r => codedWrite r i j v s

/-- A 32-bit write of an on-chip address below the data memories, for any requester but the debug port: only the debug port
reaches the DBG block (19 R588). An offset that no register has ignores it (01 R29). -/
def regWrite (addr : Nat) (v : Word) (s : State) : State × Status :=
  if addr % 4 ≠ 0 ∨ isWindow addr = true then (s, .denied)
  else match blockAt addr with
    | none => (s, .decode)
    | some .dbg => (s, .denied)
    | some b =>
      if 0x210000 ≤ addr ∧ addr < 0x230000 then rtShadowWrite ((addr - 0x210000) / 4) v.toNat s
      else match regIn b.regs addr with
        | some (r, i, j) => writeReg r i j v s
        | none => (s, .ok)

/-! ### Reads -/

/-- How many of a range satisfy a condition. -/
def countOf (n : Nat) (p : Nat → Bool) : Nat := ((List.range n).filter p).length

/-- Idle seconds left of a session (14 R460, R478). -/
def State.idleLeft (s : State) (k : Nat) : Nat :=
  let c := s.sess k
  if c.st = 1 then c.idle - s.since c.idleFrom / 1000000000 else 0

/-- ETH_SESS_INFO. -/
def State.sessInfo (s : State) (k : Nat) : Nat :=
  let c := s.sess k
  c.st % 4 * 2 ^ 30 + c.okey % 16 * 2 ^ 26 + b2n c.data * 2 ^ 25 + min 4095 (s.idleLeft k)

/-- What a read of a register returns: the word it holds, with the fields that show what another part of the state holds. -/
def regView (r : RegName) (i j : Nat) (s : State) : Nat :=
  let w := (s.word r i j).toNat
  match r with
  | .sysStatus => setBits w 0 0 (b2n s.started)
  | .laneGstat => s.countMode modeCascade * 2 ^ 16 + s.countMode modeCave
  | .fabHoopStatus => setBits w 25 24 (s.ctxOf i)
  | .mtimeStatus => if s.externalSrc then w else setBits w 4 4 0
  | .nearLbD => 0
  | .wxStat0 => (s.wx.items.filter (fun e => e.2.st == .ready)).length % 65536 * 2 ^ 16 + s.wx.items.length % 65536
  | .wxStat1 => setBits w 16 0 s.tokensHeld
  | .wxDlnow => Tab.get 0 s.wx.counts i % 2 ^ 32
  | .wxDllen => (s.wx.items.filter (fun e => match e.2.st with | .delayed _ => e.2.list == i | _ => false)).length
  | .wxQstat => s.queueStat i
  | .qcStat => countOf 128 (fun n => s.qSt n == .retired) * 2 ^ 16 + countOf 128 (fun n => s.qSt n == .wait)
  | .qcStatus => if s.groupOn (i / 8) then w else setBits w 31 28 0
  | .ethStatus => setBits w 31 16 (countOf 1024 (fun k => (s.sess k).st != 0))
  | .ethSessId => if (s.sess i).st = 0 then 0 else s.sessId i
  | .ethSessInfo => s.sessInfo i
  | .ethSendStat => setBits w 22 16 s.host.streams.length
  | .cascStatus => setBits (setBits w 28 28 (b2n (s.cascSt == .master))) 27 27 (b2n s.upOk)
  | .cascLstat => setBits w 31 31 (b2n (s.linkLive i))
  | .dbgStatus =>
    setBits (setBits w 28 28 (b2n (s.get F.dbgConnectAttach + s.get F.dbgConnectHoldLoad + s.get F.dbgConnectHoldSceum
      + s.get F.dbgConnectHaltQuill != 0))) 7 0 (countOf 129 s.coreHalted)
  | _ => w

/-- A read of a register that is not quiet clears its RC fields (00 R8). -/
def clearRc (r : RegName) (i j : Nat) (s : State) : State :=
  if r.info.rc = 0 then s else s.setWord r (s.word r i j &&& ~~~(BitVec.ofNat 32 r.info.rc)) i j

/-- A register at an address, for any requester but the debug port; the windows of the ruling table (02 R57, R69). -/
def readBlock (b : Block) (addr : Nat) (quiet : Bool) (s : State) : Nat × State :=
  if 0x210000 ≤ addr ∧ addr < 0x230000 then ((rtHalf s (!s.activeBank) ((addr - 0x210000) / 4)).toNat, s)
  else if 0x240000 ≤ addr ∧ addr < 0x260000 then ((rtHalf s s.activeBank ((addr - 0x240000) / 4)).toNat, s)
  else match regIn b.regs addr with
    | some (r, i, j) => (regView r i j s, if quiet then s else clearRc r i j s)
    | none => (0, s)

/-- A 32-bit read of an on-chip address below the data memories: status, data, state. Of the DBG block a requester other
than the debug port reads DBG_STATUS alone (19 R588). An offset that no register has reads 0 (01 R29). -/
def regRead (addr : Nat) (quiet : Bool) (s : State) : Status × Nat × State :=
  if addr % 4 ≠ 0 ∨ isWindow addr = true then (.denied, 0, s)
  else match blockAt addr with
    | none => (.decode, 0, s)
    | some b =>
      if b = .dbg ∧ addr ≠ 0xF00004 then (.denied, 0, s)
      else
        let r := readBlock b addr quiet s
        (.ok, r.1, r.2)

/-! ### Commands -/

/-- REG_WRITE (00 R6 to R8): a write of `len` bytes to register space; only an aligned access of 4 bytes is accepted. While
the device is held in reset nothing answers. -/
def execRegWrite (addr len : Nat) (v : Word) (s : State) : Out :=
  if s.clk.held then .next s
  else if len ≠ 4 then reply (s, .denied)
  else reply (regWrite addr v s)

/-- A read's answer. -/
def readReply (r : Status × Nat × State) : Out := .next (r.2.2.answer r.1 r.2.1)

/-- RC_READ (00 R6 to R8): a read of `len` bytes of register space; a quiet one clears nothing. -/
def execRcRead (addr len : Nat) (quiet : Bool) (s : State) : Out :=
  if s.clk.held then .next s
  else if len ≠ 4 then reply (s, .denied)
  else readReply (regRead addr quiet s)

/-- REGISTER_PORT_ACCESS (11 R340, R366; 00 R6): an access that reaches the register port over the packet network. -/
def execRegisterPortAccess (addr len : Nat) (write : Option Word) (s : State) : Out :=
  whenClocked s.nocClocked s <| if s.clk.held then .next s
  else if len ≠ 4 then reply (s, .denied)
  else match write with
    | some v => reply (regWrite addr v s)
    | none => readReply (regRead addr false s)

end Sys2Proof.Machine
end

