-- ==== Sys2Proof/Machine/LoaderEnd.lean ====
section
/-!
DEFINITION. The end of a load (13 R429 to R435): signature, contention and content checks, the REGS records, and the start
of what was loaded.
-/
namespace Sys2Proof.Machine

/-! ### Signature (R424) -/

/-- The length of a folio's signature. -/
def signatureLen : Nat := 1612

/-- The signature of the folio that has been read is verified: none where the folio source answers with an error. -/
def signatureOk (s : State) : Option Bool × State :=
  let r := srcRead s.loader.bytes.length signatureLen s
  match r.1 with
  | none => (none, r.2)
  | some sig =>
    let pub := (Tab.get [] s.otp.vks (s.folioByte 28)).map BitVec.toNat
    let digest := Crypto.sha256 (s.loader.bytes.map BitVec.toNat)
    (some (Crypto.lmsVerify pub digest (sig.map BitVec.toNat)), r.2)

/-! ### Slice configurations (06 R195, 05 R174, R412) -/

/-- The frame address of part 20 of a slice's column in a context (R411, R412). -/
def sliceFrame (i ctx : Nat) : Nat :=
  let region := sliceOwner i
  let area := if region < 192 then 0 else 12 * (i % 6144 / 384 / 2) + i % 384 / 32
  ctx * 2 ^ 27 + region * 2 ^ 19 + 880 * area + 22 * (Config.sliceColumn i % 40) + 20

/-- What a slice's column gives for it in a context: nothing where its frame is empty (R413). -/
def State.sliceBits (s : State) (i ctx : Nat) : Option Nat :=
  let v := s.frame (faSlot (sliceFrame i ctx))
  if v = 0 then none else some (Config.sliceWord i v)

/-- A slice's configuration from its packed fields. -/
def decodeSlice (w : Nat) : SliceCfg :=
  { mode := bits w 2 0, preEn := bitAt w 3, preNeg := bitAt w 4, bSrc := bitAt w 5, accSrc := bits w 8 6, sat := bitAt w 9
    stOp := bitAt w 10, stProd := bitAt w 11, clk := bits w 13 12, csKw := bits w 15 14, csSigned := bitAt w 16 }

/-- A slice's binding from its packed fields (05 R174). -/
def decodeBinding (w : Nat) : Nat := bits w 19 17

/-- A value the loader refuses in a slice's configuration (06 R195) or binding (05 R174). The chains of 06 R201 stay within
a strip of one band, so within one region. -/
def sliceRefused (w : Nat) : Bool :=
  let c := decodeSlice w
  c.mode == 7 || decide (4 < c.accSrc) || (c.accSrc == 4 && (c.mode == 2 || c.mode == 4)) || (c.preEn && c.mode != 0)
    || decide (4 < decodeBinding w)

/-- The regions that a load writes. -/
def State.loadRegions (s : State) : List Nat := if s.ldHoop then [s.ldTarget] else List.range 194

/-- The frame of the first slice of the load with a refused value. -/
def sliceFault (s : State) : Option Nat :=
  s.loadRegions.findSome? (fun r =>
    (slicesOf r).findSome? (fun i =>
      ((List.range 4).find? (fun ctx => match s.sliceBits i ctx with | some w => sliceRefused w | none => false)).map
        (fun ctx => sliceFrame i ctx)))

/-- A slice takes its configuration and binding from the frames loaded; the binding is that of the lowest context that
holds one. FAB_BIND_AS shows its owner from then on (05 R174, R192). -/
def takeSlice (i : Nat) (s : State) : State :=
  let s := (List.range 4).foldl
    (fun s ctx =>
      let c := match s.sliceBits i ctx with | some w => decodeSlice w | none => {}
      { s with sliceCfgs := Tab.put {} s.sliceCfgs (4 * i + ctx) c }) s
  let bind := ((List.range 4).findSome? (fun ctx => s.sliceBits i ctx)).map decodeBinding
  (s.put F.fabBindAsOwner (sliceOwner i) i).put F.fabBindAsBind (bind.getD 0) i

/-- The slices of the regions loaded take their configuration. -/
def takeSlices (s : State) : State := s.loadRegions.foldl (fun s r => (slicesOf r).foldl (fun s i => takeSlice i s) s) s

/-! ### Content checks (05 R174, R178, 07 R218, 08 R243, R419, 15 R497) -/

/-- Whether a full folio carries one record for each bank, rank unit and array (R419). -/
def State.covered (s : State) : Bool :=
  s.ldHoop || (s.loader.blocks.length == 8640 && decide ((s.loader.blocks.map (fun b => (b.2.1, b.2.2))).Nodup))

/-- The target of the load for the checks of 04 R141 and R142: 192 for the whole fabric. -/
def State.checkTarget (s : State) : Nat := if s.ldHoop then s.ldTarget else 192


/-- The frame address of a refused value in a frame: a clamp mode (05 R178, a full load alone sets them), a slice field, a
riser wire marked off. -/
def badFrame (s : State) : Option Nat :=
  match (if s.ldHoop then none else s.clampFault) with
  | some fa => some fa
  | none =>
    match sliceFault s with
    | some fa => some fa
    | none => s.riserUse s.checkTarget

/-- Fail at an offset in the folio that the spec does not state. -/
def loadFailSomewhere (code frame : Nat) (s : State) : State :=
  let r := s.fresh 32
  loadFail code r.1 frame r.2

/-! ### REGS records (R421, R431) -/

/-- A register of a bundle in cave mode, or of a cave port: what keeps running in a full load. -/
def State.keptRunning (s : State) (addr : Nat) : Bool :=
  match blockAt addr with
  | some .lane =>
    match regIn regsLane addr with
    | some (r, n, _) => r.info.count1 == 48 && s.get F.laneCfgMode n == modeCave
    | none => false
  | some .cave =>
    match regIn regsCave addr with
    | some (r, _, _) => r.info.count1 == 16
    | none => false
  | _ => false

/-- The address is that of a LANE_CFG register. -/
def isLaneCfg (addr : Nat) : Bool := (RegName.laneCfg.info.index addr).isSome

/-- Apply the REGS records in order; the load ends at the first that is refused: BAD_CONFIG for a LANE_CFG over a limit of
03 R74, REG_FAIL for any other error but a BUSY of what keeps running, which is skipped. -/
def applyRegs : List (Nat × Nat × Nat) → State → Option (Nat × Nat) × State
  | [], s => (none, s)
  | (ofs, addr, v) :: rest, s =>
    let r := regWrite addr (BitVec.ofNat 32 v) s
    match r.2 with
    | .ok => applyRegs rest r.1
    | .busy => if s.keptRunning addr then applyRegs rest r.1 else (some (18, ofs), r.1)
    | .denied => (some (if isLaneCfg addr then 17 else 18, ofs), r.1)
    | _ => (some (18, ofs), r.1)

/-! ### VERIFY (R429) -/

/-- The contexts that the load has filled in a region (R422). -/
def State.filled (s : State) (r : Nat) : Nat := Tab.get 0 s.loader.valid r

/-- The contexts that a full load has filled become valid (R422). -/
def takeContexts (s : State) : State :=
  if s.ldHoop then s
  else
    let t := (List.range 192).foldl (fun t n => t.put F.fabHoopCfgCtxValid (s.filled n) n) s
    { t with fixValid := (s.filled 192, s.filled 193) }

/-- The hoop of a successful hoop load takes its contexts and its group from the folio (R415, R422, 05 R165). -/
def takeGroup (n : Nat) (s : State) : State :=
  (s.put F.fabHoopCfgCtxValid (s.filled n) n).put F.fabHoopCfgGrp (bits (wordAt s.loader.bytes 24) 10 8) n

/-- What was loaded is taken over, and the REGS records are applied: the load passes to START. -/
def verifyPass (s : State) : State :=
  let r := applyRegs s.loader.regs (takeSlices (takeContexts s))
  match r.1 with
  | some f => loadFailAt f.1 f.2 r.2
  | none => r.2.put F.cfgStatusState 5

/-- The checks of VERIFY after the signature. -/
def verifyContent (s : State) : State :=
  match s.contention s.checkTarget with
  | some fa => loadFailSomewhere 16 fa s
  | none =>
    match badFrame s with
    | some fa => loadFailSomewhere 17 fa s
    | none =>
      match s.loader.refused with
      | some ofs => loadFailAt 17 ofs s
      | none => if s.covered then verifyPass s else loadFailSomewhere 17 0xFFFFFFFF s

/-- LOADER_VERIFY_DONE (R424, R429, R435). -/
def execLoaderVerifyDone (s : State) : Out :=
  whenClocked s.mgmtClocked s <| .next <|
    if s.ldSt = 4 then
      let at_ := s.loader.bytes.length
      match signatureOk s with
      | (none, s) => loadFailAt 12 at_ s
      | (some ok, s) => if ok then verifyContent s else loadFailAt 15 at_ s
    else s

/-! ### START (R429, 05 R182, 04 R143) -/

/-- The build id of the folio (R415). -/
def State.folioBuild (s : State) : Nat := ofBytes ((s.loader.bytes.drop 84).take 8)

/-- A load ends with OK. -/
def loadOk (s : State) : State :=
  let code := s.put F.cfgStatusCode 0
  let s := (code.put F.cfgFailFrameVal 0xFFFFFFFF).put F.cfgStatusState 0
  let s := if s.loader.powerOn then bootDone s else s
  let s := loadEnded 0 s
  s.modLoader (fun l => { queue := l.queue, rewriting := l.rewriting })

/-- A full load has started the fabric: its build id is shown, for every hoop as well. -/
def fullDone (s : State) : State :=
  let b := s.folioBuild
  let s := s.setPair .cfgBuildLo .cfgBuildHi b
  loadOk ((List.range 192).foldl (fun s n => s.setPair .cfgHbuildLo .cfgHbuildHi b n) s)

/-- A hoop load has ended: the hoop leaves LOADING for HELD and its span segments return to DRIVEN. -/
def hoopDone (s : State) : State :=
  let n := s.ldTarget
  let s := takeGroup n (s.setPair .cfgHbuildLo .cfgHbuildHi s.folioBuild n)
  let s := spansReload (fun r => r == n) s
  loadOk (heldNext n (s.bit F.fabHoopCfgAutoRun n) (s.setHoopSt n .held))

/-- LOADER_START_DONE (R429, R435): a full load waits for global start, which may be refused. -/
def execLoaderStartDone (s : State) : Out :=
  whenClocked s.mgmtClocked s <| .next <|
    if s.ldSt = 5 then
      if s.ldHoop then hoopDone s
      else if s.started then fullDone s
      else if s.startRefused then loadFailAt 20 s.loader.bytes.length s
      else s
    else s

end Sys2Proof.Machine
end

