-- ==== Sys2Proof/Machine/Rv.lean ====
section
/-!
DEFINITION. The instructions of a Quill core (12 R367): RV32IMAC with Zicsr and Zifencei, decoded from their encodings in
the RISC-V manuals that R367 names, and the Work Exchange instructions of R380; and the arithmetic of RV32IM.
-/
namespace Sys2Proof.Machine

/-- Register-register operations of RV32IM. -/
inductive RvOp where
  | add | sub | sll | slt | sltu | xor | srl | sra | or | and
  | mul | mulh | mulhsu | mulhu | div | divu | rem | remu
  deriving DecidableEq, Repr

/-- Branch conditions. -/
inductive RvCond where
  | eq | ne | lt | ge | ltu | geu
  deriving DecidableEq, Repr

/-- Access widths. -/
inductive RvWidth where
  | byte | half | word
  deriving DecidableEq, Repr

/-- Operations of CSR instructions. -/
inductive CsrOp where
  | write | set | clear
  deriving DecidableEq, Repr

/-- Work Exchange instructions (R380). -/
inductive WxOp where
  | next | post | token | cancel | qstat | self
  deriving DecidableEq, Repr

/-- An instruction of a core; immediates and offsets are 32-bit words. -/
inductive Rv where
  | lui (rd : Nat) (imm : Word)
  | auipc (rd : Nat) (imm : Word)
  | jal (rd : Nat) (off : Word)
  | jalr (rd rs1 : Nat) (off : Word)
  | branch (c : RvCond) (rs1 rs2 : Nat) (off : Word)
  | load (w : RvWidth) (unsigned : Bool) (rd rs1 : Nat) (off : Word)
  | store (w : RvWidth) (rs1 rs2 : Nat) (off : Word)
  | alu (op : RvOp) (rd rs1 rs2 : Nat)
  | alui (op : RvOp) (rd rs1 : Nat) (imm : Word)
  | fence
  | fenceI
  | ecall
  | ebreak
  | mret
  | wfi
  | csr (op : CsrOp) (imm : Bool) (rd rs1 num : Nat)
  | lr (rd rs1 : Nat) (ordered : Bool)
  | sc (rd rs1 rs2 : Nat) (ordered : Bool)
  | amo (aop : Nat) (rd rs1 rs2 : Nat) (ordered : Bool)
  | wx (op : WxOp) (rd rs1 rs2 : Nat)
  | illegal
  deriving DecidableEq, Repr

/-- The low `n` bits of a number as a signed value, extended to 32 bits. -/
def sext (n v : Nat) : Word := (BitVec.ofNat n v).signExtend 32

/-! ### 32-bit encodings -/

/-- The I immediate. -/
def immI (w : Nat) : Word := sext 12 (bits w 31 20)

/-- The S immediate. -/
def immS (w : Nat) : Word := sext 12 (bits w 31 25 * 2 ^ 5 + bits w 11 7)

/-- The B immediate. -/
def immB (w : Nat) : Word :=
  sext 13 (bits w 31 31 * 2 ^ 12 + bits w 7 7 * 2 ^ 11 + bits w 30 25 * 2 ^ 5 + bits w 11 8 * 2)

/-- The U immediate. -/
def immU (w : Nat) : Word := BitVec.ofNat 32 (bits w 31 12 * 2 ^ 12)

/-- The J immediate. -/
def immJ (w : Nat) : Word :=
  sext 21 (bits w 31 31 * 2 ^ 20 + bits w 19 12 * 2 ^ 12 + bits w 20 20 * 2 ^ 11 + bits w 30 21 * 2)

/-- Register-register operations by funct7 and funct3. -/
def rvOpOf (f7 f3 : Nat) : Option RvOp :=
  match f7, f3 with
  | 0x00, 0 => some .add
  | 0x20, 0 => some .sub
  | 0x00, 1 => some .sll
  | 0x00, 2 => some .slt
  | 0x00, 3 => some .sltu
  | 0x00, 4 => some .xor
  | 0x00, 5 => some .srl
  | 0x20, 5 => some .sra
  | 0x00, 6 => some .or
  | 0x00, 7 => some .and
  | 0x01, 0 => some .mul
  | 0x01, 1 => some .mulh
  | 0x01, 2 => some .mulhsu
  | 0x01, 3 => some .mulhu
  | 0x01, 4 => some .div
  | 0x01, 5 => some .divu
  | 0x01, 6 => some .rem
  | 0x01, 7 => some .remu
  | _, _ => none

/-- Immediate operations. -/
def decodeOpImm (w : Nat) : Rv :=
  let rd := bits w 11 7
  let rs1 := bits w 19 15
  let shamt : Word := BitVec.ofNat 32 (bits w 24 20)
  match bits w 14 12 with
  | 0 => .alui .add rd rs1 (immI w)
  | 1 => if bits w 31 25 = 0 then .alui .sll rd rs1 shamt else .illegal
  | 2 => .alui .slt rd rs1 (immI w)
  | 3 => .alui .sltu rd rs1 (immI w)
  | 4 => .alui .xor rd rs1 (immI w)
  | 5 => if bits w 31 25 = 0 then .alui .srl rd rs1 shamt else if bits w 31 25 = 0x20 then .alui .sra rd rs1 shamt else .illegal
  | 6 => .alui .or rd rs1 (immI w)
  | _ => .alui .and rd rs1 (immI w)

/-- Conditions by funct3. -/
def rvCondOf : Nat → Option RvCond
  | 0 => some .eq
  | 1 => some .ne
  | 4 => some .lt
  | 5 => some .ge
  | 6 => some .ltu
  | 7 => some .geu
  | _ => none

/-- SYSTEM instructions. -/
def decodeSystem (w : Nat) : Rv :=
  let rd := bits w 11 7
  let rs1 := bits w 19 15
  let num := bits w 31 20
  match bits w 14 12 with
  | 0 =>
    if w = 0x00000073 then .ecall else if w = 0x00100073 then .ebreak else if w = 0x30200073 then .mret
    else if w = 0x10500073 then .wfi else .illegal
  | 1 => .csr .write false rd rs1 num
  | 2 => .csr .set false rd rs1 num
  | 3 => .csr .clear false rd rs1 num
  | 5 => .csr .write true rd rs1 num
  | 6 => .csr .set true rd rs1 num
  | 7 => .csr .clear true rd rs1 num
  | _ => .illegal

/-- Atomic instructions; the operation codes of AMOs are those of the network (11 R345). -/
def decodeAmo (w : Nat) : Rv :=
  let rd := bits w 11 7
  let rs1 := bits w 19 15
  let rs2 := bits w 24 20
  let ordered := bits w 26 25 != 0
  if bits w 14 12 ≠ 2 then .illegal
  else match bits w 31 27 with
    | 0x02 => if rs2 = 0 then .lr rd rs1 ordered else .illegal
    | 0x03 => .sc rd rs1 rs2 ordered
    | 0x01 => .amo 0 rd rs1 rs2 ordered
    | 0x00 => .amo 1 rd rs1 rs2 ordered
    | 0x0C => .amo 2 rd rs1 rs2 ordered
    | 0x08 => .amo 3 rd rs1 rs2 ordered
    | 0x04 => .amo 4 rd rs1 rs2 ordered
    | 0x10 => .amo 5 rd rs1 rs2 ordered
    | 0x14 => .amo 6 rd rs1 rs2 ordered
    | 0x18 => .amo 7 rd rs1 rs2 ordered
    | 0x1C => .amo 8 rd rs1 rs2 ordered
    | _ => .illegal

/-- Work Exchange instructions (R380): any other funct3 or funct7 of the two opcodes is illegal. -/
def decodeWx (w : Nat) : Rv :=
  let rd := bits w 11 7
  let rs1 := bits w 19 15
  let rs2 := bits w 24 20
  if bits w 31 25 ≠ 0 then .illegal
  else match bits w 6 0, bits w 14 12 with
    | 0x0B, 0 => .wx .next rd rs1 rs2
    | 0x0B, 1 => .wx .post rd rs1 rs2
    | 0x0B, 2 => .wx .token rd rs1 rs2
    | 0x0B, 3 => .wx .cancel rd rs1 rs2
    | 0x2B, 0 => .wx .qstat rd rs1 rs2
    | 0x2B, 1 => .wx .self rd rs1 rs2
    | _, _ => .illegal

/-- A load by funct3. -/
def decodeLoad (w : Nat) : Rv :=
  let rd := bits w 11 7
  let rs1 := bits w 19 15
  match bits w 14 12 with
  | 0 => .load .byte false rd rs1 (immI w)
  | 1 => .load .half false rd rs1 (immI w)
  | 2 => .load .word false rd rs1 (immI w)
  | 4 => .load .byte true rd rs1 (immI w)
  | 5 => .load .half true rd rs1 (immI w)
  | _ => .illegal

/-- A store by funct3. -/
def decodeStore (w : Nat) : Rv :=
  let rs1 := bits w 19 15
  let rs2 := bits w 24 20
  match bits w 14 12 with
  | 0 => .store .byte rs1 rs2 (immS w)
  | 1 => .store .half rs1 rs2 (immS w)
  | 2 => .store .word rs1 rs2 (immS w)
  | _ => .illegal

/-- Decode a 32-bit encoding. -/
def decode32 (w : Nat) : Rv :=
  let rd := bits w 11 7
  let rs1 := bits w 19 15
  let rs2 := bits w 24 20
  match bits w 6 0 with
  | 0x37 => .lui rd (immU w)
  | 0x17 => .auipc rd (immU w)
  | 0x6F => .jal rd (immJ w)
  | 0x67 => if bits w 14 12 = 0 then .jalr rd rs1 (immI w) else .illegal
  | 0x63 => match rvCondOf (bits w 14 12) with | some c => .branch c rs1 rs2 (immB w) | none => .illegal
  | 0x03 => decodeLoad w
  | 0x23 => decodeStore w
  | 0x13 => decodeOpImm w
  | 0x33 => match rvOpOf (bits w 31 25) (bits w 14 12) with | some op => .alu op rd rs1 rs2 | none => .illegal
  | 0x0F => match bits w 14 12 with | 0 => .fence | 1 => .fenceI | _ => .illegal
  | 0x73 => decodeSystem w
  | 0x2F => decodeAmo w
  | 0x0B => decodeWx w
  | 0x2B => decodeWx w
  | _ => .illegal

/-! ### 16-bit encodings -/

/-- A register of a three-bit field. -/
def cReg (v : Nat) : Nat := 8 + v % 8

/-- The offset of C.J and C.JAL. -/
def immCJ (w : Nat) : Word :=
  sext 12 (bits w 12 12 * 2 ^ 11 + bits w 8 8 * 2 ^ 10 + bits w 10 9 * 2 ^ 8 + bits w 6 6 * 2 ^ 7 + bits w 7 7 * 2 ^ 6
    + bits w 2 2 * 2 ^ 5 + bits w 11 11 * 2 ^ 4 + bits w 5 3 * 2)

/-- The offset of C.BEQZ and C.BNEZ. -/
def immCB (w : Nat) : Word :=
  sext 9 (bits w 12 12 * 2 ^ 8 + bits w 6 5 * 2 ^ 6 + bits w 2 2 * 2 ^ 5 + bits w 11 10 * 2 ^ 3 + bits w 4 3 * 2)

/-- The offset of C.LW and C.SW. -/
def immCL (w : Nat) : Word := BitVec.ofNat 32 (bits w 5 5 * 2 ^ 6 + bits w 12 10 * 2 ^ 3 + bits w 6 6 * 2 ^ 2)

/-- The 6-bit immediate of quadrant 1 and 2. -/
def immCI (w : Nat) : Nat := bits w 12 12 * 2 ^ 5 + bits w 6 2

/-- Quadrant 0. -/
def decodeC0 (w : Nat) : Rv :=
  match bits w 15 13 with
  | 0 =>
    let imm := bits w 10 7 * 2 ^ 6 + bits w 12 11 * 2 ^ 4 + bits w 5 5 * 2 ^ 3 + bits w 6 6 * 2 ^ 2
    if imm = 0 then .illegal else .alui .add (cReg (bits w 4 2)) 2 (BitVec.ofNat 32 imm)
  | 2 => .load .word false (cReg (bits w 4 2)) (cReg (bits w 9 7)) (immCL w)
  | 6 => .store .word (cReg (bits w 9 7)) (cReg (bits w 4 2)) (immCL w)
  | _ => .illegal

/-- The arithmetic instructions of quadrant 1. -/
def decodeCArith (w : Nat) : Rv :=
  let rd := cReg (bits w 9 7)
  let rs2 := cReg (bits w 4 2)
  match bits w 11 10 with
  | 0 => if bits w 12 12 = 0 then .alui .srl rd rd (BitVec.ofNat 32 (bits w 6 2)) else .illegal
  | 1 => if bits w 12 12 = 0 then .alui .sra rd rd (BitVec.ofNat 32 (bits w 6 2)) else .illegal
  | 2 => .alui .and rd rd (sext 6 (immCI w))
  | _ =>
    match bits w 12 12, bits w 6 5 with
    | 0, 0 => .alu .sub rd rd rs2
    | 0, 1 => .alu .xor rd rd rs2
    | 0, 2 => .alu .or rd rd rs2
    | 0, 3 => .alu .and rd rd rs2
    | _, _ => .illegal

/-- Quadrant 1. -/
def decodeC1 (w : Nat) : Rv :=
  let rd := bits w 11 7
  match bits w 15 13 with
  | 0 => .alui .add rd rd (sext 6 (immCI w))
  | 1 => .jal 1 (immCJ w)
  | 2 => .alui .add rd 0 (sext 6 (immCI w))
  | 3 =>
    if immCI w = 0 then .illegal
    else if rd = 2 then
      .alui .add 2 2 (sext 10 (bits w 12 12 * 2 ^ 9 + bits w 4 3 * 2 ^ 7 + bits w 5 5 * 2 ^ 6 + bits w 2 2 * 2 ^ 5
        + bits w 6 6 * 2 ^ 4))
    else .lui rd (sext 18 (immCI w * 2 ^ 12))
  | 4 => decodeCArith w
  | 5 => .jal 0 (immCJ w)
  | 6 => .branch .eq (cReg (bits w 9 7)) 0 (immCB w)
  | _ => .branch .ne (cReg (bits w 9 7)) 0 (immCB w)

/-- Quadrant 2. -/
def decodeC2 (w : Nat) : Rv :=
  let rd := bits w 11 7
  let rs2 := bits w 6 2
  match bits w 15 13 with
  | 0 => if bits w 12 12 = 0 then .alui .sll rd rd (BitVec.ofNat 32 rs2) else .illegal
  | 2 =>
    if rd = 0 then .illegal
    else .load .word false rd 2 (BitVec.ofNat 32 (bits w 3 2 * 2 ^ 6 + bits w 12 12 * 2 ^ 5 + bits w 6 4 * 2 ^ 2))
  | 4 =>
    if bits w 12 12 = 0 then
      if rs2 = 0 then if rd = 0 then .illegal else .jalr 0 rd 0 else .alu .add rd 0 rs2
    else if rs2 = 0 then if rd = 0 then .ebreak else .jalr 1 rd 0
    else .alu .add rd rd rs2
  | 6 => .store .word 2 rs2 (BitVec.ofNat 32 (bits w 8 7 * 2 ^ 6 + bits w 12 9 * 2 ^ 2))
  | _ => .illegal

/-- Decode a 16-bit encoding. -/
def decode16 (w : Nat) : Rv :=
  match bits w 1 0 with
  | 0 => decodeC0 w
  | 1 => decodeC1 w
  | _ => decodeC2 w

/-! ### Arithmetic -/

/-- The result of a register-register or immediate operation. Division by zero gives all ones and the dividend; the
overflow of a signed division gives the dividend and 0 (RISC-V M). -/
def aluResult (op : RvOp) (a b : Word) : Word :=
  match op with
  | .add => a + b
  | .sub => a - b
  | .sll => a <<< (b.toNat % 32)
  | .slt => if a.slt b then 1 else 0
  | .sltu => if a.ult b then 1 else 0
  | .xor => a ^^^ b
  | .srl => a >>> (b.toNat % 32)
  | .sra => a.sshiftRight (b.toNat % 32)
  | .or => a ||| b
  | .and => a &&& b
  | .mul => a * b
  | .mulh => BitVec.ofInt 32 (a.toInt * b.toInt / 2 ^ 32)
  | .mulhsu => BitVec.ofInt 32 (a.toInt * (b.toNat : Int) / 2 ^ 32)
  | .mulhu => BitVec.ofNat 32 (a.toNat * b.toNat / 2 ^ 32)
  | .div => if b = 0 then BitVec.allOnes 32 else a.sdiv b
  | .divu => if b = 0 then BitVec.allOnes 32 else a / b
  | .rem => if b = 0 then a else a.srem b
  | .remu => if b = 0 then a else a % b

/-- A branch condition holds. -/
def rvTaken (c : RvCond) (a b : Word) : Bool :=
  match c with
  | .eq => a == b
  | .ne => a != b
  | .lt => a.slt b
  | .ge => !a.slt b
  | .ltu => a.ult b
  | .geu => !a.ult b

/-- Bytes of an access. -/
def RvWidth.bytes : RvWidth → Nat
  | .byte => 1 | .half => 2 | .word => 4

/-- The value a load of some bytes writes to its destination. -/
def loadValue (size : Nat) (unsigned : Bool) (v : Nat) : Word :=
  match size with
  | 1 => if unsigned then BitVec.ofNat 32 (v % 256) else sext 8 v
  | 2 => if unsigned then BitVec.ofNat 32 (v % 65536) else sext 16 v
  | _ => BitVec.ofNat 32 v

end Sys2Proof.Machine
end

