-- ==== Sys2Proof/Machine/Quill.lean ====
section
/-!
DEFINITION. The Quill cores (12 R367 to R380, R637): address map, protection, CSRs, traps, and what each instruction does.
A core executes the instruction at its pc; a command names the class of instruction it is to execute, and has no effect
on a core whose next instruction is of another class.
-/
namespace Sys2Proof.Machine

/-! ### Banks and registers (R393) -/

/-- The bank a core runs in. -/
def State.cbank (s : State) (n : Nat) : CoreBank := if s.qSt n = .urgent then (s.core n).urg else (s.core n).norm

/-- Change the bank a core runs in. -/
def State.modCbank (s : State) (n : Nat) (f : CoreBank → CoreBank) : State :=
  if s.qSt n = .urgent then s.modCore n (fun c => { c with urg := f c.urg }) else s.modCore n (fun c => { c with norm := f c.norm })

/-- A register of a bank; x0 reads 0. -/
def CoreBank.reg (b : CoreBank) (r : Nat) : Word := if r = 0 then 0 else BitVec.ofNat 32 (Tab.get 0 b.x r)

/-- A bank with a register written; x0 discards it. -/
def CoreBank.setReg (b : CoreBank) (r : Nat) (v : Word) : CoreBank := if r = 0 then b else { b with x := Tab.put 0 b.x r v.toNat }

/-- A register of the running bank. -/
def State.xreg (s : State) (n r : Nat) : Word := (s.cbank n).reg r

/-- Write a register of the running bank. -/
def setX (n rd : Nat) (v : Word) (s : State) : State := s.modCbank n (fun b => b.setReg rd v)

/-- An instruction ends: its destination is written and it retires. -/
def finish (n rd : Nat) (v : Word) (next : Nat) (s : State) : State := retire n next (setX n rd v s)

/-! ### CSRs (R367, R372, R376 to R379) -/

/-- What a shared CSR holds after reset. -/
def csrReset (num : Nat) : Nat := if num = 0x7CA then 0x30000000 else 0

/-- A shared CSR as stored; mcycle as 64 bits at its low number. -/
def State.csrRaw (s : State) (n num : Nat) : Nat := Tab.get (csrReset num) (s.core n).csrs num

/-- Store a shared CSR. -/
def csrStore (n num v : Nat) (s : State) : State := s.modCore n (fun c => { c with csrs := Tab.put (csrReset num) c.csrs num v })

/-- A number within a range. -/
def within (lo hi v : Nat) : Bool := decide (lo ≤ v) && decide (v ≤ hi)

/-- The CSR is implemented (R379). -/
def csrExists (num : Nat) : Bool :=
  [0x300, 0x301, 0x304, 0x305, 0x306, 0x30A, 0x310, 0x31A, 0x320, 0xB00, 0xB80].contains num
    || within 0x323 0x33F num || within 0x340 0x344 num || within 0x3A0 0x3A3 num || within 0x3B0 0x3BF num
    || within 0x7C0 0x7CA num || within 0xB02 0xB1F num || within 0xB82 0xB9F num
    || within 0xC00 0xC1F num || within 0xC80 0xC9F num || within 0xF11 0xF15 num

/-- The CSR is read-only: by its number, and qserr. -/
def csrReadOnly (num : Nat) : Bool := num / 1024 == 3 || num == 0x7C8

/-- A core may access a CSR: any in M mode; in U mode the counters that mcounteren opens (R376, R379). -/
def State.csrAllowed (s : State) (n num : Nat) : Bool :=
  csrExists num && (!(s.cbank n).user || (num / 256 % 4 == 0 && (s.csrRaw n 0x306).testBit (num % 32)))

/-- mcycle brought up to now: clocks passed since are a free value, none while mcountinhibit stops it. -/
def cycleSync (n : Nat) (s : State) : State :=
  if (s.csrRaw n 0x320).testBit 0 then s
  else
    let d := s.fresh 64
    csrStore n 0xB00 ((s.csrRaw n 0xB00 + d.1) % 2 ^ 64) d.2

/-- mip: bits 16 and 17 as stored; bit 18 follows qserrst.pending (R377). -/
def State.mip (s : State) (n : Nat) : Nat :=
  s.csrRaw n 0x344 % 2 ^ 18 + (if (s.csrRaw n 0x7C9).testBit 31 then 2 ^ 18 else 0)

/-- The configuration byte of a PMP entry (R372). -/
def State.pmpCfg (s : State) (n k : Nat) : Nat := s.csrRaw n (0x3A0 + k / 4) / 256 ^ (k % 4) % 256

/-- How a PMP entry matches: 0 off, 1 TOR, 3 NAPOT. -/
def State.pmpMode (s : State) (n k : Nat) : Nat := s.pmpCfg n k / 8 % 4

/-- pmpaddr as read with G = 4: the low bits are ones for NAPOT, and zero otherwise (R372). -/
def State.pmpAddrRead (s : State) (n k : Nat) : Nat :=
  let a := s.csrRaw n (0x3B0 + k)
  if s.pmpMode n k = 3 then a ||| 7 else a / 16 * 16

/-- Half of a 64-bit value: the upper one for the CSR numbers with a high half. -/
def halfOf (high : Bool) (v : Nat) : Nat := if high then v / 2 ^ 32 % 2 ^ 32 else v % 2 ^ 32

/-- Read a CSR that a core may access. -/
def csrRead (n num : Nat) (s : State) : Word × State :=
  let b := s.cbank n
  let high := num / 128 % 2 == 1
  let v (x : Nat) : Word × State := (BitVec.ofNat 32 x, s)
  match num with
  | 0x300 => v b.mstatus
  | 0x301 => v 0x40101105
  | 0x341 => v b.mepc
  | 0x342 => v b.mcause
  | 0x343 => v b.mtval
  | 0x344 => v (s.mip n)
  | 0xF13 => v 0x0A49
  | 0xF14 => v n
  | _ =>
    if within 0x3B0 0x3BF num then v (s.pmpAddrRead n (num - 0x3B0))
    else if num = 0xB00 ∨ num = 0xB80 ∨ num = 0xC00 ∨ num = 0xC80 then
      let s := cycleSync n s
      (BitVec.ofNat 32 (halfOf high (s.csrRaw n 0xB00)), s)
    else if num = 0xC01 ∨ num = 0xC81 then v (halfOf high s.pt)
    else if num = 0xB02 ∨ num = 0xB82 ∨ num = 0xC02 ∨ num = 0xC82 then v (halfOf high (s.core n).minstret)
    else if num / 256 = 3 ∨ num / 256 = 7 then v (s.csrRaw n num)
    else v 0

/-- A PMP configuration byte written over another: a locked entry keeps its own, and so does one given NA4, which G = 4
excludes, or write permission without read (R372). -/
def pmpCfgLegal (old new : Nat) : Nat :=
  if old.testBit 7 || new / 8 % 4 == 2 || (new.testBit 1 && !new.testBit 0) then old else new % 256 &&& 0x9F

/-- pmpaddr of an entry is locked: by its own lock, or by a locked TOR entry above it. -/
def State.pmpLocked (s : State) (n k : Nat) : Bool :=
  (s.pmpCfg n k).testBit 7 || (decide (k < 15) && (s.pmpCfg n (k + 1)).testBit 7 && s.pmpMode n (k + 1) == 1)

/-- A value with its low or high 32 bits replaced. -/
def setHalf (high : Bool) (old v : Nat) : Nat :=
  if high then old % 2 ^ 32 + v % 2 ^ 32 * 2 ^ 32 else old / 2 ^ 32 * 2 ^ 32 + v % 2 ^ 32

/-- Write a CSR that a core may access and that is not read-only: each field takes what it can hold. -/
def csrWrite (n num v : Nat) (s : State) : State :=
  let b := s.cbank n
  match num with
  | 0x300 =>
    let mpp := if bits v 12 11 = 0 ∨ bits v 12 11 = 3 then bits v 12 11 else bits b.mstatus 12 11
    s.modCbank n (fun b => { b with mstatus := (v &&& 0x00220088) + mpp * 2 ^ 11 })
  | 0x304 => csrStore n num (v &&& 0x70000) s
  | 0x305 => csrStore n num (v / 4 * 4 + (if v % 4 < 2 then v % 4 else s.csrRaw n num % 4)) s
  | 0x306 => csrStore n num (v % 8) s
  | 0x320 => csrStore n num (v &&& 5) (cycleSync n s)
  | 0x340 => csrStore n num v s
  | 0x341 => s.modCbank n (fun b => { b with mepc := v / 2 * 2 })
  | 0x342 => s.modCbank n (fun b => { b with mcause := v })
  | 0x343 => s.modCbank n (fun b => { b with mtval := v })
  | 0x344 => csrStore n num (s.csrRaw n num &&& v &&& 0x30000) s
  | 0x7C9 => csrStore n num ((s.csrRaw n num &&& v &&& 0x80000000) + v % 256) s
  | 0x7CA => csrStore n num v s
  | _ =>
    if within 0x3A0 0x3A3 num then
      let old := s.csrRaw n num
      let byte (k : Nat) : Nat := pmpCfgLegal (old / 256 ^ k % 256) (v / 256 ^ k % 256) * 256 ^ k
      csrStore n num (byte 0 + byte 1 + byte 2 + byte 3) s
    else if within 0x3B0 0x3BF num then if s.pmpLocked n (num - 0x3B0) then s else csrStore n num v s
    else if within 0x7C0 0x7C7 num then csrStore n num (v &&& 0x800FFFFF) s
    else if num = 0xB00 ∨ num = 0xB80 then
      let s := cycleSync n s
      csrStore n 0xB00 (setHalf (num == 0xB80) (s.csrRaw n 0xB00) v) s
    else if num = 0xB02 ∨ num = 0xB82 then
      s.modCore n (fun c => { c with minstret := setHalf (num == 0xB82) c.minstret v })
    else s

/-! ### Protection and the address map (R370 to R372) -/

/-- Trailing ones of a number, of at most the given count. -/
def trailingOnes (v : Nat) : Nat → Nat
  | 0 => 0
  | n + 1 => if v % 2 = 1 then trailingOnes (v / 2) n + 1 else 0

/-- A PMP entry matches a core address. -/
def State.pmpMatch (s : State) (n k a : Nat) : Bool :=
  let top := s.csrRaw n (0x3B0 + k)
  match s.pmpMode n k with
  | 1 =>
    let low := if k = 0 then 0 else s.csrRaw n (0x3B0 + k - 1) / 16 * 16
    decide (low ≤ a / 4) && decide (a / 4 < top / 16 * 16)
  | 3 =>
    let t := trailingOnes (top ||| 7) 32
    a / 2 ^ (t + 3) == (top ||| 7) / 2 ^ (t + 1)
  | _ => false

/-- An access is allowed: the first matching entry decides in U mode and, if locked, in M mode; with none U mode is
refused. `perm`: 0 read, 1 write, 2 execute. -/
def State.pmpOk (s : State) (n : Nat) (user : Bool) (perm a : Nat) : Bool :=
  match (List.range 16).find? (fun k => s.pmpMatch n k a) with
  | some k => if user || (s.pmpCfg n k).testBit 7 then (s.pmpCfg n k).testBit perm else true
  | none => !user

/-- The privilege mode of loads and stores is U: mstatus.MPRV takes it from MPP. -/
def State.dataUser (s : State) (n : Nat) : Bool :=
  let b := s.cbank n
  if b.mstatus.testBit 17 then bits b.mstatus 12 11 == 0 else b.user

/-- Where an access of a core goes: an on-chip address in its own memories, a system address, or nowhere (R370, R371). -/
inductive CoreTarget where
  | own (addr : Nat)
  | net (addr : Nat)
  | none
  deriving DecidableEq, Repr

/-- A system address, carried out locally where it lies in the core's own memories (R370). -/
def ownOrNet (n a : Nat) : CoreTarget := if coreBase n ≤ a ∧ a < coreBase n + 0x10000 then .own a else .net a

/-- The core address map (R370, R371). -/
def State.coreTarget (s : State) (n a : Nat) : CoreTarget :=
  if a < 0x30000000 then ownOrNet n a
  else if a < 0x30010000 then .own (coreBase n + (a - 0x30000000))
  else if a < 0x40000000 then .none
  else if a < 0x80000000 then ownOrNet n a
  else
    let w := s.csrRaw n (0x7C0 + (a - 0x80000000) / 0x10000000 % 8)
    if w.testBit 31 then ownOrNet n (w % 2 ^ 20 * 2 ^ 28 + a % 2 ^ 28) else .none

/-- A target in the core's own data memory, or in a scratch bank: where LR and SC are allowed (R374). -/
def reservable (n : Nat) : CoreTarget → Bool
  | .own a => decide (coreBase n + 0x8000 ≤ a)
  | .net a => decide (0x10000000 ≤ a) && decide (a < 0x14000000)
  | .none => false

/-- A target that carries out an AMO (R374). -/
def atomicTarget (n : Nat) : CoreTarget → Bool
  | .own a => decide (coreBase n + 0x8000 ≤ a)
  | .net a => (decide (0x10000000 ≤ a) && decide (a < 0x14000000)) || (decide (0x20000000 ≤ a) && decide (a < 0x20800000))
  | .none => false

/-! ### Traps (R374, R376) -/

/-- Take a trap: pc, cause and status are saved, the mode is M, interrupts are disabled, the reservation is cleared.
Interrupts have bit 31 of the cause set and are vectored where mtvec says so. -/
def coreTrap (n cause tval : Nat) (s : State) : State :=
  let tvec := s.csrRaw n 0x305
  let target := tvec / 4 * 4 + (if tvec % 4 = 1 ∧ 2 ^ 31 ≤ cause then 4 * (cause % 2 ^ 31) else 0)
  let s := s.modCbank n (fun b =>
    let mie := b2n (b.mstatus.testBit 3)
    { b with
      pc := target % 2 ^ 32
      user := false
      mepc := b.pc
      mcause := cause
      mtval := tval
      mstatus := (b.mstatus &&& 0x00220000) + mie * 2 ^ 7 + (if b.user then 0 else 3) * 2 ^ 11 })
  { s with resv := Tab.del s.resv n }

/-- The interrupt a core takes next, if any: pending, enabled, and not masked by a step (R376, 19 R598). -/
def State.nextIrq (s : State) (n : Nat) : Option Nat :=
  let b := s.cbank n
  if (b.user || b.mstatus.testBit 3) && (!(s.core n).stepping || s.bit F.dbgCtrlStepie) then
    [16, 17, 18].find? (fun k => (s.mip n).testBit k && (s.csrRaw n 0x304).testBit k)
  else none

/-! ### Fetching (R369) -/

/-- What a core fetches: an instruction and its length, or an exception with its address. -/
inductive Fetched where
  | instr (i : Rv) (len : Nat)
  | fault (cause addr : Nat)
  deriving DecidableEq, Repr

/-- Fetch 16 bits: from the own instruction memory alone (R369, R372, R378). -/
def fetchHalf (n a : Nat) (s : State) : Except (Nat × Nat) Nat × State :=
  match s.coreTarget n a with
  | .own o =>
    if coreBase n + 0x8000 ≤ o ∨ s.pmpOk n (s.cbank n).user 2 a = false then (.error (1, a), s)
    else
      let r := coreMemServe o (.read 2) s
      if r.poison then (.error (25, a), r.state) else (.ok (ofBytes r.data), r.state)
  | _ => (.error (1, a), s)

/-- Fetch the instruction at the pc. -/
def fetch (n : Nat) (s : State) : Fetched × State :=
  let pc := (s.cbank n).pc
  match fetchHalf n pc s with
  | (.error e, s) => (.fault e.1 e.2, s)
  | (.ok lo, s) =>
    if lo % 4 ≠ 3 then (.instr (decode16 lo) 2, s)
    else match fetchHalf n ((pc + 2) % 2 ^ 32) s with
      | (.error e, s) => (.fault e.1 e.2, s)
      | (.ok hi, s) => (.instr (decode32 (hi * 65536 + lo)) 4, s)

/-- A core executes instructions: in BOOT, ITEM or URGENT, its group ON and clocked (16 R526), not halted nor about to halt, and
with no answer outstanding. -/
def State.coreRuns (s : State) (n : Nat) : Bool :=
  (s.qSt n == .boot || s.qSt n == .item || s.qSt n == .urgent) && s.groupOn (n / 8) && !s.coreHalted n && !(s.core n).haltReq
    && (s.core n).pend.isNone && s.quillClocked (n / 8)

/-- A core is to execute its next instruction: an interrupt goes first; `run` says what a fetched instruction with the
address after it does, none for an instruction of another class. -/
def coreStep (n : Nat) (run : Fetched → Nat → State → Option State) (s : State) : State :=
  if s.coreRuns n then
    match s.nextIrq n with
    | some k => coreTrap n (2 ^ 31 + k) 0 s
    | none =>
      let f := fetch n s
      let len := match f.1 with | .instr _ len => len | .fault _ _ => 0
      match run f.1 (((s.cbank n).pc + len) % 2 ^ 32) f.2 with
      | some s => s
      | none => s
  else s

/-! ### Loads and stores (R370 to R378) -/

/-- A store to the same 64-byte line is outstanding (R373). -/
def State.lineBusy (s : State) (n a : Nat) : Bool := (s.core n).stores.any (fun e => e.2 / 64 == a / 64)

/-- A load of `size` bytes. -/
def coreLoad (n size : Nat) (unsigned : Bool) (rd a next : Nat) (s : State) : State :=
  if a % size ≠ 0 then coreTrap n 4 a s
  else if s.pmpOk n (s.dataUser n) 0 a = false then coreTrap n 5 a s
  else match s.coreTarget n a with
    | .none => coreTrap n 5 a s
    | .own o =>
      let r := coreMemServe o (.read size) s
      if r.poison then coreTrap n 24 a r.state
      else finish n rd (loadValue size unsigned (ofBytes r.data)) next r.state
    | .net o =>
      if s.lineBusy n o then s
      else
        let s := nocRequest (coreNi n) { req := .core (Fin.ofNat 128 n), cmd := 0, addr := o, len := size } s
        s.modCore n (fun c => { c with pend := some (.load size unsigned rd a next) })

/-- A store of `size` bytes. -/
def coreStore (n size a : Nat) (v : Word) (next : Nat) (s : State) : State :=
  if a % size ≠ 0 then coreTrap n 6 a s
  else if s.pmpOk n (s.dataUser n) 1 a = false then coreTrap n 7 a s
  else
    let data := bytesOf v.toNat size
    let be := List.replicate size true
    match s.coreTarget n a with
    | .none => coreTrap n 7 a s
    | .own o => retire n next (coreMemServe o (.write data be false) s).state
    | .net o =>
      if 8 ≤ (s.core n).stores.length then s
      else
        let s := nocRequest (coreNi n)
          { req := .core (Fin.ofNat 128 n), cmd := 1, addr := o, len := size, payload := data, be := be } s
        retire n next (s.modCore n (fun c => { c with stores := c.stores ++ [(a, o)] }))

/-! ### Atomics (R373, R374, R378) -/

/-- An ordered instruction waits until every older request has its response (R373). -/
def State.mustWait (s : State) (n : Nat) (ordered : Bool) : Bool := ordered && !(s.core n).stores.isEmpty

/-- An AMO on a word. -/
def coreAmo (n aop rd a : Nat) (v : Word) (ordered : Bool) (next : Nat) (s : State) : State :=
  if a % 4 ≠ 0 then coreTrap n 6 a s
  else if (s.pmpOk n (s.dataUser n) 0 a && s.pmpOk n (s.dataUser n) 1 a) = false then coreTrap n 7 a s
  else if atomicTarget n (s.coreTarget n a) = false then coreTrap n 7 a s
  else if s.mustWait n ordered then s
  else match s.coreTarget n a with
    | .none => coreTrap n 7 a s
    | .own o =>
      let r := coreMemServe o (.atomic (Fin.ofNat 16 aop) 4 (BitVec.ofNat 64 v.toNat)) s
      if r.poison then coreTrap n 24 a r.state else finish n rd (BitVec.ofNat 32 (ofBytes r.data)) next r.state
    | .net o =>
      if s.lineBusy n o then s
      else
        let s := nocRequest (coreNi n)
          { req := .core (Fin.ofNat 128 n), cmd := 3, addr := o, len := 4, payload := bytesOf v.toNat 4, aop := aop } s
        s.modCore n (fun c => { c with pend := some (.amo rd a next) })

/-- An access of LR or SC: the own data memory, or a scratch bank. -/
def resvServe (t : CoreTarget) (acc : MemAcc) (s : State) : MemResult :=
  match t with
  | .own o => coreMemServe o acc s
  | .net o => scratchServe (Fin.ofNat 256 ((o - 0x10000000) / 0x40000)) o acc s
  | .none => { status := .decode, state := s }

/-- The on-chip address of a target. -/
def CoreTarget.addr : CoreTarget → Nat
  | .own a => a
  | .net a => a
  | .none => 0

/-- Record the status of an error response to a load or AMO (R377). -/
def recordLd (n : Nat) (st : Status) (s : State) : State :=
  csrStore n 0x7C9 (setBits (s.csrRaw n 0x7C9) 7 4 (statusCode st)) s

/-- LR: the word is read and its 8-byte word reserved (R374). -/
def coreLr (n rd a : Nat) (ordered : Bool) (next : Nat) (s : State) : State :=
  let t := s.coreTarget n a
  if a % 4 ≠ 0 then coreTrap n 4 a s
  else if s.pmpOk n (s.dataUser n) 0 a = false ∨ reservable n t = false then coreTrap n 5 a s
  else if s.mustWait n ordered ∨ s.lineBusy n t.addr = true then s
  else
    let r := resvServe t (.read 4) s
    if r.status ≠ .ok then coreTrap n 5 a (recordLd n r.status r.state)
    else if r.poison then coreTrap n 24 a r.state
    else finish n rd (BitVec.ofNat 32 (ofBytes r.data)) next { r.state with resv := Tab.set r.state.resv n (t.addr / 8 + 1) }

/-- SC: it writes if the core holds a reservation of the word, and ends the reservation (R374). -/
def coreSc (n rd a : Nat) (v : Word) (ordered : Bool) (next : Nat) (s : State) : State :=
  let t := s.coreTarget n a
  if a % 4 ≠ 0 then coreTrap n 6 a s
  else if s.pmpOk n (s.dataUser n) 1 a = false ∨ reservable n t = false then coreTrap n 7 a s
  else if s.mustWait n ordered ∨ s.lineBusy n t.addr = true then s
  else if Tab.look s.resv n ≠ some (t.addr / 8 + 1) then finish n rd 1 next { s with resv := Tab.del s.resv n }
  else
    let r := resvServe t (.write (bytesOf v.toNat 4) (List.replicate 4 true) false) s
    if r.status ≠ .ok then coreTrap n 7 a (recordLd n r.status r.state)
    else finish n rd 0 next { r.state with resv := Tab.del r.state.resv n }

/-! ### CSR instructions and returns -/

/-- A CSR instruction: the old value is read unless CSRRW has no destination; the new one is written unless CSRRS or CSRRC
names x0. A write of minstret holds for the instruction after it. -/
def coreCsr (n : Nat) (op : CsrOp) (imm : Bool) (rd rs1 num next : Nat) (s : State) : State :=
  let writes := op == .write || rs1 != 0
  if s.csrAllowed n num = false ∨ (writes && csrReadOnly num) = true then coreTrap n 2 0 s
  else
    let x : Word := if imm then BitVec.ofNat 32 rs1 else s.xreg n rs1
    let r : Word × State := if op = .write ∧ rd = 0 then (0, s) else csrRead n num s
    let new := match op with | .write => x | .set => r.1 ||| x | .clear => r.1 &&& ~~~x
    let s := if writes then csrWrite n num new.toNat r.2 else r.2
    let counts := (s.csrRaw n 0x320).testBit 2 = false ∧ (num = 0xB02 ∨ num = 0xB82) ∧ writes = true
    let s := if counts then s.modCore n (fun c => { c with minstret := (c.minstret + 2 ^ 64 - 1) % 2 ^ 64 }) else s
    finish n rd r.1 next s

/-- MRET: the mode returns to MPP, MIE to MPIE. -/
def coreMret (n : Nat) (s : State) : State :=
  let b := s.cbank n
  if b.user then coreTrap n 2 0 s
  else
    let toUser := bits b.mstatus 12 11 != 3
    let mprv := b2n (b.mstatus.testBit 17 && !toUser)
    let s := s.modCbank n (fun b =>
      { b with
        user := toUser
        mstatus := (b.mstatus &&& 0x00200000) + mprv * 2 ^ 17 + b2n (b.mstatus.testBit 7) * 2 ^ 3 + 2 ^ 7 })
    retire n (b.mepc / 2 * 2) s

/-- The instructions that no other row executes; none for one of another class. -/
def coreOther (n : Nat) (f : Fetched) (next : Nat) (s : State) : Option State :=
  let pc := (s.cbank n).pc
  match f with
  | .fault cause addr => some (coreTrap n cause addr s)
  | .instr i _ =>
    match i with
    | .lui rd imm => some (finish n rd imm next s)
    | .auipc rd imm => some (finish n rd (BitVec.ofNat 32 pc + imm) next s)
    | .jal rd off => some (finish n rd (BitVec.ofNat 32 next) (BitVec.ofNat 32 pc + off).toNat s)
    | .jalr rd rs1 off => some (finish n rd (BitVec.ofNat 32 next) ((s.xreg n rs1 + off).toNat / 2 * 2) s)
    | .branch c rs1 rs2 off =>
      some (retire n (if rvTaken c (s.xreg n rs1) (s.xreg n rs2) then (BitVec.ofNat 32 pc + off).toNat else next) s)
    | .alu op rd rs1 rs2 => some (finish n rd (aluResult op (s.xreg n rs1) (s.xreg n rs2)) next s)
    | .alui op rd rs1 imm => some (finish n rd (aluResult op (s.xreg n rs1) imm) next s)
    | .csr op imm rd rs1 num => some (coreCsr n op imm rd rs1 num next s)
    | .mret => some (coreMret n s)
    | .wfi => some (if (s.cbank n).user && (s.cbank n).mstatus.testBit 21 then coreTrap n 2 0 s else retire n next s)
    | .illegal => some (coreTrap n 2 0 s)
    | .load _ _ _ _ _ => none
    | .store _ _ _ _ => none
    | .fence => none
    | .fenceI => none
    | .ecall => none
    | .ebreak => none
    | .lr _ _ _ => none
    | .sc _ _ _ _ => none
    | .amo _ _ _ _ _ => none
    | .wx _ _ _ _ => none

/-- CORE_INSTRUCTION (R367, R369, R376, R379). -/
def execCoreInstruction (n : Fin 128) (s : State) : Out := .next (coreStep n (coreOther n) s)

/-- CORE_LOAD (R370 to R378). -/
def execCoreLoad (n : Fin 128) (s : State) : Out :=
  .next <| coreStep n (fun f next s =>
    match f with
    | .instr (.load w u rd rs1 off) _ => some (coreLoad n w.bytes u rd (s.xreg n rs1 + off).toNat next s)
    | _ => none) s

/-- CORE_STORE (R370 to R375). -/
def execCoreStore (n : Fin 128) (s : State) : Out :=
  .next <| coreStep n (fun f next s =>
    match f with
    | .instr (.store w rs1 rs2 off) _ => some (coreStore n w.bytes (s.xreg n rs1 + off).toNat (s.xreg n rs2) next s)
    | _ => none) s

/-- CORE_AMO (R373 to R375, R378). -/
def execCoreAmo (n : Fin 128) (s : State) : Out :=
  .next <| coreStep n (fun f next s =>
    match f with
    | .instr (.amo aop rd rs1 rs2 ordered) _ => some (coreAmo n aop rd (s.xreg n rs1).toNat (s.xreg n rs2) ordered next s)
    | _ => none) s

/-- CORE_LR (R374). -/
def execCoreLr (n : Fin 128) (s : State) : Out :=
  .next <| coreStep n (fun f next s =>
    match f with
    | .instr (.lr rd rs1 ordered) _ => some (coreLr n rd (s.xreg n rs1).toNat ordered next s)
    | _ => none) s

/-- CORE_SC (R374). -/
def execCoreSc (n : Fin 128) (s : State) : Out :=
  .next <| coreStep n (fun f next s =>
    match f with
    | .instr (.sc rd rs1 rs2 ordered) _ => some (coreSc n rd (s.xreg n rs1).toNat (s.xreg n rs2) ordered next s)
    | _ => none) s

/-- CORE_FENCE (R373): it waits until every older request has its response. -/
def execCoreFence (n : Fin 128) (s : State) : Out :=
  .next <| coreStep n (fun f next s =>
    match f with
    | .instr .fence _ => some (if s.mustWait n true then s else retire n next s)
    | _ => none) s

/-- CORE_FENCE_I (R369): stores to the own instruction memory are already carried out. -/
def execCoreFenceI (n : Fin 128) (s : State) : Out :=
  .next <| coreStep n (fun f next s =>
    match f with
    | .instr .fenceI _ => some (retire n next s)
    | _ => none) s

/-- CORE_ECALL (R376). -/
def execCoreEcall (n : Fin 128) (s : State) : Out :=
  .next <| coreStep n (fun f _ s =>
    match f with
    | .instr .ecall _ => some (coreTrap n (if (s.cbank n).user then 8 else 11) 0 s)
    | _ => none) s

/-- CORE_EBREAK (R376, 19 R599): it halts with a debugger attached and enabled for the mode, else it traps. -/
def execCoreEbreak (n : Fin 128) (s : State) : Out :=
  .next <| coreStep n (fun f _ s =>
    match f with
    | .instr .ebreak _ =>
      let on := if (s.cbank n).user then s.bit F.dbgCtrlEbreakU else s.bit F.dbgCtrlEbreakM
      some (if s.bit F.dbgStatusAttached && on then haltCore n 2 s else coreTrap n 3 0 s)
    | _ => none) s

/-- LOAD_RESPONSE (R376 to R378): the core takes the answer to its outstanding load or AMO. -/
def execLoadResponse (n : Fin 128) (s : State) : Out :=
  whenClocked (s.quillClocked (n / 8)) s <| .next <|
    match (s.core n).pend, (s.core n).answer with
    | some p, some (status, data, poison) =>
      let s := s.modCore n (fun c => { c with pend := none, answer := none })
      match p with
      | .load size unsigned rd a next =>
        if status ≠ .ok then coreTrap n 5 a (recordLd n status s)
        else if poison then coreTrap n 24 a s
        else finish n rd (loadValue size unsigned data) next s
      | .amo rd a next =>
        if status ≠ .ok then coreTrap n 7 a (recordLd n status s)
        else if poison then coreTrap n 24 a s
        else finish n rd (BitVec.ofNat 32 data) next s
    | _, _ => s

/-- STORE_ERROR_RESPONSE (R377): the core takes the oldest error response to one of its stores. -/
def execStoreErrorResponse (n : Fin 128) (s : State) : Out :=
  whenClocked (s.quillClocked (n / 8)) s <| .next <|
    match (s.core n).storeErrs with
    | [] => s
    | (addr, status) :: rest =>
      let at_ := ((s.core n).stores.find? (fun e => e.2 == addr)).elim 0 Prod.fst
      let s := (storeDone n addr (s.modCore n (fun c => { c with storeErrs := rest }))).flag F.qcErrStoreErr
      let st := s.csrRaw n 0x7C9
      if st.testBit 31 then s.bump F.qcCntStoreErr n
      else csrStore n 0x7C8 at_ (csrStore n 0x7C9 (setBits (setBits st 31 31 1) 3 0 (statusCode status)) s)

/-! ### Work Exchange instructions (R380, R381, R394) -/

/-- A core waits for its next item (R400). -/
def coreWait (n : Nat) (s : State) : State :=
  let s := { s.setQSt n .wait with wx := { s.wx with tick := s.wx.tick + 1 } }
  (showNoItem n s).modCore n (fun c => { c with slot := none, waitOrder := s.wx.tick })

/-- WX.NEXT: in BOOT nothing completes; in ITEM the item completes; in URGENT the urgent item completes, the instruction
retires and the core returns to its normal bank (R380, R394, R400). The item slot it is to fill is checked by PMP (R372). -/
def wxNext (n rs1 next : Nat) (s : State) : State :=
  let v := (s.xreg n rs1).toNat
  if s.qSt n = .urgent then
    let s := match (s.core n).urgSlot with | some k => completeItem k 0 v s | none => s
    let s := (retire n next s).modCore n (fun c => { c with urgSlot := none })
    match (s.core n).slot with
    | some k => showItem n (s.item k) (s.setQSt n .item)
    | none => s.setQSt n .item
  else if s.pmpOk n (s.dataUser n) 1 0x3000FF80 = false then coreTrap n 7 0x3000FF80 s
  else match (s.core n).slot with
    | some k => coreWait n (windowItem n (completeItem k 0 v s))
    | none => coreWait n s

/-- WX_NEXT (R380, R394, R399, R400). -/
def execWxNext (n : Fin 128) (s : State) : Out :=
  .next <| coreStep n (fun f next s =>
    match f with
    | .instr (.wx .next _ rs1 _) _ => some (wxNext n rs1 next s)
    | _ => none) s

/-- What an instruction writes for the outcome of a post (R381). -/
def postCode : PostResult → Nat
  | .ok h => h
  | .full => 0x80000001
  | .disabled => 0x80000002
  | .bad => 0x80000003

/-- WX.POST: the item at rs1 in own data memory, posted to the queue in rs2 (R380). -/
def wxPost (n rd rs1 rs2 next : Nat) (s : State) : State :=
  let a := (s.xreg n rs1).toNat
  if s.mustWait n true then s
  else match s.coreTarget n a with
    | .own o =>
      if a % 64 ≠ 0 ∨ o < coreBase n + 0x8000 ∨ s.pmpOk n (s.dataUser n) 0 a = false then coreTrap n 5 a s
      else
        let r := coreMemServe o (.read 64) s
        if r.poison then coreTrap n 24 a r.state
        else
          let old : Item := { bytes := r.data }
          let i := old.setWord 1 (setBits (old.word 1) 13 0 (s.xreg n rs2).toNat)
          let p := postItem i.bytes r.state
          finish n rd (BitVec.ofNat 32 (postCode p.1)) next p.2
    | _ => coreTrap n 5 a s

/-- WX_POST (R380, R381). -/
def execWxPost (n : Fin 128) (s : State) : Out :=
  .next <| coreStep n (fun f next s =>
    match f with
    | .instr (.wx .post rd rs1 rs2) _ => some (wxPost n rd rs1 rs2 next s)
    | _ => none) s

/-- WX.TOKEN: a token to the queue in rs1 (R380, R381). -/
def wxTokenInstr (n rd rs1 rs2 next : Nat) (s : State) : State :=
  let q := (s.xreg n rs1).toNat % 2 ^ 14
  if s.mustWait n true then s
  else if s.bit F.wxQcfgEn q = false then finish n rd 0x80000002 next s
  else if 65536 ≤ s.tokensHeld then finish n rd 0x80000001 next s
  else finish n rd 0 next (tokenEnter q (s.xreg n rs2).toNat s)

/-- WX_TOKEN (R380, R381). -/
def execWxToken (n : Fin 128) (s : State) : Out :=
  .next <| coreStep n (fun f next s =>
    match f with
    | .instr (.wx .token rd rs1 rs2) _ => some (wxTokenInstr n rd rs1 rs2 next s)
    | _ => none) s

/-- WX_CANCEL (R380, R397). -/
def execWxCancel (n : Fin 128) (s : State) : Out :=
  .next <| coreStep n (fun f next s =>
    match f with
    | .instr (.wx .cancel rd rs1 _) _ =>
      let r := cancelItem (s.xreg n rs1).toNat s
      some (finish n rd (BitVec.ofNat 32 r.1) next r.2)
    | _ => none) s

/-- WX_QSTAT (R380). -/
def execWxQstat (n : Fin 128) (s : State) : Out :=
  .next <| coreStep n (fun f next s =>
    match f with
    | .instr (.wx .qstat rd rs1 _) _ =>
      some (finish n rd (BitVec.ofNat 32 (s.queueStat ((s.xreg n rs1).toNat % 2 ^ 14))) next s)
    | _ => none) s

/-- The handle of the item a core runs (R380). -/
def State.ownHandle (s : State) (n : Nat) : Nat :=
  let slot := if s.qSt n = .urgent then (s.core n).urgSlot else (s.core n).slot
  match slot with
  | some k => handleOf (s.item k).seq k
  | none => 0xFFFFFFFF

/-- WX_SELF (R380). -/
def execWxSelf (n : Fin 128) (s : State) : Out :=
  .next <| coreStep n (fun f next s =>
    match f with
    | .instr (.wx .self rd _ _) _ => some (finish n rd (BitVec.ofNat 32 (s.ownHandle n)) next s)
    | _ => none) s

/-! ### Core memories over the network (R637, 11 R364) -/

/-- CORE_MEMORY_NET_ACCESS: an access of another requester to a core's memories; without the group's clock it waits until it
ends with E_NOC_TIMEOUT (16 R526). -/
def execCoreMemoryNetAccess (n : Fin 128) (offset : Nat) (acc : MemAcc) (s : State) : Out :=
  (if s.groupOn (n / 8) = false then { status := .domainOff, state := s }
   else if s.quillClocked (n / 8) = false then { status := .nocTimeout, state := s }
   else coreMemServe (coreBase n + offset % 0x10000) acc s : MemResult).reply

end Sys2Proof.Machine
end

