-- ==== Sys2Proof/Machine/Debug.lean ====
section
/-!
DEFINITION. The debug port and the Sceum monitor (19): the test access port, debug accesses, the DBG block, halts and steps,
the unlock, the monitor's commands.
-/
namespace Sys2Proof.Machine

/-- Change the debug function's data. -/
def State.modDbg (s : State) (f : DbgSt → DbgSt) : State := { s with dbg := f s.dbg }

/-! ### The test access port (R581 to R585) -/

/-- Production lock-out is in force and the debug function is not unlocked (R582). -/
def State.shut (s : State) : Bool := s.bit F.dbgStatusLocked && !s.bit F.dbgStatusUnlocked

/-- The boundary register takes the pins: near-store channels get no refresh and lose their contents (R585). -/
def pinsTaken (s : State) : State :=
  let t := (List.range 36).foldl (fun s c => loseChannel c s) s
  (List.range 36).foldl (fun t c => t.modNear c (fun n => { n with junk := s.free + 1 })) { t with free := s.free + 1 }

/-- The pins return to service: the lanes retrain (R585, 03 R98). -/
def pinsBack (s : State) : State :=
  (List.range 48).foldl (fun s n => (List.range 9).foldl (fun s m => enterRetrain n m s) s) s

/-- The TAP's instruction becomes `code`. -/
def takeIr (code : Nat) (s : State) : State :=
  let was := s.extest
  let s := s.modDbg (fun d => { d with ir := code })
  if s.extest && !was then pinsTaken s else if !s.extest && was then pinsBack s else s

/-- A cell that only observes its pin (R584). -/
def observes : BsCell → Bool
  | .xoIn | .mclk _ | .orb _ => true
  | .userIo _ | .near _ _ _ | .srstN | .pgood | .strap _ | .lane _ _ _ | .sfi _ _ => false

/-- The values shifted in over those the cells hold; a cell named twice takes its first value. -/
def shiftCells (new held : List (BsCell × Bool)) : List (BsCell × Bool) :=
  let mine := new.filter (fun e => !observes e.1)
  mine ++ held.filter (fun e => !mine.any (fun m => m.1 == e.1))

/-- A scan of the boundary register (R582, R584): the cells capture the levels at their pins, which go out at TDO, and hold
what is shifted in. The order of the cells is in the BSDL file, not in the spec. -/
def bsScan (pins shift : List (BsCell × Bool)) (s : State) : State :=
  (s.modDbg (fun d => { d with captured := pins, cells := shiftCells shift d.cells })).emit (.boundary pins)

/-- An instruction that gives the boundary register the pins (R585): it drives what its cells hold. One that needs the unlock
behaves as BYPASS without it (R582). -/
def bsDrive (code : Nat) (pins shift : List (BsCell × Bool)) (s : State) : State :=
  if s.shut then (takeIr 0xFF s).emit (.tdo 1 0)
  else
    let s := bsScan pins shift (takeIr code s)
    s.emit (.bsPins s.dbg.cells)

/-- TAP_RESET (R581, R582, R591, R604): IDCODE is selected; attachment and unlock end. -/
def execTapReset (s : State) : Out :=
  .next <|
    let s := takeIr 0x02 s
    let s := ((s.clear F.dbgCtrlAttach).clear F.dbgStatusAttached).clear F.dbgStatusUnlocked
    s.modDbg (fun d => { d with answer := [], readIndex := 0 })

/-- EXTEST (R582, R584, R585). -/
def execExtest (pins shift : List (BsCell × Bool)) (s : State) : Out := .next (bsDrive 0x00 pins shift s)

/-- SAMPLE_PRELOAD (R582, R584): the pins stay with the device; the boundary register samples and preloads. -/
def execSamplePreload (pins shift : List (BsCell × Bool)) (s : State) : Out := .next (bsScan pins shift (takeIr 0x01 s))

/-- IDCODE (R583). -/
def execIdcode (s : State) : Out := .next ((takeIr 0x02 s).emit (.tdo 32 0x10A4956B))

/-- EXTEST_PULSE (R582, R584, R585). -/
def execExtestPulse (pins shift : List (BsCell × Bool)) (s : State) : Out := .next (bsDrive 0x04 pins shift s)

/-- EXTEST_TRAIN (R582, R584, R585). -/
def execExtestTrain (pins shift : List (BsCell × Bool)) (s : State) : Out := .next (bsDrive 0x05 pins shift s)

/-- BYPASS (R582): a register of one bit, which captures 0. -/
def execBypass (s : State) : Out := .next ((takeIr 0xFF s).emit (.tdo 1 0))

/-! ### Halt, step and resume (R593 to R599, R601) -/

/-- DBG_QC_STAT.result of a command. -/
inductive QcResult where
  | ok | notHalted | badReg | refused
  deriving DecidableEq, Repr

/-- The code of a result. -/
def QcResult.code : QcResult → Nat
  | .ok => 0 | .notHalted => 1 | .badReg => 2 | .refused => 3

/-- A core whose halt is latched for its next release (R593). -/
def State.waitsRelease (s : State) (n : Nat) : Bool :=
  s.groupOn (n / 8) == false || s.qSt n == .held || s.qSt n == .off || s.qSt n == .retired

/-- A halt is latched for a core; of the Sceum core, while it is to start. -/
def State.haltLatched (s : State) (n : Nat) : Bool :=
  if n = 128 then s.dbg.sceumPending && s.scm.bootDue else (s.core n).haltPending

/-- Request the halt of a core. -/
def haltRequest (n : Nat) (s : State) : State :=
  if s.coreHalted n then s
  else if n = 128 then s.modDbg (fun d => { d with sceumPending := true })
  else if s.waitsRelease n then s.modCore n (fun c => { c with haltPending := true })
  else s.modCore n (fun c => { c with haltReq := true })

/-- Resume a halted core. -/
def coreResume (n : Nat) (s : State) : State :=
  if n = 128 then s.modDbg (fun d => { d with sceumHalted := false, sceumStep := false })
  else (s.clear F.qcStatusHalted n).modCore n (fun c => { c with stepping := false, haltReq := false })

/-- The bank that DBG_QC_SEL names is the one that a core runs (R598). -/
def State.bankSelected (s : State) (n : Nat) : Bool := s.bit F.dbgQcSelBank == (s.qSt n == .urgent)

/-- Step a halted core by one instruction. -/
def coreStepStart (n : Nat) (s : State) : QcResult × State :=
  if n = 128 then (.ok, s.modDbg (fun d => { d with sceumHalted := false, sceumStep := true }))
  else if s.bankSelected n then (.ok, (s.clear F.qcStatusHalted n).modCore n (fun c => { c with stepping := true }))
  else (.refused, s)

/-- CORE_HALTED (R595, R601): a core with a halt requested, all its loads answered, stops; the Sceum core stops. -/
def execCoreHalted (n : Fin 129) (s : State) : Out :=
  whenClocked (if n.val = 128 then s.mgmtClocked else s.quillClocked (n / 8)) s <| .next <|
    if n.val = 128 then
      if s.dbg.sceumPending ∧ 3 ≤ s.get F.sysStatusPhase ∧ s.clk.held = false then
        (s.modDbg (fun d => { d with sceumPending := false, sceumHalted := true, sceumCause := 1, sceumStep := false })).blot 0xC10 1 0
      else if s.dbg.sceumStep then
        (s.modDbg (fun d => { d with sceumHalted := true, sceumCause := 3, sceumStep := false })).blot 0xC10 1 0
      else s
    else if (s.core n).haltReq ∧ (s.core n).pend = none ∧ s.coreHalted n = false then haltCore n 1 s
    else s

/-! ### Register access of halted cores (R600) -/

/-- Do something with a given bank of a core as the running one. -/
def inBank {α : Type} (n : Nat) (urgent : Bool) (f : State → α × State) (s : State) : α × State :=
  let q := s.qSt n
  let r := f (s.setQSt n (if urgent then .urgent else .item))
  (r.1, r.2.setQSt n q)

/-- Read a register of a halted core. -/
def dbgRegGet (n no : Nat) (s : State) : Option Nat × State :=
  let b := s.cbank n
  if no < 0x1000 then
    if csrExists no then
      let r := csrRead n no s
      (some r.1.toNat, r.2)
    else (none, s)
  else if no < 0x1020 then (some (b.reg (no - 0x1000)).toNat, s)
  else if no = 0x1020 then (some b.pc, s)
  else if no = 0x1021 then (some (if b.user then 0 else 3), s)
  else (none, s)

/-- Write a register of a halted core: whether there is one to write. -/
def dbgRegPut (n no v : Nat) (s : State) : Bool × State :=
  if no < 0x1000 then
    if csrExists no && !csrReadOnly no then (true, csrWrite n no v s) else (false, s)
  else if no = 0x1000 then (false, s)
  else if no < 0x1020 then (true, setX n (no - 0x1000) (BitVec.ofNat 32 v) s)
  else if no = 0x1020 then (true, s.modCbank n (fun b => { b with pc := v / 2 * 2 }))
  else if no = 0x1021 ∧ (v = 0 ∨ v = 3) then (true, s.modCbank n (fun b => { b with user := decide (v = 0) }))
  else (false, s)

/-- reg_rd: DBG_QC_DATA takes the register. The registers of the Sceum core are not described: a free value. -/
def qcRegRead (n : Nat) (s : State) : QcResult × State :=
  if s.coreHalted n = false then (.notHalted, s)
  else if n = 128 then
    let r := s.fresh 32
    (.ok, r.2.put F.dbgQcDataVal r.1)
  else
    match inBank n (s.bit F.dbgQcSelBank) (dbgRegGet n (s.get F.dbgQcRegnoVal)) s with
    | (some v, s) => (.ok, s.put F.dbgQcDataVal v)
    | (none, s) => (.badReg, s)

/-- reg_wr: the register takes DBG_QC_DATA. -/
def qcRegWrite (n : Nat) (s : State) : QcResult × State :=
  if s.coreHalted n = false then (.notHalted, s)
  else if n = 128 then (.ok, s)
  else
    let r := inBank n (s.bit F.dbgQcSelBank) (dbgRegPut n (s.get F.dbgQcRegnoVal) (s.get F.dbgQcDataVal)) s
    if r.1 then (.ok, r.2) else (.badReg, s)

/-! ### The DBG block (R591 to R602, R608) -/

/-- A core that a command may name: 128 is barred after lock-out (R601). -/
def State.nameable (s : State) (n : Nat) : Bool := decide (n < 128) || (n == 128 && !s.bit F.dbgStatusLocked)

/-- The cores named in DBG_HMASK. -/
def State.masked (s : State) : List Nat := (List.range 129).filter (fun n => (s.word .dbgHmask (n / 32)).toNat.testBit (n % 32))

/-- halt or resume of cores: an attached debugger alone gives them (R591). -/
def qcAll (halt : Bool) (cores : List Nat) (s : State) : QcResult × State :=
  if s.bit F.dbgStatusAttached = false ∨ cores.any (fun n => !s.nameable n) = true then (.refused, s)
  else if halt then (.ok, cores.foldl (fun s n => haltRequest n s) s)
  else if cores.all (fun n => s.coreHalted n) then (.ok, cores.foldl (fun s n => coreResume n s) s)
  else (.notHalted, (cores.filter (fun n => s.coreHalted n)).foldl (fun s n => coreResume n s) s)

/-- A write of DBG_QC_CMD. -/
def qcCommand (v : Nat) (s : State) : QcResult × State :=
  let n := s.get F.dbgQcSelCore
  let cores := if bitAt v 0 then s.masked else [n]
  match bits v 5 1 with
  | 1 => qcAll true cores s
  | 2 => qcAll false cores s
  | 4 =>
    if s.bit F.dbgStatusAttached = false ∨ s.nameable n = false then (.refused, s)
    else if s.coreHalted n then coreStepStart n s
    else (.notHalted, s)
  | 8 => if s.nameable n then qcRegRead n s else (.refused, s)
  | 16 => if s.nameable n then qcRegWrite n s else (.refused, s)
  | _ => (.refused, s)

/-- A write of DBG_QC_CMD; with no command bit set nothing is done. -/
def qcWrite (v : Nat) (s : State) : State :=
  if bits v 5 1 = 0 then s
  else
    let r := qcCommand v s
    r.2.put F.dbgQcStatResult r.1.code

/-- A write of DBG_CTRL (R591, R594). -/
def dbgCtrlWrite (v : Word) (s : State) : State :=
  let s := (codedWrite .dbgCtrl 0 0 v s).1
  let s := s.putBit F.dbgStatusAttached (bitAt v.toNat 0)
  if bitAt v.toNat 31 then resetFor 8 s else s

/-- A write of DBG_CONNECT: hold_sceum is refused after lock-out (R592). -/
def dbgConnectWrite (v : Nat) (s : State) : State :=
  let v := if s.bit F.dbgStatusLocked then setBits v 1 1 0 else v
  s.setWord .dbgConnect (BitVec.ofNat 32 (v % 16))

/-- A write of the DBG block by the debug port. -/
def dbgBlockWrite (addr : Nat) (v : Word) (s : State) : State :=
  match regIn regsDbg addr with
  | some (.dbgCtrl, _, _) => dbgCtrlWrite v s
  | some (.dbgConnect, _, _) => dbgConnectWrite v.toNat s
  | some (.dbgQcCmd, _, _) => qcWrite v.toNat s
  | some (r, i, j) => (codedWrite r i j v s).1
  | none => s

/-- A read of the DBG block: DBG_QC_STAT shows the selected core. -/
def dbgBlockRead (addr : Nat) (s : State) : Nat :=
  match regIn regsDbg addr with
  | some (.dbgQcStat, _, _) =>
    let n := s.get F.dbgQcSelCore
    let halted := decide (n < 129) && s.coreHalted n
    let cause := if !halted then 0 else if n = 128 then s.dbg.sceumCause else (s.core n).haltCause
    s.get F.dbgQcStatResult * 2 ^ 30 + b2n halted * 2 ^ 29 + b2n (decide (n < 129) && s.haltLatched n) * 2 ^ 28 + cause * 2 ^ 24
  | some (r, i, j) => regView r i j s
  | none => 0

/-! ### Debug accesses (R586 to R590) -/

/-- A command of DBG_ACCESS. -/
inductive DbgCmd where
  | nop | read | write (v : Word) | consume
  deriving DecidableEq, Repr

/-- The result of the last command to finish. -/
def dbgResult (st data : Nat) (poison : Bool) (s : State) : State := s.modDbg (fun d => { d with result := (st, data, poison) })

/-- The scan shows the result of the last command to finish (R586). -/
def dbgCapture (s : State) : State :=
  let r := s.dbg.result
  s.emit (.tdo 84 (r.1 * 2 ^ 80 + b2n r.2.2 * 2 ^ 79 + r.2.1 % 2 ^ 32))

/-- A register block answers at once over the management ring; nothing answers while the device is held in reset or the ring has
no clock (16 R526). -/
def dbgRegister (c : DbgCmd) (o : Nat) (s : State) : State :=
  if o / 0x100000 = 0xF then
    match c with
    | .write v => dbgResult 0 0 false (dbgBlockWrite o v s)
    | _ => dbgResult 0 (dbgBlockRead o s) false s
  else if s.clk.held || !s.mgmtClocked then s.modDbg (fun d => { d with running := some (o, 1024) })
  else match c with
    | .write v =>
      let r := regWrite o v s
      dbgResult (statusCode r.2) 0 false r.1
    | .consume =>
      let r := regRead o false s
      dbgResult (statusCode r.1) r.2.1 false r.2.2
    | _ =>
      let r := regRead o true s
      dbgResult (statusCode r.1) r.2.1 false r.2.2

/-- Another address is reached through the NI of Sceum; the result follows with the response. -/
def dbgMemory (c : DbgCmd) (addr : Nat) (s : State) : State :=
  if (s.niOf addr).isNone then dbgResult 1 0 false s
  else
    let s := s.modDbg (fun d => { d with running := some (addr, 1024) })
    match c with
    | .write v =>
      nocRequest niSceum
        { req := .debug, cmd := 1, addr := addr, len := 4, payload := bytesOf v.toNat 4, be := List.replicate 4 true, vc := 3, txn := 1024 } s
    | _ => nocRequest niSceum { req := .debug, cmd := 0, addr := addr, len := 4, vc := 3, txn := 1024 } s

/-- A command starts (R586, R587): ignored with BUSY while another runs; a NOP ends at once. -/
def dbgStart (c : DbgCmd) (addr : Nat) (s : State) : State :=
  let o := offsetOf addr
  if s.dbg.running.isSome then dbgResult 3 0 false s
  else if c = .nop then dbgResult 0 0 false s
  else if addr % 4 ≠ 0 then dbgResult 2 0 false s
  else if o < 2 ^ 32 ∧ keyId addr ≠ 0 then dbgResult 1 0 false s
  else if o < 0x1100000 then dbgRegister c o s
  else if reserveKey addr then dbgResult 2 0 false (s.countDenied addr .denied)
  else dbgMemory c addr s

/-- A scan of DBG_ACCESS: the last result goes out, the command goes in. Without the unlock the instruction is BYPASS. -/
def dbgScan (c : DbgCmd) (addr : Nat) (s : State) : State :=
  if s.shut then (takeIr 0xFF s).emit (.tdo 1 0) else dbgStart c addr (dbgCapture (takeIr 0x10 s))

/-- DBG_READ (R586, R587, R589): quiet. -/
def execDbgRead (addr : BitVec 48) (s : State) : Out := .next (dbgScan .read addr.toNat s)

/-- DBG_WRITE (R586, R587). -/
def execDbgWrite (addr : BitVec 48) (v : Word) (s : State) : Out := .next (dbgScan (.write v) addr.toNat s)

/-- DBG_CONSUME (R590): an ordinary read. -/
def execDbgConsume (addr : BitVec 48) (s : State) : Out := .next (dbgScan .consume addr.toNat s)

/-- DBG_NOP (R586). -/
def execDbgNop (s : State) : Out := .next (dbgScan .nop 0 s)

/-- DBG_ACCESS_TIMEOUT (R587): an access has had no result for 100 µs. -/
def execDbgAccessTimeout (s : State) : Out :=
  .next (if s.dbg.running.isSome then dbgResult 8 0 false (s.modDbg (fun d => { d with running := none })) else s)

/-- DBG_CONNECT (R592): a scan of the connect register. -/
def execDbgConnect (v : BitVec 4) (s : State) : Out :=
  .next <|
    if s.shut then (takeIr 0xFF s).emit (.tdo 1 0)
    else dbgConnectWrite v.toNat ((takeIr 0x11 s).emit (.tdo 4 (s.word .dbgConnect).toNat))

/-- The debugger writes a register of the DBG block. -/
def dbgPoke (addr : Nat) (v : Word) (s : State) : State := dbgScan (.write v) addr s

/-- DBG_ATTACH (R591): a write of DBG_CTRL. -/
def execDbgAttach (v : Word) (s : State) : Out := .next (dbgPoke 0xF00000 v s)

/-- DBG_SYSRST_REQ (R594): a write of DBG_CTRL with sysrst_req. -/
def execDbgSysrstReq (v : Word) (s : State) : Out := .next (dbgPoke 0xF00000 (v ||| 0x80000000) s)

/-- The debugger selects a core, its bank as it was. -/
def selectCore (n : Nat) (s : State) : State :=
  dbgPoke 0xF00010 (BitVec.ofNat 32 (setBits (s.word .dbgQcSel).toNat 7 0 n)) s

/-- DBG_HALT (R591, R593, R595, R601): the core is selected, then halted. -/
def execDbgHalt (n : Fin 129) (s : State) : Out := .next (dbgPoke 0xF00014 2 (selectCore n s))

/-- DBG_RESUME (R591, R597). -/
def execDbgResume (n : Fin 129) (s : State) : Out := .next (dbgPoke 0xF00014 4 (selectCore n s))

/-- DBG_STEP (R598). -/
def execDbgStep (n : Fin 129) (s : State) : Out := .next (dbgPoke 0xF00014 8 (selectCore n s))

/-- DBG_REG_READ (R600): of the core, bank and register selected. -/
def execDbgRegRead (s : State) : Out := .next (dbgPoke 0xF00014 0x10 s)

/-- DBG_REG_WRITE (R600). -/
def execDbgRegWrite (s : State) : Out := .next (dbgPoke 0xF00014 0x20 s)

/-- DBG_FREEZE_WRITE (R602). -/
def execDbgFreezeWrite (v : Word) (s : State) : Out := .next (dbgPoke 0xF00008 v s)

/-! ### The unlock (R604) -/

/-- DBG_UNLOCK_SELECT (R604): a fresh nonce from the Sceum random source. -/
def execDbgUnlockSelect (s : State) : Out :=
  .next <|
    let s := (List.range 4).foldl
      (fun s i =>
        let r := s.fresh 32
        r.2.put F.dbgChalVal r.1 i) (takeIr 0x12 s)
    s.modDbg (fun d => { d with answer := [], readIndex := 0 })

/-- The right answer: 16 bytes of HMAC-SHA-256 under the owner key over "VCP1 DBG" and the nonce. -/
def State.unlockAnswer (s : State) : List Nat :=
  let text := [0x56, 0x43, 0x50, 0x31, 0x20, 0x44, 0x42, 0x47]
  let nonce := (List.range 4).flatMap (fun i => nums (s.get F.dbgChalVal i) 4)
  (Crypto.hmac (Tab.get {} s.otp.ops 0).key (text ++ nonce)).take 16

/-- The answer words are checked. -/
def unlockCheck (s : State) : State :=
  let given := (List.range 4).flatMap (fun i => nums (Tab.get 0 s.dbg.answer i) 4)
  let s' := s.modDbg (fun d => { d with answer := [] })
  if (Tab.get {} s.otp.ops 0).st = 1 ∧ given = s.unlockAnswer then (s'.flag F.dbgStatusUnlocked).blot 0xC0E 1 0
  else
    let fails := s.get F.dbgStatusUnlockFail + 1
    (s'.put F.dbgStatusUnlockFail fails).blot 0xC0F 2 fails

/-- DBG_UNLOCK_ANSWER (R604): a scan of DBG_UNLOCK: a nonce word goes out with its index, answer word `i` goes in; word 3 after
the others is the answer. -/
def execDbgUnlockAnswer (i : Fin 4) (v : Word) (s : State) : Out :=
  .next <|
    if s.dbg.ir ≠ 0x12 then s
    else
      let k := s.dbg.readIndex
      let s := s.emit (.tdo 34 (k * 2 ^ 32 + s.get F.dbgChalVal k))
      let s := s.modDbg (fun d => { d with readIndex := (k + 1) % 4 })
      if 3 ≤ s.get F.dbgStatusUnlockFail then s
      else if i.val = 3 then
        if [0, 1, 2].all (fun j => (Tab.look s.dbg.answer j).isSome) then
          unlockCheck (s.modDbg (fun d => { d with answer := Tab.set d.answer 3 v.toNat }))
        else s
      else s.modDbg (fun d => { d with answer := Tab.set d.answer i v.toNat })

/-! ### The monitor (R605, R606) -/

/-- The boot ROM or the firmware serves the monitor. -/
def State.monServes (s : State) : Bool :=
  decide (3 ≤ s.get F.sysStatusPhase) && !s.clk.held && s.mgmtClocked && (s.sceumRuns || s.scm.inRom) && !s.dbg.sceumHalted

/-- The monitor answers a line. -/
def monAnswer (st : Nat) (vals : List Nat) (s : State) : State := s.emit (.mon st vals)

/-- A command of the monitor; `open_`: it is served before lock-out alone. -/
def monCommand (open_ : Bool) (run : State → State) (s : State) : Out :=
  .next <|
    if s.monServes = false then s
    else if open_ && s.bit F.dbgStatusLocked then monAnswer vDenied [] s
    else run s

/-- MON_HELP (R606): the commands served, numbered in the order of the table. -/
def execMonHelp (s : State) : Out :=
  monCommand false (fun s => monAnswer vOk (List.range (if s.bit F.dbgStatusLocked then 5 else 10)) s) s

/-- MON_STATUS (R606): SYS_STATUS, SCM_STATUS, CFG_STATUS, firmware slot and release. -/
def execMonStatus (s : State) : Out :=
  monCommand false (fun s =>
    monAnswer vOk [regView .sysStatus 0 0 s, regView .scmStatus 0 0 s, regView .cfgStatus 0 0 s, s.get F.scmFwSlotB,
                   s.get F.scmFwRelease] s) s

/-- MON_SENSORS (R606). -/
def execMonSensors (s : State) : Out :=
  monCommand false (fun s => monAnswer vOk ((List.range 128).map (fun c => s.get F.scmChValue c)) s) s

/-- The blotter record of a number, while it is held (15 R502). -/
def State.blotRecord (s : State) (num : Nat) : Option (List Byte) :=
  let back := (s.get F.scmBlotNextVal + 2 ^ 32 - num) % 2 ^ 32
  let n := s.log.buffer.length
  if back = 0 then none
  else if back ≤ n then s.log.buffer[n - back]?
  else if back - n ≤ ringSlots then
    let r := s.flashBytes (blotAt ((s.log.pos + ringSlots - (back - n)) % ringSlots)) 32
    if validRecord r ∧ ofBytes (r.take 4) = num then some r else none
  else none

/-- MON_BLOTTER (R606): the last `n` records. -/
def execMonBlotter (n : Nat) (s : State) : Out :=
  monCommand false (fun s =>
    if n = 0 ∨ 64 < n then monAnswer vBadParam [] s
    else
      let next := s.get F.scmBlotNextVal
      let held := (List.range n).filterMap (fun i => s.blotRecord ((next + 2 ^ 32 - n + i) % 2 ^ 32))
      monAnswer vOk (held.map ofBytes) s) s

/-- The rates that BAUD sets (R605). -/
def baudRates : List Nat := [230400, 460800, 921600, 1000000, 2000000, 3000000]

/-- MON_BAUD (R605). -/
def execMonBaud (rate : Nat) (s : State) : Out :=
  monCommand false (fun s =>
    if baudRates.contains rate then (monAnswer vOk [] s).modScm (fun m => { m with baud := rate }) else monAnswer vBadParam [] s) s

/-- A 32-bit access of the monitor, addressed as a debug access: register blocks over the management ring, other addresses
through the NI of Sceum. -/
def monAccess (addr : Nat) (write : Option Word) (s : State) : Status × Nat × State :=
  let o := offsetOf addr
  if addr % 4 ≠ 0 then (.denied, 0, s)
  else if o < 2 ^ 32 ∧ keyId addr ≠ 0 then (.decode, 0, s)
  else if o < 0x1100000 then
    match write with
    | some v =>
      let r := regWrite o v s
      (r.2, 0, r.1)
    | none => regRead o false s
  else if reserveKey addr then (.denied, 0, s.countDenied addr .denied)
  else match s.niOf addr with
    | none => (.decode, 0, s)
    | some dst =>
      match s.cutAt niSceum dst with
      | some at_ => (.fault, 0, rtrDiscard at_ 1 s)
      | none =>
        if s.fenced dst then (.domainOff, 0, s)
        else
          let acc : MemAcc := match write with
            | some v => .write (bytesOf v.toNat 4) (List.replicate 4 true) false
            | none => .read 4
          let r := memServe .debug addr acc s
          (r.status, ofBytes r.data, r.state)

/-- MON_RD (R606). -/
def execMonRd (addr : Nat) (s : State) : Out :=
  monCommand true (fun s =>
    let r := monAccess addr none s
    if r.1 = .ok then monAnswer vOk [r.2.1] r.2.2 else monAnswer (statusReply r.1) [] r.2.2) s

/-- MON_WR (R606). -/
def execMonWr (addr : Nat) (v : Word) (s : State) : Out :=
  monCommand true (fun s =>
    let r := monAccess addr (some v) s
    monAnswer (statusReply r.1) [] r.2.2) s

/-- One-time-programmable storage may be written (20 R618): VCC_AUX reads 1.75 V or more. -/
def State.otpWritable (s : State) : Bool := [96, 97, 98].all (fun c => decide (7000 ≤ s.get F.scmChValue c))

/-- MON_OWNERKEY (R606, 14 R448): operator slot 0 takes the owner key; `ok`: its read-back agrees. -/
def execMonOwnerkey (key : List Byte) (ok : Bool) (s : State) : Out :=
  monCommand true (fun s =>
    if key.length ≠ 32 then monAnswer vBadParam [] s
    else if (Tab.get {} s.otp.ops 0).st ≠ 0 ∨ s.otpWritable = false then monAnswer vDenied [] s
    else
      let k : OpKey := if ok then { st := 1, key := key.map BitVec.toNat, rights := 31 } else { st := 3 }
      monAnswer (if ok then vOk else vDenied) [] { s with otp := { s.otp with ops := Tab.put {} s.otp.ops 0 k } }) s

/-- MON_LOCKOUT (R603, R606, R607): refused until operator slot 0 holds a verified key; it comes into force at the next
power-on. -/
def execMonLockout (serial : Nat) (s : State) : Out :=
  monCommand true (fun s =>
    if serial ≠ s.pair .scmSerialLo .scmSerialHi then monAnswer vBadParam [] s
    else if (Tab.get {} s.otp.ops 0).st ≠ 1 ∨ s.otpWritable = false then monAnswer vDenied [] s
    else monAnswer vOk [] (({ s with otp := { s.otp with locked := true } }).blot 0xC11 1 (serial % 2 ^ 32))) s

/-- MON_RESET (R606): a system reset, with SYS_RSTCAUSE.register set. -/
def execMonReset (s : State) : Out := monCommand true (fun s => resetFor 4 (monAnswer vOk [] s)) s

end Sys2Proof.Machine
end

