-- ==== Sys2Proof/Machine/Crossing.lean ====
section
/-!
DEFINITION. The crossing boundary and the orbit boundary (02 R34 to R39): what takes effect at a boundary all over the
device. Also the filling of the Sceum reserve (09 R306, 13 R431).
-/
namespace Sys2Proof.Machine

/-- The next boundary renumbers the crossings: a realignment whose jump is not 0 (R44). -/
def State.jumps (s : State) : Bool :=
  match s.mt.renumber with
  | some c => c != s.nextCross
  | none => false

/-- What follows the counters at a boundary: the ring's epoch counts a realignment or an orbit load (09 R294); at a
return to 0 the lanes end their orbit (03 R107); contexts switch (05 R166), spans are driven again (04 R143), bank ports
see their banks' power (08 R261), blocks go out of the cave, look-back and cascade links (09 R283, R305; 18 R566), the collector writes what memory had no room for (09 R298), and
calibration resumes in a gap (15 R496). -/
def boundaryEffects (s : State) : State :=
  let s := if s.mt.cross = 0 then lanesOrbit s else s
  let s := banksBoundary (spansBoundary (fabricBoundary s))
  let s := cascBoundary (lbtxBoundary (caveBoundary (collect s)))
  scmBoundary s

/-- A crossing boundary (R37); none has an effect while the device is held in a reset. The fabric captures at it under the
contexts of the crossing that ends (05 R169). -/
def crossing (ck : BitVec 16) (s : State) : State :=
  if s.clk.held then s
  else
    let jump := s.jumps
    let load := s.mt.orbitLoad
    let s := mtBoundary ck (fabCross s)
    let s := if jump || (load && !s.mt.orbitLoad) then epochStep s else s
    boundaryEffects s

/-- The next boundary is an orbit boundary: the crossing counter takes 0 there (R37, R38). -/
def State.orbitNext (s : State) : Bool := s.mt.renumber.getD s.nextCross == 0

/-- CROSSING_BOUNDARY (R37): the next boundary, whichever index it carries. `ck` is the timing bundle's clock word. -/
def execCrossingBoundary (ck : BitVec 16) (s : State) : Out := .next (crossing ck s)

/-- ORBIT_START (R37): the next boundary, where the crossing counter returns to 0. -/
def execOrbitStart (ck : BitVec 16) (s : State) : Out := .next (if s.orbitNext then crossing ck s else s)

/-- RESERVE_FILL_DONE (09 R306, 13 R431): a filling channel has filled its part of the Sceum reserve. -/
def execReserveFillDone (c : Fin 36) (s : State) : Out :=
  whenClocked (s.nearClocked c) s <| .next <|
    if s.nearSt c = .filling then
      let p := if s.mirrored then 116509 else 58255
      s.put F.nearChFillVal (max p (s.get F.nearChFillVal c)) c
    else s

end Sys2Proof.Machine
end

