-- ==== Sys2Proof/Machine/HostOps.lean ====
section
/-!
DEFINITION. What each opcode of the host command protocol does (14 R458 to R468, 15 R511, R512), whether a session of this
device or the master of a cascade has it carried out.
-/
namespace Sys2Proof.Machine

/-! ### Parameters and results -/

/-- A little-endian field of `n` bytes at an offset. -/
def leAt (p : List Nat) (o n : Nat) : Nat := Crypto.beNat ((p.drop o).take n).reverse

/-- For whom a command runs: rights, parameters, session slot if it has one here, key that unwraps keys (R449), who waits
for its end. -/
structure HostCtx where
  rights : Nat
  params : List Nat
  slot : Option Nat
  wrap : List Nat
  origin : Origin

/-- What a command answers. -/
structure HostRes where
  status : Nat
  result : List Nat := []
  state : State

/-- What an opcode does once its right and the length of its parameters are checked. -/
abbrev HostFn := HostCtx → State → HostRes

/-- A refusal with no effect. -/
def refuse (status : Nat) (s : State) : HostRes := { status := status, state := s }

/-- A 32-bit register as a result. -/
def regResult (r : RegName) (i j : Nat) (s : State) : List Nat := nums (regView r i j s) 4

/-- A command replies ACCEPTED; its end is reported later (R457). -/
def hostAccepted (c : HostCtx) (op obj first count : Nat) (s : State) : HostRes :=
  let j : Job := { origin := c.origin, op := op, obj := obj, first := first, count := count }
  { status := vAccepted, state := { s with host := { s.host with jobs := s.host.jobs ++ [j] } } }

/-! ### Rights and lengths (R458, 15 R511) -/

/-- The rights of which an opcode needs one, as a mask; 0 where it needs none, nothing for an unknown opcode. -/
def opRights (op : Nat) : Option Nat :=
  if op = 0x02 ∨ op = 0x03 ∨ op = 0x04 then some 0
  else if [0x05, 0x06, 0x07, 0x10, 0x11, 0x20, 0x22, 0x40, 0x60, 0x63, 0x64, 0x66, 0x69, 0x6B, 0x6C].contains op then some 1
  else if [0x21, 0x23, 0x32, 0x33, 0x35, 0x6A].contains op then some 2
  else if op = 0x30 ∨ op = 0x31 then some 4
  else if 0x50 ≤ op ∧ op ≤ 0x57 then some 8
  else if [0x34, 0x61, 0x62, 0x65, 0x67, 0x68].contains op then some 16
  else if op = 0x41 ∨ op = 0x42 then some 20
  else none

/-- A parameter block of `n` bytes has a length the opcode takes. -/
def opLength (op n : Nat) : Bool :=
  match op with
  | 0x04 => n == 32
  | 0x06 => n == 4
  | 0x07 => n == 8
  | 0x20 => n % 4 == 0 && decide (4 ≤ n) && decide (n ≤ 1024)
  | 0x21 => n % 8 == 0 && decide (8 ≤ n) && decide (n ≤ 8192)
  | 0x22 => n == 12
  | 0x23 => decide (13 ≤ n) && decide (n ≤ 8192)
  | 0x30 | 0x31 => n == 16
  | 0x32 | 0x33 => n == 8
  | 0x34 => n == 4
  | 0x35 => n == 32
  | 0x40 | 0x42 => n == 8
  | 0x41 => decide (5 ≤ n) && decide (n ≤ 8192)
  | 0x50 | 0x56 => n == 44
  | 0x51 | 0x53 | 0x55 | 0x57 => n == 4
  | 0x52 => n == 48
  | 0x54 => n == 60
  | 0x61 | 0x67 => n == 4
  | 0x64 | 0x66 => n == 8
  | 0x6A => n == 36
  | 0x6B => n == 32
  | _ => n == 0

/-- Opcodes that need Sceum (15 R481). -/
def needsSceum (op : Nat) : Bool :=
  op == 0x30 || op == 0x31 || op == 0x35 || (decide (0x50 ≤ op) && decide (op < 0x58)) || (decide (0x60 ≤ op) && decide (op < 0x80))

/-- Sceum serves an opcode: its firmware runs, or the boot ROM does with the opcodes it serves (15 R481, R506). -/
def State.serves (s : State) (op : Nat) : Bool :=
  !needsSceum op || s.sceumRuns || (s.scm.inRom && (op == 0x67 || op == 0x69))

/-- Why a command is refused before it does anything, if it is: unknown opcode, missing right, wrong length, Sceum
restarting. -/
def hostGuard (op : Nat) (c : HostCtx) (s : State) : Option Nat :=
  match opRights op with
  | none => some vBadOpcode
  | some m =>
    if m ≠ 0 ∧ c.rights &&& m = 0 then some vDenied
    else if opLength op c.params.length = false then some vBadParam
    else if s.serves op = false then some vBusy
    else none

/-- An opcode behind its checks. -/
def guarded (op : Nat) (f : HostFn) : HostFn := fun c s =>
  match hostGuard op c s with
  | some st => refuse st s
  | none => f c s

/-! ### Sessions, events, identity and time -/

/-- OP_SESSION_CLOSE: the session ends after the reply (R452). -/
def hostClose : HostFn := fun c s =>
  { status := vOk
    state := match c.slot with | some k => s.modSess k (fun x => { x with ending := true }) | none => s }

/-- OP_PING. -/
def hostPing : HostFn := fun _ s => { status := vOk, result := nums s.pt 8, state := s }

/-- An entry of OP_SESSION_LIST (R460). -/
def sessionEntry (s : State) (k : Nat) : List Nat :=
  let c := s.sess k
  nums (s.sessId k) 4 ++ [c.okey % 256, c.st] ++ nums c.peer.port 2 ++ nums (s.idleLeft k) 4 ++ nums c.requests 4

/-- OP_SESSION_LIST (R460). -/
def hostList : HostFn := fun _ s =>
  let live := (List.range 1024).filter (fun k => (s.sess k).st != 0)
  { status := vOk, result := (live.map (sessionEntry s)).flatten, state := s }

/-- OP_EVENT_SUBSCRIBE (R474). -/
def hostSubscribe : HostFn := fun c s =>
  match c.slot with
  | some k =>
    { status := vOk, result := nums (s.sess k).mask 4, state := s.modSess k (fun x => { x with mask := leAt c.params 0 4 }) }
  | none => refuse vBadOpcode s

/-- OP_EVENT_READ (R471). -/
def hostEvents : HostFn := fun c s =>
  let first := leAt c.params 0 4
  let count := leAt c.params 4 4
  if count = 0 ∨ 128 < count then refuse vBadParam s
  else
    let held := s.log.events.reverse
    let oldest := match held with | e :: _ => e.num | [] => s.get F.ethEvtNextVal
    let due := (held.filter (fun e => decide ((e.num + 2 ^ 32 - first) % 2 ^ 32 < 2 ^ 31))).take count
    { status := vOk, result := nums due.length 4 ++ nums oldest 4 ++ (due.map EvEntry.bytes).flatten, state := s }

/-- The operator key slots whose state satisfies a condition, as a mask. -/
def State.opSlots (s : State) (p : Nat → Bool) : Nat :=
  (List.range 16).foldl (fun m n => if p (Tab.get {} s.otp.ops n).st then m + 2 ^ n else m) 0

/-- OP_DEVICE_INFO (R459). -/
def hostInfo : HostFn := fun _ s =>
  let keys (p : Nat → Bool) : List Nat := nums (s.opSlots p) 2
  { status := vOk, state := s
    result := regResult .cfgId 0 0 s ++ regResult .cfgPolicy 0 0 s ++ Crypto.beBytes s.mac 6
      ++ keys (fun t => t == 1 || t == 2) ++ keys (fun t => t == 2) ++ keys (fun t => t == 3)
      ++ regResult .cfgBuildLo 0 0 s ++ regResult .cfgBuildHi 0 0 s ++ nums s.pt 8 ++ nums s.stamp 8
      ++ regResult .scmFw 0 0 s ++ nums 0 16 }

/-- OP_TIME_SNAP (02 R68). -/
def hostSnap : HostFn := fun _ s =>
  let s := mtSnap s
  { status := vOk, state := s
    result := regResult .mtimeSnapTLo 0 0 s ++ regResult .mtimeSnapTHi 0 0 s ++ regResult .mtimeSnapPtLo 0 0 s
      ++ regResult .mtimeSnapPtHi 0 0 s }

/-! ### Registers and memory (R461 to R463) -/

/-- The reply to a command that works access by access: the count done, the NoC status that stopped it, what it read. -/
def accessReply (done : Nat) (st : Status) (data : List Nat) (s : State) : HostRes :=
  { status := match st with | .ok => vOk | .fault => vAborted | _ => vMem
    result := nums done 4 ++ [statusCode st, 0, 0, 0] ++ data, state := s }

/-- Read registers in order until one answers with an error. -/
def regsRead (done : Nat) (data : List Nat) (s : State) : List Nat → HostRes
  | [] => accessReply done .ok data s
  | a :: rest =>
    match regRead a false s with
    | (.ok, v, s) => regsRead (done + 1) (data ++ nums v 4) s rest
    | (st, _, s) => accessReply done st data s

/-- OP_REG_READ (R462). -/
def hostRegRead : HostFn := fun c s =>
  regsRead 0 [] s ((List.range (c.params.length / 4)).map (fun i => leAt c.params (4 * i) 4))

/-- Write registers in order until one answers with an error. -/
def regsWrite (done : Nat) (s : State) : List (Nat × Nat) → HostRes
  | [] => accessReply done .ok [] s
  | (a, v) :: rest =>
    match regWrite a (BitVec.ofNat 32 v) s with
    | (s, .ok) => regsWrite (done + 1) s rest
    | (s, st) => accessReply done st [] s

/-- OP_REG_WRITE (R462). -/
def hostRegWrite : HostFn := fun c s =>
  regsWrite 0 s ((List.range (c.params.length / 8)).map (fun i => (leAt c.params (8 * i) 4, leAt c.params (8 * i + 4) 4)))

/-- The Ethernet network interface (R463). -/
def niEthernet : Nat := niAt 1 0 0

/-- A request packet of the Ethernet interface, on VC0 (R463). -/
def ethPacket (dst addr : Nat) (acc : MemAcc) (s : State) : Packet :=
  let p : Packet := { src := niEthernet, dst := dst, cmd := 0, vc := 0, txn := (s.freeTxn niEthernet).getD 0, addr := addr, len := 0 }
  match acc with
  | .read n => { p with len := n }
  | .write data be poison => { p with cmd := 1, len := data.length, payload := data, be := be, poison := poison }
  | .atomic aop size operand => { p with cmd := 3, len := size, payload := bytesOf operand.toNat size, aop := aop }

/-- One packet from the Ethernet interface, which its regulator counts (11 R354): a dead router on its way answers FAULT, a
fenced destination DOMAIN_OFF (11 R362, R364). -/
def ethServe (req : Requester) (addr : Nat) (acc : MemAcc) (s : State) : MemResult :=
  match s.niOf addr with
  | none => { status := .decode, state := s }
  | some dst =>
    let p := ethPacket dst addr acc s
    let s := (niSpend niEthernet 0 p.flits.length s).emit (.packet p p.flits)
    match s.cutAt niEthernet dst with
    | some at_ => { status := .fault, state := rtrDiscard at_ 1 s }
    | none =>
      if s.nocClocked = false then { status := .nocTimeout, state := s }
      else if s.fenced dst then { status := .domainOff, state := s }
      else memServe req addr acc s

/-- Read bytes packet by packet until one answers with an error; `n` bounds the packets. -/
def ethRead (req : Requester) (data : List Byte) (poison : Bool) (addr len : Nat) (s : State) : Nat → MemResult
  | 0 => { status := .ok, data := data, poison := poison, state := s }
  | n + 1 =>
    if len = 0 then { status := .ok, data := data, poison := poison, state := s }
    else
      let k := min len (toPageEnd addr)
      let r := ethServe req addr (.read k) s
      match r.status with
      | .ok => ethRead req (data ++ r.data) (poison || r.poison) (addr + k) (len - k) r.state n
      | st => { status := st, data := data, poison := poison, state := r.state }

/-- Write bytes packet by packet; the count written and the status. -/
def ethWrite (done : Nat) (addr : Nat) (data : List Byte) (s : State) : Nat → Nat × Status × State
  | 0 => (done, .ok, s)
  | n + 1 =>
    if data.isEmpty then (done, .ok, s)
    else
      let part := data.take (toPageEnd addr)
      let r := ethServe .host addr (.write part (List.replicate part.length true) false) s
      match r.status with
      | .ok => ethWrite (done + part.length) (addr + part.length) (data.drop part.length) r.state n
      | st => (done, st, r.state)

/-- A memory address is refused: register space or no system address (E_BAD_PARAM), key id 0 at a near-store or cave offset
(E_DENIED) (R463). -/
def memRefusal (addr : Nat) : Option Nat :=
  let o := offsetOf addr
  if 2 ^ 48 ≤ addr ∨ o < 0x01100000 then some vBadParam
  else if reserveKey addr then some vDenied
  else none

/-- A command with a refused address; the use of K0 is counted (01 R26). -/
def refuseAddr (addr st : Nat) (s : State) : HostRes := refuse st (if st = vDenied then s.countDenied addr .denied else s)

/-- OP_MEM_READ (R463). -/
def hostMemRead : HostFn := fun c s =>
  let addr := leAt c.params 0 8
  let len := leAt c.params 8 4
  if len = 0 ∨ 65536 < len then refuse vBadParam s
  else match memRefusal addr with
    | some st => refuseAddr addr st s
    | none =>
      let r := ethRead .host [] false addr len s (len / 4096 + 2)
      accessReply r.data.length r.status (r.data.map BitVec.toNat) r.state

/-- OP_MEM_WRITE (R463). -/
def hostMemWrite : HostFn := fun c s =>
  let addr := leAt c.params 0 8
  let len := leAt c.params 8 4
  if len + 12 ≠ c.params.length then refuse vBadParam s
  else match memRefusal addr with
    | some st => refuseAddr addr st s
    | none =>
      let r := ethWrite 0 addr ((c.params.drop 12).map (BitVec.ofNat 8)) s 4
      accessReply r.1 r.2.1 [] r.2.2

/-! ### Loads, hoops, domains, reinstatement (R464 to R466, 17 R558) -/

/-- A load the host waits for. -/
def hostLoad (c : HostCtx) (op addr len : Nat) (memory : Bool) (start : State → State × Status) (s : State) : HostRes :=
  if s.ldSt ≠ 0 then refuse vBusy s
  else
    let t := if memory then (s.setPair .cfgLoadAddrLo .cfgLoadAddrHi (addr % 2 ^ 48)).put F.cfgLoadLenVal len else s
    let r := start t
    match r.2 with
    | .ok => hostAccepted c op 0 0 0 (r.1.modLoader (fun l => { l with host := true }))
    | st => refuse (statusReply st) s

/-- OP_FOLIO_LOAD (R466). -/
def hostFolioLoad : HostFn := fun c s =>
  let src := leAt c.params 0 4
  if 2 < src then refuse vBadParam s
  else hostLoad c 0x30 (leAt c.params 4 8) (leAt c.params 12 4) (src == 2) (loadFull src) s

/-- OP_HOOP_LOAD (R466). -/
def hostHoopLoad : HostFn := fun c s =>
  let hoop := leAt c.params 0 4
  if 192 ≤ hoop then refuse vBadParam s
  else hostLoad c 0x31 (leAt c.params 4 8) (leAt c.params 12 4) true (loadHoop 2 hoop) s

/-- OP_HOOP_CMD (R465). -/
def hostHoopCmd : HostFn := fun c s =>
  let hoop := leAt c.params 0 4
  let cmd := leAt c.params 4 4
  if 192 ≤ hoop ∨ cmd = 0 ∨ 2 < cmd then refuse vBadParam s
  else
    let r := if cmd = 1 then hoopRelease hoop s else hoopStop hoop s
    { status := statusReply r.2, result := regResult .fabHoopStatus hoop 0 r.1, state := r.1 }

/-- The switchable domain that an object word names: nothing for a kind that names none, and within it nothing for an index
that does not exist (R464). -/
def domOfObject (w : Nat) : Option (Option Dom) :=
  let i := w % 2 ^ 24
  let at_ (n : Nat) (d : Dom) : Option (Option Dom) := some (if i < n then some d else none)
  match w / 2 ^ 24 with
  | 2 => at_ 36 (.near (Fin.ofNat 36 i))
  | 3 => at_ 16 (.cave (Fin.ofNat 16 i))
  | 9 => at_ 192 (.hoop (Fin.ofNat 192 i))
  | 10 => at_ 48 (.bundle (Fin.ofNat 48 i))
  | 11 => at_ 13 (.iob (Fin.ofNat 13 i))
  | 15 => at_ 16 (.quill (Fin.ofNat 16 i))
  | _ => none

/-- The code of a domain state, in the order of 01 R18. -/
def DState.number : DState → Nat
  | .on => 0 | .poweringDown => 1 | .off => 2 | .poweringUp => 3

/-- What a domain's status field shows (01 R18, R19): the state, and PENDING_ENABLE in bit 27, where the status registers
have it (DEDUCED, log entry 72). -/
def DomSt.shown (e : DomSt) : Nat := e.st.number + b2n e.pendingEnable * 2 ^ 27

/-- OP_DOMAIN_SET (R464, 01 R18 to R21). -/
def hostDomain : HostFn := fun c s =>
  let target := leAt c.params 4 4
  match domOfObject (leAt c.params 0 4) with
  | none => refuse vDenied s
  | some none => refuse vBadParam s
  | some (some d) =>
    if 1 < target then refuse vBadParam s
    else
      let r := if target = 0 then domainEnable d s else domainOff d s
      let st : DomSt := match domKey d with | some k => r.1.dom k | none => {}
      { status := statusReply r.2, result := nums st.shown 4, state := r.1 }

/-- A reinstatement that is carried out at once or by its object. -/
def reinstated (r : RegName) (i j : Nat) (s : State) : HostRes :=
  { status := vOk, result := regResult r i j s, state := s }

/-- The reinstatement of a bank: its end is reported later (17 R559, R560). -/
def reinstateBank (c : HostCtx) (id : BankId) (r : RegName) (s : State) : HostRes :=
  match bankReinstate id s with
  | (0, s) => reinstated r id.idx 0 s
  | (1, s) => hostAccepted c 0x34 id.obj 0 0 s
  | (_, s) => refuse vBusy s

/-- OP_REINSTATE (R464, 17 R558). -/
def hostReinstate : HostFn := fun c s =>
  let w := leAt c.params 0 4
  let i := w % 2 ^ 24
  let bad := refuse vBadParam s
  match w / 2 ^ 24 with
  | 1 => if 768 ≤ i ∨ 9 ≤ i % 16 then bad else reinstated .laneLst (i / 16) (i % 16) (laneReinstate (i / 16) (i % 16) s)
  | 2 => if 36 ≤ i then bad else reinstated .nearChStatus i 0 (nearReinstate i s).2
  | 3 => if 16 ≤ i then bad else reinstated .cavePstatus i 0 (caveReinstate i s).2
  | 4 => if 144 ≤ i then bad else reinstated .nocRtrStatus i 0 (routerReinstate i s).2
  | 5 => if 128 ≤ i then bad else reinstated .qcStatus i 0 (coreReinstate i s).2
  | 6 => if 16 ≤ i then bad else reinstated .qcShstat i 0 (shadowReinstate i s).2
  | 7 => if 8192 ≤ i then bad else reinstateBank c (.block (Fin.ofNat 8192 i)) .membBpwr s
  | 8 => if 256 ≤ i then bad else reinstateBank c (.scratch (Fin.ofNat 256 i)) .membSpwr s
  | _ => refuse vDenied s

/-- OP_LOOKBACK (09 R300). -/
def hostLookback : HostFn := fun c s =>
  let r := lookbackPush ((List.range 8).map (fun i => leAt c.params (4 * i) 4)) s
  { status := statusReply r.2, result := regResult .nearLbStatus 0 0 r.1, state := r.1 }

/-! ### Flash (R467) -/

/-- OP_FLASH_READ. -/
def hostFlashRead : HostFn := fun c s =>
  let ofs := leAt c.params 0 4
  let len := leAt c.params 4 4
  if len = 0 ∨ 65536 < len ∨ flashSize < ofs + len then refuse vBadParam s
  else accessReply len .ok ((s.flashBytes ofs len).map BitVec.toNat) s

/-- The rights that a range of flash needs, each as a bit of R448; nothing where it touches the blotter ring. -/
def flashRights (ofs len : Nat) : Option Nat :=
  let meets (lo hi : Nat) : Bool := decide (ofs < hi) && decide (lo < ofs + len)
  if meets 0x01200000 0x02000000 then none
  else some (b2n (meets 0 0x00100000 || meets 0x02000000 flashSize) * 4 + b2n (meets 0x00100000 0x01200000) * 16)

/-- Why a change of flash is refused, if it is. -/
def flashRefusal (c : HostCtx) (ofs len : Nat) : Option Nat :=
  if flashSize < ofs + len then some vBadParam
  else match flashRights ofs len with
    | none => some vDenied
    | some m => if c.rights &&& m = m then none else some vDenied

/-- Program bytes: the flash clears bits only. The count programmed before the first byte that does not read back, and
the state; a slot state record that changes is one no longer. -/
def flashProgram (ofs : Nat) (data : List Byte) (s : State) : Nat × State :=
  let old := s.flashBytes ofs data.length
  let pairs := old.zip data
  let good := (pairs.takeWhile (fun x => x.1 &&& x.2 == x.2)).length
  let n := min data.length (good + 1)
  let new := (pairs.take n).map (fun x => x.1 &&& x.2)
  let changed := (List.range n).any (fun i => old[i]? != new[i]?)
  let hit (a : Nat) : Bool := decide (a < ofs + n) && decide (ofs < a + 32)
  let s := { s with flash := Tab.putList 0xFF s.flash ofs new }
  (good, if changed then s.modScm (fun m => { m with records := m.records.filter (fun e => !hit e.1) }) else s)

/-- OP_FLASH_WRITE. -/
def hostFlashWrite : HostFn := fun c s =>
  let ofs := leAt c.params 0 4
  let data := (c.params.drop 4).map (BitVec.ofNat 8)
  match flashRefusal c ofs data.length with
  | some st => refuse st s
  | none =>
    let r := flashProgram ofs data s
    { status := if r.1 = data.length then vOk else vFlash, result := nums r.1 4 ++ nums 0 4, state := r.2 }

/-- OP_FLASH_ERASE: the sectors are erased by its end (COMMAND_DONE). -/
def hostFlashErase : HostFn := fun c s =>
  let ofs := leAt c.params 0 4
  let n := leAt c.params 4 4
  if ofs % 65536 ≠ 0 ∨ n = 0 then refuse vBadParam s
  else match flashRefusal c ofs (n * 65536) with
    | some st => refuse st s
    | none => hostAccepted c 0x42 2 (ofs / 65536) n s

/-! ### Keys (R448, R449, R468, 10 R316) -/

/-- The 32-byte key that a wrapped key of 40 bytes holds. -/
def HostCtx.unwrap (c : HostCtx) (ofs : Nat) : Option (List Nat) :=
  Crypto.keyUnwrap c.wrap ((c.params.drop ofs).take 40)

/-- OP_KEY_LOAD (10 R316). -/
def hostKeyLoad : HostFn := fun c s =>
  let k := leAt c.params 0 4
  if k = 0 ∨ 32 ≤ k then refuse vBadParam s
  else if s.keyValid k then refuse vDenied s
  else match c.unwrap 4 with
    | none => refuse vDenied s
    | some key =>
      let s := loadKey k key s
      { status := vOk, result := regResult .xcrKcv k 0 s, state := s }

/-- OP_KEY_ERASE (10 R317). -/
def hostKeyErase : HostFn := fun c s =>
  let s := keyErase (leAt c.params 0 4) s
  { status := vOk, result := regResult .xcrKeyValid 0 0 s, state := s }

/-- An operator key slot. -/
def State.opKey (s : State) (n : Nat) : OpKey := Tab.get {} s.otp.ops n

/-- Write an operator key slot. -/
def State.setOpKey (s : State) (n : Nat) (k : OpKey) : State := { s with otp := { s.otp with ops := Tab.put {} s.otp.ops n k } }

/-- OP_OPKEY_ADD (R448); `ok`: the read-back agrees. -/
def hostOpkeyAdd (ok : Bool) : HostFn := fun c s =>
  let n := leAt c.params 0 4
  let rights := leAt c.params 4 4
  if n = 0 ∨ 16 ≤ n then refuse vBadParam s
  else if rights &&& c.rights ≠ rights ∨ (s.opKey n).st ≠ 0 ∨ s.otpWritable = false then refuse vDenied s
  else match c.unwrap 8 with
    | none => refuse vDenied s
    | some key =>
      if ok then { status := vOk, state := s.setOpKey n { st := 1, key := key, rights := rights } }
      else refuse vDenied (s.setOpKey n { st := 3 })

/-- Sessions end with their key: an OPEN one at once, a BUSY one with its reply (R452). -/
def keyGone (n : Nat) (s : State) : State :=
  (List.range 1024).foldl
    (fun s k =>
      let c := s.sess k
      if c.okey ≠ n ∨ c.st = 0 then s
      else if c.st = 1 then endSession k s
      else s.modSess k (fun x => { x with ending := true })) s

/-- OP_OPKEY_REVOKE (R448). -/
def hostOpkeyRevoke : HostFn := fun c s =>
  let n := leAt c.params 0 4
  if n = 0 ∨ 16 ≤ n then refuse vBadParam s
  else if (s.opKey n).st ≠ 1 ∨ s.otpWritable = false then refuse vDenied s
  else
    let s := (s.setOpKey n { s.opKey n with st := 2 }).raise .opkeyRevoked
    { status := vOk, state := keyGone n s }

/-- Set a bit of the key policy, in storage and in CFG_POLICY. -/
def State.setPolicy (s : State) (k : Nat) : State :=
  { s.setWord .cfgPolicy (s.word .cfgPolicy ||| BitVec.ofNat 32 (2 ^ k)) with
    otp := { s.otp with policy := s.otp.policy ||| 2 ^ k } }

/-- A one-time-programmable slot whose read-back fails. -/
def State.otpFailed (s : State) (k : Nat) : State := { s with otp := { s.otp with failed := s.otp.failed ++ [k] } }

/-- The answer that shows CFG_POLICY. -/
def policyReply (s : State) : HostRes := { status := vOk, result := regResult .cfgPolicy 0 0 s, state := s }

/-- OP_VKEY_WRITE (R468). -/
def hostVkeyWrite (ok : Bool) : HostFn := fun c s =>
  let n := leAt c.params 0 4
  let key := c.params.drop 4
  if 4 ≤ n ∨ key.take 8 ≠ [0, 0, 0, 7, 0, 0, 0, 4] then refuse vBadParam s
  else if s.otp.policy.testBit n = true ∨ s.otp.policy.testBit (4 + n) = true ∨ s.otp.failed.contains n = true
      ∨ s.otpWritable = false then refuse vDenied s
  else if ok then
    policyReply ({ s with otp := { s.otp with vks := Tab.put [] s.otp.vks n (key.map (BitVec.ofNat 8)) } }.setPolicy n)
  else refuse vDenied (s.otpFailed n)

/-- OP_VKEY_REVOKE. -/
def hostVkeyRevoke : HostFn := fun c s =>
  let n := leAt c.params 0 4
  if 4 ≤ n then refuse vBadParam s
  else if s.otp.policy.testBit n = false ∨ s.otp.policy.testBit (4 + n) = true ∨ s.otpWritable = false then refuse vDenied s
  else policyReply (s.setPolicy (4 + n))

/-- OP_FKEY_WRITE (R468). -/
def hostFkeyWrite (ok : Bool) : HostFn := fun c s =>
  let n := leAt c.params 0 4
  if 4 ≤ n then refuse vBadParam s
  else if s.otp.policy.testBit (8 + n) = true ∨ s.otp.failed.contains (4 + n) = true ∨ s.otpWritable = false then
    refuse vDenied s
  else match c.unwrap 4 with
    | none => refuse vDenied s
    | some key =>
      if ok then
        policyReply ({ s with otp := { s.otp with fks := Tab.put [] s.otp.fks n (key.map (BitVec.ofNat 8)) } }.setPolicy (8 + n))
      else refuse vDenied (s.otpFailed (4 + n))

/-- OP_POLICY_SET: only require_enc, which cannot be undone (R468). -/
def hostPolicySet (ok : Bool) : HostFn := fun c s =>
  let v := leAt c.params 0 4
  if v ≠ 0 ∧ v ≠ 0x10000 then refuse vBadParam s
  else if v = 0 then policyReply s
  else if s.otp.policy.testBit 16 = true ∨ s.otpWritable = false then refuse vDenied s
  else if ok then policyReply (s.setPolicy 16)
  else refuse vDenied s

/-! ### Sceum opcodes (15 R511) -/

/-- OP_SENSOR_READ. -/
def hostSensorRead : HostFn := fun _ s =>
  { status := vOk, state := s
    result := nums s.scm.round 8 ++ regResult .scmBrokenLo 0 0 s ++ regResult .scmBrokenHi 0 0 s
      ++ ((List.range 128).map (fun k => regResult .scmCh k 0 s)).flatten }

/-- The answer that shows SCM_STATUS. -/
def scmReply (s : State) : HostRes := { status := vOk, result := regResult .scmStatus 0 0 s, state := s }

/-- OP_SENSOR_REINSTATE (15 R491). -/
def hostSensorReinstate : HostFn := fun c s =>
  let k := leAt c.params 0 4
  if 48 ≤ k then refuse vBadParam s
  else scmReply (if s.brokenSensor k then sensorReinstate k s else s)

/-- OP_TRIP_CLEAR (15 R490): refused while a sensor was at 100.0 °C or more in the last round. -/
def hostTripClear : HostFn := fun _ s =>
  if (List.range 48).any (fun k => decide (1600 ≤ s.temp k)) then refuse vDenied s
  else if s.bit F.scmStatusTrip then
    scmReply { (s.clear F.scmStatusTrip).blot 0xC01 0 0 with txTripped := false }
  else scmReply s

/-- OP_CAL_READ. -/
def hostCalRead : HostFn := fun _ s =>
  { status := vOk, state := s, result := regResult .scmCalcnt 0 0 s ++ regResult .scmStatus 0 0 s ++ nums s.scm.calStamp 8 }

/-- A self-test result (15 R498). -/
def failBytes (f : SelfFail) : List Nat :=
  [f.block % 256, f.phase % 256, 0, 0] ++ nums f.index 4 ++ nums f.place 4 ++ nums f.bit 4

/-- OP_SELFTEST_READ. -/
def hostSelftestRead : HostFn := fun c s =>
  let count := leAt c.params 4 4
  if count = 0 ∨ 512 < count then refuse vBadParam s
  else
    let due := (s.scm.results.drop (leAt c.params 0 4)).take count
    { status := vOk, state := s, result := nums due.length 4 ++ nums s.scm.results.length 4 ++ (due.map failBytes).flatten }

/-- A spare-block entry is applied in service (15 R500): the bank's spare is to copy it, the router is to take its spare
crossbar. -/
def repairNow (s : State) (e : RepairEntry) : State :=
  if e.kind ≠ 3 then s
  else if e.block = 9 then (if s.bit F.nocRtrStatusSpareXbar e.index then s else latchDrain e.index .crossbar s)
  else
    let id := bankOf e.block e.index
    if s.spareSt id = 0 ∧ s.bankRetired id = false then s.modBank id (fun b => { b with faulty := true }) else s

/-- A spare-block entry is still being applied. -/
def repairPending (s : State) (e : RepairEntry) : Bool :=
  e.kind == 3 &&
    (if e.block = 9 then s.noc.latched.contains (e.index, .crossbar) || s.noc.active == some (e.index, .crossbar)
     else (s.bank (bankOf e.block e.index)).faulty || s.spareFor (bankOf e.block e.index) 1)

/-- OP_REPAIR_APPLY (15 R500). -/
def hostRepair : HostFn := fun c s =>
  let m := repairMap s
  hostAccepted c 0x65 3 0 0 (m.1.foldl repairNow m.2)

/-- Records that are held from a number on, at most `n`. -/
def blotFrom (s : State) (num : Nat) : Nat → List (List Byte)
  | 0 => []
  | n + 1 =>
    match s.blotRecord (num % 2 ^ 32) with
    | some r => r :: blotFrom s (num + 1) n
    | none => []

/-- The number of the oldest blotter record held: in the ring the first one after the write position, else the buffer's. -/
def State.blotOldest (s : State) : Nat :=
  let used := s.usedSlots (blotAt 0) (blotAt ringSlots) 32
  let order := used.filter (fun k => decide (s.log.pos ≤ k)) ++ used.filter (fun k => decide (k < s.log.pos))
  match (order.map (fun k => s.flashBytes (blotAt k) 32)).find? validRecord with
  | some r => ofBytes (r.take 4)
  | none => (s.get F.scmBlotNextVal + 2 ^ 32 - s.log.buffer.length) % 2 ^ 32

/-- OP_BLOTTER_READ (15 R502). -/
def hostBlotter : HostFn := fun c s =>
  let first := leAt c.params 0 4
  let count := leAt c.params 4 4
  if count = 0 ∨ 256 < count then refuse vBadParam s
  else
    let oldest := s.blotOldest
    let from_ := if (first + 2 ^ 32 - oldest) % 2 ^ 32 < 2 ^ 31 then first else oldest
    let due := blotFrom s from_ count
    { status := vOk, state := s, result := nums due.length 4 ++ nums oldest 4 ++ (due.flatten.map BitVec.toNat) }

/-- OP_FW_ACTIVATE (15 R507). -/
def hostFwActivate : HostFn := fun c s =>
  let slot := leAt c.params 0 4
  if 2 ≤ slot then refuse vBadParam s
  else if s.fwVerifies slot = false then refuse vDenied s
  else
    let seq (k : Nat) : Nat := match s.slotState k with | some r => r.1 | none => 0
    let s := appendState slot (max (seq 0) (seq 1) + 1, 0, 0) s
    let s := (s.blot 0xC05 0 slot).modScm (fun m => { m with restartDue := some 1, activating := some slot })
    hostAccepted c 0x67 fwObject 0 0 s

/-- OP_FW_CONFIRM (15 R507): the running trial slot is GOOD, and the least security version rises to its image's, in at
most 32 steps. -/
def hostFwConfirm : HostFn := fun _ s =>
  let slot := s.get F.scmFwSlotB
  let v := s.get F.scmFwSecver
  let raise := decide (s.otp.fwMin < v) && decide (s.otp.fwSteps < 32)
  let shown (s : State) : HostRes := { status := vOk, result := regResult .scmFw 0 0 s, state := s }
  if s.bit F.scmFwTrial = false then shown s
  else if raise ∧ s.otpWritable = false then refuse vDenied s
  else
    let r := (s.slotState slot).getD (0, 0, 0)
    let s := (appendState slot (r.1, 1, r.2.2) s).clear F.scmFwTrial
    let s := if raise then { s with otp := { s.otp with fwMin := v, fwSteps := s.otp.fwSteps + 1 } } else s
    shown (s.blot 0xC06 0 slot)

/-- OP_FW_STATUS. -/
def hostFwStatus : HostFn := fun _ s =>
  let part (slot : Nat) : List Nat :=
    (List.range 32).map (fun i =>
      Config.fwStatusByte (s.slotState slot) (s.flashNum (fwBase slot + 8) 4) (s.fwVersion slot) i % 256)
  { status := vOk, result := part 0 ++ part 1 ++ nums s.otp.fwMin 4, state := s }

/-- Bytes written to a core's memory. -/
def coreImage (base : Nat) (bs : List Byte) (s : State) : State :=
  (memWrite .sceum false (bs.length / 4096 + 2) base bs s).state

/-- OP_QUILL_LOAD (15 R512). -/
def hostQuillLoad : HostFn := fun c s =>
  let mask := leAt c.params 0 16
  let addr := leAt c.params 16 8
  let ilen := leAt c.params 24 4
  let dlen := leAt c.params 28 4
  let cores := (List.range 128).filter (fun n => mask.testBit n)
  if 32768 < ilen ∨ 32768 < dlen then refuse vBadParam s
  else match memRefusal addr with
    | some st => refuseAddr addr st s
    | none =>
      if cores.any (fun n => s.qSt n != .held) then refuse vDenied s
      else
        let r := ethRead .host [] false addr (ilen + dlen) s ((ilen + dlen) / 4096 + 2)
        match r.status with
        | .ok =>
          let one (s : State) (n : Nat) : State :=
            let a := 0x20000000 + 0x10000 * n
            coreImage (a + 0x8000) (r.data.drop ilen) (coreImage a (r.data.take ilen) s)
          let s := cores.foldl one r.state
          let s := if (leAt c.params 32 4).testBit 0 then cores.foldl (fun s n => coreRelease n s) s else s
          { status := vOk, result := nums mask 16, state := s }
        | .fault => { status := vAborted, result := nums 0 16, state := r.state }
        | _ => { status := vMem, result := nums 0 16, state := r.state }

/-- Open the next block of leaves whose bit reads back; one that does not is skipped (15 R509). `n` bounds the search. -/
def openBlock (s : State) : Nat → Option Nat × State
  | 0 => (none, s)
  | n + 1 =>
    let left := s.get F.scmLeafBlocks
    if left = 0 then (none, s)
    else
      let b := 1024 - left
      let s := (s.put F.scmLeafBlocks (left - 1)).put F.scmLeafLeaves 0
      let s := { s with otp := { s.otp with leafBlocks := s.otp.leafBlocks + 1 } }
      let s := if left = 9 then s.raise .scmLeafLow 0 8 else s
      if Config.leafBlockBad b then openBlock s n else (some b, s.modScm (fun m => { m with leafBlock := some b }))

/-- Take the next leaf: its index, nothing when none is left. -/
def takeLeaf (s : State) : Option Nat × State :=
  let r := match s.scm.leafBlock with | some b => (some b, s) | none => openBlock s 1024
  match r.1 with
  | none => (none, r.2)
  | some b =>
    let used := r.2.get F.scmLeafLeaves
    let s := r.2.put F.scmLeafLeaves (used + 1)
    (some (b * 1024 + used), if used = 1023 then s.modScm (fun m => { m with leafBlock := none }) else s)

/-- The report that an attestation signs (15 R510). -/
def attestReport (leaf : Nat) (nonce : List Nat) (s : State) : List Nat :=
  nums 0xB5F0A770 4 ++ regResult .cfgId 0 0 s ++ nums s.serial 8 ++ nums s.scm.release 4
    ++ (s.scm.image ++ List.replicate 32 0).take 32 ++ regResult .cfgBuildLo 0 0 s ++ regResult .cfgBuildHi 0 0 s
    ++ regResult .cfgPolicy 0 0 s ++ nums s.pt 8 ++ nums s.stamp 8 ++ nums leaf 4 ++ nums s.log.powerOns 4 ++ nonce ++ nums 0 8

/-- OP_ATTEST (15 R509, R510). -/
def hostAttest : HostFn := fun c s =>
  match spend 10 10 s.pt s.host.signUse with
  | none => refuse vBusy s
  | some u =>
    if s.scm.leafBlock = none ∧ s.get F.scmLeafBlocks ≠ 0 ∧ s.otpWritable = false then refuse vDenied s
    else match takeLeaf s with
      | (none, s) => refuse vKeyExhausted s
      | (some leaf, s) =>
        let report := attestReport leaf c.params s
        let sign := (List.range 2828).map (fun i => Config.signByte leaf report i % 256)
        { status := vOk, result := report ++ sign, state := { s with host := { s.host with signUse := u } } }

/-- OP_IDENTITY (15 R508). -/
def hostIdentity : HostFn := fun _ s =>
  let open_ := match s.scm.leafBlock with | some _ => 1024 - s.get F.scmLeafLeaves | none => 0
  { status := vOk, state := s
    result := (List.range 56).map (fun i => Config.identityByte i % 256) ++ nums (1024 * s.get F.scmLeafBlocks + open_) 4 }

/-- What an opcode that may be relayed does (18 R577); the one-time-programmable ones are never relayed. -/
def hostFn (op : Nat) : Option HostFn :=
  match op with
  | 0x03 => some hostPing
  | 0x07 => some hostEvents
  | 0x10 => some hostInfo
  | 0x11 => some hostSnap
  | 0x20 => some hostRegRead
  | 0x21 => some hostRegWrite
  | 0x22 => some hostMemRead
  | 0x23 => some hostMemWrite
  | 0x30 => some hostFolioLoad
  | 0x31 => some hostHoopLoad
  | 0x32 => some hostHoopCmd
  | 0x33 => some hostDomain
  | 0x34 => some hostReinstate
  | 0x35 => some hostLookback
  | 0x40 => some hostFlashRead
  | 0x41 => some hostFlashWrite
  | 0x42 => some hostFlashErase
  | 0x60 => some hostSensorRead
  | 0x61 => some hostSensorReinstate
  | 0x62 => some hostTripClear
  | 0x63 => some hostCalRead
  | 0x64 => some hostSelftestRead
  | 0x65 => some hostRepair
  | 0x66 => some hostBlotter
  | 0x67 => some hostFwActivate
  | 0x68 => some hostFwConfirm
  | 0x69 => some hostFwStatus
  | 0x6A => some hostQuillLoad
  | 0x6B => some hostAttest
  | 0x6C => some hostIdentity
  | _ => none

end Sys2Proof.Machine
end

