-- ==== Sys2Proof/Machine/Host.lean ====
section
/-!
DEFINITION. The Ethernet block (14): packets and control frames received, the active port, sessions, requests and their
replies, ends of commands, data streams; and commands relayed through the cascade (18 R576 to R578).
-/
namespace Sys2Proof.Machine

/-! ### Frames received (R441 to R446, R477) -/

/-- A frame is dropped and counted. -/
def ethDropped (s : State) : State := s.bump F.ethCnt0Dropped

/-- A frame that uses an unsupported feature (R443). -/
def ethUnsupported (s : State) : State := (ethDropped s).flag F.ethErrUnsupported

/-- A limit is reached and the frame is dropped (R477). -/
def ethLimited (s : State) : State := (ethDropped s).flag F.ethErrRate

/-- A packet fails authentication (R446). -/
def ethAuthFail (s : State) : State := (s.bump F.ethCnt0AuthFail).flag F.ethErrAuthFail

/-- The MTU in force (ETH_NET). -/
def State.mtu (s : State) : Nat := min 9000 (max 1500 (s.get F.ethNetMtu))

/-- A UDP packet uses supported features only: MTU, VLAN, correct checksum (R443). -/
def State.supported (s : State) (p : VcpPacket) : Bool :=
  p.plain && p.vlan == s.get F.ethNetVlan && decide (p.bytes.length + (if p.peer.v6 then 48 else 28) ≤ s.mtu)

/-- An address is the device's. -/
def State.ownAddress (s : State) (v6 : Bool) (a : Nat) : Bool := (if v6 then s.ip6s else s.ip4s).contains a

/-- Fields of a request (R445). -/
structure ReqHead where
  relay : Nat
  id : Nat
  seq : Nat
  code : Nat
  payload : List Nat
  tag : List Nat
  /-- The refusal of R447: E_TOO_BIG, E_BAD_PACKET, or 0. -/
  bad : Nat
  deriving DecidableEq, Repr

/-- The fields of a packet that is well formed, with magic, version and kind of a request; nothing otherwise (R446). -/
def requestHead (b : List Nat) : Option ReqHead :=
  let n := b.length
  if n < 64 ∨ leAt b 0 4 ≠ 0xB5F06C01 ∨ leAt b 4 1 ≠ 1 ∨ leAt b 5 1 ≠ 0 then none
  else
    let relay := leAt b 7 1
    let total := leAt b 24 4
    let wrong := leAt b 6 1 / 2 ≠ 0 ∨ relay / 16 % 8 ≠ 0 ∨ leAt b 20 2 ≠ 0 ∨ leAt b 22 2 ≠ 1 ∨ leAt b 28 4 ≠ 0 ∨ total ≠ n - 64
    some
      { relay := relay, id := leAt b 8 4, seq := leAt b 12 4, code := leAt b 16 2
        payload := (b.drop 48).take (n - 64), tag := b.drop (n - 16)
        bad := if 8192 < total then vTooBig else if wrong then vBadPacket else 0 }

/-- The tag of a packet under a key (R446). -/
def packetTag (key : List Nat) (b : List Nat) : List Nat := (Crypto.hmac key (b.take (b.length - 16))).take 16

/-- An OPEN request (R446, R450, R477): authenticated under the operator key it names, it waits for a slot. -/
def openReceived (h : ReqHead) (b : List Nat) (from_ : Peer) (s : State) : State :=
  let okey := leAt h.payload 0 1
  if h.payload.isEmpty = true ∨ 16 ≤ okey ∨ (s.opKey okey).st ≠ 1 ∨ packetTag (s.opKey okey).key b ≠ h.tag then ethAuthFail s
  else match spend 64 64 s.pt s.host.openUse with
    | none => ethLimited s
    | some u =>
      let r : OpenReq := { okey := okey, params := h.payload, tag := h.tag, seq := h.seq, peer := from_, bad := h.bad }
      { s with host := { s.host with openUse := u, opens := s.host.opens ++ [r] } }

/-- A new request of an OPEN session is accepted (R453, R454): refused at once under R447 or for an unknown opcode, or BUSY
and waiting for its turn. -/
def acceptRequest (k : Nat) (h : ReqHead) (s : State) : State :=
  let s := s.modSess k (fun c =>
    { c with last := h.seq, tag := h.tag, op := h.code, relay := h.relay, params := h.payload, requests := c.requests + 1
             first := false, stored := [], resend := [], st := 2 })
  if h.bad ≠ 0 then storeReply k h.bad [] s
  else if h.code = 1 then storeReply k vBadPacket [] s
  else if (opRights h.code).isNone then storeReply k vBadOpcode [] s
  else { s with host := { s.host with order := s.host.order ++ [k] } }

/-- An OP_REPLY_RESEND of an OPEN session (R455). -/
def resendReceived (k : Nat) (h : ReqHead) (s : State) : State :=
  if h.bad ≠ 0 then replyUnstored k h.seq h.code h.bad h.relay s
  else if h.payload.length ≠ 32 then replyUnstored k h.seq h.code vBadParam h.relay s
  else s.modSess k (fun c => { c with resend := c.resend ++ [h.payload] })

/-- The sequence rule (R453). -/
def sequenced (k : Nat) (h : ReqHead) (s : State) : State :=
  let c := s.sess k
  if h.seq = (c.last + 1) % 2 ^ 32 ∧ h.code ≠ 4 then
    if c.st = 1 then acceptRequest k h s else ethDropped s
  else if h.seq = c.last ∧ h.code = 4 then
    if c.st = 1 then resendReceived k h s else s
  else if h.seq = c.last ∧ h.tag = c.tag then
    let s := s.bump F.ethCnt1Duplicates
    if c.st = 1 then sendAll c.peer c.stored s else s
  else replyUnstored k h.seq h.code vSequence h.relay (s.flag F.ethErrSequence)

/-- An authenticated request of a session (R444, R452, R477). -/
def sessionReceived (k : Nat) (h : ReqHead) (from_ : Peer) (s : State) : State :=
  let s := s.modSess k (fun c => { c with peer := from_, idleFrom := if c.st = 1 then s.pt else c.idleFrom })
  let sess := max 1 (s.get F.ethRateSess)
  let dev := 10 * max 1 (s.get F.ethRateDev)
  match spend sess 32 s.pt (s.sess k).reqUse, spend dev dev s.pt s.host.reqUse with
  | some u, some v =>
    let s := s.modSess k (fun c => { c with reqUse := u })
    sequenced k h { s with host := { s.host with reqUse := v } }
  | _, _ => replyUnstored k h.seq h.code vRate h.relay ((s.bump F.ethCnt1Rate).flag F.ethErrRate)

/-- A UDP packet for the VCP port (R446). -/
def vcpReceived (b : List Nat) (from_ : Peer) (s : State) : State :=
  match requestHead b with
  | none => ethAuthFail s
  | some h =>
    if h.id = 0 ∧ h.code = 1 then openReceived h b from_ s
    else
      let k := h.id % 1024
      let c := s.sess k
      if c.st = 0 ∨ s.sessId k ≠ h.id ∨ packetTag c.key b ≠ h.tag then ethAuthFail s
      else sessionReceived k h from_ s

/-- The port receives: not while the device is held in reset, nor while the boundary register owns the pins. -/
def State.ethReceives (s : State) : Bool := !s.clk.held && !s.extest

/-- VCP_PACKET_RX (R441, R443, R445, R446): while EPLL is unlocked, frames are lost and counted (16 R526). -/
def execVcpPacketRx (pkt : VcpPacket) (s : State) : Out :=
  .next <|
    if s.ethReceives = false then s
    else if s.clk.epllLost ∨ pkt.eth ≠ s.bit F.ethStatusActive then ethDropped s
    else if s.supported pkt = false then ethUnsupported s
    else if s.ownAddress pkt.peer.v6 pkt.dst ∧ pkt.dport = s.get F.ethUdpVal then
      vcpReceived (pkt.bytes.map BitVec.toNat) pkt.peer s
    else s

/-- NETWORK_CONTROL_FRAME (R441, R443, R477): answered when it asks for an address of the device. -/
def execNetworkControlFrame (frame : CtlFrame) (s : State) : Out :=
  .next <|
    if s.ethReceives = false then s
    else if s.clk.epllLost ∨ frame.eth ≠ s.bit F.ethStatusActive then ethDropped s
    else
      let v6 : Option Bool := match frame.kind with
        | .arp => some false
        | .icmp => some false
        | .neighbour => some true
        | .icmp6 => some true
        | .unsupported => none
      match v6 with
      | none => ethUnsupported s
      | some v =>
        if s.ownAddress v frame.dst then
          match spend 100 100 s.pt s.host.ctlUse with
          | none => ethLimited s
          | some u => sendCtl frame.kind true frame.peer { s with host := { s.host with ctlUse := u } }
        else s

/-! ### Ports (R441, R442) -/

/-- A port has PCS block lock. -/
def State.ethLock (s : State) (port : Bool) : Bool := if port then s.bit F.ethStatusLink1 else s.bit F.ethStatusLink0

/-- PCS_BLOCK_LOCK_CHANGE (R442): there is no block lock while EPLL is unlocked (16 R526). -/
def execPcsBlockLockChange (port : Fin 2) (locked : Bool) (s : State) : Out :=
  .next (s.putBit (if port = 0 then F.ethStatusLink0 else F.ethStatusLink1) (locked && !s.clk.epllLost))

/-- ETH_FAILOVER (R442): the active port has been without block lock for 10 ms and the standby port has it; while EPLL is
unlocked neither has (16 R526). -/
def execEthFailover (s : State) : Out :=
  .next <|
    let port := s.bit F.ethStatusActive
    if s.bit F.ethCtrlAuto = true ∧ s.ethLock port = false ∧ s.ethLock (!port) = true then ethSwitch (!port) s else s

/-- ETH_ACTIVE_WRITE (R442). -/
def execEthActiveWrite (v : Bool) (s : State) : Out := reply (ethActiveWrite v s, .ok)

/-! ### Sessions (R449 to R452) -/

/-- SESSION_IDLE_TIMEOUT (R452). -/
def execSessionIdleTimeout (slot : Fin 1024) (s : State) : Out :=
  .next (if (s.sess slot).st = 1 then endSession slot s else s)

/-- SESSION_FIRST_REQUEST_TIMEOUT (R452): no request within 5 s of the OPEN reply. -/
def execSessionFirstRequestTimeout (slot : Fin 1024) (s : State) : Out :=
  .next (if (s.sess slot).st = 1 ∧ (s.sess slot).first = true then endSession slot s else s)

/-- The refusal of an OPEN, tagged under the operator key (R450). -/
def openRefused (r : OpenReq) (status : Nat) (s : State) : State :=
  s.sendVcp r.peer (s.vcpBytes (s.opKey r.okey).key 1 0 0 0 r.seq 1 status 0 1 0 0 [])

/-- The session awaiting its first request that an OPEN repeats (R450). -/
def State.openTwin (s : State) (r : OpenReq) : Option Nat :=
  (List.range 1024).find? (fun k =>
    let c := s.sess k
    c.st == 1 && c.first && c.okey == r.okey && c.nonce == (r.params.drop 12).take 16)

/-- `n` bytes of the Sceum random source: free values. -/
def randomBytes (s : State) : Nat → List Nat × State
  | 0 => ([], s)
  | n + 1 =>
    let b := s.fresh 8
    let r := randomBytes b.2 n
    (b.1 :: r.1, r.2)

/-- ASCII bytes. -/
def ascii (t : String) : List Nat := t.toList.map Char.toNat

/-- A session opens in a FREE slot (R449, R451, R452). -/
def openSession (k : Nat) (r : OpenReq) (s : State) : State :=
  let p := r.params
  let op := s.opKey r.okey
  let gen := if ((s.sess k).gen + 1) % 2 ^ 22 = 0 then 1 else ((s.sess k).gen + 1) % 2 ^ 22
  let idle := if leAt p 8 4 = 0 then 60 else leAt p 8 4
  let window := min (min (leAt p 4 2) (s.mtu - 48)) 8256
  let nonce := (p.drop 12).take 16
  let d := randomBytes s 16
  let s := d.2
  let id := gen * 1024 + k
  let key := Crypto.hmac op.key (ascii "VCP1" ++ nonce ++ d.1 ++ nums id 4)
  let s := s.modSess k (fun _ =>
    { gen := gen, st := 2, okey := r.okey, rights := op.rights, data := (leAt p 0 4).testBit 8, window := window
      idle := idle, first := true, nonce := nonce, key := key, peer := r.peer, last := 0, tag := r.tag, op := 1 })
  storeReply k vOk (nums op.rights 4 ++ nums window 4 ++ nums idle 4 ++ d.1 ++ regResult .cfgId 0 0 s) s

/-- OP_SESSION_OPEN (R449, R450): the oldest OPEN request that waits is answered, in a FREE slot. -/
def execOpSessionOpen (slot : Fin 1024) (s : State) : Out :=
  .next <|
    match s.host.opens with
    | [] => s
    | r :: rest =>
      let done : State := { s with host := { s.host with opens := rest } }
      if (s.opKey r.okey).st ≠ 1 then ethAuthFail done
      else if r.bad ≠ 0 then openRefused r r.bad done
      else if r.params.length ≠ 32 then openRefused r vBadParam done
      else match s.openTwin r with
        | some k => sendAll r.peer (s.sess k).stored (done.bump F.ethCnt1Duplicates)
        | none =>
          if leAt r.params 28 4 ≠ 0 then openRefused r vBadPacket done
          else if leAt r.params 4 2 < 1024 ∨ 3600 < leAt r.params 8 4 then openRefused r vBadParam done
          else if (List.range 1024).all (fun k => (s.sess k).st != 0) = true then openRefused r vSessionLimit done
          else if (s.sess slot).st ≠ 0 then s
          else openSession slot r done

/-! ### Commands (R453 to R457, 18 R576 to R578) -/

/-- A BUSY session's command is to be carried out now: it is among the 16 at work, and is not out with a member (R456). Sceum, which
some opcodes need, has its clock (16 R526). -/
def State.commandDue (s : State) (op k : Nat) : Bool :=
  let c := s.sess k
  c.st == 2 && c.op == op && (s.host.order.take 16).contains k
    && !s.casc.relays.any (fun r => r.slot == k && r.id == s.sessId k && !r.accepted) && !s.clk.held
    && (!needsSceum op || s.mgmtClocked)

/-- Opcodes that the device carries out itself whatever the relay byte (18 R577). -/
def relayIgnored (op : Nat) : Bool := [0x01, 0x02, 0x04, 0x05, 0x06].contains op

/-- The member that a request is to be relayed to (18 R576, R577): none for this device's own. -/
def State.relayTo (s : State) (k : Nat) : Option Nat :=
  let c := s.sess k
  let m := c.relay % 16
  if c.relay < 128 ∨ relayIgnored c.op = true ∨ m = s.cascMember then none else some m

/-- A request is relayed by the master, or refused (18 R576 to R578). -/
def relayRequest (k m : Nat) (s : State) : State :=
  let c := s.sess k
  let right := match opRights c.op with | some r => r == 0 || c.rights &&& r != 0 | none => false
  if s.cascSt ≠ .master then storeReply k vBadParam [] s
  else if right = false ∨ opRights c.op = some 8 then storeReply k vDenied [] s
  else if (s.cascRoute m).isNone then storeReply k vBadParam [] s
  else if 16 ≤ s.casc.relays.length then storeReply k vBusy [] s
  else
    let tag := s.casc.nextTag
    let r : Relay := { tag := tag, member := m, slot := k, id := s.sessId k, seq := c.last, op := c.op }
    let s := s.modCasc (fun x => { x with relays := x.relays ++ [r], nextTag := (tag + 1) % 65536 })
    cascSend 1 m tag (beWord (c.rights % 32 * 2 ^ 16 + c.op) ++ [0, 0, 0, 0] ++ c.params) s

/-- The context of a session's command; keys come wrapped under the session's wrapping key (R449). -/
def State.sessionCtx (s : State) (k : Nat) : HostCtx :=
  let c := s.sess k
  { rights := c.rights, params := c.params, slot := some k, wrap := Crypto.hmac c.key (ascii "VCP1 WRAP")
    origin := .session (Fin.ofNat 1024 k) (s.sessId k) c.last }

/-- A session's command is carried out and its reply stored and sent, or it is relayed. -/
def hostCommand (op : Nat) (f : HostFn) (k : Nat) (s : State) : Out :=
  .next <|
    if s.commandDue op k then
      match s.relayTo k with
      | some m => relayRequest k m s
      | none =>
        let r := guarded op f (s.sessionCtx k) s
        storeReply k r.status r.result r.state
    else s

/-- OP_SESSION_CLOSE. -/
def execOpSessionClose (slot : Fin 1024) (s : State) : Out := hostCommand 0x02 hostClose slot s
/-- OP_PING. -/
def execOpPing (slot : Fin 1024) (s : State) : Out := hostCommand 0x03 hostPing slot s
/-- OP_SESSION_LIST. -/
def execOpSessionList (slot : Fin 1024) (s : State) : Out := hostCommand 0x05 hostList slot s
/-- OP_EVENT_SUBSCRIBE. -/
def execOpEventSubscribe (slot : Fin 1024) (s : State) : Out := hostCommand 0x06 hostSubscribe slot s
/-- OP_EVENT_READ. -/
def execOpEventRead (slot : Fin 1024) (s : State) : Out := hostCommand 0x07 hostEvents slot s
/-- OP_DEVICE_INFO. -/
def execOpDeviceInfo (slot : Fin 1024) (s : State) : Out := hostCommand 0x10 hostInfo slot s
/-- OP_TIME_SNAP. -/
def execOpTimeSnap (slot : Fin 1024) (s : State) : Out := hostCommand 0x11 hostSnap slot s
/-- OP_REG_READ. -/
def execOpRegRead (slot : Fin 1024) (s : State) : Out := hostCommand 0x20 hostRegRead slot s
/-- OP_REG_WRITE. -/
def execOpRegWrite (slot : Fin 1024) (s : State) : Out := hostCommand 0x21 hostRegWrite slot s
/-- OP_MEM_READ. -/
def execOpMemRead (slot : Fin 1024) (s : State) : Out := hostCommand 0x22 hostMemRead slot s
/-- OP_MEM_WRITE. -/
def execOpMemWrite (slot : Fin 1024) (s : State) : Out := hostCommand 0x23 hostMemWrite slot s
/-- OP_FOLIO_LOAD. -/
def execOpFolioLoad (slot : Fin 1024) (s : State) : Out := hostCommand 0x30 hostFolioLoad slot s
/-- OP_HOOP_LOAD. -/
def execOpHoopLoad (slot : Fin 1024) (s : State) : Out := hostCommand 0x31 hostHoopLoad slot s
/-- OP_HOOP_CMD. -/
def execOpHoopCmd (slot : Fin 1024) (s : State) : Out := hostCommand 0x32 hostHoopCmd slot s
/-- OP_DOMAIN_SET. -/
def execOpDomainSet (slot : Fin 1024) (s : State) : Out := hostCommand 0x33 hostDomain slot s
/-- OP_REINSTATE. -/
def execOpReinstate (slot : Fin 1024) (s : State) : Out := hostCommand 0x34 hostReinstate slot s
/-- OP_LOOKBACK. -/
def execOpLookback (slot : Fin 1024) (s : State) : Out := hostCommand 0x35 hostLookback slot s
/-- OP_FLASH_READ. -/
def execOpFlashRead (slot : Fin 1024) (s : State) : Out := hostCommand 0x40 hostFlashRead slot s
/-- OP_FLASH_WRITE. -/
def execOpFlashWrite (slot : Fin 1024) (s : State) : Out := hostCommand 0x41 hostFlashWrite slot s
/-- OP_FLASH_ERASE. -/
def execOpFlashErase (slot : Fin 1024) (s : State) : Out := hostCommand 0x42 hostFlashErase slot s
/-- OP_KEY_LOAD. -/
def execOpKeyLoad (slot : Fin 1024) (s : State) : Out := hostCommand 0x50 hostKeyLoad slot s
/-- OP_KEY_ERASE. -/
def execOpKeyErase (slot : Fin 1024) (s : State) : Out := hostCommand 0x51 hostKeyErase slot s
/-- OP_OPKEY_ADD; `ok`: the read-back of the slot agrees. -/
def execOpOpkeyAdd (slot : Fin 1024) (ok : Bool) (s : State) : Out := hostCommand 0x52 (hostOpkeyAdd ok) slot s
/-- OP_OPKEY_REVOKE. -/
def execOpOpkeyRevoke (slot : Fin 1024) (s : State) : Out := hostCommand 0x53 hostOpkeyRevoke slot s
/-- OP_VKEY_WRITE. -/
def execOpVkeyWrite (slot : Fin 1024) (ok : Bool) (s : State) : Out := hostCommand 0x54 (hostVkeyWrite ok) slot s
/-- OP_VKEY_REVOKE. -/
def execOpVkeyRevoke (slot : Fin 1024) (s : State) : Out := hostCommand 0x55 hostVkeyRevoke slot s
/-- OP_FKEY_WRITE. -/
def execOpFkeyWrite (slot : Fin 1024) (ok : Bool) (s : State) : Out := hostCommand 0x56 (hostFkeyWrite ok) slot s
/-- OP_POLICY_SET. -/
def execOpPolicySet (slot : Fin 1024) (ok : Bool) (s : State) : Out := hostCommand 0x57 (hostPolicySet ok) slot s
/-- OP_SENSOR_READ. -/
def execOpSensorRead (slot : Fin 1024) (s : State) : Out := hostCommand 0x60 hostSensorRead slot s
/-- OP_SENSOR_REINSTATE. -/
def execOpSensorReinstate (slot : Fin 1024) (s : State) : Out := hostCommand 0x61 hostSensorReinstate slot s
/-- OP_TRIP_CLEAR. -/
def execOpTripClear (slot : Fin 1024) (s : State) : Out := hostCommand 0x62 hostTripClear slot s
/-- OP_CAL_READ. -/
def execOpCalRead (slot : Fin 1024) (s : State) : Out := hostCommand 0x63 hostCalRead slot s
/-- OP_SELFTEST_READ. -/
def execOpSelftestRead (slot : Fin 1024) (s : State) : Out := hostCommand 0x64 hostSelftestRead slot s
/-- OP_REPAIR_APPLY. -/
def execOpRepairApply (slot : Fin 1024) (s : State) : Out := hostCommand 0x65 hostRepair slot s
/-- OP_BLOTTER_READ. -/
def execOpBlotterRead (slot : Fin 1024) (s : State) : Out := hostCommand 0x66 hostBlotter slot s
/-- OP_FW_ACTIVATE. -/
def execOpFwActivate (slot : Fin 1024) (s : State) : Out := hostCommand 0x67 hostFwActivate slot s
/-- OP_FW_CONFIRM. -/
def execOpFwConfirm (slot : Fin 1024) (s : State) : Out := hostCommand 0x68 hostFwConfirm slot s
/-- OP_FW_STATUS. -/
def execOpFwStatus (slot : Fin 1024) (s : State) : Out := hostCommand 0x69 hostFwStatus slot s
/-- OP_QUILL_LOAD. -/
def execOpQuillLoad (slot : Fin 1024) (s : State) : Out := hostCommand 0x6A hostQuillLoad slot s
/-- OP_ATTEST. -/
def execOpAttest (slot : Fin 1024) (s : State) : Out := hostCommand 0x6B hostAttest slot s
/-- OP_IDENTITY. -/
def execOpIdentity (slot : Fin 1024) (s : State) : Out := hostCommand 0x6C hostIdentity slot s

/-- The stored segments that a bitmap names (R455). -/
def namedSegments (map : List Nat) (ps : List (List Nat)) : List (List Nat) :=
  (ps.zipIdx.filter (fun x => (map.getD (x.2 / 8) 0).testBit (x.2 % 8))).map (·.1)

/-- OP_REPLY_RESEND (R455): the oldest resend request of the session is served. -/
def execOpReplyResend (slot : Fin 1024) (s : State) : Out :=
  .next <|
    let c := s.sess slot
    match c.resend with
    | [] => s
    | map :: rest =>
      if c.st ≠ 1 then s
      else
        let s := s.modSess slot (fun x => { x with resend := rest })
        match namedSegments map c.stored with
        | [] => replyUnstored slot c.last 4 vNotStored c.relay s
        | ps => sendAll c.peer ps s

/-- The end of an ACCEPTED command: its status and result, once it has ended (R457, R466, 17 R559, 15 R507). -/
def jobEnd (j : Job) (s : State) : Option (Nat × List Nat) × State :=
  if j.op = 0x42 then (some (vOk, []), eraseSectors j.first j.count s)
  else if j.op = 0x65 then
    ((if (repairMap s).1.any (repairPending s) then none else some (vOk, [])), s)
  else match takeEnded j.obj s with
    | (none, s) => (none, s)
    | (some 0, s) => (some (vOk, []), s)
    | (some _, s) =>
      if j.op = 0x34 then (some (vDenied, []), s)
      else if j.op = 0x67 then (some (vAborted, []), s)
      else (some (vLoad, regResult .cfgStatus 0 0 s ++ regResult .cfgFailOfs 0 0 s ++ regResult .cfgFailFrame 0 0 s), s)

/-- COMMAND_DONE (R457): the oldest ACCEPTED command of a sender ends. -/
def execCommandDone (who : Origin) (s : State) : Out :=
  .next <|
    match s.host.jobs.find? (fun j => j.origin == who) with
    | some j =>
      match jobEnd j s with
      | (some (st, result), s) => jobOver j st result s
      | (none, _) => s
    | none => s

/-! ### Relayed commands (18 R576 to R578) -/

/-- Fewer than 16 commands are at work (R456, 18 R578). -/
def State.roomForCommand (s : State) : Bool := decide (s.host.order.length < 16)

/-- A REQ at the member it is for: the command is carried out with the rights it carries. -/
def relayServed (l : Nat) (m : List Byte) (s : State) : State :=
  if s.cascSt = .off ∨ s.cascSt = .master then msgDiscard l s
  else
    let body := (m.drop 8).map BitVec.toNat
    let w := Crypto.beNat (body.take 4)
    let op := w % 65536
    let c : HostCtx := { rights := bits w 20 16, params := body.drop 8, slot := none, wrap := []
                         origin := .relay (msgSrc m) (msgTag m) }
    let r := match hostFn op with
      | some f => guarded op f c s
      | none => refuse (if opRights op = some 8 then vDenied else vBadOpcode) s
    cascSend 2 (msgSrc m) (msgTag m) (beWord r.status ++ r.result) r.state

/-- CASC_REQ (18 R569, R576, R578). -/
def execCascReq (l : Fin 15) (s : State) : Out := .next (if s.roomForCommand then onMessage l 1 (relayServed l) s else s)

/-- The relayed command that a message of a member ends. -/
def State.relayOf (s : State) (m : List Byte) (accepted : Bool) : Option Relay :=
  s.casc.relays.find? (fun r => r.tag == msgTag m && r.member == msgSrc m && r.accepted == accepted)

/-- Status and result of a message's body (18 R569). -/
def msgStatus (m : List Byte) : Nat := Crypto.beNat (((m.drop 8).take 4).map BitVec.toNat) % 65536
def msgResult (m : List Byte) : List Nat := (m.drop 12).map BitVec.toNat

/-- An RSP at the master: it becomes the reply (18 R576); a late one is discarded (R578). -/
def relayReplied (l : Nat) (m : List Byte) (s : State) : State :=
  match s.relayOf m false with
  | none => msgDiscard l s
  | some r =>
    let rest := s.casc.relays.filter (· != r)
    let s := s.modCasc (fun x =>
      { x with relays := if msgStatus m = vAccepted then rest ++ [{ r with accepted := true }] else rest })
    if (s.sess r.slot).st = 2 ∧ s.sessId r.slot = r.id then storeReply r.slot (msgStatus m) (msgResult m) s else s

/-- CASC_RSP (18 R569, R576). -/
def execCascRsp (l : Fin 15) (s : State) : Out := .next (onMessage l 2 (relayReplied l) s)

/-- A DONE at the master: CMD_DONE for the issuing session (18 R578). -/
def relayEnded (l : Nat) (m : List Byte) (s : State) : State :=
  match s.relayOf m true with
  | none => msgDiscard l s
  | some r =>
    let s := s.modCasc (fun x => { x with relays := x.relays.filter (· != r) })
    jobOver { origin := .session (Fin.ofNat 1024 r.slot) r.id r.seq, op := r.op, obj := 0 } (msgStatus m) (msgResult m) s

/-- CASC_DONE (18 R569, R578). -/
def execCascDone (l : Fin 15) (s : State) : Out := .next (onMessage l 3 (relayEnded l) s)

/-! ### Data streams (R475, R476) -/

/-- A write of `desc` to the ETH_SEND window at an offset (R475). -/
def streamQueue (offset : Nat) (desc : List Byte) (s : State) : State × Status :=
  let d := desc.map BitVec.toNat
  let src := leAt d 0 8 % 2 ^ 48
  let len := leAt d 8 4 % 2 ^ 28
  let id := leAt d 12 4
  let c := s.sess (id % 1024)
  let w := leAt d 20 4
  if offset ≠ 0 ∨ d.length ≠ 32 ∨ c.st = 0 ∨ s.sessId (id % 1024) ≠ id ∨ c.data = false ∨ len = 0 then (s, .denied)
  else if reserveKey src then (s.countDenied src .denied, .denied)
  else if 64 ≤ s.host.streams.length then (s, .busy)
  else
    let x : Stream := { src := src, len := len, id := id, stream := leAt d 16 4
                        queue := if w.testBit 31 then some (w % 2 ^ 14) else none }
    ({ s with host := { s.host with streams := s.host.streams ++ [x] } }, .ok)

/-- ETH_SEND (R475). -/
def execEthSend (offset : Nat) (desc : List Byte) (s : State) : Out :=
  if s.clk.held then .next s else reply (streamQueue offset desc s)

/-- Send a stream packet by packet (R476): 0 sent, 2 a read error stops it. `n` bounds the packets. -/
def streamSend (x : Stream) (at_ seg : Nat) (s : State) : Nat → Nat × State
  | 0 => (0, s)
  | n + 1 =>
    if x.len ≤ at_ then (0, s)
    else
      let c := s.sess (x.id % 1024)
      let room := c.window - 64
      let k := min room (x.len - at_)
      let r := ethRead .ethernet [] false (x.src + at_) k s (k / 4096 + 2)
      match r.status with
      | .ok =>
        let count := (x.len + room - 1) / room
        let s := r.state
        let bytes := s.vcpBytes c.key 3 (b2n r.poison) 0 x.id x.stream 0 0 seg count x.len at_ (r.data.map BitVec.toNat)
        streamSend x (at_ + k) (seg + 1) (s.sendVcp c.peer bytes) n
      | _ => (2, r.state)

/-- STREAM_END (R476): the oldest stream has been sent, or a read error has stopped it; a token tells the queue. -/
def execStreamEnd (s : State) : Out :=
  .next <|
    match s.host.streams with
    | [] => s
    | x :: rest =>
      let r := streamSend x 0 0 { s with host := { s.host with streams := rest } } (x.len + 1)
      streamOver x r.1 r.2

end Sys2Proof.Machine
end

