-- ==== Sys2Proof/Machine/Dispatch.lean ====
section
/-!
DEFINITION. The meaning of each command: one arm per row of the table.
-/
namespace Sys2Proof.Machine

def exec (i : Instr) (s : State) : Host.Outcome State Fault Refusal :=
  match i with
  | .regWrite addr len v => Sys2Proof.Machine.execRegWrite addr len v s
  | .rcRead addr len quiet => Sys2Proof.Machine.execRcRead addr len quiet s
  | .domainSwitchOff d => Sys2Proof.Machine.execDomainSwitchOff d s
  | .domainEnable d => Sys2Proof.Machine.execDomainEnable d s
  | .domainGatingDone d => Sys2Proof.Machine.execDomainGatingDone d s
  | .domainPowerUpDone d => Sys2Proof.Machine.execDomainPowerUpDone d s
  | .mtimeSrcChange src => Sys2Proof.Machine.execMtimeSrcChange src s
  | .mtimeRealign => Sys2Proof.Machine.execMtimeRealign s
  | .mtimeOrbitLoad => Sys2Proof.Machine.execMtimeOrbitLoad s
  | .mtimeNomPeriodWrite v => Sys2Proof.Machine.execMtimeNomPeriodWrite v s
  | .crossingBoundary ck => Sys2Proof.Machine.execCrossingBoundary ck s
  | .orbitStart ck => Sys2Proof.Machine.execOrbitStart ck s
  | .orbitMarker wide => Sys2Proof.Machine.execOrbitMarker wide s
  | .clockQualified measured => Sys2Proof.Machine.execClockQualified measured s
  | .phaseLock => Sys2Proof.Machine.execPhaseLock s
  | .markerSearchTimeout => Sys2Proof.Machine.execMarkerSearchTimeout s
  | .coastReturnTimeout => Sys2Proof.Machine.execCoastReturnTimeout s
  | .machineClockLoss begun => Sys2Proof.Machine.execMachineClockLoss begun s
  | .freqWindowEnd measured => Sys2Proof.Machine.execFreqWindowEnd measured s
  | .rtShadowWrite half v => Sys2Proof.Machine.execRtShadowWrite half v s
  | .rtSwapRequest v => Sys2Proof.Machine.execRtSwapRequest v s
  | .rtSwapCommit => Sys2Proof.Machine.execRtSwapCommit s
  | .stealWindowWrite ix v => Sys2Proof.Machine.execStealWindowWrite ix v s
  | .evtTargetWrite n high v => Sys2Proof.Machine.execEvtTargetWrite n high v s
  | .eventComparatorFire n => Sys2Proof.Machine.execEventComparatorFire n s
  | .mtimeSnap => Sys2Proof.Machine.execMtimeSnap s
  | .laneCfgWrite n v => Sys2Proof.Machine.execLaneCfgWrite n v s
  | .laneEnable n m => Sys2Proof.Machine.execLaneEnable n m s
  | .laneDisable n m => Sys2Proof.Machine.execLaneDisable n m s
  | .laneRetrain n m => Sys2Proof.Machine.execLaneRetrain n m s
  | .laneReinstate n m => Sys2Proof.Machine.execLaneReinstate n m s
  | .detectPoll n m found signal => Sys2Proof.Machine.execDetectPoll n m found signal s
  | .trainBitLock n m slice => Sys2Proof.Machine.execTrainBitLock n m slice s
  | .trainTimeout n m => Sys2Proof.Machine.execTrainTimeout n m s
  | .alignTimeout n m => Sys2Proof.Machine.execAlignTimeout n m s
  | .capsTimeout n m => Sys2Proof.Machine.execCapsTimeout n m s
  | .rxFrame n m frame margin => Sys2Proof.Machine.execRxFrame n m frame margin s
  | .rxSlotDelivery n m => Sys2Proof.Machine.execRxSlotDelivery n m s
  | .txPortWrite layer n m phase data user poison => Sys2Proof.Machine.execTxPortWrite layer n m phase data user poison s
  | .txFrameLaunch n m => Sys2Proof.Machine.execTxFrameLaunch n m s
  | .bypassFrame n m typ payload => Sys2Proof.Machine.execBypassFrame n m typ payload s
  | .lossOfLock n m recovery => Sys2Proof.Machine.execLossOfLock n m recovery s
  | .retrainDone n m margin => Sys2Proof.Machine.execRetrainDone n m margin s
  | .retrainTimeout n m => Sys2Proof.Machine.execRetrainTimeout n m s
  | .laneStopDone n m => Sys2Proof.Machine.execLaneStopDone n m s
  | .ckLaneLoss n begun => Sys2Proof.Machine.execCkLaneLoss n begun s
  | .laneEyeStart n v => Sys2Proof.Machine.execLaneEyeStart n v s
  | .eyeScanAbort n write => Sys2Proof.Machine.execEyeScanAbort n write s
  | .eyeScanDone n count => Sys2Proof.Machine.execEyeScanDone n count s
  | .spanContention seg driver => Sys2Proof.Machine.execSpanContention seg driver s
  | .spanReenable seg corrected => Sys2Proof.Machine.execSpanReenable seg corrected s
  | .fclkCtrlWrite v => Sys2Proof.Machine.execFclkCtrlWrite v s
  | .iodWrite p v => Sys2Proof.Machine.execIodWrite p v s
  | .grpSwitchRequest g v => Sys2Proof.Machine.execGrpSwitchRequest g v s
  | .grpRequestApply g => Sys2Proof.Machine.execGrpRequestApply g s
  | .hoopCfgWrite n v => Sys2Proof.Machine.execHoopCfgWrite n v s
  | .hoopRelease n => Sys2Proof.Machine.execHoopRelease n s
  | .hoopStop n => Sys2Proof.Machine.execHoopStop n s
  | .hoopStopEdge n => Sys2Proof.Machine.execHoopStopEdge n s
  | .hoopStopComplete n => Sys2Proof.Machine.execHoopStopComplete n s
  | .hoopReleaseEdge n => Sys2Proof.Machine.execHoopReleaseEdge n s
  | .hoopRepairResume n => Sys2Proof.Machine.execHoopRepairResume n s
  | .globalStart => Sys2Proof.Machine.execGlobalStart s
  | .sliceSample ix edge pins => Sys2Proof.Machine.execSliceSample ix edge pins s
  | .rankSet r cands go => Sys2Proof.Machine.execRankSet r cands go s
  | .rankResult r => Sys2Proof.Machine.execRankResult r s
  | .pmSearch a key kpoison tag upsets => Sys2Proof.Machine.execPmSearch a key kpoison tag upsets s
  | .pmSearchResult a => Sys2Proof.Machine.execPmSearchResult a s
  | .pmuWrite c v => Sys2Proof.Machine.execPmuWrite c v s
  | .pmuInvalidate c v => Sys2Proof.Machine.execPmuInvalidate c v s
  | .pmuRead c v => Sys2Proof.Machine.execPmuRead c v s
  | .pmuScrub c v => Sys2Proof.Machine.execPmuScrub c v s
  | .pmuSetsel c v => Sys2Proof.Machine.execPmuSetsel c v s
  | .pmuAbort c => Sys2Proof.Machine.execPmuAbort c s
  | .pmuRow c upsets => Sys2Proof.Machine.execPmuRow c upsets s
  | .pmuSetselApply c => Sys2Proof.Machine.execPmuSetselApply c s
  | .pmuComplete c => Sys2Proof.Machine.execPmuComplete c s
  | .bankPortAccess b port acc => Sys2Proof.Machine.execBankPortAccess b port acc s
  | .bankPortResult b port => Sys2Proof.Machine.execBankPortResult b port s
  | .bankHandoverRequest b v => Sys2Proof.Machine.execBankHandoverRequest b v s
  | .bankHandover b => Sys2Proof.Machine.execBankHandover b s
  | .bankWindowAccess addr edge acc => Sys2Proof.Machine.execBankWindowAccess addr edge acc s
  | .bankWindowTimeout b => Sys2Proof.Machine.execBankWindowTimeout b s
  | .scratchAccess b offset acc => Sys2Proof.Machine.execScratchAccess b offset acc s
  | .bankPowerTarget id v => Sys2Proof.Machine.execBankPowerTarget id v s
  | .bankLoweringDone id => Sys2Proof.Machine.execBankLoweringDone id s
  | .bankWakingDone id => Sys2Proof.Machine.execBankWakingDone id s
  | .bankClearingDone id => Sys2Proof.Machine.execBankClearingDone id s
  | .bankUlolWrite id v => Sys2Proof.Machine.execBankUlolWrite id v s
  | .scrubStart e => Sys2Proof.Machine.execScrubStart e s
  | .scrubWord e timeout raced => Sys2Proof.Machine.execScrubWord e timeout raced s
  | .scrubAbort e => Sys2Proof.Machine.execScrubAbort e s
  | .scrubComplete e => Sys2Proof.Machine.execScrubComplete e s
  | .nearCtrlWrite v => Sys2Proof.Machine.execNearCtrlWrite v s
  | .nearTrainingDone c ok => Sys2Proof.Machine.execNearTrainingDone c ok s
  | .nearFillDone c => Sys2Proof.Machine.execNearFillDone c s
  | .dqsDriftCheck c rank delta => Sys2Proof.Machine.execDqsDriftCheck c rank delta s
  | .zqCalibration c rank => Sys2Proof.Machine.execZqCalibration c rank s
  | .nearRefresh c rank bank => Sys2Proof.Machine.execNearRefresh c rank bank s
  | .nearAccess req addr acc fetch => Sys2Proof.Machine.execNearAccess req addr acc fetch s
  | .nearPllLossTimeout c => Sys2Proof.Machine.execNearPllLossTimeout c s
  | .nearMirrorCopyDone c => Sys2Proof.Machine.execNearMirrorCopyDone c s
  | .cavePortEnable p => Sys2Proof.Machine.execCavePortEnable p s
  | .cavePortDisable p => Sys2Proof.Machine.execCavePortDisable p s
  | .caveReinstate p => Sys2Proof.Machine.execCaveReinstate p s
  | .cavePowerWrite p v => Sys2Proof.Machine.execCavePowerWrite p v s
  | .caveLinkingDone p => Sys2Proof.Machine.execCaveLinkingDone p s
  | .caveLinkTimeout p => Sys2Proof.Machine.execCaveLinkTimeout p s
  | .caveProbeDone p => Sys2Proof.Machine.execCaveProbeDone p s
  | .caveStopDone p => Sys2Proof.Machine.execCaveStopDone p s
  | .caveBlockRx p => Sys2Proof.Machine.execCaveBlockRx p s
  | .caveReplayTimeout p => Sys2Proof.Machine.execCaveReplayTimeout p s
  | .caveAccess req addr acc => Sys2Proof.Machine.execCaveAccess req addr acc s
  | .caveRdata p => Sys2Proof.Machine.execCaveRdata p s
  | .caveWdone p => Sys2Proof.Machine.execCaveWdone p s
  | .caveCregRsp p => Sys2Proof.Machine.execCaveCregRsp p s
  | .caveStatus p => Sys2Proof.Machine.execCaveStatus p s
  | .caveCredit p => Sys2Proof.Machine.execCaveCredit p s
  | .caveLinkSilence p => Sys2Proof.Machine.execCaveLinkSilence p s
  | .hwLine ix data first last cross poison => Sys2Proof.Machine.execHwLine ix data first last cross poison s
  | .collectorRecord ix => Sys2Proof.Machine.execCollectorRecord ix s
  | .migratePage => Sys2Proof.Machine.execMigratePage s
  | .ringCtrlWrite reg v => Sys2Proof.Machine.execRingCtrlWrite reg v s
  | .ringOpen => Sys2Proof.Machine.execRingOpen s
  | .ringStopDone => Sys2Proof.Machine.execRingStopDone s
  | .lookbackPush v => Sys2Proof.Machine.execLookbackPush v s
  | .lookbackStart e => Sys2Proof.Machine.execLookbackStart e s
  | .lookbackComplete e fault => Sys2Proof.Machine.execLookbackComplete e fault s
  | .lbtxSend t v => Sys2Proof.Machine.execLbtxSend t v s
  | .lbtxDone t => Sys2Proof.Machine.execLbtxDone t s
  | .keyErase v => Sys2Proof.Machine.execKeyErase v s
  | .lineRead e addr fetch => Sys2Proof.Machine.execLineRead e addr fetch s
  | .lineWrite e addr data be poison fetch => Sys2Proof.Machine.execLineWrite e addr data be poison fetch s
  | .releaseStart v => Sys2Proof.Machine.execReleaseStart v s
  | .releaseDone => Sys2Proof.Machine.execReleaseDone s
  | .nocRead ni req addr len => Sys2Proof.Machine.execNocRead ni req addr len s
  | .nocWrite ni req addr data be poison => Sys2Proof.Machine.execNocWrite ni req addr data be poison s
  | .nocPwrite ni req addr data be poison => Sys2Proof.Machine.execNocPwrite ni req addr data be poison s
  | .nocAtomic ni req addr aop size operand => Sys2Proof.Machine.execNocAtomic ni req addr aop size operand s
  | .nocToken ni queue v => Sys2Proof.Machine.execNocToken ni queue v s
  | .nocResp ni txn status data poison => Sys2Proof.Machine.execNocResp ni txn status data poison s
  | .registerPortAccess addr len write => Sys2Proof.Machine.execRegisterPortAccess addr len write s
  | .flitCrcError r dir again => Sys2Proof.Machine.execFlitCrcError r dir again s
  | .nocStallTimeout at_ => Sys2Proof.Machine.execNocStallTimeout at_ s
  | .nocResponseTimeout ni txn => Sys2Proof.Machine.execNocResponseTimeout ni txn s
  | .xbarParityError r req => Sys2Proof.Machine.execXbarParityError r req s
  | .routerDrain r => Sys2Proof.Machine.execRouterDrain r s
  | .routerDrainEnd r discarded => Sys2Proof.Machine.execRouterDrainEnd r discarded s
  | .routerReconfDone r wires xbar => Sys2Proof.Machine.execRouterReconfDone r wires xbar s
  | .routerReinstate r => Sys2Proof.Machine.execRouterReinstate r s
  | .vcdepthWrite r v => Sys2Proof.Machine.execVcdepthWrite r v s
  | .coreInstruction n => Sys2Proof.Machine.execCoreInstruction n s
  | .coreLoad n => Sys2Proof.Machine.execCoreLoad n s
  | .loadResponse n => Sys2Proof.Machine.execLoadResponse n s
  | .coreStore n => Sys2Proof.Machine.execCoreStore n s
  | .storeErrorResponse n => Sys2Proof.Machine.execStoreErrorResponse n s
  | .coreAmo n => Sys2Proof.Machine.execCoreAmo n s
  | .coreLr n => Sys2Proof.Machine.execCoreLr n s
  | .coreSc n => Sys2Proof.Machine.execCoreSc n s
  | .coreFence n => Sys2Proof.Machine.execCoreFence n s
  | .coreFenceI n => Sys2Proof.Machine.execCoreFenceI n s
  | .coreEcall n => Sys2Proof.Machine.execCoreEcall n s
  | .coreEbreak n => Sys2Proof.Machine.execCoreEbreak n s
  | .wxNext n => Sys2Proof.Machine.execWxNext n s
  | .wxPost n => Sys2Proof.Machine.execWxPost n s
  | .wxToken n => Sys2Proof.Machine.execWxToken n s
  | .wxCancel n => Sys2Proof.Machine.execWxCancel n s
  | .wxQstat n => Sys2Proof.Machine.execWxQstat n s
  | .wxSelf n => Sys2Proof.Machine.execWxSelf n s
  | .wxPostWindow addr item => Sys2Proof.Machine.execWxPostWindow addr item s
  | .wxCancelWrite handle => Sys2Proof.Machine.execWxCancelWrite handle s
  | .wxTokenArrive q v => Sys2Proof.Machine.execWxTokenArrive q v s
  | .wxDispatch => Sys2Proof.Machine.execWxDispatch s
  | .itemDelivered n => Sys2Proof.Machine.execItemDelivered n s
  | .affinityWaitExpiry q => Sys2Proof.Machine.execAffinityWaitExpiry q s
  | .preemption => Sys2Proof.Machine.execPreemption s
  | .preemptSwitch n => Sys2Proof.Machine.execPreemptSwitch n s
  | .delayListTick l => Sys2Proof.Machine.execDelayListTick l s
  | .delayDue l => Sys2Proof.Machine.execDelayDue l s
  | .itemCompletion slot => Sys2Proof.Machine.execItemCompletion slot s
  | .completionToken slot status => Sys2Proof.Machine.execCompletionToken slot status s
  | .coreRelease n => Sys2Proof.Machine.execCoreRelease n s
  | .coreReinstate n => Sys2Proof.Machine.execCoreReinstate n s
  | .watchdogExpiry n => Sys2Proof.Machine.execWatchdogExpiry n s
  | .shadowMismatch g => Sys2Proof.Machine.execShadowMismatch g s
  | .shadowReinstate g => Sys2Proof.Machine.execShadowReinstate g s
  | .loadFull src => Sys2Proof.Machine.execLoadFull src s
  | .loadHoop src hoop => Sys2Proof.Machine.execLoadHoop src hoop s
  | .loadCancel => Sys2Proof.Machine.execLoadCancel s
  | .powerOnLoad => Sys2Proof.Machine.execPowerOnLoad s
  | .loaderHeaderDone => Sys2Proof.Machine.execLoaderHeaderDone s
  | .imageFillWaitTimeout => Sys2Proof.Machine.execImageFillWaitTimeout s
  | .loaderPrepareDone => Sys2Proof.Machine.execLoaderPrepareDone s
  | .frameRun => Sys2Proof.Machine.execFrameRun s
  | .mblockRecord => Sys2Proof.Machine.execMblockRecord s
  | .bankinitRecord => Sys2Proof.Machine.execBankinitRecord s
  | .regsRecord => Sys2Proof.Machine.execRegsRecord s
  | .segmentEnd => Sys2Proof.Machine.execSegmentEnd s
  | .flashReadTimeout => Sys2Proof.Machine.execFlashReadTimeout s
  | .loaderVerifyDone => Sys2Proof.Machine.execLoaderVerifyDone s
  | .loaderStartDone => Sys2Proof.Machine.execLoaderStartDone s
  | .scrubFrameRead fa upsets => Sys2Proof.Machine.execScrubFrameRead fa upsets s
  | .frameRewriteStart => Sys2Proof.Machine.execFrameRewriteStart s
  | .frameRewriteDone => Sys2Proof.Machine.execFrameRewriteDone s
  | .vcpPacketRx pkt => Sys2Proof.Machine.execVcpPacketRx pkt s
  | .networkControlFrame frame => Sys2Proof.Machine.execNetworkControlFrame frame s
  | .ethFailover => Sys2Proof.Machine.execEthFailover s
  | .ethActiveWrite v => Sys2Proof.Machine.execEthActiveWrite v s
  | .sessionIdleTimeout slot => Sys2Proof.Machine.execSessionIdleTimeout slot s
  | .sessionFirstRequestTimeout slot => Sys2Proof.Machine.execSessionFirstRequestTimeout slot s
  | .opSessionOpen slot => Sys2Proof.Machine.execOpSessionOpen slot s
  | .opSessionClose slot => Sys2Proof.Machine.execOpSessionClose slot s
  | .opPing slot => Sys2Proof.Machine.execOpPing slot s
  | .opReplyResend slot => Sys2Proof.Machine.execOpReplyResend slot s
  | .opSessionList slot => Sys2Proof.Machine.execOpSessionList slot s
  | .opEventSubscribe slot => Sys2Proof.Machine.execOpEventSubscribe slot s
  | .opEventRead slot => Sys2Proof.Machine.execOpEventRead slot s
  | .opDeviceInfo slot => Sys2Proof.Machine.execOpDeviceInfo slot s
  | .opTimeSnap slot => Sys2Proof.Machine.execOpTimeSnap slot s
  | .opRegRead slot => Sys2Proof.Machine.execOpRegRead slot s
  | .opRegWrite slot => Sys2Proof.Machine.execOpRegWrite slot s
  | .opMemRead slot => Sys2Proof.Machine.execOpMemRead slot s
  | .opMemWrite slot => Sys2Proof.Machine.execOpMemWrite slot s
  | .opFolioLoad slot => Sys2Proof.Machine.execOpFolioLoad slot s
  | .opHoopLoad slot => Sys2Proof.Machine.execOpHoopLoad slot s
  | .opHoopCmd slot => Sys2Proof.Machine.execOpHoopCmd slot s
  | .opDomainSet slot => Sys2Proof.Machine.execOpDomainSet slot s
  | .opReinstate slot => Sys2Proof.Machine.execOpReinstate slot s
  | .opLookback slot => Sys2Proof.Machine.execOpLookback slot s
  | .opFlashRead slot => Sys2Proof.Machine.execOpFlashRead slot s
  | .opFlashWrite slot => Sys2Proof.Machine.execOpFlashWrite slot s
  | .opFlashErase slot => Sys2Proof.Machine.execOpFlashErase slot s
  | .opKeyLoad slot => Sys2Proof.Machine.execOpKeyLoad slot s
  | .opKeyErase slot => Sys2Proof.Machine.execOpKeyErase slot s
  | .opOpkeyAdd slot ok => Sys2Proof.Machine.execOpOpkeyAdd slot ok s
  | .opOpkeyRevoke slot => Sys2Proof.Machine.execOpOpkeyRevoke slot s
  | .opVkeyWrite slot ok => Sys2Proof.Machine.execOpVkeyWrite slot ok s
  | .opVkeyRevoke slot => Sys2Proof.Machine.execOpVkeyRevoke slot s
  | .opFkeyWrite slot ok => Sys2Proof.Machine.execOpFkeyWrite slot ok s
  | .opPolicySet slot ok => Sys2Proof.Machine.execOpPolicySet slot ok s
  | .opSensorRead slot => Sys2Proof.Machine.execOpSensorRead slot s
  | .opSensorReinstate slot => Sys2Proof.Machine.execOpSensorReinstate slot s
  | .opTripClear slot => Sys2Proof.Machine.execOpTripClear slot s
  | .opCalRead slot => Sys2Proof.Machine.execOpCalRead slot s
  | .opSelftestRead slot => Sys2Proof.Machine.execOpSelftestRead slot s
  | .opRepairApply slot => Sys2Proof.Machine.execOpRepairApply slot s
  | .opBlotterRead slot => Sys2Proof.Machine.execOpBlotterRead slot s
  | .opFwActivate slot => Sys2Proof.Machine.execOpFwActivate slot s
  | .opFwConfirm slot => Sys2Proof.Machine.execOpFwConfirm slot s
  | .opFwStatus slot => Sys2Proof.Machine.execOpFwStatus slot s
  | .opQuillLoad slot => Sys2Proof.Machine.execOpQuillLoad slot s
  | .opAttest slot => Sys2Proof.Machine.execOpAttest slot s
  | .opIdentity slot => Sys2Proof.Machine.execOpIdentity slot s
  | .commandDone who => Sys2Proof.Machine.execCommandDone who s
  | .ethSend offset desc => Sys2Proof.Machine.execEthSend offset desc s
  | .streamEnd => Sys2Proof.Machine.execStreamEnd s
  | .hkConversion value => Sys2Proof.Machine.execHkConversion value s
  | .hkRoundEnd => Sys2Proof.Machine.execHkRoundEnd s
  | .tripFabricReset => Sys2Proof.Machine.execTripFabricReset s
  | .calItemDue item => Sys2Proof.Machine.execCalItemDue item s
  | .calMeasurementDone item first second sel => Sys2Proof.Machine.execCalMeasurementDone item first second sel s
  | .calApply item => Sys2Proof.Machine.execCalApply item s
  | .calResultTimeout item => Sys2Proof.Machine.execCalResultTimeout item s
  | .scmCalDeferred item => Sys2Proof.Machine.execScmCalDeferred item s
  | .selftestDone fails => Sys2Proof.Machine.execSelftestDone fails s
  | .spareTest spare ok => Sys2Proof.Machine.execSpareTest spare ok s
  | .blotterProgram count => Sys2Proof.Machine.execBlotterProgram count s
  | .sceumWatchdogExpiry => Sys2Proof.Machine.execSceumWatchdogExpiry s
  | .sceumRestart => Sys2Proof.Machine.execSceumRestart s
  | .bootRomStart => Sys2Proof.Machine.execBootRomStart s
  | .fwTrialTimeout => Sys2Proof.Machine.execFwTrialTimeout s
  | .xoLoss => Sys2Proof.Machine.execXoLoss s
  | .xoValid => Sys2Proof.Machine.execXoValid s
  | .pllUnlock p => Sys2Proof.Machine.execPllUnlock p s
  | .pllRelock p => Sys2Proof.Machine.execPllRelock p s
  | .pllFailTimeout p => Sys2Proof.Machine.execPllFailTimeout p s
  | .clkNocWrite v => Sys2Proof.Machine.execClkNocWrite v s
  | .clkQpllWrite q v => Sys2Proof.Machine.execClkQpllWrite q v s
  | .clkGrpWrite g v => Sys2Proof.Machine.execClkGrpWrite g v s
  | .clkNctlWrite v => Sys2Proof.Machine.execClkNctlWrite v s
  | .rootSelectWrite v => Sys2Proof.Machine.execRootSelectWrite v s
  | .clockSwitchDone mux => Sys2Proof.Machine.execClockSwitchDone mux s
  | .clkForced mux => Sys2Proof.Machine.execClkForced mux s
  | .powerOnReset => Sys2Proof.Machine.execPowerOnReset s
  | .pgoodFall => Sys2Proof.Machine.execPgoodFall s
  | .supplyMonitorFall => Sys2Proof.Machine.execSupplyMonitorFall s
  | .powerStable => Sys2Proof.Machine.execPowerStable s
  | .clocksPhaseDone unlocked => Sys2Proof.Machine.execClocksPhaseDone unlocked s
  | .onchipFillDone => Sys2Proof.Machine.execOnchipFillDone s
  | .srstAssert => Sys2Proof.Machine.execSrstAssert s
  | .sysRstWrite v => Sys2Proof.Machine.execSysRstWrite v s
  | .systemReset => Sys2Proof.Machine.execSystemReset s
  | .systemResetRelease => Sys2Proof.Machine.execSystemResetRelease s
  | .bankSpareCopyStart id => Sys2Proof.Machine.execBankSpareCopyStart id s
  | .bankCopyDone id => Sys2Proof.Machine.execBankCopyDone id s
  | .bankTakeover id => Sys2Proof.Machine.execBankTakeover id s
  | .bankMarchDone id pass => Sys2Proof.Machine.execBankMarchDone id pass s
  | .bankReturnDone id => Sys2Proof.Machine.execBankReturnDone id s
  | .cascLinkWrite l v => Sys2Proof.Machine.execCascLinkWrite l v s
  | .cascRejoin => Sys2Proof.Machine.execCascRejoin s
  | .serviceBlockRx l => Sys2Proof.Machine.execServiceBlockRx l s
  | .cascReq l => Sys2Proof.Machine.execCascReq l s
  | .cascRsp l => Sys2Proof.Machine.execCascRsp l s
  | .cascDone l => Sys2Proof.Machine.execCascDone l s
  | .cascRoll l => Sys2Proof.Machine.execCascRoll l s
  | .rollTimer => Sys2Proof.Machine.execRollTimer s
  | .cascMemberLost m => Sys2Proof.Machine.execCascMemberLost m s
  | .cascMasterLost => Sys2Proof.Machine.execCascMasterLost s
  | .relayTimeout => Sys2Proof.Machine.execRelayTimeout s
  | .tapReset => Sys2Proof.Machine.execTapReset s
  | .extest pins shift => Sys2Proof.Machine.execExtest pins shift s
  | .samplePreload pins shift => Sys2Proof.Machine.execSamplePreload pins shift s
  | .idcode => Sys2Proof.Machine.execIdcode s
  | .extestPulse pins shift => Sys2Proof.Machine.execExtestPulse pins shift s
  | .extestTrain pins shift => Sys2Proof.Machine.execExtestTrain pins shift s
  | .bypass => Sys2Proof.Machine.execBypass s
  | .dbgRead addr => Sys2Proof.Machine.execDbgRead addr s
  | .dbgWrite addr v => Sys2Proof.Machine.execDbgWrite addr v s
  | .dbgConsume addr => Sys2Proof.Machine.execDbgConsume addr s
  | .dbgNop => Sys2Proof.Machine.execDbgNop s
  | .dbgAccessTimeout => Sys2Proof.Machine.execDbgAccessTimeout s
  | .dbgConnect v => Sys2Proof.Machine.execDbgConnect v s
  | .dbgUnlockSelect => Sys2Proof.Machine.execDbgUnlockSelect s
  | .dbgUnlockAnswer ix v => Sys2Proof.Machine.execDbgUnlockAnswer ix v s
  | .dbgAttach v => Sys2Proof.Machine.execDbgAttach v s
  | .dbgSysrstReq v => Sys2Proof.Machine.execDbgSysrstReq v s
  | .dbgHalt n => Sys2Proof.Machine.execDbgHalt n s
  | .coreHalted n => Sys2Proof.Machine.execCoreHalted n s
  | .dbgResume n => Sys2Proof.Machine.execDbgResume n s
  | .dbgStep n => Sys2Proof.Machine.execDbgStep n s
  | .dbgRegRead => Sys2Proof.Machine.execDbgRegRead s
  | .dbgRegWrite => Sys2Proof.Machine.execDbgRegWrite s
  | .dbgFreezeWrite v => Sys2Proof.Machine.execDbgFreezeWrite v s
  | .monHelp => Sys2Proof.Machine.execMonHelp s
  | .monStatus => Sys2Proof.Machine.execMonStatus s
  | .monSensors => Sys2Proof.Machine.execMonSensors s
  | .monBlotter n => Sys2Proof.Machine.execMonBlotter n s
  | .monBaud rate => Sys2Proof.Machine.execMonBaud rate s
  | .monRd addr => Sys2Proof.Machine.execMonRd addr s
  | .monWr addr v => Sys2Proof.Machine.execMonWr addr v s
  | .monOwnerkey key ok => Sys2Proof.Machine.execMonOwnerkey key ok s
  | .monLockout serial => Sys2Proof.Machine.execMonLockout serial s
  | .monReset => Sys2Proof.Machine.execMonReset s
  | .cascCtrlWrite v => Sys2Proof.Machine.execCascCtrlWrite v s
  | .coreMemoryNetAccess n offset acc => Sys2Proof.Machine.execCoreMemoryNetAccess n offset acc s
  | .reserveFillDone c => Sys2Proof.Machine.execReserveFillDone c s
  | .pcsBlockLockChange port locked => Sys2Proof.Machine.execPcsBlockLockChange port locked s
  | .phyPllLockLoss c => Sys2Proof.Machine.execPhyPllLockLoss c s
  | .serviceReplayTimeout l => Sys2Proof.Machine.execServiceReplayTimeout l s
  | .userIoWord layer p tx oe rx => Sys2Proof.Machine.execUserIoWord layer p tx oe rx s
  | .ckLaneReturn n => Sys2Proof.Machine.execCkLaneReturn n s

end Sys2Proof.Machine
end

