-- ==== Sys2Proof/Machine/Idle.lean ====
section
/-!
DEFINITION. What a step does with no command waiting: a nanosecond passes (02 R65, 04 R148).
-/
namespace Sys2Proof.Machine

/-- Powered time counts nanoseconds while its oscillator runs, and wraps at 2^64 (02 R65); without PPLL it counts from the root
in steps of 40 ns (16 R526, R536). -/
def ptTick (s : State) : State :=
  if s.ptRuns = false then s
  else if s.mgmtClocked || s.clk.ptStep == 39 then
    { s with pt := (s.pt + s.clk.ptStep + 1) % 2 ^ 64, clk := { s.clk with ptStep := 0 } }
  else { s with clk := { s.clk with ptStep := s.clk.ptStep + 1 } }

/-- A nanosecond passes: powered time counts; the fabric makes the clock edges that fall in it (04 R148), and packets that wait
at network interfaces start as they can (11 R354). -/
def idle (s : State) : State := ptTick (if s.clk.held then s else nocDrain (fabIdle s))

end Sys2Proof.Machine
end

