-- ==== Sys2Proof/Safety.lean ====
section
/-!
DEFINITION. What a safe run is: every step answers a next state. The device has an answer of its own for every command,
so nothing faults. And what it means that a core is to execute an instruction, or
that a session's command is to be carried out.
-/
namespace Sys2Proof.Machine

/-- A step of this state answers a next state. -/
def State.safe (s : State) : Prop := ∃ t, step s = .next t

/-- A core runs, no interrupt goes first, and the instruction at its pc, of `len` bytes, is `i` (12 R367, R369, R376). -/
def State.executes (s : State) (n : Nat) (i : Rv) (len : Nat) : Prop :=
  s.coreRuns n = true ∧ s.nextIrq n = none ∧ (fetch n s).1 = .instr i len

/-- Address of the instruction after one of `len` bytes at a core's pc. -/
def State.afterPc (s : State) (n len : Nat) : Nat := ((s.cbank n).pc + len) % 2 ^ 32

/-- A session's command of an opcode is this device's own to carry out now, and passes the checks of its right, its
parameters' length and Sceum (14 R447, R456, R458, 15 R481). -/
def State.ownCommand (s : State) (op slot : Nat) : Prop :=
  s.commandDue op slot = true ∧ s.relayTo slot = none ∧ hostGuard op (s.sessionCtx slot) s = none

/-- Parameters of a session's command. -/
def State.hostParams (s : State) (slot : Nat) : List Nat := (s.sess slot).params

end Sys2Proof.Machine
end

