-- ==== Sys2Proof/Certificates/Slice0/Obligations.lean ====
section
/-!
DEFINITION. The statements for the provers. A statement of several clauses has one clause for each command or case it
names; where a clause gives the next state as updates of the state before, everything else is left as it was.
-/
section

open Sys2Proof Sys2Proof.Machine

/-- O1. A step of a state whose queue begins with a command is exec of that command on the state with the rest of the
queue. That the block takes commands from one queue is the model's own form (log entry 1). -/
def Obligations.StepRunsFrontCommand : Prop :=
  ∀ (c : Instr) (s : State), step { s with pending := c :: s.pending } = exec c s

/-- O2. With an empty queue a step lets one nanosecond pass. Powered time, a 64-bit count, takes it at once with PPLL
locked and in steps of 40 ns without it, while its oscillator runs; while the device is held in a reset nothing else
changes. Otherwise the fabric makes the clock edges of that nanosecond and packets that wait at network interfaces
start as they can. That an idle step is a nanosecond is the model's choice (log entry 2). -/
def Obligations.IdleStepCountsPoweredTime : Prop :=
  (∀ s : State, s.pending = [] → s.clk.held = true → s.ptRuns = true →
      (s.mgmtClocked = true → step s = .next { s with pt := (s.pt + s.clk.ptStep + 1) % 2 ^ 64, clk := { s.clk with ptStep := 0 } }) ∧
      (s.mgmtClocked = false → s.clk.ptStep = 39 → step s = .next { s with pt := (s.pt + 40) % 2 ^ 64, clk := { s.clk with ptStep := 0 } }) ∧
      (s.mgmtClocked = false → s.clk.ptStep ≠ 39 → step s = .next { s with clk := { s.clk with ptStep := s.clk.ptStep + 1 } }))
  ∧ (∀ s : State, s.pending = [] → s.clk.held = true → s.ptRuns = false → step s = .next s)
  ∧ (∀ s : State, s.pending = [] → s.clk.held = false → step s = .next (ptTick (nocDrain (fabIdle s))))

/-- O3. Writes and reads of register space by REG_WRITE, RC_READ and REGISTER_PORT_ACCESS while the device is out of
reset. Only an access of 4 bytes is accepted; any other is denied with no effect. A write sets an RW register
(ETH_RATE); a read returns it; a read clears the RC field of LANE_BADCNT, a quiet one does not. -/
def Obligations.RegisterPortAccesses : Prop :=
  (∀ (a n : Nat) (v : Word) (s : State), s.clk.held = false → n ≠ 4 → exec (.regWrite a n v) s = .next (s.answer .denied))
  ∧ (∀ (a n : Nat) (q : Bool) (s : State), s.clk.held = false → n ≠ 4 → exec (.rcRead a n q) s = .next (s.answer .denied))
  ∧ (∀ (v : Word) (s : State), s.clk.held = false →
      exec (.regWrite 0xD00030 4 v) s = .next ((s.setWord .ethRate v).answer .ok))
  ∧ (∀ (q : Bool) (s : State), s.clk.held = false →
      exec (.rcRead 0xD00030 4 q) s = .next (s.answer .ok (s.word .ethRate).toNat))
  ∧ (∀ (s : State), s.clk.held = false →
      exec (.rcRead 0x30010C 4 true) s = .next (s.answer .ok (s.word .laneBadcnt).toNat) ∧
      exec (.rcRead 0x30010C 4 false) s = .next ((s.setWord .laneBadcnt 0).answer .ok (s.word .laneBadcnt).toNat))
  ∧ (∀ (v : Word) (s : State), s.clk.held = false → s.nocClocked = true →
      exec (.registerPortAccess 0xD00030 4 (some v)) s = .next ((s.setWord .ethRate v).answer .ok) ∧
      exec (.registerPortAccess 0xD00030 4 none) s = .next (s.answer .ok (s.word .ethRate).toNat))

/-- O4. A cave domain that is ON goes to POWERING_DOWN on a switch-off, from there to OFF when its gating is done, from
OFF to POWERING_UP on an enable and from there to ON; user I/O bank domains likewise. An enable in POWERING_DOWN and a
switch-off in POWERING_UP are latched. -/
def Obligations.DomainCommandsComplete : Prop :=
  (∀ (n : Fin 13) (s : State), (s.dom (400 + n)).st = .on → ∃ t, exec (.domainSwitchOff (.iob n)) s = .next t ∧
      (t.dom (400 + n)).st = .poweringDown ∧ t.mem = s.mem ∧ t.regs = s.regs)
  ∧ (∀ (n : Fin 13) (s : State), (s.dom (400 + n)).st = .poweringDown → (s.dom (400 + n)).pendingEnable = false →
      exec (.domainGatingDone (.iob n)) s = .next (s.setDom (400 + n) { st := .off }))
  ∧ (∀ (n : Fin 13) (s : State), (s.dom (400 + n)).st = .off →
      exec (.domainEnable (.iob n)) s = .next ((s.setDom (400 + n) { st := .poweringUp }).answer .ok))
  ∧ (∀ (n : Fin 13) (s : State), (s.dom (400 + n)).st = .poweringUp → (s.dom (400 + n)).pendingOff = false →
      exec (.domainPowerUpDone (.iob n)) s = .next (iobWake n (s.setDom (400 + n) {})))
  ∧ (∀ (d : Dom) (k : Nat) (s : State), domKey d = some k → (s.dom k).st = .poweringDown →
      exec (.domainEnable d) s = .next ((s.setDom k { s.dom k with pendingEnable := true }).answer .ok))
  ∧ (∀ (d : Dom) (k : Nat) (s : State), domKey d = some k → (s.dom k).st = .poweringUp →
      exec (.domainSwitchOff d) s = .next ((s.setDom k { s.dom k with pendingOff := true }).answer .ok))

/-- O5. A request for the state a domain is already in or already heading for leaves the whole state as it was, but for
the answer OK. Heading for ON: POWERING_UP without a latched switch-off, POWERING_DOWN or a hoop's stop under R185
with a latched enable. Heading for OFF: POWERING_DOWN or such a stop without a latched enable, POWERING_UP with a
latched switch-off. The tables of domains and hoops are in canonical form. -/
def Obligations.RepeatedDomainRequestsHaveNoEffect : Prop :=
  ∀ (d : Dom) (k : Nat) (s : State), domKey d = some k → Tab.wf (fun _ => {}) s.doms = true → Tab.wf (fun _ => {}) s.hoops = true →
      ((s.dom k).st = .on ∧ s.hoopLeaving d = false ∨ (s.dom k).st = .on ∧ (s.dom k).pendingEnable = true ∨
        (s.dom k).st = .poweringUp ∧ (s.dom k).pendingOff = false ∨
        (s.dom k).st = .poweringDown ∧ (s.dom k).pendingEnable = true →
        exec (.domainEnable d) s = .next (s.answer .ok)) ∧
      ((s.dom k).pendingEnable = false ∧ ((s.dom k).st = .off ∨ (s.dom k).st = .poweringDown) ∨
        (s.dom k).st = .poweringUp ∧ (s.dom k).pendingOff = true ∨
        (s.dom k).st = .on ∧ s.hoopLeaving d = true ∧ (s.dom k).pendingEnable = false →
        exec (.domainSwitchOff d) s = .next (s.answer .ok))

/-- O6. What each register write of chapter 02 leaves: the source change, the realignment, the orbit load, the nominal
period, the snapshot, the stolen windows, the targets of the event comparators, the shadow window and the swap request
of the ruling table. -/
def Obligations.MachineTimeWritesComplete : Prop :=
  (∀ (src : BitVec 2) (s : State), s.bit F.mtimeCtrlLock = false →
      srcOf (s.get F.mtimeCtrlSrc) (s.get F.mtimeCtrlTbundle) = srcOf src.toNat (s.get F.mtimeCtrlTbundle) →
      exec (.mtimeSrcChange src) s
        = .next (((s.put F.mtimeCtrlSrc src.toNat).put F.mtimeCtrlTbundle (s.get F.mtimeCtrlTbundle)).answer .ok))
  ∧ (∀ (src : BitVec 2) (s : State), s.bit F.mtimeCtrlLock = false →
      srcOf (s.get F.mtimeCtrlSrc) (s.get F.mtimeCtrlTbundle) ≠ srcOf src.toNat (s.get F.mtimeCtrlTbundle) →
      ∃ t, exec (.mtimeSrcChange src) s = .next t ∧ t.mem = s.mem ∧ t.mt.locked = false ∧
        t.mt.pullIn = (srcOf src.toNat (s.get F.mtimeCtrlTbundle)).isSome)
  ∧ (∀ s : State, s.mtSt = .aligned ∨ s.mtSt = .slipped → exec .mtimeRealign s = .next ((s.enterAcquire true).answer .ok))
  ∧ (∀ s : State, exec .mtimeOrbitLoad s = .next (({ s with mt := { s.mt with orbitLoad := true } }).answer .ok))
  ∧ (∀ (v : Word) (s : State), s.bit F.mtimeCtrlLock = false → 12500000 ≤ v.toNat → v.toNat ≤ 100000000 →
      exec (.mtimeNomPeriodWrite v) s = .next ((s.put F.mtimeNomPeriodVal v.toNat).checkFreq.answer .ok))
  ∧ (∀ (i : Fin 4) (v : Word) (s : State), exec (.stealWindowWrite i v) s
      = .next ((((s.put F.mtimeStealEn (bits v.toNat 31 31) i).put F.mtimeStealCount (bits v.toNat 27 14) i).put
          F.mtimeStealStart (bits v.toNat 13 0) i).answer .ok))
  ∧ (∀ (n : Fin 16) (v : Word) (s : State),
      exec (.evtTargetWrite n false v) s = .next (((s.clear F.mtimeEvtCtrlArm n).setWord .mtimeEvtTLo v n).answer .ok) ∧
      exec (.evtTargetWrite n true v) s = .next (((s.clear F.mtimeEvtCtrlArm n).setWord .mtimeEvtTHi v n).answer .ok))
  ∧ (∀ (half : Fin 32768) (v : Word) (s : State), s.bit F.mtimeRtStatusSwapPending = false →
      (eccRead (s.rtWord (!s.activeBank) (half / 2)).1 (s.rtWord (!s.activeBank) (half / 2)).2).poison = false →
      ∃ d, exec (.rtShadowWrite half v) s = .next ((s.setRtWord (!s.activeBank) (half / 2) (d, eccCheck d)).answer .ok) ∧
        (half.val % 2 = 0 → d.extractLsb' 0 32 = v &&& 0x00FFFFFF) ∧ (half.val % 2 = 1 → d.extractLsb' 32 32 = v &&& 0x0FFFFF00))
  ∧ (∀ (v : Word) (s : State), s.bit F.mtimeRtStatusSwapPending = false → bitAt v.toNat 31 = true →
      255 ≤ bits v.toNat 29 16 →
      exec (.rtSwapRequest v) s
        = .next (((((s.put F.mtimeRtCtrlShadowLen (bits v.toNat 29 16)).put F.mtimeRtCtrlFallbackClass
            (bits v.toNat 10 8)).flag F.mtimeRtCtrlSwap).flag F.mtimeRtStatusSwapPending).answer .ok))
  ∧ (∀ s : State, exec .mtimeSnap s
      = .next (((s.setPair .mtimeSnapTLo .mtimeSnapTHi s.stamp).setPair .mtimeSnapPtLo .mtimeSnapPtHi s.pt).answer .ok))

/-- O7. What each event of chapter 02 leaves in the state it is about: a qualified clock, phase lock, the two timeouts,
loss of the clock, the end of a frequency window, a marker, the commit of a swap and a comparator that fires. -/
def Obligations.MachineTimeEventsComplete : Prop :=
  (∀ (measured : Nat) (s : State), s.externalSrc = true → freqOff measured (s.get F.mtimeNomPeriodVal) = false → s.mtSt = .free →
      ∃ t, exec (.clockQualified measured) s = .next t ∧ t.mt.pullIn = true ∧ t.mt.locked = false ∧ t.mt.searchCross = 0 ∧ t.get F.mtimeStatusState = 1)
  ∧ (∀ s : State, s.mt.pullIn = true → s.externalSrc = true → s.mtSt = .acquire →
      ∃ t, exec .phaseLock s = .next t ∧ t.mt.pullIn = false ∧ t.mt.locked = true ∧ t.mt.searchCross = 0 ∧ t.mt.searchLate = false ∧
        t.bit F.mtimeStatusSrcPresent = true ∧ t.mem = s.mem)
  ∧ (∀ s : State, s.mtSt = .acquire → s.mt.locked = true → 65536 ≤ s.mt.searchCross → s.mt.searchLate = false →
      exec .markerSearchTimeout s
        = .next ((({ s with mt := { s.mt with searchLate := true } }).flag F.mtimeErrMarkerMissing).raise .mtimeNoMarker))
  ∧ (∀ s : State, s.mtSt = .coasting → s.mt.returnCheck = true → 65536 ≤ s.mt.searchCross →
      exec .coastReturnTimeout s = .next (((s.flag F.mtimeErrMarkerMissing).raise .mtimeNoMarker).enterSlipped))
  ∧ (∀ (begun : Bool) (s : State), s.externalSrc = true → s.bit F.mtimeStatusCoasting = false →
      ∃ t, exec (.machineClockLoss begun) s = .next t ∧ t.mt.locked = false ∧ t.mt.pullIn = false ∧ t.mt.heldLanes = true ∧ t.mem = s.mem)
  ∧ (∀ (measured : Nat) (s : State), s.externalSrc = true → freqOff measured (s.get F.mtimeNomPeriodVal) = false →
      exec (.freqWindowEnd measured) s = .next (((s.put F.mtimeMeasPeriodVal measured).flag F.mtimeStatusSrcPresent).checkFreq))
  ∧ (∀ (wide : Bool) (s : State), s.externalSrc = true →
      ∃ t, exec (.orbitMarker wide) s = .next t ∧ t.mt.markerNext = some s.markerDue ∧ t.mem = s.mem)
  ∧ (∀ s : State, s.mt.swapDue = true →
      ∃ t, exec .rtSwapCommit s = .next t ∧ t.mt.swapDue = false ∧ t.mt.swapCommitted = true)
  ∧ (∀ (n : Fin 16) (s : State), s.bit F.mtimeEvtCtrlArm n = true → s.evtTarget n ≤ s.stamp % 2 ^ 62 →
      ∃ t, exec (.eventComparatorFire n) s = .next t ∧ t.get F.mtimeEvtCtrlArm n = 0 ∧ t.get F.mtimeEvtCtrlFired n = 1)

/-- O8. Under conditions on the state alone each event of chapter 02 answers a next state, which is given whole: a clock
that has qualified in FREE starts the search for markers (R41), the generator that pulls in toward edges of the source
locks to them (R633), a search of 65,536 crossings or a return check as long gives up (R42, R47), a lost clock is
declared (R45), a frequency window in tolerance is shown (R45, R48), a marker is judged against the crossing it begins
(R43), a swap that is due commits (R58), an armed comparator that has reached its target fires (R62). -/
def Obligations.TimeEventsLeadOn : Prop :=
  (∀ (measured : Nat) (s : State), s.externalSrc = true → freqOff measured (s.get F.mtimeNomPeriodVal) = false → s.mtSt = .free →
      exec (.clockQualified measured) s
        = .next ((((s.put F.mtimeMeasPeriodVal measured).flag F.mtimeStatusSrcPresent).checkFreq).enterAcquire false))
  ∧ (∀ s : State, s.mt.pullIn = true → s.externalSrc = true → s.mtSt = .acquire →
      exec .phaseLock s
        = .next ({ s.flag F.mtimeStatusSrcPresent with mt := { s.mt with pullIn := false, locked := true } } : State).beginSearch)
  ∧ (∀ s : State, s.mtSt = .acquire → s.mt.locked = true → 65536 ≤ s.mt.searchCross → s.mt.searchLate = false →
      exec .markerSearchTimeout s
        = .next ((({ s with mt := { s.mt with searchLate := true } }).flag F.mtimeErrMarkerMissing).raise .mtimeNoMarker))
  ∧ (∀ s : State, s.mtSt = .coasting → s.mt.returnCheck = true → 65536 ≤ s.mt.searchCross →
      exec .coastReturnTimeout s = .next (((s.flag F.mtimeErrMarkerMissing).raise .mtimeNoMarker).enterSlipped))
  ∧ (∀ (begun : Bool) (s : State), s.externalSrc = true → exec (.machineClockLoss begun) s = .next (mtLoss begun s))
  ∧ (∀ (measured : Nat) (s : State), s.externalSrc = true → freqOff measured (s.get F.mtimeNomPeriodVal) = false →
      exec (.freqWindowEnd measured) s = .next (((s.put F.mtimeMeasPeriodVal measured).flag F.mtimeStatusSrcPresent).checkFreq))
  ∧ (∀ s : State, s.externalSrc = true →
      exec (.orbitMarker false) s = .next (orbitMarker s) ∧ exec (.orbitMarker true) s = .next (orbitMarker (s.flag F.mtimeErrMarkerWide)))
  ∧ (∀ s : State, s.mt.swapDue = true →
      let r := rtFetch { s with mt := { s.mt with swapDue := false, swapCommitted := true } } (!s.activeBank) 0
      exec .rtSwapCommit s = .next { r.2 with mt := { r.2.mt with ahead2 := r.1 } })
  ∧ (∀ (n : Fin 16) (s : State), s.bit F.mtimeEvtCtrlArm n = true → s.evtTarget n ≤ s.stamp % 2 ^ 62 →
      exec (.eventComparatorFire n) s = .next (evtFire n s))

/-- O9. What the register commands of a lane leave: an enable starts a lane that is OFF and ready in DETECT, a disable of
a lane in service leads to STOPPING, a retrain to RETRAIN, a reinstatement of a RETIRED lane to DETECT; a write of
LANE_CFG while every lane is OFF sets its fields; an eye-scan point starts and is aborted. -/
def Obligations.LaneCommandsComplete : Prop :=
  (∀ (n : Fin 48) (m : Fin 9) (s : State), s.laneSt n m = .off → s.bundleReady n = true →
      ∃ t, exec (.laneEnable n m) s = .next t ∧ t.laneSt n m = .detect ∧ t.get F.laneLstAttempts n m = 0 ∧ t.mem = s.mem)
  ∧ (∀ (n : Fin 48) (m : Fin 9) (s : State), s.laneSt n m = .active ∨ s.laneSt n m = .standby →
      (∃ t, exec (.laneDisable n m) s = .next t ∧ t.laneSt n m = .stopping ∧ (t.lane n m).buf = [] ∧ t.mem = s.mem) ∧
      (∃ t, exec (.laneRetrain n m) s = .next t ∧ t.laneSt n m = .retrain ∧ t.mem = s.mem))
  ∧ (∀ (n : Fin 48) (m : Fin 9) (s : State), s.laneSt n m = .retired →
      ∃ t, exec (.laneReinstate n m) s = .next t ∧ t.laneSt n m = .detect ∧ t.mem = s.mem)
  ∧ (∀ (n : Fin 48) (v : Word) (s : State), s.bit F.laneGctrlLock = false → s.allLanesOff n = true →
      10 ≤ bits v.toNat 22 16 → bits v.toNat 22 16 ≤ 64 → bits v.toNat 25 24 = s.get F.laneCfgMode n →
      ∃ t, exec (.laneCfgWrite n v) s = .next t ∧ t.out = s.out ++ [.resp .ok 0 false] ∧
        t.get F.laneCfgMult n = bits v.toNat 22 16 ∧ t.get F.laneCfgTxLayer n = bits v.toNat 9 9 ∧
        t.get F.laneCfgRxLayer n = bits v.toNat 8 8 ∧ t.get F.laneCfgEn n = bits v.toNat 0 0)
  ∧ (∀ (n : Fin 48) (v : Word) (s : State), s.get F.laneEyeStatState n ≠ 1 → bitAt v.toNat 31 = true →
      (eyeFields n v.toNat s).eyeLaneOk n = true →
      exec (.laneEyeStart n v) s
        = .next ((((eyeFields n v.toNat s).flag F.laneEyeCtrlStart n).put F.laneEyeStatState 1 n).answer .ok))
  ∧ (∀ (n : Fin 48) (s : State), s.get F.laneEyeStatState n = 1 → s.eyeLaneOk n = false →
      exec (.eyeScanAbort n none) s = .next ((s.put F.laneEyeStatState 3 n).clear F.laneEyeCtrlStart n))
  ∧ (∀ (n : Fin 48) (count : Nat) (s : State), s.get F.laneEyeStatState n = 1 →
      s.eyeLaneOk n = true → count ≤ s.eyeBits n →
      exec (.eyeScanDone n count) s
        = .next (((s.put F.laneEyeStatState 2 n).clear F.laneEyeCtrlStart n).put F.laneEyeErrVal (min count 0xFFFFFFFF) n))

/-- O10. What the events of a lane's state machine leave: which state the lane is in afterwards, and the forwarded clock's
flags. -/
def Obligations.LaneBringupEventsComplete : Prop :=
  (∀ (n : Fin 48) (m : Fin 9) (s : State), s.laneSt n m = .detect → (s.lane n m).farFound = true →
      exec (.detectPoll n m false true) s = .next (s.setLaneSt n m .train))
  ∧ (∀ (n : Fin 48) (m : Fin 9) (k : Fin 4) (s : State), s.laneSt n m = .train → (s.get F.laneSliceUsable n m).testBit k = true →
      exec (.trainBitLock n m k) s
        = .next (((s.setLaneSt n m .align).put F.laneSliceActive k n m).modLane n m
            (fun l => { l with rising := 0, falling := 0, lastTag := none })))
  ∧ (∀ (n : Fin 48) (m : Fin 9) (s : State), s.laneSt n m = .train → ∃ t, exec (.trainTimeout n m) s = .next t ∧
      (t.laneSt n m = .detect ∨ t.laneSt n m = .retired) ∧ t.mem = s.mem)
  ∧ (∀ (n : Fin 48) (m : Fin 9) (s : State), s.laneSt n m = .align → ∃ t, exec (.alignTimeout n m) s = .next t ∧
      (t.laneSt n m = .detect ∨ t.laneSt n m = .retired) ∧ t.mem = s.mem)
  ∧ (∀ (n : Fin 48) (m : Fin 9) (s : State), s.laneSt n m = .caps → ∃ t, exec (.capsTimeout n m) s = .next t ∧
      (t.laneSt n m = .detect ∨ t.laneSt n m = .retired) ∧ t.mem = s.mem)
  ∧ (∀ (n : Fin 48) (m : Fin 9) (s : State), s.laneSt n m = .active →
      exec (.lossOfLock n m true) s
        = .next ((s.setLaneSt n m .retrain).modLane n m (fun l => { l with fromStandby := false, syncErr := 0 })))
  ∧ (∀ (n : Fin 48) (m : Fin 9) (margin : Int) (s : State), s.laneSt n m = .retrain → 0 ≤ margin →
      let back := (s.setLaneSt n m (if (s.lane n m).fromStandby then .standby else .active)).modLane n m
        (fun l => { l with syncErr := 0 })
      exec (.retrainDone n m margin) s = .next (if m.val = 8 ∧ (s.lane n m).fromStandby = true then spareReady n back else back))
  ∧ (∀ (n : Fin 48) (m : Fin 9) (s : State), s.laneSt n m = .retrain → s.lanesHeld n = false →
      ∃ t, exec (.retrainTimeout n m) s = .next t ∧ t.laneSt n m = .retired ∧ t.mem = s.mem)
  ∧ (∀ (n : Fin 48) (m : Fin 9) (s : State), s.laneSt n m = .stopping → s.bit F.laneLstPendingEnable n m = false →
      ∃ t, exec (.laneStopDone n m) s = .next t ∧ t.laneSt n m = .off ∧ t.mem = s.mem)
  ∧ (∀ (n : Fin 48) (begun : Bool) (s : State), (s.timingSrc = false ∨ s.get F.mtimeCtrlTbundle ≠ n) →
      exec (.ckLaneLoss n begun) s = .next ((s.flag F.laneErrCkLost n).clear F.laneStatusCkLocked n))
  ∧ (∀ (n : Fin 48) (begun : Bool) (s : State), s.timingSrc = true → s.get F.mtimeCtrlTbundle = n →
      exec (.ckLaneLoss n begun) s = .next (mtLoss begun ((s.flag F.laneErrCkLost n).clear F.laneStatusCkLocked n)))
  ∧ (∀ (n : Fin 48) (s : State), exec (.ckLaneReturn n) s = .next (s.flag F.laneStatusCkLocked n))

/-- O11. What traffic does on a lane: a frame whose sync word does not match counts a sync error; a good frame in time
joins the alignment buffer; a slot is delivered at its port; a port write waits for its boundary; a launch drives one
frame with the local tag, empty and poisoned since a trip; the clock lane drives its pattern; the bypass sends the
frame on, and on .SP too where the far end has asked for the lane there. -/
def Obligations.LaneTrafficCompletes : Prop :=
  (∀ (n : Fin 48) (m : Fin 9) (frame : Nat) (margin : Int) (s : State), s.extest = false → s.laneSt n m = .active →
      s.bit F.laneLctrlRxInv n m = false → s.bit F.laneLstPolInv n m = false →
      (parseFrame (s.frameBits n) (frame % 2 ^ s.frameBits n)).1 = false →
      exec (.rxFrame n m frame margin) s = .next (s.modLane n m (fun l =>
        { l with syncErr := l.syncErr + 1, lastRx := some (parseFrame (s.frameBits n) (frame % 2 ^ s.frameBits n)).2 })))
  ∧ (∀ (n : Fin 48) (m : Fin 8) (frame : Nat) (margin : Int) (s : State), s.extest = false → s.laneSt n m = .active →
      s.bit F.laneLctrlRxInv n m = false → s.bit F.laneLstPolInv n m = false → 0 ≤ margin → s.tooEarly n margin = false →
      (parseFrame (s.frameBits n) (frame % 2 ^ s.frameBits n)).1 = true →
      s.slotMatch n (parseFrame (s.frameBits n) (frame % 2 ^ s.frameBits n)).2.tag = true →
      ∃ t, exec (.rxFrame n (m.castLE (by decide)) frame margin) s = .next t ∧ (t.lane n m).syncErr = 0 ∧
        (t.lane n m).buf = ((s.lane n m).buf ++ [(parseFrame (s.frameBits n) (frame % 2 ^ s.frameBits n)).2]).drop
          ((s.lane n m).buf.length - 8))
  ∧ (∀ (n : Fin 48) (m : Fin 8) (s : State), s.get F.laneStatusReversed n = 0 →
      ∃ t, exec (.rxSlotDelivery n m) s = .next t ∧ t.out = s.out ++ [.slot n m (t.lane n m).slot] ∧ t.mem = s.mem)
  ∧ (∀ (n : Fin 48) (m : Fin 8) (s : State), s.get F.laneStatusReversed n = 1 → s.get F.laneGangSize n = 1 → s.get F.laneGangPos n = 0 →
      n < 47 → (s.bundle n).steerFor = none → (s.bundle n).spareCarries = none →
      ∃ t, exec (.rxSlotDelivery n m) s = .next t ∧
        t.out = s.out ++ [.slot (n + 1) (7 - m) (t.lane (n + 1) (7 - m)).slot] ∧ t.mem = s.mem)
  ∧ (∀ (layer : Fin 2) (n : Fin 48) (m : Fin 8) (phase data : Nat) (u p : Bool) (s : State), s.lbtxOwns n = false →
      s.serviceLane n m = false → s.get F.laneCfgTxLayer n = layer → s.get F.laneCfgMode n ≠ modeCave →
      Tab.look (s.lane n m).tx (s.txBoundary phase) = none →
      let w : TxWord := { data := data % 2 ^ (s.frameBits n - 64), user := u, poison := p }
      exec (.txPortWrite layer n m phase data u p) s
        = .next (s.modLane n m (fun l => { l with tx := Tab.set l.tx (s.txBoundary phase) w })))
  ∧ (∀ (layer : Fin 2) (n : Fin 48) (m : Fin 8) (phase data : Nat) (u p : Bool) (s : State), s.get F.laneCfgTxLayer n ≠ layer →
      exec (.txPortWrite layer n m phase data u p) s = .next s)
  ∧ (∀ (n : Fin 48) (s : State), s.bundleReady n = true → s.extest = false → s.mt.cross = s.markerIndex →
      exec (.txFrameLaunch n 9) s = .next (s.emit (.ck n 0xF000)))
  ∧ (∀ (n : Fin 48) (s : State), s.bundleReady n = true → s.extest = false → s.mt.cross ≠ s.markerIndex →
      exec (.txFrameLaunch n 9) s = .next (s.emit (.ck n 0xFF00)))
  ∧ (∀ (n : Fin 48) (m : Fin 8) (s : State), s.bundleReady n = true → s.extest = false → s.laneSt n m = .active → s.bit F.laneBypassEn n m = false →
      s.bit F.laneLctrlTxInv n m = false → s.txTripped = false → s.mtSt = .aligned → (s.bundle n).voteGood = 0 →
      Tab.look (s.lane n m).tx s.mt.boundary = none →
      ∃ t, exec (.txFrameLaunch n (m.castLE (by decide))) s = .next t ∧
        t.out = s.out ++ [.frame n m (txFrame (s.frameBits n) (s.mt.cross % 256)
          (mkTyp false 1 (s.get F.laneStatusSteerTx n) false) 0)])
  ∧ (∀ (n : Fin 48) (m : Fin 8) (s : State), s.bundleReady n = true → s.extest = false → s.laneSt n m = .active → s.txHeld n = true →
      s.bit F.laneLctrlTxInv n m = false → (s.bundle n).voteGood = 0 →
      ∃ t, exec (.txFrameLaunch n (m.castLE (by decide))) s = .next t ∧
        t.out = s.out ++ [.frame n m (txFrame (s.frameBits n) (s.mt.cross % 256)
          (mkTyp true 1 (s.get F.laneStatusSteerTx n) false) 0)])
  ∧ (∀ (n : Fin 48) (m : Fin 8) (typ : Byte) (payload : Nat) (f : RxFrame) (s : State), s.bundleReady n = true → s.inBypass n m = true →
      s.extest = false → s.bypassActive n m = true →
      (s.lane (s.bypassSource n m).1 (s.bypassSource n m).2).lastRx = some f → f.crcOk = true → s.bit F.laneLctrlTxInv n m = false →
      f.sync = syncWord f.tag → (s.bundle n).steerIn ≠ 8 + m →
      exec (.bypassFrame n m typ payload) s = .next (s.emit (.frame n m
        (txFrame (s.frameBits n) f.tag (setBits typ.toNat 4 1 (s.get F.laneStatusSteerTx n)) payload))))
  ∧ (∀ (n : Fin 48) (m : Fin 8) (typ : Byte) (payload : Nat) (f : RxFrame) (s : State), s.bundleReady n = true → s.inBypass n m = true →
      s.extest = false → s.bypassActive n m = true →
      (s.lane (s.bypassSource n m).1 (s.bypassSource n m).2).lastRx = some f → f.crcOk = true → s.bit F.laneLctrlTxInv n m = false →
      f.sync = syncWord f.tag → (s.bundle n).steerIn = 8 + m → s.carries n 8 = true → s.bit F.laneLctrlTxInv n 8 = false →
      exec (.bypassFrame n m typ payload) s = .next ((s.emit (.frame n m
          (txFrame (s.frameBits n) f.tag (setBits typ.toNat 4 1 (s.get F.laneStatusSteerTx n)) payload))).emit
        (.frame n 8 (txFrame (s.frameBits n) f.tag (setBits typ.toNat 4 1 (8 + m)) payload))))

/-- O12. A boundary counts the crossing and takes the entry read ahead; an orbit start takes index 0. Contention cuts a
driven span segment, which a correction lets return. The multiples of the fabric clocks, a pin's delay and a group's
request are written; a request is carried out at its boundary; global start starts the fabric or is refused. That the
events say when their time has come is the model's choice (log entry 5). -/
def Obligations.CrossingAndFabricCommandsComplete : Prop :=
  (∀ (ck : BitVec 16) (s : State), s.clk.held = false → s.mt.renumber = none → s.mt.swapDue = false →
      ∃ t, exec (.crossingBoundary ck) s = .next t ∧ t.mt.cross = s.nextCross ∧ t.mt.boundary = s.mt.boundary + 1 ∧
        t.mt.entry = s.mt.ahead1)
  ∧ (∀ (ck : BitVec 16) (s : State), s.clk.held = false → s.mt.renumber = none → s.mt.swapDue = false → s.nextCross = 0 →
      ∃ t, exec (.orbitStart ck) s = .next t ∧ t.mt.cross = 0 ∧ t.mt.boundary = s.mt.boundary + 1 ∧
        (s.mt.orbitLoad = false → t.mt.orbit = (s.mt.orbit + 1) % 2 ^ 48))
  ∧ (∀ (c : Fin 36) (s : State), s.nearClocked c = true → s.nearSt c = .filling →
      exec (.reserveFillDone c) s
        = .next (s.put F.nearChFillVal (max (if s.mirrored then 116509 else 58255) (s.get F.nearChFillVal c)) c))
  ∧ (∀ (g : Seg) (d : Fin 42) (s : State), s.started = true → segExists g = true → d.val < (segOf g).drivers.length →
      (Tab.get {} s.spans (segKey g)).st = .driven → (Tab.get {} s.spans (segKey g)).cuts = [] →
      ∃ t, exec (.spanContention g d) s = .next t ∧
        Tab.get {} t.spans (segKey g) = { st := .cut, reopen := false, cuts := [s.pt], openTo := s.mt.fabTick + s.nsTicks 2 } ∧
        t.mem = s.mem)
  ∧ (∀ (g : Seg) (s : State), (Tab.get {} s.spans (segKey g)).st = .cut → s.regionLoaded (segRegion g) = true →
      exec (.spanReenable g true) s = .next (s.setSpan (segKey g) { Tab.get {} s.spans (segKey g) with reopen := true }))
  ∧ (∀ (v : Word) (s : State), s.started = false → s.bit F.fabCtrlLock = false → legalK (bits v.toNat 4 0) = true →
      legalK (bits v.toNat 12 8) = true → legalK (bits v.toNat 20 16) = true → legalK (bits v.toNat 28 24) = true →
      exec (.fclkCtrlWrite v) s
        = .next ((((((s.put F.fabFclkCtrlK0 (bits v.toNat 4 0)).put F.fabFclkCtrlK1 (bits v.toNat 12 8)).put F.fabFclkCtrlK2
            (bits v.toNat 20 16)).put F.fabFclkCtrlK3 (bits v.toNat 28 24)).clear F.fabFclkStatusBadK).answer .ok))
  ∧ (∀ (p : Fin 416) (v : Word) (s : State), exec (.iodWrite p v) s
      = .next (((s.put F.fabIodTaps (bits v.toNat 6 0) p).put F.fabIodSlip (bits v.toNat 18 16) p).answer .ok))
  ∧ (∀ (p : Fin 416) (tx rx : Byte) (oe : Bool) (layer : Fin 2) (s : State), s.get F.fabIobCfgLayer (p.val / 32) = layer.val →
      s.iobUp (p.val / 32) = true → s.iobPaired (p.val / 32) = false → s.extest = false →
      ∃ t, exec (.userIoWord layer p tx oe rx) s = .next t ∧ t.out.getLast? = some (.pinIn p ((Tab.get {} s.pins p.val).rx.getD 1 0)) ∧
        (Tab.get {} t.pins p.val).taps = tapStep (Tab.get {} s.pins p.val).taps (s.get F.fabIodTaps p.val) ∧ t.mem = s.mem)
  ∧ (∀ (p : Fin 416) (tx rx : Byte) (oe : Bool) (layer : Fin 2) (s : State), s.get F.fabIobCfgLayer (p.val / 32) = layer.val →
      s.iobUp (p.val / 32) = true → s.iobPaired (p.val / 32) = true → p.val % 2 = 0 → s.extest = false →
      ∃ t, exec (.userIoWord layer p tx oe rx) s = .next t ∧ t.out.getLast? = some (.pinIn p ((Tab.get {} s.pins p.val).rx.getD 1 0)) ∧
        (Tab.get {} t.pins (p.val + 1)).now
          = (Tab.get {} t.pins p.val).now.map (fun w => 2 ^ s.iobRatio (p.val / 32) - 1 - w) ∧ t.mem = s.mem)
  ∧ (∀ (g : Fin 8) (v : Word) (s : State), s.bit F.fabCtrlLock = true → bitAt v.toNat 31 = true → s.bit F.fabGrpReq g = false →
      ∃ t, exec (.grpSwitchRequest g v) s = .next t ∧ Tab.get 0 t.groupAt g = s.mt.boundary + 2 ∧ t.get F.fabGrpReq g = 1 ∧
        t.get F.fabGrpReqCtx g = bits v.toNat 29 28)
  ∧ (∀ (g : Fin 8) (s : State), s.bit F.fabGrpReq g = true → Tab.get 0 s.groupAt g.val ≤ s.mt.boundary → s.groupField g = none →
      ∃ t, exec (.grpRequestApply g) s = .next t ∧ t.get F.fabGrpCur g = s.get F.fabGrpReqCtx g ∧ t.get F.fabGrpReq g = 0 ∧ t.mem = s.mem)
  ∧ (∀ s : State, s.started = false → s.get F.cfgStatusState = 5 → s.get F.cfgStatusKind = 0 → s.fixedOk = true → (fclkCheck s).1 = true →
      exec .globalStart s = .next (startFabric (fclkCheck s).2))

/-- O13. What the commands and edges of a hoop leave: a write of its configuration while it is HELD, a release of a HELD
hoop with a design arms the release edge at the next boundary, a stop of a running hoop arms the stop edge; at its
edge it resets, on completion it is HELD, at its release edge it runs; a repaired hoop runs on. -/
def Obligations.HoopCommandsComplete : Prop :=
  (∀ (n : Fin 192) (v : Word) (s : State), s.hoopSt n = .held →
      exec (.hoopCfgWrite n v) s = .next ((((s.put F.fabHoopCfgGrp (bits v.toNat 2 0) n).put F.fabHoopCfgAutoRun
        (bits v.toNat 8 8) n).put F.fabHoopCfgRepairClamp (bits v.toNat 9 9) n).answer .ok))
  ∧ (∀ (n : Fin 192) (s : State), s.hoopSt n = .held → s.started = true → s.get F.fabHoopCfgCtxValid n ≠ 0 → (s.hoop n).releaseAt = none →
      exec (.hoopRelease n) s = .next (((s.flag F.fabHoopStatusPendingEnable n).modHoop n
        (fun h => { h with releaseAt := some (s.mt.boundary + 1) })).answer .ok))
  ∧ (∀ (n : Fin 192) (s : State), s.hoopSt n = .run ∨ s.hoopSt n = .repair →
      ∃ t, exec (.hoopStop n) s = .next t ∧ t.hoopSt n = .stopping ∧ (t.hoop n).stopAt = some (s.mt.boundary + 1) ∧
        (t.hoop n).stopFor = .command ∧ t.mem = s.mem)
  ∧ (∀ (n : Fin 192) (b : Nat) (s : State), s.hoopSt n = .stopping → (s.hoop n).stopAt = some b → b ≤ s.mt.boundary →
      exec (.hoopStopEdge n) s
        = .next ((resetHoop n s).modHoop n (fun h => { h with stopAt := none, stopped := some s.mt.boundary })))
  ∧ (∀ (n : Fin 192) (b : Nat) (s : State), s.hoopSt n = .stopping → (s.hoop n).stopped = some b → b < s.mt.boundary →
      (s.hoop n).stopFor = .command →
      ∃ t, exec (.hoopStopComplete n) s = .next t ∧ t.hoopSt n = .held ∧ (t.hoop n).stopped = none ∧ t.mem = s.mem)
  ∧ (∀ (n : Fin 192) (b : Nat) (s : State), s.hoopSt n = .held → (s.hoop n).releaseAt = some b → b ≤ s.mt.boundary →
      exec (.hoopReleaseEdge n) s = .next (checkRegion n (enterRun n s)))
  ∧ (∀ (n : Fin 192) (b : Nat) (s : State), s.hoopSt n = .repair → (s.hoop n).resumeAt = some b → b ≤ s.mt.boundary → s.ctxOk n = true →
      ∃ t, exec (.hoopRepairResume n) s = .next t ∧ t.hoopSt n = .run ∧ (t.hoop n).live = true ∧ (t.hoop n).resumeAt = none ∧ t.mem = s.mem)

/-- O14. An edge of a slice adds its signed product to the accumulator; a rank unit takes a set in and brings the oldest
to its outputs; an array takes a search in and brings the oldest result out; the update channels start, work through
their rows, apply a set selection at a boundary, are aborted and complete. -/
def Obligations.ArithmeticAndMatchCommandsComplete : Prop :=
  (∀ (i : Fin 12288) (edge : Nat) (pins : SlicePins) (s : State),
      s.blockRuns (sliceOwner i) (s.get F.fabBindAsBind i) (s.heldBit .fabHbHoldAs i) = true →
      s.sliceCfg i (s.ctxOf (sliceOwner i)) = { accSrc := 1 } → pins.en = true → pins.zero = false → pins.neg = false →
      ∃ t, exec (.sliceSample i edge pins) s = .next t ∧
        (t.slice i).acc = wrapTo 64 (signedOf 64 (s.slice i).acc + signedOf 24 pins.opa.toNat * signedOf 24 pins.opb.toNat))
  ∧ (∀ (r : Fin 192) (cands : List Word) (s : State), s.rankRuns r = true →
      exec (.rankSet r cands true) s = .next (s.setRank r { s.rank r with
        pipe := (s.rank r).pipe ++ [some (rankSet (s.rank r).cfg (s.rankSlots r cands))] }))
  ∧ (∀ (r : Fin 192) (o : RankOut) (rest : List (Option RankOut)) (s : State), s.rankRuns r = true → (s.rank r).pipe = some o :: rest →
      exec (.rankResult r) s = .next (s.setRank r { s.rank r with pipe := rest, outs := o, done := true }))
  ∧ (∀ (a : Fin 256) (key : DWord) (p : Bool) (tag : BitVec 16) (upsets : List (Fin 32768 × Fin 148)) (s : State),
      (upsetRows a upsets s).pmRuns a = true →
      let t := upsetRows a upsets s
      exec (.pmSearch a key p tag upsets) s = .next (t.setPm a { t.pm a with pipe := (t.pm a).pipe ++
        [pmResult (fieldMasks (fieldStarts (t.pmMask a))) (t.get F.fabPmCfgMissMax a) (t.bit F.fabPmCfgOrder a)
          (t.get F.fabPmSetSetEn a) (t.pm a).rows key.toNat p tag.toNat] }))
  ∧ (∀ (a : Fin 256) (o : PmOut) (rest : List PmOut) (s : State), s.pmRuns a = true → (s.pm a).pipe = o :: rest →
      exec (.pmSearchResult a) s = .next (s.setPm a { s.pm a with pipe := rest, outs := o, done := true }))
  ∧ (∀ (c : Fin 4) (v : Word) (s : State), s.get F.fabPmuStatusState c = 0 → pmuRefused c 0 (bits v.toNat 7 0) s = false →
      ∃ t, exec (.pmuWrite c v) s = .next t ∧ t.get F.fabPmuStatusState c = 1 ∧ t.get F.fabPmuStatusProgress c = 0 ∧
        t.get F.fabPmuCtrlOp c = 0 ∧ t.get F.fabPmuCtrlArray c = bits v.toNat 7 0 ∧ t.pmu c = { accepted := s.mt.boundary })
  ∧ (∀ (c : Fin 4) (v : Word) (s : State), s.get F.fabPmuStatusState c = 0 → pmuRefused c 1 (bits v.toNat 7 0) s = false →
      ∃ t, exec (.pmuInvalidate c v) s = .next t ∧ t.get F.fabPmuStatusState c = 1 ∧ t.get F.fabPmuCtrlOp c = 1 ∧ t.get F.fabPmuCtrlArray c = bits v.toNat 7 0)
  ∧ (∀ (c : Fin 4) (v : Word) (s : State), s.get F.fabPmuStatusState c = 0 → pmuRefused c 2 (bits v.toNat 7 0) s = false →
      ∃ t, exec (.pmuRead c v) s = .next t ∧ t.get F.fabPmuStatusState c = 1 ∧ t.get F.fabPmuCtrlOp c = 2 ∧ t.get F.fabPmuCtrlArray c = bits v.toNat 7 0)
  ∧ (∀ (c : Fin 4) (v : Word) (s : State), s.get F.fabPmuStatusState c = 0 → pmuRefused c 3 (bits v.toNat 7 0) s = false →
      ∃ t, exec (.pmuScrub c v) s = .next t ∧ t.get F.fabPmuStatusState c = 1 ∧ t.get F.fabPmuCtrlOp c = 3 ∧ t.get F.fabPmuCtrlArray c = bits v.toNat 7 0)
  ∧ (∀ (c : Fin 4) (v : Word) (s : State), s.get F.fabPmuStatusState c = 0 → pmuRefused c 4 (bits v.toNat 7 0) s = false →
      ∃ t, exec (.pmuSetsel c v) s = .next t ∧ t.get F.fabPmuStatusState c = 2 ∧ t.get F.fabPmSetPending (bits v.toNat 7 0) = 1 ∧
        t.get F.fabPmuCtrlNewSet c = bits v.toNat 25 24)
  ∧ (∀ (c : Fin 4) (s : State), s.get F.fabPmuStatusState c ≠ 0 → (s.pmu c).finished = none →
      exec (.pmuAbort c) s = .next (((s.clear F.fabPmSetPending (s.get F.fabPmuCtrlArray c)).setPmu c
        { s.pmu c with finished := some 1 }).answer .ok))
  ∧ (∀ (c : Fin 4) (s : State), s.nocClocked = true → s.get F.fabPmuStatusState c = 1 → (s.pmu c).finished = none →
      s.frozen F.dbgFreezePmu = false → s.get F.fabPmuCtrlOp c = 1 →
      exec (.pmuRow c []) s = .next (pmuAdvance c
        (s.setPmRow (s.get F.fabPmuCtrlArray c) (s.get F.fabPmuFirstVal c + s.get F.fabPmuStatusProgress c) {})))
  ∧ (∀ (c : Fin 4) (s : State), s.get F.fabPmuStatusState c = 2 → (s.pmu c).finished = none → (s.pmu c).accepted < s.mt.boundary →
      s.bit F.fabPmuCtrlAt c = false →
      ∃ t, exec (.pmuSetselApply c) s = .next t ∧ t.get F.fabPmSetSetEn (s.get F.fabPmuCtrlArray c) = s.get F.fabPmuCtrlNewSet c ∧
        (t.pmu c).finished = some 0)
  ∧ (∀ (c : Fin 4) (st : Nat) (s : State), s.nocClocked = true → (s.pmu c).finished = some st → s.get F.fabPmuCtrlOp c = 1 →
      ∃ t, exec (.pmuComplete c) s = .next t ∧ t.get F.fabPmuStatusState c = 0 ∧ t.get F.fabPmuCtrlGo c = 0 ∧ t.pmu c = {} ∧
        (s.bit F.fabPmuWxqEn c = true → t.tokens = s.tokens ++ [(s.get F.fabPmuWxqQueue c,
          pmuCompletion st c (s.get F.fabPmuCtrlArray c) (s.get F.fabPmuStatusProgress c))]))

/-- O15. A port read of a clean word puts its 64 bits on their way and a result comes to the outputs in order; the window
and a scratch bank answer a read of a clean aligned word with its 64 bits, and a write stores the word clean; the
owner of a bank changes at the handover edge; a scrub pass starts, reads words, is aborted and completes. -/
def Obligations.BankAccessesComplete : Prop :=
  (∀ (b : Fin 8192) (acc : PortAcc) (s : State), acc.region = s.get F.membBownOwner b → s.regionRuns acc.region = true →
      s.bit F.membBcfgHeldA b = false → (Tab.get {} s.banks b).unspared = false → (Tab.get {} s.banks b).portOff = false →
      s.get F.membBcfgWidthA b = 0 → s.get F.membBcfgPmode b = 2 → acc.we = 0 → (s.port b .b).last = none →
      Tab.get 0 s.syn (0x8000000 + 0x400 * b + acc.addr % 1024) = 0 →
      exec (.bankPortAccess b .a acc) s
        = .next ((portEnabled b .a (s.mt.boundary, acc.edge, s.kOf (s.portClk b .a)) s).modPort b .a (fun q => { q with pipe := q.pipe ++
            [(acc.region, (s.wordData (0x8000000 + 0x400 * b + acc.addr % 1024)).toNat, false)] })))
  ∧ (∀ (b : Fin 8192) (p : BankPort) (r : Nat × Nat × Bool) (rest : List (Nat × Nat × Bool)) (s : State), (s.port b p).pipe = r :: rest →
      (r.1 = s.get F.membBownOwner b → exec (.bankPortResult b p) s = .next (s.modPort b p (fun q =>
        { q with pipe := rest, rdata := r.2.1, poison := r.2.2, late := none }))) ∧
      (r.1 ≠ s.get F.membBownOwner b → exec (.bankPortResult b p) s = .next (s.modPort b p (fun q =>
        { q with pipe := rest, late := some r }))))
  ∧ (∀ (b : Fin 8192) (v : Word) (s : State), bitAt v.toNat 31 = true → bits v.toNat 23 16 ≤ 193 →
      s.regionLoading (s.get F.membBownOwner b) = false → s.regionLoading (bits v.toNat 23 16) = false →
      (Tab.get {} s.banks b).handAt = none →
      exec (.bankHandoverRequest b v) s = .next ((((s.put F.membBownReqOwner (bits v.toNat 23 16) b).flag F.membBownReq b).modBank
        (blockId b) (fun k => { k with handAt := some (s.mt.boundary + 2) })).answer .ok))
  ∧ (∀ (b : Fin 8192) (due : Nat) (s : State), (Tab.get {} s.banks b.val).handAt = some due → due ≤ s.mt.boundary →
      ∃ t, exec (.bankHandover b) s = .next t ∧ t.get F.membBownOwner b = s.get F.membBownReqOwner b ∧ t.get F.membBownReq b = 0 ∧
        t.mem = s.mem)
  ∧ (∀ (a edge : Nat) (s : State), s.nocClocked = true → 0x40000000 ≤ a → a < 0x44000000 → a % 8 = 0 →
      bankRefusal (blockId ((a - 0x40000000) / 0x2000)) s = none → s.bit F.membBcfgWinEn ((a - 0x40000000) / 0x2000) = true →
      s.windowShut ((a - 0x40000000) / 0x2000) (s.windowPort ((a - 0x40000000) / 0x2000)) = false →
      (s.port ((a - 0x40000000) / 0x2000) (s.windowPort ((a - 0x40000000) / 0x2000)).other).last = none →
      Tab.get 0 s.syn (a / 8) = 0 →
      exec (.bankWindowAccess a edge (.read 8)) s = .next (s.answer .ok (s.wordData (a / 8)).toNat false))
  ∧ (∀ (b : Fin 8192) (s : State), s.nocClocked = true → exec (.bankWindowTimeout b) s = .next (s.answer .busy))
  ∧ (∀ (b : Fin 256) (o : Nat) (s : State), s.quillClocked (b / 16) = true → bankRefusal (.scratch b) s = none → o % 8 = 0 → o < 0x40000 →
      Tab.get 0 s.syn (0x2000000 + 0x8000 * b + o / 8) = 0 →
      exec (.scratchAccess b o (.read 8)) s = .next (s.answer .ok (s.wordData (0x2000000 + 0x8000 * b + o / 8)).toNat false))
  ∧ (∀ (b : Fin 256) (o : Nat) (data : List Byte) (s : State), s.quillClocked (b / 16) = true → bankRefusal (.scratch b) s = none → o % 8 = 0 → o < 0x40000 → data.length = 8 →
      exec (.scratchAccess b o (.write data (List.replicate 8 true) false)) s
        = .next ((s.putWord (0x2000000 + 0x8000 * b + o / 8) (BitVec.ofNat 64 (ofBytes data)) 0).answer .ok))
  ∧ (∀ (e : Fin 2) (s : State), s.get F.membScrStatusState e = 0 → scrubRefused e s = false →
      exec (.scrubStart e) s = .next ((((((s.clear F.membScrStatusBadDesc e).put F.membScrStatusState 1 e).put F.membScrStatusProgress 0 e).flag
        F.membScrCtrlGo e).setScrub e { banks := scrubBanks (s.scrBase e / 8) (s.get F.membScrLenVal e + 1) }).answer .ok))
  ∧ (∀ (e : Fin 2) (s : State), s.get F.membScrStatusState e = 1 → (s.scrub e).finished = none →
      exec (.scrubAbort e) s = .next ((s.setScrub e { s.scrub e with finished := some 1 }).answer .ok))
  ∧ (∀ (e : Fin 2) (s : State), s.nocClocked = true → s.get F.membScrStatusState e = 1 → (s.scrub e).finished = none → s.frozen F.dbgFreezeScrub = false →
      s.get F.membScrStatusProgress e < s.get F.membScrLenVal e →
      ∃ t, exec (.scrubWord e false false) s = .next t ∧ t.get F.membScrStatusProgress e = s.get F.membScrStatusProgress e + 1 ∧
        (t.scrub e).finished = none)
  ∧ (∀ (e : Fin 2) (st : Nat) (s : State), s.nocClocked = true → (s.scrub e).finished = some st →
      ∃ t, exec (.scrubComplete e) s = .next t ∧ t.get F.membScrStatusState e = 0 ∧ t.get F.membScrCtrlGo e = 0 ∧ t.scrub e = {})

/-- O16. A bank that is ON is asked down and its lowering, waking and clearing end in the states they lead to; a write
sets the compatible mode; a faulty bank's spare copies, takes over and, after a march that passes, returns. -/
def Obligations.BankPowerAndSparesComplete : Prop :=
  (∀ (id : BankId) (s : State), s.power id = .on → (s.bank id).unspared = false → (s.bank id).latched = none → s.spareFor id 1 = false →
      ∃ t, exec (.bankPowerTarget id 1) s = .next t ∧ t.power id = .lowering ∧ (t.bank id).toOff = false ∧ t.mem = s.mem)
  ∧ (∀ (id : BankId) (s : State), s.power id = .lowering → (s.bank id).portChange = false → (s.bank id).toOff = false → (s.bank id).latched = none →
      ∃ t, exec (.bankLoweringDone id) s = .next t ∧ t.power id = .retention ∧ t.mem = s.mem)
  ∧ (∀ (id : BankId) (s : State), s.power id = .waking → (s.bank id).fromOff = false → (s.bank id).latched = none →
      ∃ t, exec (.bankWakingDone id) s = .next t ∧ t.power id = .on ∧ t.mem = s.mem)
  ∧ (∀ (id : BankId) (s : State), s.power id = .clearing → (s.bank id).unspared = false → (s.bank id).latched = none →
      ∃ t, exec (.bankClearingDone id) s = .next t ∧ t.power id = .on ∧
        ∀ a, 8 * id.base ≤ a → a < 8 * (id.base + id.words) → Tab.get 0 t.mem a = 0)
  ∧ (∀ (n : Fin 8192) (v : Word) (s : State), s.power (.block n) = .on → (s.bank (.block n)).unspared = false → (s.bank (.block n)).latched = none →
      bits v.toNat 1 0 = 0 →
      ∃ t, exec (.bankUlolWrite (.block n) v) s = .next t ∧ t.get F.membBpwrUlol n = bits v.toNat 16 16 ∧ t.mem = s.mem)
  ∧ (∀ (n : Fin 256) (s : State), s.mgmtClocked = true → (s.bank (.scratch n)).faulty = true → s.spareSt (.scratch n) = 0 →
      (∀ m : Fin 256, m.val / 16 = n.val / 16 → m ≠ n → (s.bank (.scratch m)).faulty = false) →
      exec (.bankSpareCopyStart (.scratch n)) s
        = .next ((s.setSpare (.scratch n) 1).modBank (.scratch n) (fun b => { b with faulty := false, copied := none })))
  ∧ (∀ (id : BankId) (s : State), s.mgmtClocked = true → s.spareFor id 1 = true → (s.bank id).copied = none →
      ∃ t, exec (.bankCopyDone id) s = .next t ∧ (t.bank id).copied = some s.mt.boundary ∧ t.mem = s.mem)
  ∧ (∀ (n : Fin 256) (b : Nat) (s : State), s.quillClocked (n / 16) = true → (s.bank (.scratch n)).copied = some b → s.spareFor (.scratch n) 1 = true →
      (s.bank (.scratch n)).latched = none → (s.bank (.scratch n)).reinst = 0 →
      ∃ t, exec (.bankTakeover (.scratch n)) s = .next t ∧ t.bankRetired (.scratch n) = true ∧ t.spareFor (.scratch n) 2 = true ∧
        (t.bank (.scratch n)).copied = none)
  ∧ (∀ (id : BankId) (s : State), (s.bank id).reinst = 2 → s.spareFor id 2 = true →
      exec (.bankMarchDone id true) s = .next ((s.modBank id (fun b => { b with reinst := 3 })).setSpare id 4))
  ∧ (∀ (id : BankId) (s : State), s.mgmtClocked = true → (s.bank id).reinst = 3 → s.spareFor id 4 = false →
      ∃ t, exec (.bankReturnDone id) s = .next t ∧ t.bankRetired id = false ∧ (t.bank id).reinst = 0 ∧ (t.bank id).unspared = false ∧
        t.ended = s.ended ++ [(id.obj, 0)])

/-- O17. What the near store's commands leave: its configuration; training, fill and mirror copy lead a channel on; drift,
calibration and refresh act on a channel in service; loss of lock retires it; an access or an engine's read of an
unwritten line answers zeros; an engine's write of a whole line of a bound page seals it under the next minor counter;
keys are erased and pages released. -/
def Obligations.NearStoreCommandsComplete : Prop :=
  (∀ (v : Word) (s : State), s.bit F.nearCtrlLock = false → s.started = false → bits v.toNat 2 0 ≠ 0 → bitAt v.toNat 31 = false →
      exec (.nearCtrlWrite v) s = .next (((((s.put F.nearCtrlRate (bits v.toNat 5 4)).put F.nearCtrlMirror (bits v.toNat 8 8)).put
        F.nearCtrlRanks (bits v.toNat 2 2)).put F.nearCtrlDensity (bits v.toNat 1 0)).answer .ok))
  ∧ (∀ (c : Fin 36) (s : State), s.nearClocked c = true → s.nearSt c = .training → s.mirrored = false →
      ∃ t, exec (.nearTrainingDone c true) s = .next t ∧ t.nearSt c = .filling ∧
        ∀ p, p < 2 ^ 27 → onChannel false c p = true → (t.page p).touched = false)
  ∧ (∀ (c : Fin 36) (s : State), s.nearClocked c = true → s.nearSt c = .filling → (s.nearCh c).copying = false →
      ∃ t, exec (.nearFillDone c) s = .next t ∧ t.nearSt c = .on ∧ t.mem = s.mem)
  ∧ (∀ (c : Fin 36) (s : State), s.nearClocked c = true → s.nearSt c = .filling → (s.nearCh c).copying = true →
      ∃ t, exec (.nearMirrorCopyDone c) s = .next t ∧ t.nearSt c = .on ∧ (t.nearCh c).copying = false)
  ∧ (∀ (c : Fin 36) (delta : Int) (s : State), s.rankServes c 0 = true → Config.dqsLow ≤ (s.nearCh c).delay0 + delta → (s.nearCh c).delay0 + delta ≤ Config.dqsHigh →
      ∃ t, exec (.dqsDriftCheck c 0 delta) s = .next t ∧ (t.nearCh c).delay0 = (s.nearCh c).delay0 + delta ∧ t.regs = s.regs)
  ∧ (∀ (c : Fin 36) (rank : Fin 2) (s : State), s.rankServes c rank = true → s.extest = false →
      exec (.zqCalibration c rank) s = .next (s.emit (.dram c 1 rank)))
  ∧ (∀ (c : Fin 36) (rank : Fin 2) (bank : Fin 8) (s : State), s.rankServes c rank = true → s.extest = false →
      exec (.nearRefresh c rank bank) s = .next (s.emit (.dram c 0 (8 * rank + bank))))
  ∧ (∀ (c : Fin 36) (s : State), s.nearSt c = .on → exec (.phyPllLockLoss c) s = .next (s.modNear c (fun n => { n with pllLost := true })))
  ∧ (∀ (c : Fin 36) (s : State), s.nearSt c = .on → (s.nearCh c).pllLost = true →
      ∃ t, exec (.nearPllLossTimeout c) s = .next t ∧ t.nearSt c = .retired ∧ t.mem = s.mem)
  ∧ (∀ (req : Requester) (a : BitVec 48) (s : State), a.toNat % 64 = 0 → nearGate req a.toNat s = none → s.keyValid (keyId a.toNat) = true →
      s.unfilled (s.nearServer (nearPlace s.mirrored ((offsetOf a.toNat - nearStart) / 4096)).1) (nearPlace s.mirrored ((offsetOf a.toNat - nearStart) / 4096)).2 = false →
      tablePage (offsetOf a.toNat) = none →
      s.tableBad (pageKey (offsetOf a.toNat)) = false → (s.page (pageKey (offsetOf a.toNat))).touched = false → s.lineAt (offsetOf a.toNat / 64) = {} →
      exec (.nearAccess req a (.read 64) []) s = .next (s.answer .ok 0 false))
  ∧ (∀ (e : Fin 52) (a : BitVec 48) (s : State), s.engineClocked e = true → (keyId a.toNat = 0 → tablePage (offsetOf a.toNat) = none) →
      a.toNat % 64 = 0 → engineServes e (offsetOf a.toNat) s = true → s.keyValid (keyId a.toNat) = true →
      s.tableBad (pageKey (offsetOf a.toNat)) = false → (s.page (pageKey (offsetOf a.toNat))).touched = false → s.lineAt (offsetOf a.toNat / 64) = {} →
      exec (.lineRead e a plainFetch) s = .next (s.answer .ok 0 false))
  ∧ (∀ (e : Fin 52) (a : BitVec 48) (data : List Byte) (poison : Bool) (s : State), e.val < 36 → s.engineClocked e = true →
      (keyId a.toNat = 0 → tablePage (offsetOf a.toNat) = none) → a.toNat % 64 = 0 → engineServes e (offsetOf a.toNat) s = true →
      s.keyValid (keyId a.toNat) = true → s.tableBad (pageKey (offsetOf a.toNat)) = false → (s.page (pageKey (offsetOf a.toNat))).touched = true →
      (s.page (pageKey (offsetOf a.toNat))).key = keyId a.toNat → (s.page (pageKey (offsetOf a.toNat))).exhausted = false →
      (sealLine (s.keyBytes (keyId a.toNat)) (s.page (pageKey (offsetOf a.toNat))).major ((s.lineAt (offsetOf a.toNat / 64)).minor + 1)
        (offsetOf a.toNat / 64) data poison).minor ≤ 255 →
      exec (.lineWrite e a data (List.replicate 64 true) poison plainFetch) s
        = .next ((s.setLine (offsetOf a.toNat / 64) (sealLine (s.keyBytes (keyId a.toNat)) (s.page (pageKey (offsetOf a.toNat))).major
            ((s.lineAt (offsetOf a.toNat / 64)).minor + 1) (offsetOf a.toNat / 64) data poison)).answer .ok))
  ∧ (∀ (v : Word) (s : State), ∃ t, exec (.keyErase v) s = .next t ∧ t.mem = s.mem ∧
      (∀ k, 1 ≤ k → k < 32 → v.toNat.testBit k = true → s.keyValid k = true → Tab.get 0 t.xcr.keys k = 0 ∧ t.keyValid k = false) ∧
      Tab.get 0 t.xcr.keys 0 = Tab.get 0 s.xcr.keys 0)
  ∧ (∀ (v : Word) (s : State), s.get F.xcrRelStatusState = 0 →
      releaseRefused ((s.put F.xcrRelCtrlTier (bits v.toNat 28 28)).put F.xcrRelCtrlPort (bits v.toNat 27 24)) = false →
      ∃ t, exec (.releaseStart v) s = .next t ∧ t.get F.xcrRelStatusState = 1 ∧ t.out = s.out ++ [.resp .ok 0 false])
  ∧ (∀ s : State, s.nocClocked = true → s.get F.xcrRelStatusState = 1 →
      ∃ t, exec .releaseDone s = .next t ∧ t.get F.xcrRelStatusState = 0 ∧ t.get F.xcrRelStatusProgress = s.get F.xcrRelCountVal + 1)

/-- O18. What the commands and events of a cave port leave: an enable leads to LINKING, lanes up to PROBE, the probe to
FILLING with the bridge's credits, FILL_DONE to READY; a disable stops the port; failures take it down or retire it;
blocks, messages, credits and accesses move as they are carried. -/
def Obligations.CaveCommandsComplete : Prop :=
  (∀ (p : Fin 16) (s : State), s.get F.cavePcfgBundle p < 48 → s.get F.laneCfgMode (s.get F.cavePcfgBundle p) = modeCave →
      (∀ q : Fin 16, q ≠ p → s.get F.cavePcfgBundle q ≠ s.get F.cavePcfgBundle p) → (s.dom (300 + p)).st = .on → s.cvSt p = .down →
      ∃ t, exec (.cavePortEnable p) s = .next t ∧ t.cvSt p = .linking ∧ t.get F.cavePcfgEn p = 1 ∧ t.out = s.out ++ [.resp .ok 0 false])
  ∧ (∀ (p : Fin 16) (s : State), s.cvSt p = .ready →
      ∃ t, exec (.cavePortDisable p) s = .next t ∧ t.cvSt p = .stopping ∧ t.get F.cavePcfgEn p = 0 ∧ t.mem = s.mem)
  ∧ (∀ (p : Fin 16) (s : State), s.cvSt p = .retired →
      ∃ t, exec (.caveReinstate p) s = .next t ∧ t.cvSt p = .linking ∧ t.get F.cavePcfgEn p = 1)
  ∧ (∀ (p : Fin 16) (v : BitVec 2) (s : State), v ≠ 3 → v.toNat ≠ s.get F.cavePcfgPower p → s.linkUp p = false →
      exec (.cavePowerWrite p v) s = .next ((s.put F.cavePcfgPower v.toNat p).answer .ok))
  ∧ (∀ (p : Fin 16) (s : State), s.nocClocked = true → s.cvSt p = .linking → (∀ m : Fin 8, s.laneServed (s.get F.cavePcfgBundle p) m = true) →
      ∃ t, exec (.caveLinkingDone p) s = .next t ∧ t.cvSt p = .probe ∧ t.mem = s.mem)
  ∧ (∀ (p : Fin 16) (s : State), s.nocClocked = true → s.cvSt p = .linking →
      ∃ t, exec (.caveLinkTimeout p) s = .next t ∧ t.cvSt p = .down ∧ t.get F.cavePcfgEn p = 0 ∧ t.get F.caveErrLinkFail = 1)
  ∧ (∀ (p : Fin 16) (s : State), s.nocClocked = true → s.cvSt p = .probe → (s.cv p).pend = [] →
      s.get F.caveRingPagesVal ≤ Tab.get 0 (s.cv p).bridge 1 → Tab.get 0 (s.cv p).bridge 1 < 2 ^ 32 →
      bits (Tab.get 0 (s.cv p).bridge 0) 19 16 = 1 →
      ∃ t, exec (.caveProbeDone p) s = .next t ∧ t.cvSt p = .filling ∧ t.get F.cavePcapVal p = Tab.get 0 (s.cv p).bridge 1)
  ∧ (∀ (p : Fin 16) (s : State), s.nocClocked = true → s.cvSt p = .stopping → s.bit F.cavePstatusPendingEnable p = false →
      ∃ t, exec (.caveStopDone p) s = .next t ∧ t.cvSt p = .down ∧ (t.cv p).pend = [] ∧ (t.cv p).reqs = [])
  ∧ (∀ (p : Fin 16) (s : State), s.nocClocked = true → s.linkUp p = true → ∃ t, exec (.caveLinkSilence p) s = .next t ∧ t.cvSt p = .retired)
  ∧ (∀ (p : Fin 16) (s : State), s.nocClocked = true → s.linkUp p = true → (s.cv p).unacked ≠ [] → (∀ u ∈ (s.cv p).unacked, u.2.2 < 7) →
      ∃ t, exec (.caveReplayTimeout p) s = .next t ∧ (t.cv p).resend = (s.cv p).unacked.map (fun u => (u.1, u.2.1)) ∧ t.cvSt p = s.cvSt p)
  ∧ (∀ (p : Fin 16) (s : State), s.nocClocked = true → s.linkUp p = true → (s.blockSlots p).any (fun c => c.bad) = true →
      exec (.caveBlockRx p) s = .next ((s.bump F.cavePretryBad p).modCv p (fun c => { c with nakDue := true })))
  ∧ (∀ (p : Fin 16) (s : State), s.nocClocked = true → s.linkUp p = true → (s.blockSlots p).any (fun c => c.bad) = false →
      bits (beVal ((blockOf (s.blockBytes p) (s.blockSlots p)).take 4)) 31 30 = 1 →
      bitAt (beVal ((blockOf (s.blockBytes p) (s.blockSlots p)).take 4)) 9 = false →
      bits (beVal ((blockOf (s.blockBytes p) (s.blockSlots p)).take 4)) 29 20 = (s.cv p).rxNext → (s.cv p).rxNext < 1024 →
      ∃ t, exec (.caveBlockRx p) s = .next t ∧ (t.cv p).rxNext = ((s.cv p).rxNext + 1) % 1024 ∧ t.mem = s.mem)
  ∧ (∀ (req : Requester) (a : BitVec 48) (s : State), s.nocClocked = true → caveGate req a.toNat s = none → (s.cv (cavePort (offsetOf a.toNat))).waiting = [] →
      1 ≤ s.get F.cavePstatusRcred (cavePort (offsetOf a.toNat)) → a.toNat % 64 = 0 →
      ∃ t, exec (.caveAccess req a (.read 64)) s = .next t ∧ t.out = s.out ∧
        (t.cv (cavePort (offsetOf a.toNat))).pend = (s.cv (cavePort (offsetOf a.toNat))).pend ++
          [(freeTag (s.cv (cavePort (offsetOf a.toNat))), .read a.toNat 64)] ∧
        t.get F.cavePstatusRcred (cavePort (offsetOf a.toNat)) = s.get F.cavePstatusRcred (cavePort (offsetOf a.toNat)) - 1)
  ∧ (∀ (p : Fin 16) (m : List Byte) (a len : Nat) (s : State), s.nocClocked = true → (s.cv p).inbox = [m] → caveType m = 8 → caveArg m = 1 →
      (s.cv p).pend = [(caveTag m, .read a len)] →
      ∃ t, exec (.caveRdata p) s = .next t ∧ (t.cv p).pend = [] ∧ (t.cv p).inbox = [] ∧ t.out = s.out ++ [.resp .decode 0 false])
  ∧ (∀ (p : Fin 16) (m : List Byte) (a : Nat) (l : CaveLine) (s : State), s.nocClocked = true → (s.cv p).inbox = [m] → caveType m = 8 →
      caveArg m = 0 → (s.cv p).pend = [(caveTag m, .read a 64)] → caveLines m = [l] → l.poison = false → l.tag = 0 → l.minor = 0 →
      a % 64 = 0 → s.keyValid (keyId a) = true → s.tableBad (pageKey (offsetOf a)) = false → (s.page (pageKey (offsetOf a))).touched = false →
      ∃ t, exec (.caveRdata p) s = .next t ∧ (t.cv p).pend = [] ∧ (t.cv p).inbox = [] ∧ t.out = s.out ++ [.resp .ok 0 false])
  ∧ (∀ (p : Fin 16) (m : List Byte) (id : Nat) (s : State), s.nocClocked = true → (s.cv p).inbox = [m] → caveType m = 9 → caveArg m = 0 →
      (s.cv p).writes = [(caveTag m, id)] → (s.cv p).reqs = [{ id := id, left := 1, status := .ok }] →
      ∃ t, exec (.caveWdone p) s = .next t ∧ (t.cv p).writes = [] ∧ (t.cv p).reqs = [] ∧ (t.cv p).inbox = [] ∧ t.out = s.out ++ [.resp .ok 0 false])
  ∧ (∀ (p : Fin 16) (m : List Byte) (i : Nat) (s : State), s.nocClocked = true → (s.cv p).inbox = [m] → caveType m = 10 →
      (s.cv p).pend = [(caveTag m, .creg i)] → i ≠ 1 →
      ∃ t, exec (.caveCregRsp p) s = .next t ∧ (t.cv p).pend = [] ∧ (t.cv p).inbox = [] ∧ Tab.get 0 (t.cv p).bridge i = caveValue m)
  ∧ (∀ (p : Fin 16) (m : List Byte) (s : State), s.nocClocked = true → (s.cv p).inbox = [m] → caveType m = 11 → caveArg m = 1 →
      s.cvSt p = .filling → s.bit F.cavePcfgEn p = true →
      ∃ t, exec (.caveStatus p) s = .next t ∧ t.cvSt p = .ready ∧ (t.cv p).inbox = [] ∧ t.mem = s.mem)
  ∧ (∀ (p : Fin 16) (m : List Byte) (s : State), s.nocClocked = true → (s.cv p).inbox = [m] → caveType m = 12 → s.linkUp p = true →
      (s.cv p).waiting = [] → s.get F.cavePstatusWcred p + bits (caveValue m) 31 16 < 65536 →
      s.get F.cavePstatusRcred p + bits (caveValue m) 15 0 < 4096 →
      ∃ t, exec (.caveCredit p) s = .next t ∧ t.get F.cavePstatusWcred p = s.get F.cavePstatusWcred p + bits (caveValue m) 31 16 ∧
        t.get F.cavePstatusRcred p = s.get F.cavePstatusRcred p + bits (caveValue m) 15 0 ∧ (t.cv p).inbox = [])

/-- O19. A line of a history writer joins its record; the collector appends a record while the ring is OPEN and drops it
outside; a page that the head has left migrates; the ring is enabled, opens and stops; look-back descriptors are
pushed, started and completed; a transmit channel sends and ends. -/
def Obligations.HistoryRingCommandsComplete : Prop :=
  (∀ (i : Fin 16) (data : List Byte) (cross : BitVec 14) (p : Bool) (s : State), s.regionRuns (if i.val < 8 then 192 else 193) = true →
      s.hwReady i = true → (s.hwPort i).cur = none → s.recordLate cross.toNat = false → data.length = 64 →
      ∃ t, exec (.hwLine i data true false cross p) s = .next t ∧ t.mem = s.mem ∧
        (t.hwPort i).cur = some { stamp := s.recordStamp cross.toNat, lines := [(data, p)], cont := false, late := false })
  ∧ (∀ (i : Fin 16) (r : HwRecord) (rest : List HwRecord) (s : State), s.nocClocked = true → (s.hwPort i).closed = r :: rest → s.ringSt ≠ 2 →
      exec (.collectorRecord i) s = .next (((s.setHw i { s.hwPort i with closed := rest }).bump F.nearRingDropClosed).flag F.nearErrRingDrop))
  ∧ (∀ (i : Fin 16) (r : HwRecord) (rest : List HwRecord) (s : State), s.nocClocked = true → (s.hwPort i).closed = r :: rest → s.ringSt = 2 → r.lines ≠ [] →
      s.fifoLines + r.lines.length ≤ 32768 →
      exec (.collectorRecord i) s = .next (collect
        { s.setHw i { s.hwPort i with closed := rest } with ring := { s.ring with fifo := s.ring.fifo ++ [(i.val, r)] } }))
  ∧ (∀ (slot : Nat × Nat) (s : State), s.nocClocked = true → s.ringSt = 2 → s.ringDirect = false → s.ring.fresh = false → s.ring.migrated < s.ringHead / 64 →
      s.caveSlot s.ring.migrated = some slot → s.ring.lost.contains s.ring.migrated = false → s.mustSkip s.ring.migrated = false → s.cvSt slot.1 = .ready →
      (s.dom (300 + slot.1)).st = .on →
      ∃ t, exec .migratePage s = .next t ∧ t.ring.migrated = s.ring.migrated + 1)
  ∧ (∀ (v : Word) (s : State), bits v.toNat 9 8 = 1 → bits v.toNat 4 0 = s.get F.nearRingCtrlKey → s.get F.nearRingCtrlMode = 1 → bitAt v.toNat 31 = true → s.ringSt = 0 →
      ∃ t, exec (.ringCtrlWrite .ctrl v) s = .next t ∧ t.ringSt = 1 ∧ t.get F.nearRingCtrlEn = 1 ∧ t.out = s.out ++ [.resp .ok 0 false])
  ∧ (∀ (v : Word) (s : State), s.ringSt = 0 → v.toNat < 2 ^ 27 → v ≠ s.word .nearRingNlen →
      exec (.ringCtrlWrite .nlen v) s = .next ((({ s with ring := { s.ring with fresh := true } }).setWord .nearRingNlen v).answer .ok))
  ∧ (∀ s : State, s.ringSt = 1 → s.pagesFilled (s.get F.nearRingNbaseVal) s.nNear = true →
      s.pagesFilled (s.get F.nearIdxBaseVal) (s.get F.nearIdxLenVal) = true → s.ringPorts.all (fun p => s.cvSt p == .ready) = true →
      exec .ringOpen s = .next (s.setRingSt 2))
  ∧ (∀ s : State, s.nocClocked = true → s.ringSt = 3 → s.ring.fifo = [] → s.bit F.nearRingStatusPendingEnable = false →
      exec .ringStopDone s = .next ((s.clear F.nearRingStatusPendingEnable).setRingSt 0))
  ∧ (∀ (v : Word) (s : State), s.lbQueue.length < 64 → (s.word .nearLbD 5).toNat % 64 = 0 →
      isMemory ((s.word .nearLbD 5).toNat + (s.word .nearLbD 6).toNat / 65536 * 2 ^ 32) = true →
      isMemory ((s.word .nearLbD 5).toNat + (s.word .nearLbD 6).toNat / 65536 * 2 ^ 32 + ((s.word .nearLbD 6).toNat % 65536 + 1) * 65536 - 1) = true →
      ∃ t, exec (.lookbackPush v) s = .next t ∧ t.out = s.out ++ [.resp .ok 0 false] ∧
        t.lbQueue = s.lbQueue ++ [(List.range 7).map (fun i => (s.word .nearLbD i).toNat) ++ [v.toNat]])
  ∧ (∀ (e : Fin 4) (ws : List Nat) (rest : List (List Nat)) (s : State), s.nocClocked = true → s.lbQueue = ws :: rest → (s.lbEng e).busy = false → s.frozen F.dbgFreezeLookback = false →
      ∃ t, exec (.lookbackStart e) s = .next t ∧ t.lbQueue = rest ∧ t.lbEng e = { busy := true, words := ws })
  ∧ (∀ (e : Fin 4) (fault : Bool) (s : State), s.nocClocked = true → (s.lbEng e).busy = true → s.frozen F.dbgFreezeLookback = false →
      ∃ t, exec (.lookbackComplete e fault) s = .next t ∧ t.lbEng e = {})
  ∧ (∀ (t : Fin 2) (v : Word) (s : State), s.bit F.nearLbtxCtrlGo t = false → s.bit F.nearLbtxCfgEn t = true → s.get F.nearLbtxCfgBundle t < 48 →
      s.get F.laneCfgMode (s.get F.nearLbtxCfgBundle t) = modeDetector → s.get F.nearLbtxLenVal t = 0 →
      ∃ u, exec (.lbtxSend t v) s = .next u ∧ u.get F.nearLbtxCtrlGo t = 1 ∧ u.get F.nearLbtxCtrlReq t = bits v.toNat 15 0 ∧ (u.lbtxCh t).data = [] ∧
        u.out = s.out ++ [.resp .ok 0 false])
  ∧ (∀ (t : Fin 2) (s : State), s.nocClocked = true → s.bit F.nearLbtxCtrlGo t = true → (s.lbtxCh t).data.isEmpty = true →
      exec (.lbtxDone t) s = .next (({ s with lbtx := Tab.put {} s.lbtx t {} }).clear F.nearLbtxCtrlGo t))

/-- O20. A request that decodes takes a free transaction id and waits at its interface; one that does not is answered
DECODE; a posted write that does not decode is dropped and counted; a token comes to its queue; a response ends its
request; an unmatched one is late. A request that may not be re-issued returns E_NOC_TIMEOUT at its time-out, and at
the stall of its head flit. That the events say when their time has come is the model's choice (log entry 5). -/
def Obligations.NetworkCommandsComplete : Prop :=
  (∀ (ni : Fin 288) (req : Requester) (addr : BitVec 48) (len : Nat) (s : State), niOfReq req = ni → niPresent ni = true →
      s.fenced ni = false → s.niOf addr.toNat = none →
      exec (.nocRead ni req addr len) s
        = .next (respond { req := req, cmd := 0, addr := addr.toNat, len := len, vc := vcOf req 0 } .decode 0 false s))
  ∧ (∀ (ni : Fin 288) (req : Requester) (addr : BitVec 48) (len dst txn : Nat) (s : State), niOfReq req = ni → niPresent ni = true →
      s.fenced ni = false → s.niOf addr.toNat = some dst → s.freeTxn ni = some txn → s.cutAt ni dst = none → s.fenced dst = false →
      s.canStart ni { req := req, cmd := 0, addr := addr.toNat, len := len, vc := vcOf req 0 } = true →
      ∃ t, exec (.nocRead ni req addr len) s = .next t ∧
        (t.ni ni).outs = (s.ni ni).outs ++ [{ req := req, cmd := 0, addr := addr.toNat, len := len, vc := vcOf req 0, txn := txn }] ∧ t.mem = s.mem ∧ t.regs = s.regs)
  ∧ (∀ (ni : Fin 288) (req : Requester) (addr : BitVec 48) (data : List Byte) (be : List Bool) (poison : Bool) (dst txn : Nat) (s : State),
      niOfReq req = ni → niPresent ni = true → s.fenced ni = false → s.niOf addr.toNat = some dst → s.freeTxn ni = some txn →
      s.cutAt ni dst = none → s.fenced dst = false →
      s.canStart ni { req := req, cmd := 1, addr := addr.toNat, len := data.length, payload := data, be := be, poison := poison, vc := vcOf req 0 } = true →
      ∃ t, exec (.nocWrite ni req addr data be poison) s = .next t ∧ (t.ni ni).outs = (s.ni ni).outs ++
        [{ req := req, cmd := 1, addr := addr.toNat, len := data.length, payload := data, be := be, poison := poison, vc := vcOf req 0, txn := txn }] ∧ t.mem = s.mem ∧ t.regs = s.regs)
  ∧ (∀ (ni : Fin 288) (req : Requester) (addr : BitVec 48) (aop : Fin 16) (size : Nat) (v : DWord) (dst txn : Nat) (s : State),
      niOfReq req = ni → niPresent ni = true → s.fenced ni = false → s.niOf addr.toNat = some dst → s.freeTxn ni = some txn →
      s.cutAt ni dst = none → s.fenced dst = false →
      s.canStart ni { req := req, cmd := 3, addr := addr.toNat, len := size, payload := bytesOf v.toNat size, aop := aop, vc := vcOf req 0 } = true →
      ∃ t, exec (.nocAtomic ni req addr aop size v) s = .next t ∧ (t.ni ni).outs = (s.ni ni).outs ++
        [{ req := req, cmd := 3, addr := addr.toNat, len := size, payload := bytesOf v.toNat size, aop := aop, vc := vcOf req 0, txn := txn }] ∧ t.mem = s.mem ∧ t.regs = s.regs)
  ∧ (∀ (ni : Fin 288) (req : Requester) (addr : BitVec 48) (data : List Byte) (be : List Bool) (poison : Bool) (s : State),
      niOfReq req = ni → niPresent ni = true → s.fenced ni = false → s.niOf addr.toNat = none →
      exec (.nocPwrite ni req addr data be poison) s = .next ((s.bump F.nocStatDecodeDrop).flag F.nocErrDecodeDrop))
  ∧ (∀ (ni : Fin 288) (req : Requester) (addr : BitVec 48) (data : List Byte) (be : List Bool) (poison : Bool) (dst : Nat) (s : State),
      niOfReq req = ni → niPresent ni = true → s.fenced ni = false → s.niOf addr.toNat = some dst → s.cutAt ni dst = none →
      s.canStart ni { req := req, cmd := 2, addr := addr.toNat, len := data.length, payload := data, be := be, poison := poison, vc := vcOf req 2 } = true →
      s.regulated ni (vcOf req 2) = false →
      let p : Packet := { src := ni, dst := dst, cmd := 2, vc := vcOf req 2, addr := addr.toNat, len := data.length, payload := data, be := be, poison := poison }
      (s.fenced dst = false → exec (.nocPwrite ni req addr data be poison) s = .next (s.emit (.packet p p.flits))) ∧
      (s.fenced dst = true → exec (.nocPwrite ni req addr data be poison) s
        = .next (((s.emit (.packet p p.flits)).bump F.nocNiCntFenced dst).flag F.nocErrFencedDrop)))
  ∧ (∀ (ni : Fin 288) (q : BitVec 14) (v : DWord) (s : State), niPresent ni = true → s.fenced ni = false → s.cutAt ni niExchange = none →
      s.fenced niExchange = false → ni.val ≠ niSceum → ni.val ≠ niExchange → s.regulated ni 2 = false →
      s.canStart ni { req := .engine, cmd := 4, addr := q.toNat, len := 8, payload := bytesOf v.toNat 8, vc := 2 } = true →
      let p : Packet := { src := ni, dst := niExchange, cmd := 4, vc := 2, addr := q.toNat, len := 8, payload := bytesOf v.toNat 8 }
      exec (.nocToken ni q v) s = .next ((s.emit (.packet p p.flits)).postToken q.toNat v.toNat))
  ∧ (∀ (ni : Fin 288) (txn : Nat) (st : Status) (data : List Byte) (poison : Bool) (s : State), s.nocClocked = true →
      ((s.ni ni).outs.find? (fun r => r.txn == txn) = none → exec (.nocResp ni txn st data poison) s = .next (s.bump F.nocNiCntLate ni)) ∧
      (∀ r, (s.ni ni).outs.find? (fun r => r.txn == txn) = some r → r.req = .sceum → s.fenced ni = false →
        (s.niOf r.addr).bind (fun dst => s.cutAt dst ni) = none → (s.ni ni).wait = [] →
        exec (.nocResp ni txn st data poison) s
          = .next ((dropReq ni txn s).answer st (ofBytes data) (poison || st == .integrity))))
  ∧ (∀ (ni : Fin 288) (txn : Nat) (r : NocReq) (s : State), s.nocClocked = true → (s.ni ni).outs.find? (fun r => r.txn == txn) = some r →
      r.repeatable = false → r.req = .sceum →
      ∃ t : State, exec (.nocResponseTimeout ni txn) s = .next (t.answer .nocTimeout) ∧ ((t.ni ni).outs.any (fun r => r.txn == txn)) = false ∧
        t.mem = s.mem)
  ∧ (∀ (r : Fin 144) (s : State), s.nocClocked = true →
      exec (.nocStallTimeout (.router r none)) s = .next (rtrDiscard r 1 (s.flag F.nocErrStallDiscard)))
  ∧ (∀ (n : Fin 288) (r : NocReq) (rest : List NocReq) (s : State), s.nocClocked = true → (s.ni n).wait = r :: rest → r.repeatable = false →
      r.req = .sceum →
      ∃ t : State, exec (.nocStallTimeout (.ni n)) s = .next (t.answer .nocTimeout) ∧ (t.ni n).wait = rest ∧ t.get F.nocErrStallDiscard = 1)

/-- O21. A flit error counts as a replay and a parity error as a crossbar error; a drain asked of a network at rest begins
and one that must wait is latched; a drain ends in reconfiguration, which brings the router back with its virtual-
channel depths in force; a dead router is drained for its reinstatement; a legal division of the slots is written,
another refused. -/
def Obligations.RouterCommandsComplete : Prop :=
  (∀ (r : Fin 144) (d : Fin 4) (s : State), s.nocClocked = true → Tab.get [] s.noc.replays (4 * r.val + d.val) = [] → s.get F.nocRtrErrcntReplays r < 255 →
      ∃ t, exec (.flitCrcError r d false) s = .next t ∧ t.get F.nocErrLinkReplay = 1 ∧
        t.get F.nocRtrErrcntReplays r = s.get F.nocRtrErrcntReplays r + 1 ∧ t.rtrSt r = s.rtrSt r ∧ t.noc.latched = s.noc.latched)
  ∧ (∀ (r : Fin 144) (s : State), s.nocClocked = true → Tab.get [] s.noc.parity r.val = [] → s.get F.nocRtrErrcntXbar r < 255 →
      ∃ t, exec (.xbarParityError r none) s = .next t ∧ t.get F.nocRtrErrcntXbar r = s.get F.nocRtrErrcntXbar r + 1 ∧ t.rtrSt r = s.rtrSt r ∧
        Tab.get [] t.noc.parity r.val = [s.pt])
  ∧ (∀ (r : Fin 144) (s : State), s.rtrSt r ≠ 3 → s.noc.active = none → s.noc.latched = [] →
      ∃ t, exec (.routerDrain r) s = .next t ∧ t.rtrSt r = 1 ∧ t.noc.active = some (r.val, .command) ∧ t.noc.latched = [] ∧ t.mem = s.mem)
  ∧ (∀ (r : Fin 144) (a : Nat × DrainFor) (s : State), s.rtrSt r ≠ 3 → s.noc.active = some a → s.noc.latched = [] →
      ∃ t, exec (.routerDrain r) s = .next t ∧ t.noc.active = some a ∧ t.noc.latched = [(r.val, .command)] ∧
        t.get F.nocRtrStatusPendingDrain r = 1 ∧ t.get F.nocStatQueued = 1 ∧ t.rtrSt r = s.rtrSt r)
  ∧ (∀ (r : Fin 144) (s : State), s.nocClocked = true → s.rtrSt r = 1 → exec (.routerDrainEnd r []) s = .next (s.put F.nocRtrStatusState 2 r))
  ∧ (∀ (r : Fin 144) (w : Nat) (x : Fin 3) (s : State), s.nocClocked = true → s.noc.nis.all (fun e => e.2.wait.isEmpty) = true →
      s.noc.active = some (r.val, .command) → s.rtrSt r = 2 → s.noc.latched = [] →
      ∃ t, exec (.routerReconfDone r w x) s = .next t ∧ t.rtrSt r = 0 ∧ t.noc.active = none ∧
        Tab.get 0x10101010 t.noc.depth r = (s.word .nocRtrVcdepth r).toNat ∧ t.mem = s.mem)
  ∧ (∀ (r : Fin 144) (s : State), (s.rtrSt r ≠ 3 → exec (.routerReinstate r) s = .next (s.answer .ok)) ∧
      (s.rtrSt r = 3 → s.noc.active = none → s.noc.latched = [] → ∃ t, exec (.routerReinstate r) s = .next t ∧ t.rtrSt r = 1 ∧
        t.noc.active = some (r.val, .reinstate) ∧ t.mem = s.mem))
  ∧ (∀ (r : Fin 144) (v : Word) (s : State),
      (2 ≤ bits v.toNat 7 0 → 2 ≤ bits v.toNat 15 8 → 2 ≤ bits v.toNat 23 16 → 2 ≤ bits v.toNat 31 24 →
        bits v.toNat 7 0 + bits v.toNat 15 8 + bits v.toNat 23 16 + bits v.toNat 31 24 ≤ 64 →
        exec (.vcdepthWrite r v) s = .next ((s.setWord .nocRtrVcdepth v r).answer .ok)) ∧
      (bits v.toNat 7 0 < 2 ∨ bits v.toNat 15 8 < 2 ∨ bits v.toNat 23 16 < 2 ∨ bits v.toNat 31 24 < 2 ∨
        64 < bits v.toNat 7 0 + bits v.toNat 15 8 + bits v.toNat 23 16 + bits v.toNat 31 24 →
        exec (.vcdepthWrite r v) s = .next (s.answer .denied)))

/-- O22. A running core that finds an instruction at its pc and no interrupt to take executes it on the state its fetch
leaves. Arithmetic writes its result and goes on; a jump writes the next address and goes to its target; a branch goes
to its target where its condition holds; an ecall traps with cause 8 or 11, an ebreak without a debugger with cause 3,
an instruction that does not exist with cause 2; fences go on once nothing older is outstanding. What the operations
compute is taken from the RISC-V manuals that R367 names (log entry 20). -/
def Obligations.CoreInstructionsComplete : Prop :=
  (∀ (n : Fin 128) (op : RvOp) (rd rs1 rs2 len : Nat) (s : State), s.executes n (.alu op rd rs1 rs2) len →
      exec (.coreInstruction n) s
        = .next (finish n rd (aluResult op ((fetch n s).2.xreg n rs1) ((fetch n s).2.xreg n rs2)) (s.afterPc n len) (fetch n s).2))
  ∧ (∀ (n : Fin 128) (rd len : Nat) (off : Word) (s : State), s.executes n (.jal rd off) len →
      exec (.coreInstruction n) s = .next (finish n rd (BitVec.ofNat 32 (s.afterPc n len))
        (BitVec.ofNat 32 ((fetch n s).2.cbank n).pc + off).toNat (fetch n s).2))
  ∧ (∀ (n : Fin 128) (c : RvCond) (rs1 rs2 len : Nat) (off : Word) (s : State), s.executes n (.branch c rs1 rs2 off) len →
      exec (.coreInstruction n) s = .next (retire n (if rvTaken c ((fetch n s).2.xreg n rs1) ((fetch n s).2.xreg n rs2)
        then (BitVec.ofNat 32 ((fetch n s).2.cbank n).pc + off).toNat else s.afterPc n len) (fetch n s).2))
  ∧ (∀ (n : Fin 128) (rd rs1 len num : Nat) (s : State), s.executes n (.csr .write false rd rs1 num) len → rd ≠ 0 →
      (fetch n s).2.csrAllowed n num = true → csrReadOnly num = false →
      exec (.coreInstruction n) s = .next (coreCsr n .write false rd rs1 num (s.afterPc n len) (fetch n s).2))
  ∧ (∀ (n : Fin 128) (len : Nat) (s : State), s.executes n .illegal len →
      exec (.coreInstruction n) s = .next (coreTrap n 2 0 (fetch n s).2))
  ∧ (∀ (n : Fin 128) (len : Nat) (s : State), s.executes n .ecall len →
      exec (.coreEcall n) s = .next (coreTrap n (if ((fetch n s).2.cbank n).user then 8 else 11) 0 (fetch n s).2))
  ∧ (∀ (n : Fin 128) (len : Nat) (s : State), s.executes n .ebreak len → (fetch n s).2.bit F.dbgStatusAttached = false →
      exec (.coreEbreak n) s = .next (coreTrap n 3 0 (fetch n s).2))
  ∧ (∀ (n : Fin 128) (len : Nat) (s : State), s.executes n .fence len → ((fetch n s).2.core n).stores = [] →
      exec (.coreFence n) s = .next (retire n (s.afterPc n len) (fetch n s).2))
  ∧ (∀ (n : Fin 128) (len : Nat) (s : State), s.executes n .fenceI len →
      exec (.coreFenceI n) s = .next (retire n (s.afterPc n len) (fetch n s).2))

/-- O23. In its own data memory, where its protection allows and the address is aligned, a core's load writes the bytes
read, a store writes its bytes, an AMO writes the old word, LR reserves the 8-byte word it reads, SC writes under its
reservation and without one answers 1. A load from elsewhere waits for its response, which writes the destination, or
traps where it is an error. An error response to a store is recorded. An access over the network to a core's memories
is answered. -/
def Obligations.CoreMemoryInstructionsComplete : Prop :=
  (∀ (n : Fin 128) (w : RvWidth) (u : Bool) (rd rs1 len o : Nat) (off : Word) (s : State), s.executes n (.load w u rd rs1 off) len →
      let t := (fetch n s).2
      let a := (t.xreg n rs1 + off).toNat
      let r := coreMemServe o (.read w.bytes) t
      a % w.bytes = 0 → t.pmpOk n (t.dataUser n) 0 a = true → t.coreTarget n a = .own o → r.poison = false →
      exec (.coreLoad n) s = .next (finish n rd (loadValue w.bytes u (ofBytes r.data)) (s.afterPc n len) r.state))
  ∧ (∀ (n : Fin 128) (w : RvWidth) (u : Bool) (rd rs1 len : Nat) (off : Word) (s : State), s.executes n (.load w u rd rs1 off) len →
      let t := (fetch n s).2
      let a := (t.xreg n rs1 + off).toNat
      a % w.bytes ≠ 0 → exec (.coreLoad n) s = .next (coreTrap n 4 a t))
  ∧ (∀ (n : Fin 128) (w : RvWidth) (rs1 rs2 len o : Nat) (off : Word) (s : State), s.executes n (.store w rs1 rs2 off) len →
      let t := (fetch n s).2
      let a := (t.xreg n rs1 + off).toNat
      a % w.bytes = 0 → t.pmpOk n (t.dataUser n) 1 a = true → t.coreTarget n a = .own o →
      exec (.coreStore n) s = .next (retire n (s.afterPc n len)
        (coreMemServe o (.write (bytesOf (t.xreg n rs2).toNat w.bytes) (List.replicate w.bytes true) false) t).state))
  ∧ (∀ (n : Fin 128) (aop rd rs1 rs2 len o : Nat) (ord : Bool) (s : State), s.executes n (.amo aop rd rs1 rs2 ord) len →
      let t := (fetch n s).2
      let a := (t.xreg n rs1).toNat
      let r := coreMemServe o (.atomic (Fin.ofNat 16 aop) 4 (BitVec.ofNat 64 (t.xreg n rs2).toNat)) t
      a % 4 = 0 → t.pmpOk n (t.dataUser n) 0 a = true → t.pmpOk n (t.dataUser n) 1 a = true → t.coreTarget n a = .own o →
      coreBase n + 0x8000 ≤ o → (t.core n).stores = [] → r.poison = false →
      exec (.coreAmo n) s = .next (finish n rd (BitVec.ofNat 32 (ofBytes r.data)) (s.afterPc n len) r.state))
  ∧ (∀ (n : Fin 128) (rd rs1 len o : Nat) (ord : Bool) (s : State), s.executes n (.lr rd rs1 ord) len →
      let t := (fetch n s).2
      let a := (t.xreg n rs1).toNat
      let r := coreMemServe o (.read 4) t
      a % 4 = 0 → t.pmpOk n (t.dataUser n) 0 a = true → t.coreTarget n a = .own o → coreBase n + 0x8000 ≤ o →
      (t.core n).stores = [] → r.poison = false →
      exec (.coreLr n) s = .next (finish n rd (BitVec.ofNat 32 (ofBytes r.data)) (s.afterPc n len)
        { r.state with resv := Tab.set r.state.resv n (o / 8 + 1) }))
  ∧ (∀ (n : Fin 128) (rd rs1 rs2 len o : Nat) (ord : Bool) (s : State), s.executes n (.sc rd rs1 rs2 ord) len →
      let t := (fetch n s).2
      let a := (t.xreg n rs1).toNat
      let u := (coreMemServe o (.write (bytesOf (t.xreg n rs2).toNat 4) (List.replicate 4 true) false) t).state
      a % 4 = 0 → t.pmpOk n (t.dataUser n) 1 a = true → t.coreTarget n a = .own o → coreBase n + 0x8000 ≤ o → (t.core n).stores = [] →
      (Tab.look t.resv n = none → exec (.coreSc n) s = .next (finish n rd 1 (s.afterPc n len) { t with resv := Tab.del t.resv n })) ∧
      (Tab.look t.resv n = some (o / 8 + 1) →
        exec (.coreSc n) s = .next (finish n rd 0 (s.afterPc n len) { u with resv := Tab.del u.resv n })))
  ∧ (∀ (n : Fin 128) (size rd a next data : Nat) (u : Bool) (s : State), s.quillClocked (n / 8) = true →
      (s.core n).pend = some (.load size u rd a next) → (s.core n).answer = some (.ok, data, false) →
      exec (.loadResponse n) s
        = .next (finish n rd (loadValue size u data) next (s.modCore n (fun c => { c with pend := none, answer := none }))))
  ∧ (∀ (n : Fin 128) (addr a : Nat) (rest : List (Nat × Status)) (s : State), s.quillClocked (n / 8) = true →
      (s.core n).storeErrs = (addr, .fault) :: rest → (s.core n).stores.find? (fun e => e.2 == addr) = some (a, addr) →
      ∃ t, exec (.storeErrorResponse n) s = .next t ∧ (t.core n).storeErrs = rest ∧ t.get F.qcErrStoreErr = 1 ∧ t.mem = s.mem ∧
        (s.csrRaw n 0x7C9 < 2 ^ 31 → t.csrRaw n 0x7C8 = a ∧ (t.csrRaw n 0x7C9).testBit 31 = true ∧ t.csrRaw n 0x7C9 % 16 = 5))
  ∧ (∀ (n : Fin 128) (o : Nat) (data : List Byte) (be : List Bool) (s : State),
      (s.groupOn (n / 8) = true → s.quillClocked (n / 8) = true →
        exec (.coreMemoryNetAccess n o (.write data be false)) s
          = .next ((coreMemServe (coreBase n + o % 0x10000) (.write data be false) s).state.answer .ok)) ∧
      (s.groupOn (n / 8) = false → exec (.coreMemoryNetAccess n o (.write data be false)) s = .next (s.answer .domainOff)))

/-- O24. WX.NEXT in ITEM completes the item with status OK and the result in rs1 and the core waits. WX.POST of an aligned
item in the core's own data memory posts it, with the queue in rs2, and writes its handle. WX.TOKEN, WX.CANCEL,
WX.QSTAT and WX.SELF write their status, count or handle. WX.POST and WX.TOKEN go on once no older store is
outstanding. -/
def Obligations.WorkExchangeInstructionsComplete : Prop :=
  (∀ (n : Fin 128) (rd rs1 rs2 len slot : Nat) (s : State), s.executes n (.wx .next rd rs1 rs2) len →
      let t := (fetch n s).2
      t.qSt n = .item → t.pmpOk n (t.dataUser n) 1 0x3000FF80 = true → (t.core n).slot = some slot →
      exec (.wxNext n) s = .next (coreWait n (windowItem n (completeItem slot 0 (t.xreg n rs1).toNat t))))
  ∧ (∀ (n : Fin 128) (rd rs1 rs2 len o : Nat) (s : State), s.executes n (.wx .post rd rs1 rs2) len →
      let t := (fetch n s).2
      let a := (t.xreg n rs1).toNat
      let r := coreMemServe o (.read 64) t
      let i : Item := { bytes := r.data }
      let p := postItem (i.setWord 1 (setBits (i.word 1) 13 0 (t.xreg n rs2).toNat)).bytes r.state
      (t.core n).stores = [] → t.coreTarget n a = .own o → a % 64 = 0 → coreBase n + 0x8000 ≤ o → t.pmpOk n (t.dataUser n) 0 a = true →
      r.poison = false → exec (.wxPost n) s = .next (finish n rd (BitVec.ofNat 32 (postCode p.1)) (s.afterPc n len) p.2))
  ∧ (∀ (n : Fin 128) (rd rs1 rs2 len : Nat) (s : State), s.executes n (.wx .token rd rs1 rs2) len →
      let t := (fetch n s).2
      let q := (t.xreg n rs1).toNat % 2 ^ 14
      (t.core n).stores = [] → t.bit F.wxQcfgEn q = true → t.tokensHeld < 65536 →
      exec (.wxToken n) s = .next (finish n rd 0 (s.afterPc n len) (tokenEnter q (t.xreg n rs2).toNat t)))
  ∧ (∀ (n : Fin 128) (rd rs1 rs2 len : Nat) (s : State), s.executes n (.wx .cancel rd rs1 rs2) len →
      let r := cancelItem ((fetch n s).2.xreg n rs1).toNat (fetch n s).2
      exec (.wxCancel n) s = .next (finish n rd (BitVec.ofNat 32 r.1) (s.afterPc n len) r.2))
  ∧ (∀ (n : Fin 128) (rd rs1 rs2 len : Nat) (s : State), s.executes n (.wx .qstat rd rs1 rs2) len →
      let t := (fetch n s).2
      exec (.wxQstat n) s
        = .next (finish n rd (BitVec.ofNat 32 (t.queueStat ((t.xreg n rs1).toNat % 2 ^ 14))) (s.afterPc n len) t))
  ∧ (∀ (n : Fin 128) (rd rs1 rs2 len slot : Nat) (s : State), s.executes n (.wx .self rd rs1 rs2) len →
      let t := (fetch n s).2
      (t.qSt n = .item → (t.core n).slot = some slot →
        exec (.wxSelf n) s = .next (finish n rd (BitVec.ofNat 32 (handleOf (t.item slot).seq slot)) (s.afterPc n len) t)) ∧
      (t.qSt n = .boot → (t.core n).slot = none →
        exec (.wxSelf n) s = .next (finish n rd 0xFFFFFFFF (s.afterPc n len) t)))

/-- O25. What the Work Exchange does with an item: a good one posted to the window takes a free slot; a token without an
item to take it is held; a ready head is sent to the core chosen for it; delivered, it is the item of that core, which
runs; a core that is pre-empted switches to the urgent item; delay lists count and let a due item enter its queue; a
completed item has its record written and then leaves its slot; a cancelled one completes. That the events say when
their time has come is the model's choice (log entry 5). -/
def Obligations.WorkExchangeComplete : Prop :=
  (∀ (bs : List Byte) (h : Nat) (s : State), bs.length = 64 → (postItem bs s).1 = .ok h →
      exec (.wxPostWindow 0xB08000 bs) s = .next ((postItem bs s).2.answer .ok))
  ∧ (∀ (handle : Word) (s : State), exec (.wxCancelWrite handle) s
      = .next (((cancelItem handle.toNat s).2.put F.wxCancelResVal (cancelItem handle.toNat s).1).answer .ok))
  ∧ (∀ (q : BitVec 14) (v : DWord) (s : State), s.nocClocked = true → s.tokens = [(q.toNat, v.toNat)] → s.bit F.wxQcfgEn q.toNat = true → s.waitingItem q.toNat = none →
      s.tokensHeld < 65536 →
      ∃ t, exec (.wxTokenArrive q v) s = .next t ∧ t.tokens = [] ∧ t.tokensOf q.toNat = s.tokensOf q.toNat ++ [v.toNat % 2 ^ 32] ∧ t.mem = s.mem)
  ∧ (∀ (q slot n : Nat) (s : State), s.nocClocked = true → s.frozen F.dbgFreezeWxDispatch = false → (pinnedFaults s).choice = some (q, slot, n) →
      ∃ t, exec .wxDispatch s = .next t ∧ (t.item slot).st = .sent n ∧ (t.core n).sent = some slot ∧ t.mem = s.mem)
  ∧ (∀ (n : Fin 128) (slot : Nat) (s : State), s.quillClocked (n / 8) = true → (s.core n).sent = some slot → s.qSt n = .wait → s.groupOn (n.val / 8) = true → s.coreHalted n = false →
      (s.core n).stepping = false →
      ∃ t, exec (.itemDelivered n) s = .next t ∧ (t.item slot).st = .running n ∧ (t.core n).slot = some slot ∧ (t.core n).sent = none ∧
        t.qSt n = .item ∧ t.get F.qcStatusQueue n = (s.item slot).queue)
  ∧ (∀ (q : BitVec 14) (h : Nat × Nat) (s : State), s.nocClocked = true → s.heads.find? (fun h => h.1 == q.toNat) = some h →
      exec (.affinityWaitExpiry q) s = .next (s.setItem h.2 { s.item h.2 with waited := true }))
  ∧ (∀ (n slot : Nat) (s : State), s.nocClocked = true → s.frozen F.dbgFreezeWxDispatch = false → n < 128 → s.wx.items = [(slot, s.item slot)] →
      (s.item slot).st = .ready → (s.item slot).prio = 3 → s.mayRun n (s.item slot) = true →
      (∀ k, k < 128 → s.qSt k = if k = n then .item else .held) → (s.core n).preempt = none →
      (∃ k, (s.core n).slot = some k ∧ (s.item k).prio < 3) →
      ∃ t, exec .preemption s = .next t ∧ (t.core n).preempt = some slot ∧ (t.item slot).st = .sent n ∧ t.mem = s.mem)
  ∧ (∀ (n : Fin 128) (slot : Nat) (s : State), s.quillClocked (n / 8) = true → (s.core n).preempt = some slot → s.qSt n = .item → s.coreHalted n = false →
      s.groupOn (n.val / 8) = true → (s.core n).pend = none →
      ∃ t, exec (.preemptSwitch n) s = .next t ∧ t.qSt n = .urgent ∧ (t.core n).urgSlot = some slot ∧ (t.core n).preempt = none ∧
        (t.core n).norm = (s.core n).norm)
  ∧ (∀ (l : Fin 4) (s : State), s.nocClocked = true → s.frozen F.dbgFreezeWxDelay = false → l ≠ 3 →
      ∃ t, exec (.delayListTick l) s = .next t ∧ Tab.get 0 t.wx.counts l = (Tab.get 0 s.wx.counts l + 1) % 2 ^ 64 ∧
        t.wx.items = s.wx.items ∧ t.regs = s.regs ∧ t.mem = s.mem)
  ∧ (∀ (l : Fin 4) (slot due : Nat) (i : Item) (s : State), s.nocClocked = true → s.wx.items = [(slot, i)] → i.st = .delayed due → i.list = l.val →
      due ≤ Tab.get 0 s.wx.counts l → i.need = 0 →
      ∃ t, exec (.delayDue l) s = .next t ∧ (t.item slot).st = .ready ∧ t.regs = s.regs ∧ t.mem = s.mem)
  ∧ (∀ (slot : Fin 32768) (st res : Nat) (c : Option Nat) (s : State), s.nocClocked = true → (s.item slot).st = .done st res c → (s.item slot).record = none →
      (s.item slot).cplAddr = 0 →
      exec (.itemCompletion slot) s = .next (s.setItem slot { s.item slot with record := some .ok }))
  ∧ (∀ (slot : Fin 32768) (st res : Nat) (c : Option Nat) (s : State), s.nocClocked = true → (s.item slot).st = .done st res c → (s.item slot).record = some .ok →
      (s.item slot).cqEn = false →
      exec (.completionToken slot .ok) s = .next { s with wx := { s.wx with items := Tab.del s.wx.items slot } })

/-- O26. A HELD core whose group is ON is released and boots; a retired core is reinstated HELD, any other is left; the
first expiry of a watchdog raises the warning, the second forces an end; a mismatch is counted and the core boots
again; a retired shadow is reinstated. -/
def Obligations.CoreSupervisionComplete : Prop :=
  (∀ (n : Fin 128) (s : State), s.groupOn (n / 8) = true → s.fillPending = false → s.qSt n = .held → s.bit F.dbgConnectHaltQuill = false →
      (s.core n).haltPending = false →
      ∃ t : State, exec (.coreRelease n) s = .next (t.answer .ok) ∧ t.qSt n = .boot ∧ (t.cbank n).pc = 0x30000000 ∧ (t.cbank n).user = false ∧
        t.mem = s.mem)
  ∧ (∀ (n : Fin 128) (s : State), (s.qSt n ≠ .retired → exec (.coreReinstate n) s = .next (s.answer .ok)) ∧
      (s.qSt n = .retired → s.groupOn (n.val / 8) = true →
        ∃ t : State, exec (.coreReinstate n) s = .next (t.answer .ok) ∧ t.qSt n = .held ∧ t.mem = s.mem))
  ∧ (∀ (n : Fin 128) (s : State), s.quillClocked (n / 8) = true → s.bit F.qcWdogEn n = true → s.qSt n = .item → s.coreHalted n = false → (s.core n).stepping = false →
      ((s.core n).warned = false → ∃ t, exec (.watchdogExpiry n) s = .next t ∧ (t.core n).warned = true ∧
        (t.csrRaw n 0x344).testBit 17 = true ∧ t.qSt n = .item ∧ t.mem = s.mem) ∧
      ((s.core n).warned = true → (s.core n).haltPending = false →
        ∃ t, exec (.watchdogExpiry n) s = .next t ∧ t.qSt n = .boot ∧ t.get F.qcErrWatchdog = 1 ∧ (t.core n).warned = false ∧ t.mem = s.mem))
  ∧ (∀ (g : Fin 16) (s : State), s.quillClocked g = true → s.bit F.qcShstatChecking g = true → (s.shadow g).mismatches = [] → (s.core (s.shadowTarget g)).haltPending = false →
      ∃ t, exec (.shadowMismatch g) s = .next t ∧ t.qSt (s.shadowTarget g) = .boot ∧ t.get F.qcErrMismatch = 1 ∧ t.get F.qcShstatChecking g = 0 ∧
        t.mem = s.mem)
  ∧ (∀ (g : Fin 16) (s : State), (s.bit F.qcShstatRetired g = false → exec (.shadowReinstate g) s = .next (s.answer .ok)) ∧
      (s.bit F.qcShstatRetired g = true → ∃ t : State, exec (.shadowReinstate g) s = .next (t.answer .ok) ∧ t.get F.qcShstatRetired g = 0 ∧ t.mem = s.mem))

/-- O27. A load command begins a load while the loader is IDLE, and one from memory of a hoop likewise; a cancel ends a
load ABORTED; the power-on load begins in BOOT; a header that passes leads to PREPARE, PREPARE to STREAM. A frame run,
a block record, a bank's contents and a register record of the open segment are taken; the last segment's end leads to
VERIFY; a signature that fails ends the load, one that verifies leads to the content checks; START ends with the
fabric started or the hoop loaded. That the events say when their time has come is the model's choice (log entry 5). -/
def Obligations.FolioLoadsComplete : Prop :=
  (∀ (src : BitVec 3) (s : State), s.bit F.scmStatusTrip = false → src.toNat < 3 →
      (s.ldSt = 0 → exec (.loadFull src) s = .next ((startLoad src.toNat 0 0 false false false s).answer .ok)) ∧
      (s.ldSt ≠ 0 → exec (.loadFull src) s = .next (s.answer .busy)))
  ∧ (∀ (hoop : BitVec 8) (s : State), s.bit F.scmStatusTrip = false → s.ldSt = 0 →
      exec (.loadHoop 2 hoop) s = .next ((startLoad 2 1 hoop.toNat false false false s).answer .ok))
  ∧ (∀ (s : State), (s.ldSt = 0 → exec .loadCancel s = .next (s.answer .ok)) ∧
      (s.ldSt ≠ 0 → exec .loadCancel s = .next ((loadFail 19 s.loader.bytes.length 0xFFFFFFFF s).answer .ok)))
  ∧ (∀ (s : State), s.mgmtClocked = true → s.ldSt = 0 → s.get F.sysStatusPhase = 3 → s.bit F.sysStatusLoaderDone = false → s.bit F.dbgConnectHoldLoad = false →
      s.bit F.sysStatusSelftestDone = true →
      exec .powerOnLoad s
        = .next (startLoad (if s.directory.present && !s.directory.bootGolden then 1 else 0) 0 0 true false false s))
  ∧ (∀ (s : State), s.mgmtClocked = true → s.ldSt = 1 → s.get F.cfgStatusSrc = 0 → s.loader.bytes = [] → s.ldHoop = false →
      wordAt (s.flashBytes s.loader.base 256) 0 = 0xB5F07A49 →
      (let u := s.modLoader (fun l => { l with bytes := s.flashBytes s.loader.base 256 })
       headerFault u = none ∧ u.folioBounds = 0 ∧ u.folioEncrypted = false) →
      ∃ t, exec .loaderHeaderDone s = .next t ∧ t.ldSt = 2 ∧ t.loader.bytes.length = 256 ∧ t.mem = s.mem)
  ∧ (∀ s : State, s.mgmtClocked = true → s.ldSt = 2 → s.ldHoop = false →
      exec .imageFillWaitTimeout s = .next { s with loader := { s.loader with waited := true } })
  ∧ (∀ s : State, s.mgmtClocked = true → s.ldSt = 2 →
      (s.ldHoop = false → s.loader.waited = true → exec .loaderPrepareDone s = .next ((prepareFull s).put F.cfgStatusState 3)) ∧
      (s.ldHoop = true → s.hoopSt s.ldTarget = .loading →
        exec .loaderPrepareDone s = .next ((clearHoopFrames s.ldTarget s).put F.cfgStatusState 3)))
  ∧ (∀ (g : Segment) (s : State), s.mgmtClocked = true → s.ldSt = 3 → s.get F.cfgStatusSrc = 0 → s.ldHoop = false → s.folioEncrypted = false →
      s.loader.cur = some g → g.typ = 1 → 256 ≤ s.loader.bytes.length → 520 ≤ s.bodyLeft g →
      (let h := ofBytes (s.flashBytes (s.loader.base + s.loader.bytes.length) 8)
       bits h 31 30 = 0 ∧ bits h 29 17 = 0 ∧ bits h 16 0 = 0 ∧ faLegal (h / 2 ^ 32) = true) →
      let a := s.loader.base + s.loader.bytes.length
      exec .frameRun s = .next (loadFrames (ofBytes (s.flashBytes a 8) / 2 ^ 32) false 1 (s.flashBytes (a + 8) 512)
        (s.modLoader (fun l => { l with bytes := l.bytes ++ s.flashBytes a 8 ++ s.flashBytes (a + 8) 512 }))))
  ∧ (∀ (g : Segment) (s : State), s.mgmtClocked = true → s.ldSt = 3 → s.get F.cfgStatusSrc = 0 → s.ldHoop = false → s.folioEncrypted = false →
      s.loader.cur = some g → g.typ = 2 → 256 ≤ s.loader.bytes.length → 32 ≤ s.bodyLeft g →
      let bs := s.flashBytes (s.loader.base + s.loader.bytes.length) 32
      mblockBad 2 (wordAt bs 0) (wordAt bs 8) (wordAt bs 12) (ofBytes ((bs.drop 16).take 8)) (bs.drop 24) = false →
      bits (wordAt bs 0) 31 28 = 2 → wordAt bs 4 ≤ 193 →
      ∃ t, exec .mblockRecord s = .next t ∧ t.get F.membBownOwner (bits (wordAt bs 0) 15 0) = wordAt bs 4 ∧
        t.loader.blocks = s.loader.blocks ++ [(s.loader.bytes.length, 2, bits (wordAt bs 0) 15 0)] ∧ t.mem = s.mem)
  ∧ (∀ (g : Segment) (s : State), s.mgmtClocked = true → s.ldSt = 3 → s.get F.cfgStatusSrc = 0 → s.ldHoop = false → s.folioEncrypted = false →
      s.loader.cur = some g → g.typ = 3 → 256 ≤ s.loader.bytes.length → 8200 ≤ s.bodyLeft g →
      let bs := s.flashBytes (s.loader.base + s.loader.bytes.length) 8200
      let i := bits (ofBytes (bs.take 8)) 15 0
      bits (ofBytes (bs.take 8)) 63 16 = 0 → i < 8192 → (s.bank (blockId i)).unspared = false → s.power (blockId i) = .on →
      (s.bank (blockId i)).latched = none →
      exec .bankinitRecord s = .next (fillBank i (bs.drop 8) (s.modLoader (fun l => { l with bytes := l.bytes ++ bs }))))
  ∧ (∀ (g : Segment) (s : State), s.mgmtClocked = true → s.ldSt = 3 → s.get F.cfgStatusSrc = 0 → s.folioEncrypted = false →
      s.loader.cur = some g → g.typ = 4 → 256 ≤ s.loader.bytes.length → 8 ≤ s.bodyLeft g → s.loader.regs.length < 8192 →
      let r := ofBytes (s.flashBytes (s.loader.base + s.loader.bytes.length) 8)
      regsAllowed (r / 2 ^ 32) = true →
      ∃ t, exec .regsRecord s = .next t ∧ t.loader.regs = s.loader.regs ++ [(s.loader.bytes.length, r / 2 ^ 32, r % 2 ^ 32)] ∧
        t.regs = s.regs ∧ t.mem = s.mem)
  ∧ (∀ (g : Segment) (s : State), s.mgmtClocked = true → s.ldSt = 3 → s.get F.cfgStatusSrc = 0 → s.folioEncrypted = false →
      s.loader.cur = some g → s.bodyLeft g = 0 → 256 ≤ s.loader.bytes.length →
      (s.loader.seg + 1 < s.folioSegments → ∃ t, exec .segmentEnd s = .next t ∧ t.ldSt = 3 ∧ t.loader.seg = s.loader.seg + 1 ∧
        t.loader.cur = none) ∧
      (s.folioSegments ≤ s.loader.seg + 1 → s.loader.bytes.length + 48 + 1612 = s.folioLength →
        ∃ t, exec .segmentEnd s = .next t ∧ t.ldSt = 4 ∧ t.loader.cur = none))
  ∧ (∀ s : State, s.mgmtClocked = true → s.ldSt = 3 → s.get F.cfgStatusSrc ≠ 2 →
      exec .flashReadTimeout s = .next (loadFail 12 s.loader.bytes.length 0xFFFFFFFF s))
  ∧ (∀ s : State, s.mgmtClocked = true → s.ldSt = 4 → s.get F.cfgStatusSrc ≠ 2 →
      exec .loaderVerifyDone s = .next (if (signatureOk s).1 = some true then verifyContent (signatureOk s).2
        else loadFail 15 s.loader.bytes.length 0xFFFFFFFF (signatureOk s).2))
  ∧ (∀ s : State, s.mgmtClocked = true → s.ldSt = 5 → (s.ldHoop = true → exec .loaderStartDone s = .next (hoopDone s)) ∧
      (s.ldHoop = false → s.started = true → exec .loaderStartDone s = .next (fullDone s)) ∧
      (s.ldHoop = false → s.started = false → s.startRefused = true →
        exec .loaderStartDone s = .next (loadFail 20 s.loader.bytes.length 0xFFFFFFFF s)))

/-- O28. A frame read with one error or two is corrected, one with three or more is queued for a rewrite, or its report
dropped and counted while the queue is full; the oldest begins; the frame read from the first copy that gives it is
written, logged and counted; with neither copy it fails and is counted. -/
def Obligations.FrameRewritesComplete : Prop :=
  (∀ (fa : Word) (upsets : List (Fin 4128)) (s : State), s.mgmtClocked = true → faLegal fa.toNat = true →
      let u := s.upsetFrame (faSlot fa.toNat) upsets
      let n := (u.flips (faSlot fa.toNat)).length
      u.scrubSkips fa.toNat = false → n ≠ 0 →
      (n < 3 → exec (.scrubFrameRead fa upsets) s = .next (spansMended (faSlot fa.toNat) (u.mendFrame (faSlot fa.toNat)))) ∧
      (3 ≤ n → u.loader.queue.contains fa.toNat = false → u.loader.queue.length < 16 → exec (.scrubFrameRead fa upsets) s
        = .next { u with loader := { u.loader with queue := u.loader.queue ++ [fa.toNat] } }) ∧
      (3 ≤ n → u.loader.queue.contains fa.toNat = false → 16 ≤ u.loader.queue.length →
        exec (.scrubFrameRead fa upsets) s = .next ((u.bump F.cfgRwStatDropped).flag F.cfgErrRewriteDrop)))
  ∧ (∀ (fa : Nat) (rest : List Nat) (s : State), s.mgmtClocked = true → s.loader.rewriting = none → s.loader.queue = fa :: rest → 192 ≤ faRegion fa →
      exec .frameRewriteStart s = .next { s with loader := { s.loader with queue := rest, rewriting := some fa } })
  ∧ (∀ (fa v : Nat) (s t : State), s.mgmtClocked = true → s.loader.rewriting = some fa →
      imageRead 0 (faSlot fa) { s with loader := { s.loader with rewriting := none } } = (some v, t) →
      exec .frameRewriteDone s = .next (rewriteDone fa v t))
  ∧ (∀ (fa : Nat) (s : State), s.mgmtClocked = true → s.loader.rewriting = some fa → s.bit (imgOk 0) = false → s.bit (imgOk 1) = false →
      ∃ t, exec .frameRewriteDone s = .next t ∧ t.get F.cfgErrRewriteFail = 1 ∧ t.loader.rewriting = none ∧ t.frames = s.frames ∧
        t.mem = s.mem)

/-- O29. An authentic new request of an OPEN session is accepted and the session BUSY; a packet that fails its checks is
counted; a control frame for the device's address is answered; a port's block lock is shown; the active port changes;
a session at its time-outs ends; an OPEN request opens a FREE slot; a resend request sends the stored segments it
names; an ACCEPTED command ends; a stream is queued and ends. That the events say when their time has come is the
model's choice (log entry 5). -/
def Obligations.EthernetCommandsComplete : Prop :=
  (∀ (p : VcpPacket) (s : State), s.ethReceives = true → s.clk.epllLost = false → p.eth = s.bit F.ethStatusActive → s.supported p = true →
      s.ownAddress p.peer.v6 p.dst = true → p.dport = s.get F.ethUdpVal → (requestHead (p.bytes.map BitVec.toNat)).isNone = true →
      exec (.vcpPacketRx p) s = .next ((s.bump F.ethCnt0AuthFail).flag F.ethErrAuthFail))
  ∧ (∀ (p : VcpPacket) (h : ReqHead) (k : Nat) (s : State), s.ethReceives = true → s.clk.epllLost = false → p.eth = s.bit F.ethStatusActive → s.supported p = true →
      s.ownAddress p.peer.v6 p.dst = true → p.dport = s.get F.ethUdpVal → requestHead (p.bytes.map BitVec.toNat) = some h →
      k = h.id % 1024 → (s.sess k).st = 1 → s.sessId k = h.id → packetTag (s.sess k).key (p.bytes.map BitVec.toNat) = h.tag →
      h.bad = 0 → h.code = 3 → h.seq = ((s.sess k).last + 1) % 2 ^ 32 → (s.sess k).reqUse = (0, 0) → s.host.reqUse = (0, 0) →
      ∃ t, exec (.vcpPacketRx p) s = .next t ∧ (t.sess k).st = 2 ∧ (t.sess k).last = h.seq ∧ (t.sess k).params = h.payload ∧
        t.host.order = s.host.order ++ [k] ∧ t.mem = s.mem ∧ t.regs = s.regs)
  ∧ (∀ (f : CtlFrame) (u : Nat × Nat) (s : State), s.ethReceives = true → s.clk.epllLost = false → f.eth = s.bit F.ethStatusActive → f.kind = .arp →
      s.ownAddress false f.dst = true → spend 100 100 s.pt s.host.ctlUse = some u →
      exec (.networkControlFrame f) s = .next (sendCtl .arp true f.peer { s with host := { s.host with ctlUse := u } }))
  ∧ (∀ (l : Bool) (s : State), exec (.pcsBlockLockChange 0 l) s = .next (s.putBit F.ethStatusLink0 (l && !s.clk.epllLost)) ∧
      exec (.pcsBlockLockChange 1 l) s = .next (s.putBit F.ethStatusLink1 (l && !s.clk.epllLost)))
  ∧ (∀ s : State, s.bit F.ethCtrlAuto = true → s.bit F.ethStatusActive = false → s.bit F.ethStatusLink0 = false → s.bit F.ethStatusLink1 = true →
      exec .ethFailover s = .next (ethSwitch true s))
  ∧ (∀ (v : Bool) (s : State), (s.bit F.ethStatusActive = v → exec (.ethActiveWrite v) s = .next (s.answer .ok)) ∧
      (s.bit F.ethStatusActive ≠ v → exec (.ethActiveWrite v) s = .next ((ethSwitch v s).answer .ok)))
  ∧ (∀ (k : Fin 1024) (s : State), (s.sess k).st = 1 →
      exec (.sessionIdleTimeout k) s = .next (endSession k s) ∧
      ((s.sess k).first = true → exec (.sessionFirstRequestTimeout k) s = .next (endSession k s)))
  ∧ (∀ (k : Fin 1024) (r : OpenReq) (rest : List OpenReq) (s : State), s.host.opens = r :: rest → (s.opKey r.okey).st = 1 → r.bad = 0 →
      r.params.length = 32 → s.openTwin r = none → leAt r.params 28 4 = 0 → 1024 ≤ leAt r.params 4 2 → leAt r.params 8 4 ≤ 3600 →
      (s.sess k).st = 0 →
      exec (.opSessionOpen k) s = .next (openSession k r { s with host := { s.host with opens := rest } }))
  ∧ (∀ (k : Fin 1024) (map : List Nat) (rest ps : List (List Nat)) (s : State), (s.sess k).st = 1 → (s.sess k).resend = map :: rest →
      namedSegments map (s.sess k).stored = ps → ps ≠ [] →
      exec (.opReplyResend k) s = .next (sendAll (s.sess k).peer ps (s.modSess k (fun x => { x with resend := rest }))))
  ∧ (∀ (who : Origin) (j : Job) (s : State), s.host.jobs = [j] → j.origin = who → j.op = 0x42 →
      exec (.commandDone who) s = .next (jobOver j vOk [] (eraseSectors j.first j.count s)))
  ∧ (∀ (desc : List Byte) (s : State), s.clk.held = false → (streamQueue 0 desc s).2 = .ok →
      exec (.ethSend 0 desc) s = .next ((streamQueue 0 desc s).1.answer .ok))
  ∧ (∀ (x : Stream) (rest : List Stream) (s : State), s.host.streams = x :: rest → x.len = 0 →
      exec .streamEnd s = .next (streamOver x 0 { s with host := { s.host with streams := rest } }))

/-- O30. A command of a BUSY session that is this device's own and passes its checks is carried out and its reply stored
and sent: closing the session, the powered time, the sessions, the event mask, the events, information, a snapshot of
machine time, one register read or written, memory read or written, flash read or programmed. -/
def Obligations.HostSessionCommandsComplete : Prop :=
  (∀ (k : Fin 1024) (s : State), s.ownCommand 0x02 k →
      exec (.opSessionClose k) s = .next (storeReply k vOk [] (s.modSess k (fun x => { x with ending := true }))))
  ∧ (∀ (k : Fin 1024) (s : State), s.ownCommand 0x03 k → exec (.opPing k) s = .next (storeReply k vOk (nums s.pt 8) s))
  ∧ (∀ (k : Fin 1024) (s : State), s.ownCommand 0x05 k →
      exec (.opSessionList k) s = .next (storeReply k vOk
        (((List.range 1024).filter (fun k => (s.sess k).st != 0)).map (sessionEntry s)).flatten s))
  ∧ (∀ (k : Fin 1024) (s : State), s.ownCommand 0x06 k →
      exec (.opEventSubscribe k) s = .next (storeReply k vOk (nums (s.sess k).mask 4)
        (s.modSess k (fun x => { x with mask := leAt (s.hostParams k) 0 4 }))))
  ∧ (∀ (k : Fin 1024) (s : State), s.ownCommand 0x07 k → 1 ≤ leAt (s.hostParams k) 4 4 → leAt (s.hostParams k) 4 4 ≤ 128 →
      exec (.opEventRead k) s = .next (storeReply k vOk (hostEvents (s.sessionCtx k) s).result s))
  ∧ (∀ (k : Fin 1024) (s : State), s.ownCommand 0x10 k →
      exec (.opDeviceInfo k) s = .next (storeReply k vOk (hostInfo (s.sessionCtx k) s).result s))
  ∧ (∀ (k : Fin 1024) (s : State), s.ownCommand 0x11 k →
      exec (.opTimeSnap k) s = .next (storeReply k vOk (regResult .mtimeSnapTLo 0 0 (mtSnap s) ++ regResult .mtimeSnapTHi 0 0 (mtSnap s)
        ++ regResult .mtimeSnapPtLo 0 0 (mtSnap s) ++ regResult .mtimeSnapPtHi 0 0 (mtSnap s)) (mtSnap s)))
  ∧ (∀ (k : Fin 1024) (s : State), s.ownCommand 0x20 k → s.hostParams k = nums 0xD00030 4 →
      exec (.opRegRead k) s = .next (storeReply k vOk (nums 1 4 ++ [0, 0, 0, 0] ++ nums (s.word .ethRate).toNat 4) s))
  ∧ (∀ (k : Fin 1024) (v : Word) (s : State), s.ownCommand 0x21 k → s.hostParams k = nums 0xD00030 4 ++ nums v.toNat 4 →
      exec (.opRegWrite k) s = .next (storeReply k vOk (nums 1 4 ++ [0, 0, 0, 0]) (s.setWord .ethRate v)))
  ∧ (∀ (k : Fin 1024) (s : State), s.ownCommand 0x22 k →
      let a := leAt (s.hostParams k) 0 8
      let n := leAt (s.hostParams k) 8 4
      let r := ethRead .host [] false a n s (n / 4096 + 2)
      1 ≤ n → n ≤ 65536 → memRefusal a = none → r.status = .ok →
      exec (.opMemRead k) s
        = .next (storeReply k vOk (nums r.data.length 4 ++ [0, 0, 0, 0] ++ r.data.map BitVec.toNat) r.state))
  ∧ (∀ (k : Fin 1024) (s : State), s.ownCommand 0x23 k →
      let a := leAt (s.hostParams k) 0 8
      let d := ((s.hostParams k).drop 12).map (BitVec.ofNat 8)
      let r := ethWrite 0 a d s 4
      leAt (s.hostParams k) 8 4 + 12 = (s.hostParams k).length → memRefusal a = none → r.2.1 = .ok →
      exec (.opMemWrite k) s = .next (storeReply k vOk (nums r.1 4 ++ [0, 0, 0, 0]) r.2.2))
  ∧ (∀ (k : Fin 1024) (s : State), s.ownCommand 0x40 k →
      let o := leAt (s.hostParams k) 0 4
      let n := leAt (s.hostParams k) 4 4
      1 ≤ n → n ≤ 65536 → o + n ≤ flashSize →
      exec (.opFlashRead k) s
        = .next (storeReply k vOk (nums n 4 ++ [0, 0, 0, 0] ++ (s.flashBytes o n).map BitVec.toNat) s))
  ∧ (∀ (k : Fin 1024) (s : State), s.ownCommand 0x41 k →
      let o := leAt (s.hostParams k) 0 4
      let d := ((s.hostParams k).drop 4).map (BitVec.ofNat 8)
      let r := flashProgram o d s
      flashRefusal (s.sessionCtx k) o d.length = none → r.1 = d.length →
      exec (.opFlashWrite k) s = .next (storeReply k vOk (nums d.length 4 ++ nums 0 4) r.2))
  ∧ (∀ (k : Fin 1024) (s : State), s.ownCommand 0x42 k →
      let o := leAt (s.hostParams k) 0 4
      let n := leAt (s.hostParams k) 4 4
      o % 65536 = 0 → n ≠ 0 → flashRefusal (s.sessionCtx k) o (n * 65536) = none →
      ∃ j : Job, j.op = 0x42 ∧ j.first = o / 65536 ∧ j.count = n ∧ exec (.opFlashErase k) s
        = .next (storeReply k vAccepted [] { s with host := { s.host with jobs := s.host.jobs ++ [j] } }))

/-- O31. A command of a BUSY session that is this device's own and passes its checks is carried out and its reply stored
and sent: a folio load and a hoop load are ACCEPTED and begin, a hoop is released or stopped, a domain enabled or
switched off, an element reinstated, a look-back descriptor queued. -/
def Obligations.HostControlCommandsComplete : Prop :=
  (∀ (k : Fin 1024) (s : State), s.ownCommand 0x30 k → leAt (s.hostParams k) 0 4 < 2 → s.ldSt = 0 → s.bit F.scmStatusTrip = false →
      ∃ t : State, exec (.opFolioLoad k) s = .next (storeReply k vAccepted [] t) ∧ t.ldSt = 1 ∧ t.loader.host = true ∧
        t.host.jobs.length = s.host.jobs.length + 1 ∧ t.mem = s.mem)
  ∧ (∀ (k : Fin 1024) (s : State), s.ownCommand 0x31 k → leAt (s.hostParams k) 0 4 < 192 → s.ldSt = 0 → s.bit F.scmStatusTrip = false →
      ∃ t : State, exec (.opHoopLoad k) s = .next (storeReply k vAccepted [] t) ∧ t.ldSt = 1 ∧ t.ldHoop = true ∧
        t.ldTarget = leAt (s.hostParams k) 0 4 ∧ t.host.jobs.length = s.host.jobs.length + 1 ∧ t.mem = s.mem)
  ∧ (∀ (k : Fin 1024) (s : State), s.ownCommand 0x32 k → leAt (s.hostParams k) 0 4 < 192 →
      let h := leAt (s.hostParams k) 0 4
      (leAt (s.hostParams k) 4 4 = 1 → exec (.opHoopCmd k) s = .next (storeReply k (statusReply (hoopRelease h s).2)
        (regResult .fabHoopStatus h 0 (hoopRelease h s).1) (hoopRelease h s).1)) ∧
      (leAt (s.hostParams k) 4 4 = 2 → exec (.opHoopCmd k) s = .next (storeReply k (statusReply (hoopStop h s).2)
        (regResult .fabHoopStatus h 0 (hoopStop h s).1) (hoopStop h s).1)))
  ∧ (∀ (k : Fin 1024) (d : Dom) (s : State), s.ownCommand 0x33 k → domOfObject (leAt (s.hostParams k) 0 4) = some (some d) →
      let st (t : State) : DState := match domKey d with | some i => (t.dom i).st | none => .on
      (leAt (s.hostParams k) 4 4 = 0 → exec (.opDomainSet k) s = .next (storeReply k (statusReply (domainEnable d s).2)
        (nums (st (domainEnable d s).1).number 4) (domainEnable d s).1)) ∧
      (leAt (s.hostParams k) 4 4 = 1 → exec (.opDomainSet k) s = .next (storeReply k (statusReply (domainOff d s).2)
        (nums (st (domainOff d s).1).number 4) (domainOff d s).1)))
  ∧ (∀ (k : Fin 1024) (r : Nat) (s : State), s.ownCommand 0x34 k → leAt (s.hostParams k) 0 4 = 4 * 2 ^ 24 + r → r < 144 →
      exec (.opReinstate k) s = .next (storeReply k vOk (regResult .nocRtrStatus r 0 (routerReinstate r s).2) (routerReinstate r s).2))
  ∧ (∀ (k : Fin 1024) (s : State), s.ownCommand 0x35 k →
      let r := lookbackPush ((List.range 8).map (fun i => leAt (s.hostParams k) (4 * i) 4)) s
      r.2 = .ok → exec (.opLookback k) s = .next (storeReply k vOk (regResult .nearLbStatus 0 0 r.1) r.1))

/-- O32. A command of a BUSY session that is this device's own and passes its checks is carried out and its reply stored
and sent: an encryption key is loaded into an empty slot or erased; an operator key is added or revoked; a
verification key is written or revoked; a folio decryption key is written; encryption of folios is made mandatory. -/
def Obligations.HostKeyCommandsComplete : Prop :=
  (∀ (k : Fin 1024) (s : State), s.ownCommand 0x50 k →
      let n := leAt (s.hostParams k) 0 4
      1 ≤ n → n < 32 → s.keyValid n = false →
      exec (.opKeyLoad k) s = .next (match (s.sessionCtx k).unwrap 4 with
        | some key => storeReply k vOk (regResult .xcrKcv n 0 (loadKey n key s)) (loadKey n key s)
        | none => storeReply k vDenied [] s))
  ∧ (∀ (k : Fin 1024) (s : State), s.ownCommand 0x51 k →
      let t := keyErase (leAt (s.hostParams k) 0 4) s
      exec (.opKeyErase k) s = .next (storeReply k vOk (regResult .xcrKeyValid 0 0 t) t))
  ∧ (∀ (k : Fin 1024) (s : State), s.ownCommand 0x52 k →
      let n := leAt (s.hostParams k) 0 4
      let r := leAt (s.hostParams k) 4 4
      1 ≤ n → n < 16 → r &&& (s.sess k).rights = r → (s.opKey n).st = 0 → s.otpWritable = true →
      (exec (.opOpkeyAdd k true) s = .next (match (s.sessionCtx k).unwrap 8 with
        | some key => storeReply k vOk [] (s.setOpKey n { st := 1, key := key, rights := r })
        | none => storeReply k vDenied [] s)) ∧
      (exec (.opOpkeyAdd k false) s = .next (match (s.sessionCtx k).unwrap 8 with
        | some _ => storeReply k vDenied [] (s.setOpKey n { st := 3 })
        | none => storeReply k vDenied [] s)))
  ∧ (∀ (k : Fin 1024) (s : State), s.ownCommand 0x53 k →
      let n := leAt (s.hostParams k) 0 4
      1 ≤ n → n < 16 → (s.opKey n).st = 1 → s.otpWritable = true →
      exec (.opOpkeyRevoke k) s
        = .next (storeReply k vOk [] (keyGone n ((s.setOpKey n { s.opKey n with st := 2 }).raise .opkeyRevoked))))
  ∧ (∀ (k : Fin 1024) (s : State), s.ownCommand 0x54 k →
      let n := leAt (s.hostParams k) 0 4
      let key := (s.hostParams k).drop 4
      let t := { s with otp := { s.otp with vks := Tab.put [] s.otp.vks n (key.map (BitVec.ofNat 8)) } }.setPolicy n
      n < 4 → key.take 8 = [0, 0, 0, 7, 0, 0, 0, 4] → s.otp.policy.testBit n = false → s.otp.policy.testBit (4 + n) = false →
      s.otp.failed.contains n = false → s.otpWritable = true →
      exec (.opVkeyWrite k true) s = .next (storeReply k vOk (regResult .cfgPolicy 0 0 t) t) ∧
      exec (.opVkeyWrite k false) s = .next (storeReply k vDenied [] (s.otpFailed n)))
  ∧ (∀ (k : Fin 1024) (s : State), s.ownCommand 0x55 k →
      let n := leAt (s.hostParams k) 0 4
      n < 4 → s.otp.policy.testBit n = true → s.otp.policy.testBit (4 + n) = false → s.otpWritable = true →
      exec (.opVkeyRevoke k) s = .next (storeReply k vOk (regResult .cfgPolicy 0 0 (s.setPolicy (4 + n))) (s.setPolicy (4 + n))))
  ∧ (∀ (k : Fin 1024) (s : State), s.ownCommand 0x56 k →
      let n := leAt (s.hostParams k) 0 4
      let t (key : List Nat) : State := { s with otp := { s.otp with fks := Tab.put [] s.otp.fks n (key.map (BitVec.ofNat 8)) } }.setPolicy (8 + n)
      n < 4 → s.otp.policy.testBit (8 + n) = false → s.otp.failed.contains (4 + n) = false → s.otpWritable = true →
      exec (.opFkeyWrite k true) s = .next (match (s.sessionCtx k).unwrap 4 with
        | some key => storeReply k vOk (regResult .cfgPolicy 0 0 (t key)) (t key)
        | none => storeReply k vDenied [] s))
  ∧ (∀ (k : Fin 1024) (s : State), s.ownCommand 0x57 k → leAt (s.hostParams k) 0 4 = 0x10000 → s.otp.policy.testBit 16 = false →
      s.otpWritable = true →
      exec (.opPolicySet k true) s = .next (storeReply k vOk (regResult .cfgPolicy 0 0 (s.setPolicy 16)) (s.setPolicy 16)))

/-- O33. A command of a BUSY session that is this device's own and passes its checks is carried out and its reply stored
and sent. A latched trip is cleared while no sensor is at its limit; a repair is ACCEPTED; an image that verifies is
ACCEPTED for activation and any other refused; a running trial is confirmed; an image is written to HELD cores; an
attestation takes a leaf of the open block. -/
def Obligations.HostSceumCommandsComplete : Prop :=
  (∀ (k : Fin 1024) (s : State), s.ownCommand 0x60 k →
      exec (.opSensorRead k) s = .next (storeReply k vOk (hostSensorRead (s.sessionCtx k) s).result s))
  ∧ (∀ (k : Fin 1024) (s : State), s.ownCommand 0x61 k → leAt (s.hostParams k) 0 4 < 48 → s.brokenSensor (leAt (s.hostParams k) 0 4) = true →
      let t := sensorReinstate (leAt (s.hostParams k) 0 4) s
      exec (.opSensorReinstate k) s = .next (storeReply k vOk (regResult .scmStatus 0 0 t) t))
  ∧ (∀ (k : Fin 1024) (s : State), s.ownCommand 0x62 k → s.bit F.scmStatusTrip = true → (∀ c < 48, s.temp c < 1600) →
      ∃ t : State, exec (.opTripClear k) s = .next (storeReply k vOk (regResult .scmStatus 0 0 t) t) ∧ t.bit F.scmStatusTrip = false ∧ t.mem = s.mem)
  ∧ (∀ (k : Fin 1024) (s : State), s.ownCommand 0x63 k →
      exec (.opCalRead k) s = .next (storeReply k vOk (regResult .scmCalcnt 0 0 s ++ regResult .scmStatus 0 0 s ++ nums s.scm.calStamp 8) s))
  ∧ (∀ (k : Fin 1024) (s : State), s.ownCommand 0x64 k →
      let n := leAt (s.hostParams k) 4 4
      let due := (s.scm.results.drop (leAt (s.hostParams k) 0 4)).take n
      1 ≤ n → n ≤ 512 → exec (.opSelftestRead k) s
        = .next (storeReply k vOk (nums due.length 4 ++ nums s.scm.results.length 4 ++ (due.map failBytes).flatten) s))
  ∧ (∀ (k : Fin 1024) (s : State), s.ownCommand 0x65 k →
      ∃ j : Job, j.op = 0x65 ∧ exec (.opRepairApply k) s
        = .next (let t := (repairMap s).1.foldl repairNow (repairMap s).2
                 storeReply k vAccepted [] { t with host := { t.host with jobs := t.host.jobs ++ [j] } }))
  ∧ (∀ (k : Fin 1024) (s : State), s.ownCommand 0x66 k → 1 ≤ leAt (s.hostParams k) 4 4 → leAt (s.hostParams k) 4 4 ≤ 256 →
      exec (.opBlotterRead k) s = .next (storeReply k vOk (hostBlotter (s.sessionCtx k) s).result s))
  ∧ (∀ (k : Fin 1024) (s : State), s.ownCommand 0x67 k → leAt (s.hostParams k) 0 4 < 2 →
      let slot := leAt (s.hostParams k) 0 4
      (s.fwVerifies slot = true → ∃ t : State, exec (.opFwActivate k) s = .next (storeReply k vAccepted [] t) ∧ t.scm.restartDue = some 1 ∧
        t.scm.activating = some slot ∧ t.host.jobs.length = s.host.jobs.length + 1) ∧
      (s.fwVerifies slot = false → exec (.opFwActivate k) s = .next (storeReply k vDenied [] s)))
  ∧ (∀ (k : Fin 1024) (s : State), s.ownCommand 0x68 k → s.bit F.scmFwTrial = true → s.get F.scmFwSecver ≤ s.otp.fwMin →
      ∃ t : State, exec (.opFwConfirm k) s = .next (storeReply k vOk (regResult .scmFw 0 0 t) t) ∧ t.bit F.scmFwTrial = false ∧
        t.otp = s.otp ∧ t.mem = s.mem)
  ∧ (∀ (k : Fin 1024) (s : State), s.ownCommand 0x69 k →
      exec (.opFwStatus k) s = .next (storeReply k vOk (hostFwStatus (s.sessionCtx k) s).result s))
  ∧ (∀ (k : Fin 1024) (n : Nat) (s : State), s.ownCommand 0x6A k →
      let p := s.hostParams k
      let a := leAt p 16 8
      let il := leAt p 24 4
      let dl := leAt p 28 4
      let r := ethRead .host [] false a (il + dl) s ((il + dl) / 4096 + 2)
      n < 128 → leAt p 0 16 = 2 ^ n → il ≤ 32768 → dl ≤ 32768 → memRefusal a = none → s.qSt n = .held → r.status = .ok →
      leAt p 32 4 = 0 →
      exec (.opQuillLoad k) s = .next (storeReply k vOk (nums (2 ^ n) 16) (coreImage (0x20000000 + 0x10000 * n + 0x8000)
        (r.data.drop il) (coreImage (0x20000000 + 0x10000 * n) (r.data.take il) r.state))))
  ∧ (∀ (k : Fin 1024) (b : Nat) (u : Nat × Nat) (s : State), s.ownCommand 0x6B k → s.scm.leafBlock = some b →
      spend 10 10 s.pt s.host.signUse = some u →
      ∃ (result : List Nat) (t : State), exec (.opAttest k) s = .next (storeReply k vOk result t) ∧
        t.get F.scmLeafLeaves = (s.get F.scmLeafLeaves + 1) % 2 ^ 10 ∧ t.host.signUse = u ∧ t.mem = s.mem ∧
        result.take 4 = nums 0xB5F0A770 4)
  ∧ (∀ (k : Fin 1024) (s : State), s.ownCommand 0x6C k →
      exec (.opIdentity k) s = .next (storeReply k vOk (hostIdentity (s.sessionCtx k) s).result s))

/-- O34. A conversion takes a channel's reading and a round ends with its checks; a trip that is due resets the fabric; a
calibration item falls due, is measured, applied, discarded or deferred; self-test and the repair map are recorded; an
unused spare that fails its test becomes unusable; waiting records are programmed; Sceum restarts at its watchdog or
where a restart is due; the boot ROM starts a slot or stays; a trial that runs out is given up. That the events say
when their time has come is the model's choice (log entry 5). -/
def Obligations.SceumCommandsComplete : Prop :=
  (∀ (v : BitVec 16) (s : State), s.mgmtClocked = true → s.clk.held = false → s.scm.next < 123 →
      exec (.hkConversion v) s = .next ((s.modScm (fun m => { m with next := s.scm.next + 1, raw := Tab.put 0 m.raw s.scm.next v.toNat })).flag
        F.scmChValid s.scm.next))
  ∧ (∀ (s : State), s.mgmtClocked = true → s.scm.next = 128 →
      ∃ t, exec .hkRoundEnd s = .next t ∧ t.scm.next = 0 ∧ t.scm.round = s.scm.round + 1 ∧ t.scm.raw = [] ∧
        (∀ c, c < 48 → s.brokenSensor c = false → t.get F.scmChValue c = Tab.get 0 s.scm.raw c % 2 ^ 16))
  ∧ (∀ s : State, s.scm.tripDue = true →
      ∃ t, exec .tripFabricReset s = .next t ∧ t.txTripped = true ∧ t.scm.tripDue = false ∧ t.started = false)
  ∧ (∀ (i : CalItem) (s : State), s.mgmtClocked = true → s.calRuns = true → exec (.calItemDue i) s = .next (s.modCal i (fun c => { c with due := true })))
  ∧ (∀ (i : CalItem) (a b : List Int) (sel : Nat) (s : State), s.mgmtClocked = true → s.calRuns = true → (s.calItem i).due = true → s.gapNow = true →
      s.frozen F.dbgFreezeSceumCal = false →
      (calAgree i a b = true → exec (.calMeasurementDone i a b sel) s
        = .next (s.modCal i (fun c => { c with due := false, deferred := false, agreed := some sel }))) ∧
      (calAgree i a b = false → exec (.calMeasurementDone i a b sel) s = .next
        (((s.modCal i (fun c => { c with due := false, deferred := false })).bump F.scmCalcntDiscarded).flag F.scmErrCalDiscard)))
  ∧ (∀ (n : Fin 48) (m : Fin 9) (sel : Nat) (s : State), (s.calItem (.sampler n m)).agreed = some sel → s.mt.cross = 0 →
      s.bit F.scmCtrlCalEn = true → (s.get F.laneSliceUsable n m).testBit sel = true → sel < 4 →
      ∃ t, exec (.calApply (.sampler n m)) s = .next t ∧ t.get F.laneSliceActive n m = sel ∧ (t.calItem (.sampler n m)).agreed = none ∧
        t.scm.calStamp = s.stamp ∧ t.mem = s.mem)
  ∧ (∀ (i : CalItem) (s : State), s.mgmtClocked = true → (s.calItem i).due = true →
      exec (.calResultTimeout i) s = .next
        (((s.modCal i (fun c => { c with due := false, deferred := false })).bump F.scmCalcntDiscarded).flag F.scmErrCalDiscard))
  ∧ (∀ (i : CalItem) (s : State), s.mgmtClocked = true → s.calRuns = true → (s.calItem i).due = true → (s.calItem i).deferred = false →
      exec (.scmCalDeferred i) s
        = .next (((s.modCal i (fun c => { c with deferred := true })).flag F.scmStatusCalDeferred).raise .scmCalDeferred))
  ∧ (∀ (f : SelfFail) (s : State), s.mgmtClocked = true → s.get F.sysStatusPhase = 3 → s.warm = false → s.bit F.sysStatusSelftestDone = false →
      s.repairCopy = none → f.block = 4 → s.failed = [] → s.scm.results = [] →
      ∃ t, exec (.selftestDone [f]) s = .next t ∧ t.get F.sysStatusSelftestDone = 1 ∧ t.scm.results = [f] ∧ t.failed = [(4, f.index)] ∧
        t.get F.scmErrSelftestFail = 1 ∧ t.mem = s.mem)
  ∧ (∀ (k : Fin 128) (s : State), s.mgmtClocked = true → s.bit F.scmCtrlSpareEn = true → s.sceumRuns = true → s.gapNow = true → s.calClaims = false →
      s.frozen F.dbgFreezeSceumCal = false → s.get F.membSpmapBState k = 0 →
      ∃ t, exec (.spareTest (.block k) false) s = .next t ∧ t.get F.membSpmapBState k = 3 ∧ t.get F.scmErrSelftestFail = 1 ∧ t.mem = s.mem)
  ∧ (∀ (r : List Byte) (rest : List (List Byte)) (s : State), s.mgmtClocked = true → s.sceumRuns = true → s.log.buffer = r :: rest → r.length = 32 →
      s.log.pos < 224 * 2048 →
      ∃ t, exec (.blotterProgram 1) s = .next t ∧ t.log.buffer = rest ∧ t.log.pos = (s.log.pos + 1) % (224 * 2048) ∧
        t.flashBytes (0x01200000 + 32 * s.log.pos) 32 = r ∧ t.mem = s.mem ∧ t.regs = s.regs)
  ∧ (∀ s : State, s.sceumRuns = true → s.dbg.sceumHalted = false →
      ∃ t, exec .sceumWatchdogExpiry s = .next t ∧ t.sceumRuns = false ∧ t.scm.bootDue = true ∧ t.mem = s.mem)
  ∧ (∀ (cause : Nat) (s : State), s.mgmtClocked = true → s.scm.restartDue = some cause → s.dbg.sceumHalted = false →
      ∃ t, exec .sceumRestart s = .next t ∧ t.sceumRuns = false ∧ t.scm.bootDue = true ∧ t.scm.restartDue = none ∧ t.mem = s.mem)
  ∧ (∀ s : State, s.mgmtClocked = true → 3 ≤ s.get F.sysStatusPhase → s.clk.held = false → s.scm.bootDue = true → s.dbg.sceumHalted = false →
      s.slotState 0 = none → s.slotState 1 = none → s.scm.activating = none →
      exec .bootRomStart s = .next (s.modScm (fun m => { m with bootDue := false, inRom := true })))
  ∧ (∀ (slot seq : Nat) (s : State), s.mgmtClocked = true → 3 ≤ s.get F.sysStatusPhase → s.clk.held = false → s.scm.bootDue = true → s.dbg.sceumHalted = false →
      slot < 2 → s.slotState slot = some (seq, 1, 0) → s.slotState (1 - slot) = none → s.scm.activating = none →
      s.otp.fwMin ≤ s.fwVersion slot →
      exec .bootRomStart s = .next (if s.fwVerifies slot
        then firstBoot (startFirmware slot (s.modScm (fun m => { m with bootDue := false, inRom := false })))
        else s.modScm (fun m => { m with bootDue := false, inRom := true })))
  ∧ (∀ s : State, s.mgmtClocked = true → s.sceumRuns = true → s.bit F.scmFwTrial = true →
      ∃ t, exec .fwTrialTimeout s = .next t ∧ t.scm.restartDue = some 2 ∧ t.mem = s.mem)

/-- O35. A switch completes, or is forced, with its new source in force; the writes of CLK_NOC, CLK_QPLL, CLK_GRP,
CLK_NCTL and CLK_CTRL take effect where they are legal; the loss of the crystal asks for the internal oscillator or
stops the root, its return brings start-up on; a synthesiser loses lock, locks again, is declared failed. That the
events say when their time has come is the model's choice (log entry 5). -/
def Obligations.ClockCommandsComplete : Prop :=
  (∀ (t : Nat) (s : State), Tab.get 0 s.clk.busy 1 = t + 1 → Tab.get 0 s.clk.latched 1 = 0 →
      ∃ u v, exec (.clockSwitchDone 1) s = .next u ∧ u.clkSource 1 = t ∧ u.get F.clkStatusNocPpll = (if t = 1 then 1 else 0) ∧ u.get F.clkStatusForced = 0 ∧
        u.mem = s.mem ∧ exec (.clkForced 1) s = .next v ∧ v.clkSource 1 = t ∧ v.get F.clkStatusForced = 1 ∧ v.get F.clkErrForced = 1)
  ∧ (∀ (v : Word) (s : State), bits v.toNat 31 31 = 1 → s.bit F.clkNocSel = true → 128 ≤ bits v.toNat 23 16 → 2 ≤ bits v.toNat 3 0 →
      25 * bits v.toNat 23 16 ≤ 1600 * bits v.toNat 3 0 → bits v.toNat 23 16 ≠ s.get F.clkNocN →
      exec (.clkNocWrite v) s = .next ((clkRequest 1 1 ((((s.put F.clkNocSel 1).put F.clkNocN (bits v.toNat 23 16)).put F.clkNocD
        (bits v.toNat 3 0)).clear F.clkStatusNpllLock)).answer .ok))
  ∧ (∀ (q : Fin 4) (v : Word) (s : State), (∀ g, g < 16 → s.get F.clkGrpSrc g ≠ q) → 128 ≤ bits v.toNat 23 16 → bits v.toNat 23 16 ≠ s.get F.clkQpllN q →
      ∃ t : State, exec (.clkQpllWrite q v) s = .next (t.answer .ok) ∧ t.get F.clkQpllN q = bits v.toNat 23 16 ∧
        (t.get F.clkStatusQpllLock).testBit q = false ∧ t.mem = s.mem)
  ∧ (∀ (g : Fin 16) (v : Word) (s : State), (∀ k, k < 8 → s.qSt (8 * g + k) = .held) →
      25 * s.get F.clkQpllN (bits v.toNat 25 24) ≤ 1200 * bits v.toNat 3 0 → 25 * s.get F.clkQpllN (bits v.toNat 25 24) ≤ 1200 * bits v.toNat 11 8 →
      exec (.clkGrpWrite g v) s = .next ((clkRequest (2 + g) (bits v.toNat 25 24) (((s.put F.clkGrpSrc (bits v.toNat 25 24) g).put F.clkGrpSdiv
        (bits v.toNat 11 8) g).put F.clkGrpQdiv (bits v.toNat 3 0) g)).answer .ok))
  ∧ (∀ (v : Word) (s : State), bits v.toNat 5 4 = s.get F.clkNctlSel →
      exec (.clkNctlWrite v) s = .next ((clkRequest 19 (bits v.toNat 9 9) (clkRequest 18 (bits v.toNat 8 8) (((s.put F.clkNctlSel
        (bits v.toNat 5 4)).put F.clkNctlSrcA (bits v.toNat 8 8)).put F.clkNctlSrcB (bits v.toNat 9 9)))).answer .ok))
  ∧ (∀ (v : Word) (s : State), s.bit F.clkCtrlLock = false → bitAt v.toNat 0 = false →
      exec (.rootSelectWrite v) s = .next ((clkRequest 0 (bits v.toNat 2 2) ((s.put F.clkCtrlRootAuto (bits v.toNat 1 1)).put F.clkCtrlRootSel
        (bits v.toNat 2 2))).answer .ok))
  ∧ (∀ s : State, s.clkSource 0 = 0 →
      (s.bit F.clkCtrlRootAuto = true → exec .xoLoss s = .next (clkRequest 0 1 ((s.flag F.clkErrXoFail).clear F.clkStatusXoOk))) ∧
      (s.bit F.clkCtrlRootAuto = false → ∃ t, exec .xoLoss s = .next t ∧ t.clk.rootStopped = true ∧ t.ptRuns = false ∧ t.get F.clkErrXoFail = 1 ∧
        t.mem = s.mem))
  ∧ (∀ s : State, s.clk.held = false → s.get F.sysStatusPhase = 1 →
      ∃ t, exec .xoValid s = .next t ∧ t.get F.sysStatusPhase = 2 ∧ t.ptRuns = true ∧ t.get F.clkStatusXoOk = 1 ∧ t.mem = s.mem)
  ∧ (∀ s : State, s.bit F.clkStatusNpllLock = true → exec (.pllUnlock 2) s = .next ((s.putBit F.clkStatusNpllLock false).flag F.clkErrPllUnlock))
  ∧ (∀ s : State, s.clk.rootStopped = false → s.clk.failed.contains 2 = false → exec (.pllRelock 2) s = .next (s.putBit F.clkStatusNpllLock true))
  ∧ (∀ s : State, s.bit F.clkStatusNpllLock = false → s.clk.failed.contains 2 = false →
      ∃ t, exec (.pllFailTimeout 2) s = .next t ∧ t.get F.clkStatusNpllFail = 1 ∧ t.get F.clkErrPllFail = 1 ∧ t.clk.failed = 2 :: s.clk.failed ∧
        t.clk.resetDue = s.clk.resetDue ∧ t.mem = s.mem)

/-- O36. A power-on reset, a fall of PGOOD and one of a monitored supply take the device to its reset values, held, with
flash and one-time-programmable storage as they were; it is released once power is stable. SRST_N and the key in
SYS_RST make a system reset due, which keeps memory, flash and powered time, records its causes and holds the device
until its release. Start-up enters BOOT, and on-chip memory is filled with zero. -/
def Obligations.ResetCommandsComplete : Prop :=
  (∀ s : State, ∃ t : State, exec .powerOnReset s = .next t ∧ exec .pgoodFall s = .next t ∧ exec .supplyMonitorFall s = .next t ∧
      t.clk.held = true ∧ t.flash = s.flash ∧ t.otp = s.otp ∧ t.mem = [] ∧ t.near = [] ∧ t.pt = 0 ∧ t.warm = false)
  ∧ (∀ s : State, s.clk.held = true → s.warm = false → exec .powerStable s = .next { s with clk := { s.clk with held := false } })
  ∧ (∀ s : State, exec .srstAssert s = .next { s with clk := { s.clk with resetDue := s.clk.resetDue ||| 2 } })
  ∧ (∀ (v : Word) (s : State), (bits v.toNat 31 20 = 0xA49 → bitAt v.toNat 0 = true →
        exec (.sysRstWrite v) s = .next ({ s with clk := { s.clk with resetDue := s.clk.resetDue ||| 4 } }.answer .ok)) ∧
      (bits v.toNat 31 20 ≠ 0xA49 ∨ bitAt v.toNat 0 = false → exec (.sysRstWrite v) s = .next (s.answer .ok)))
  ∧ (∀ s : State, s.clk.resetDue ≠ 0 →
      ∃ t, exec .systemReset s = .next t ∧ t.clk.held = true ∧ t.warm = true ∧ t.flash = s.flash ∧ t.otp = s.otp ∧ t.pt = s.pt ∧ t.near = s.near ∧
        t.clk.resetDue = 0 ∧ t.started = false ∧ (t.word .sysRstcause).toNat = (s.word .sysRstcause).toNat ||| s.clk.resetDue % 2 ^ 32)
  ∧ (∀ s : State, s.clk.held = true → s.warm = true → s.bit F.dbgConnectAttach = false → s.bit F.dbgConnectHoldSceum = false →
      exec .systemResetRelease s = .next { s with clk := { s.clk with held := false } })
  ∧ (∀ s : State, s.get F.sysStatusPhase = 2 →
      ∃ t, exec (.clocksPhaseDone 0) s = .next t ∧ t.get F.sysStatusPhase = 3 ∧ t.get F.clkStatusPpllLock = 1 ∧ t.get F.clkStatusNpllLock = 1 ∧
        t.get F.clkStatusQpllLock = 15 ∧ (t.word .cfgPolicy) = BitVec.ofNat 32 s.otp.policy)
  ∧ (∀ s : State, s.get F.sysStatusPhase = 3 → s.fillPending = true → s.bit F.sysStatusSelftestDone = true →
      ∃ t, exec .onchipFillDone s = .next t ∧ t.mem = [] ∧ t.syn = [] ∧ t.get F.sysStatusOnchipFilled = 1)

/-- O37. A legal write of a link's register and of CASC_CTRL takes effect, a master starts, a rejoin leads from `MISMATCH`
or `HOLD` back to `JOINING`; a service block's header shows in the link's status and a bad block asks for a replay;
with acknowledgements overdue every outstanding block is sent again; a lost master leads to `HOLD`. That the events
say when their time has come is the model's choice (log entry 5). -/
def Obligations.CascadeLinkCommandsComplete : Prop :=
  (∀ (l : Fin 15) (v : Word) (s : State), s.bit F.cascCtrlLock = false → bits v.toNat 5 0 < 48 → s.get F.laneCfgMode (bits v.toNat 5 0) = modeCascade →
      (∀ k, k < 15 → k ≠ l.val → s.bit F.cascLinkEn k = false) →
      ∃ t : State, exec (.cascLinkWrite l v) s = .next (t.answer .ok) ∧ t.get F.cascLinkEn l = bits v.toNat 31 31 ∧
        t.get F.cascLinkUp l = bits v.toNat 30 30 ∧ t.get F.cascLinkSvc l = bits v.toNat 10 8 ∧ t.get F.cascLinkBundle l = bits v.toNat 5 0 ∧
        t.mem = s.mem ∧ t.lanes = s.lanes)
  ∧ (∀ (v : Word) (s : State), s.bit F.cascCtrlLock = false → v.toNat % 2 ^ 12 = 2 ^ 8 → bits v.toNat 31 31 = 0 → s.cascSt = .off →
      s.bit F.sysStrapCascMaster = true → s.upLinks = [] →
      ∃ t : State, exec (.cascCtrlWrite v) s = .next (t.answer .ok) ∧ t.cascSt = .master ∧ t.cascMember = 0 ∧ t.get F.cascCtrlEn = 1 ∧ t.mem = s.mem)
  ∧ (∀ s : State, (s.cascSt = .mismatch ∨ s.cascSt = .hold → exec .cascRejoin s = .next ((enterJoining s).answer .ok)) ∧
      (s.cascSt = .joining ∨ s.cascSt = .off → exec .cascRejoin s = .next (s.answer .ok)))
  ∧ (∀ (l : Fin 15) (s : State), s.cascSt ≠ .off → s.bit F.cascLinkEn l = true →
      let slot := (s.lane (s.get F.cascLinkBundle l) (s.get F.cascLinkSvc l)).service
      let block := s.serviceRx l
      (slot.bad = true → exec (.serviceBlockRx l) s = .next (s.modClink l (fun c => { c with nakDue := true }))) ∧
      (slot.bad = false → ∃ t : State, exec (.serviceBlockRx l) s = .next t ∧
        t.get F.cascLstatPeerMember l = bits (ofBytes (block.take 4).reverse) 7 4 ∧
        t.get F.cascLstatPeerMaster l = bits (ofBytes (block.take 4).reverse) 8 8 ∧
        t.get F.cascLstatPeerUpOk l = bits (ofBytes (block.take 4).reverse) 3 3 ∧ (t.clink l).lastGood = some s.pt ∧ t.mem = s.mem ∧
        t.near = s.near))
  ∧ (∀ (l : Fin 15) (s : State), s.cascSt ≠ .off → s.bit F.cascLinkEn l = true → (s.clink l).unacked ≠ [] →
      exec (.serviceReplayTimeout l) s = .next ((s.modClink l (fun c => { c with resend := c.unacked })).bump F.cascLcntReplays l))
  ∧ (∀ (l : Nat) (s : State), s.cascSt = .joining ∨ s.cascSt = .aligned ∨ s.cascSt = .mismatch → s.upLink = some l →
      s.masterGone l = true → exec .cascMasterLost s = .next ((((s.setCasc .hold).modCasc (fun k => { k with lost := true })).flag F.cascErrMasterLost).raise .cascMasterLost 0 l))

/-- O38. A request that reaches its member is carried out there, with the rights it carries, and answered; a response and
a completion end the relayed command they are for; the roll shows a member present, one lost is no longer present; an
overdue relayed command is ended. Every form stores nothing in this device's memory but what the relayed command
itself stores. -/
def Obligations.CascadeMessagesComplete : Prop :=
  (∀ (l : Fin 15) (m : List Byte) (rest : List (List Byte)) (f : HostFn) (s : State), s.roomForCommand = true → (s.clink l).inbox = m :: rest →
      msgType m = 1 → msgDst m = s.cascMember → s.cascSt = .aligned →
      hostFn (Crypto.beNat (((m.drop 8).map BitVec.toNat).take 4) % 65536) = some f →
      exec (.cascReq l) s = .next (
        let body := (m.drop 8).map BitVec.toNat
        let op := Crypto.beNat (body.take 4) % 65536
        let c : HostCtx :=
          { rights := bits (Crypto.beNat (body.take 4)) 20 16, params := body.drop 8, slot := none, wrap := [], origin := .relay (msgSrc m) (msgTag m) }
        let r := guarded op f c (s.modClink l (fun c => { c with inbox := rest }))
        cascSend 2 (msgSrc m) (msgTag m) (beWord r.status ++ r.result) r.state))
  ∧ (∀ (l : Fin 15) (m : List Byte) (rest : List (List Byte)) (r : Relay) (s : State), (s.clink l).inbox = m :: rest → msgType m = 2 →
      msgDst m = s.cascMember → s.relayOf m false = some r →
      ∃ t : State, exec (.cascRsp l) s = .next t ∧ t.mem = s.mem ∧ t.casc.relays =
        (s.casc.relays.filter (· != r) ++ if msgStatus m = vAccepted then [{ r with accepted := true }] else []))
  ∧ (∀ (l : Fin 15) (m : List Byte) (rest : List (List Byte)) (r : Relay) (s : State), (s.clink l).inbox = m :: rest → msgType m = 3 →
      msgDst m = s.cascMember → s.relayOf m true = some r →
      ∃ t : State, exec (.cascDone l) s = .next t ∧ t.mem = s.mem ∧ t.casc.relays = s.casc.relays.filter (· != r))
  ∧ (∀ (l : Fin 15) (m : List Byte) (rest : List (List Byte)) (s : State), s.cascSt = .master → (s.clink l).inbox = m :: rest → msgType m = 4 →
      msgDst m = s.cascMember → Tab.get 0 s.casc.rollVia (msgSrc m) = 0 →
      ∃ t : State, exec (.cascRoll l) s = .next t ∧ (t.get F.cascMembersPresent).testBit (msgSrc m) = true ∧
        (t.get F.cascMembersAligned).testBit (msgSrc m) = decide (bits (ofBytes ((m.drop 8).take 4).reverse) 31 29 = 3) ∧
        t.mem = s.mem ∧ t.near = s.near)
  ∧ (∀ (l : Nat) (s : State), s.cascSt = .joining ∨ s.cascSt = .aligned ∨ s.cascSt = .mismatch ∨ s.cascSt = .hold → s.cascRoute 0 = some l →
      exec .rollTimer s = .next (s.modClink l (fun c =>
        { c with stream := c.stream ++ cascMessage 4 0 s.cascMember 0 ((beWord (s.get F.cascStatusState * 2 ^ 29 + s.cascMember)).map (BitVec.ofNat 8)) })))
  ∧ (∀ (m : Fin 16) (s : State), s.cascSt = .master → (s.get F.cascMembersPresent).testBit m = true →
      ∃ t : State, exec (.cascMemberLost m) s = .next t ∧ (t.get F.cascMembersPresent).testBit m = false ∧ t.get F.cascErrMemberLost = 1 ∧
        t.casc.gone = s.casc.gone ++ [m.val] ∧ t.mem = s.mem ∧ t.near = s.near)
  ∧ (∀ (r : Relay) (rest : List Relay) (s : State), s.casc.relays = r :: rest →
      ∃ t : State, exec .relayTimeout s = .next t ∧ t.casc.relays = s.casc.relays.filter (· != r) ∧ t.get F.cascErrRelayTimeout = 1 ∧
        t.mem = s.mem ∧ t.near = s.near)

/-- O39. Each instruction of the port is selected, with IDCODE and BYPASS shifting out their captures, and the boundary
register capturing the pins, taking what is shifted in and, where it has the pins, driving them; a debug access shifts
out the last result and leaves its own; an access without an answer is ended; the connect register is exchanged; the
unlock begins with a fresh nonce and collects answer words. Where an instruction needs the unlock, these say what it
does while the debug function is not shut; while it is shut, the instruction behaves as BYPASS. That the events say
when their time has come is the model's choice (log entry 5). -/
def Obligations.AccessPortCommandsComplete : Prop :=
  (∀ s : State, s.extest = false →
      exec .idcode s = .next ({ s with dbg := { s.dbg with ir := 2 } }.emit (.tdo 32 0x10A4956B)) ∧
      exec .bypass s = .next ({ s with dbg := { s.dbg with ir := 0xFF } }.emit (.tdo 1 0)) ∧
      ∃ t, exec .tapReset s = .next t ∧ t.dbg.ir = 2 ∧ t.get F.dbgStatusUnlocked = 0 ∧ t.get F.dbgStatusAttached = 0 ∧
        t.get F.dbgCtrlAttach = 0 ∧ t.dbg.answer = [] ∧ t.mem = s.mem ∧ t.near = s.near)
  ∧ (∀ (pins shift : List (BsCell × Bool)) (s : State), s.extest = false →
      exec (.samplePreload pins shift) s = .next ({ s with dbg :=
        { s.dbg with ir := 1, captured := pins, cells := shiftCells shift s.dbg.cells } }.emit (.boundary pins)))
  ∧ (∀ (pins shift : List (BsCell × Bool)) (s : State), s.shut = false →
      let c := shiftCells shift s.dbg.cells
      (∃ t, exec (.extest pins shift) s = .next t ∧ t.dbg.ir = 0 ∧ t.dbg.captured = pins ∧ t.dbg.cells = c ∧ t.mem = s.mem) ∧
      (∃ t, exec (.extestPulse pins shift) s = .next t ∧ t.dbg.ir = 4 ∧ t.dbg.captured = pins ∧ t.dbg.cells = c ∧ t.mem = s.mem) ∧
      (∃ t, exec (.extestTrain pins shift) s = .next t ∧ t.dbg.ir = 5 ∧ t.dbg.captured = pins ∧ t.dbg.cells = c ∧ t.mem = s.mem) ∧
      (s.extest = true → exec (.extest pins shift) s
        = .next (({ s with dbg := { s.dbg with ir := 0, captured := pins, cells := c } }.emit (.boundary pins)).emit (.bsPins c))))
  ∧ (∀ (pins shift : List (BsCell × Bool)) (s : State), s.shut = true → s.extest = false → ∀ (a : BitVec 48) (v : Word),
      let t := { s with dbg := { s.dbg with ir := 0xFF } }
      exec (.extest pins shift) s = .next (t.emit (.tdo 1 0)) ∧ exec (.extestPulse pins shift) s = .next (t.emit (.tdo 1 0)) ∧
      exec (.extestTrain pins shift) s = .next (t.emit (.tdo 1 0)) ∧ exec (.dbgRead a) s = .next (t.emit (.tdo 1 0)) ∧ exec (.dbgWrite a v) s = .next (t.emit (.tdo 1 0)) ∧
      exec (.dbgConsume a) s = .next (t.emit (.tdo 1 0)) ∧ exec .dbgNop s = .next (t.emit (.tdo 1 0)))
  ∧ (∀ (a : BitVec 48) (v : Word) (s : State), s.shut = false → s.extest = false → s.dbg.running = none →
      let u := dbgCapture { s with dbg := { s.dbg with ir := 0x10 } }
      exec .dbgNop s = .next { u with dbg := { u.dbg with result := (0, 0, false) } } ∧
      (0xF00000 ≤ a.toNat → a.toNat < 0x1000000 → a.toNat % 4 = 0 →
        exec (.dbgRead a) s = .next (dbgResult 0 (dbgBlockRead a.toNat u) false u) ∧
        exec (.dbgConsume a) s = .next (dbgResult 0 (dbgBlockRead a.toNat u) false u) ∧
        exec (.dbgWrite a v) s = .next (dbgResult 0 0 false (dbgBlockWrite a.toNat v u))) ∧
      (a.toNat < 0xF00000 → a.toNat % 4 = 0 → s.clk.held = false → s.mgmtClocked = true →
        (let r := regRead a.toNat true u
         exec (.dbgRead a) s = .next (dbgResult (statusCode r.1) r.2.1 false r.2.2)) ∧
        (let r := regRead a.toNat false u
         exec (.dbgConsume a) s = .next (dbgResult (statusCode r.1) r.2.1 false r.2.2)) ∧
        (let r := regWrite a.toNat v u
         exec (.dbgWrite a v) s = .next (dbgResult (statusCode r.2) 0 false r.1))))
  ∧ (∀ (r : Nat × Nat) (s : State), s.dbg.running = some r →
      exec .dbgAccessTimeout s = .next { s with dbg := { s.dbg with running := none, result := (8, 0, false) } })
  ∧ (∀ (v : BitVec 4) (s : State), s.shut = false → s.extest = false → s.bit F.dbgStatusLocked = false →
      exec (.dbgConnect v) s = .next (({ s with dbg := { s.dbg with ir := 0x11 } }.emit (.tdo 4 (s.word .dbgConnect).toNat)).setWord .dbgConnect
        (BitVec.ofNat 32 v.toNat)))
  ∧ (∀ s : State, s.extest = false →
      ∃ t, exec .dbgUnlockSelect s = .next t ∧ t.dbg.ir = 0x12 ∧ t.dbg.answer = [] ∧ t.dbg.readIndex = 0 ∧ t.free = s.free + 4 ∧ t.mem = s.mem ∧
        t.get F.dbgStatusUnlocked = s.get F.dbgStatusUnlocked)
  ∧ (∀ (i : Fin 4) (v : Word) (s : State), s.dbg.ir = 0x12 → i.val ≠ 3 → s.get F.dbgStatusUnlockFail < 3 →
      exec (.dbgUnlockAnswer i v) s = .next ({ s with dbg :=
        { s.dbg with readIndex := (s.dbg.readIndex + 1) % 4, answer := Tab.set s.dbg.answer i v.toNat } }.emit
          (.tdo 34 (s.dbg.readIndex * 2 ^ 32 + s.get F.dbgChalVal s.dbg.readIndex))))

/-- O40. A debugger attaches; an attached one has a system reset fall due, a running core asked to halt, a halted core go
on or go on for one step; a core asked to halt halts once all its loads are answered; the registers of the bank that a
halted core runs in are read and written; the freezing of background engines is set. Memory keeps its bytes. -/
def Obligations.CoreDebugCommandsComplete : Prop :=
  (∀ (v : Word) (s : State), s.shut = false → s.extest = false → s.dbg.running = none → bits v.toNat 31 31 = 0 →
      ∃ t, exec (.dbgAttach v) s = .next t ∧ t.get F.dbgStatusAttached = v.toNat % 2 ∧ t.get F.dbgCtrlAttach = v.toNat % 2 ∧
        t.clk = s.clk ∧ t.mem = s.mem ∧ t.near = s.near)
  ∧ (∀ (v : Word) (s : State), s.shut = false → s.extest = false → s.dbg.running = none →
      ∃ t, exec (.dbgSysrstReq v) s = .next t ∧ t.clk.resetDue = s.clk.resetDue ||| 8 ∧ t.mem = s.mem ∧ t.near = s.near)
  ∧ (∀ (n : Fin 129) (s : State), s.shut = false → s.extest = false → s.dbg.running = none → s.bit F.dbgStatusAttached = true → n.val < 128 →
      s.coreHalted n = false → s.waitsRelease n = false →
      ∃ t, exec (.dbgHalt n) s = .next t ∧ (t.core n).haltReq = true ∧ t.get F.dbgQcStatResult = 0 ∧ t.get F.dbgQcSelCore = n ∧ t.mem = s.mem ∧ t.near = s.near)
  ∧ (∀ (n : Fin 129) (s : State), s.quillClocked (n / 8) = true → n.val < 128 → (s.core n).haltReq = true → (s.core n).pend = none → s.coreHalted n = false →
      ∃ t, exec (.coreHalted n) s = .next t ∧ t.get F.qcStatusHalted n = 1 ∧ (t.core n).haltCause = 1 ∧ (t.core n).haltReq = false ∧
        Tab.look t.resv n.val = none ∧ t.mem = s.mem ∧ (t.core n).norm = (s.core n).norm ∧ (t.core n).urg = (s.core n).urg)
  ∧ (∀ (n : Fin 129) (s : State), s.shut = false → s.extest = false → s.dbg.running = none → s.bit F.dbgStatusAttached = true → n.val < 128 →
      s.coreHalted n = true →
      (∃ t, exec (.dbgResume n) s = .next t ∧ t.get F.qcStatusHalted n = 0 ∧ (t.core n).stepping = false ∧ t.get F.dbgQcStatResult = 0 ∧
        (t.core n).norm = (s.core n).norm ∧ t.mem = s.mem) ∧
      (s.bankSelected n = true →
        ∃ t, exec (.dbgStep n) s = .next t ∧ t.get F.qcStatusHalted n = 0 ∧ (t.core n).stepping = true ∧ t.get F.dbgQcStatResult = 0 ∧
          (t.core n).norm = (s.core n).norm ∧ t.mem = s.mem))
  ∧ (∀ (k : Nat) (s : State), let n := s.get F.dbgQcSelCore
      s.shut = false → s.extest = false → s.dbg.running = none → n < 128 → s.coreHalted n = true → s.qSt n = .item → s.bit F.dbgQcSelBank = false →
      s.get F.dbgQcRegnoVal = 0x1000 + k → k < 32 →
      (∃ t, exec .dbgRegRead s = .next t ∧ t.get F.dbgQcDataVal = ((s.cbank n).reg k).toNat ∧ t.get F.dbgQcStatResult = 0 ∧ t.mem = s.mem) ∧
      (k ≠ 0 → ∃ t, exec .dbgRegWrite s = .next t ∧ ((t.cbank n).reg k).toNat = s.get F.dbgQcDataVal ∧ t.get F.dbgQcStatResult = 0 ∧
        (∀ j, j ≠ k → (t.cbank n).reg j = (s.cbank n).reg j) ∧ t.mem = s.mem) ∧
      (k = 0 → ∃ t, exec .dbgRegWrite s = .next t ∧ (t.cbank n) = (s.cbank n) ∧ t.get F.dbgQcStatResult = 2 ∧ t.mem = s.mem))
  ∧ (∀ (v : Word) (s : State), s.shut = false → s.extest = false → s.dbg.running = none →
      ∃ t, exec (.dbgFreezeWrite v) s = .next t ∧ t.get F.dbgFreezeOn = bits v.toNat 31 31 ∧ t.get F.dbgFreezeTrig = bits v.toNat 16 16 ∧
        t.get F.dbgFreezeScrub = bits v.toNat 2 2 ∧ t.get F.dbgFreezeWxDispatch = bits v.toNat 0 0 ∧ t.mem = s.mem ∧ t.near = s.near)

/-- O41. While the boot ROM or the firmware serves the monitor it answers every command: the commands served, the status
registers, the channels' values, the last blotter records, a new rate. Before lock-out it also reads and writes memory
and registers, takes the owner key, programs the lock-out, and has a system reset fall due. -/
def Obligations.MonitorCommandsComplete : Prop :=
  (∀ s : State, s.monServes = true →
      exec .monHelp s = .next (monAnswer vOk (List.range (if s.bit F.dbgStatusLocked then 5 else 10)) s) ∧
      exec .monStatus s = .next (monAnswer vOk [regView .sysStatus 0 0 s, regView .scmStatus 0 0 s, regView .cfgStatus 0 0 s,
        s.get F.scmFwSlotB, s.get F.scmFwRelease] s) ∧
      exec .monSensors s = .next (monAnswer vOk ((List.range 128).map (fun c => s.get F.scmChValue c)) s))
  ∧ (∀ (n : Nat) (s : State), s.monServes = true → 1 ≤ n → n ≤ 64 →
      exec (.monBlotter n) s = .next (monAnswer vOk (((List.range n).filterMap (fun i =>
        s.blotRecord ((s.get F.scmBlotNextVal + 2 ^ 32 - n + i) % 2 ^ 32))).map ofBytes) s))
  ∧ (∀ (rate : Nat) (s : State), s.monServes = true → baudRates.contains rate = true →
      exec (.monBaud rate) s = .next { s.emit (.mon vOk []) with scm := { s.scm with baud := rate } })
  ∧ (∀ (a : Nat) (v : Word) (s : State), s.monServes = true → s.bit F.dbgStatusLocked = false →
      ((monAccess a none s).1 = .ok → exec (.monRd a) s = .next (monAnswer vOk [(monAccess a none s).2.1] (monAccess a none s).2.2)) ∧
      ((monAccess a (some v) s).1 = .ok → exec (.monWr a v) s = .next (monAnswer vOk [] (monAccess a (some v) s).2.2)))
  ∧ (∀ (key : List Byte) (s : State), s.monServes = true → s.bit F.dbgStatusLocked = false → key.length = 32 → (Tab.get {} s.otp.ops 0).st = 0 →
      s.otpWritable = true →
      ∃ t, exec (.monOwnerkey key true) s = .next t ∧ Tab.get {} t.otp.ops 0 = { st := 1, key := key.map BitVec.toNat, rights := 31 } ∧
        (∀ k, k ≠ 0 → Tab.get {} t.otp.ops k = Tab.get {} s.otp.ops k) ∧ t.mem = s.mem ∧ t.flash = s.flash)
  ∧ (∀ s : State, s.monServes = true → s.bit F.dbgStatusLocked = false → (Tab.get {} s.otp.ops 0).st = 1 → s.otpWritable = true →
      ∃ t, exec (.monLockout (s.pair .scmSerialLo .scmSerialHi)) s = .next t ∧ t.otp = { s.otp with locked := true } ∧
        t.bit F.dbgStatusLocked = false ∧ t.mem = s.mem ∧ t.flash = s.flash)
  ∧ (∀ s : State, s.monServes = true → s.bit F.dbgStatusLocked = false →
      exec .monReset s = .next (let u := s.emit (.mon vOk [])
        { u with clk := { u.clk with resetDue := u.clk.resetDue ||| 4 } }))

/-- O42. While a swap is pending every write to the shadow window or to MTIME_RT_CTRL, as a command of its own or by its
address, is answered BUSY and changes nothing; so is a second request for a swap. -/
def Obligations.SwapPendingRefusesWrites : Prop :=
  ∀ (h : Fin 32768) (v : Word) (s : State), s.bit F.mtimeRtStatusSwapPending = true →
      exec (.rtShadowWrite h v) s = .next (s.answer .busy) ∧ exec (.rtSwapRequest v) s = .next (s.answer .busy) ∧
      (s.clk.held = false → exec (.regWrite (0x210000 + 4 * h.val) 4 v) s = .next (s.answer .busy) ∧
        exec (.regWrite RegName.mtimeRtCtrl.info.base 4 v) s = .next (s.answer .busy))

/-- O43. A write of LANE_EYE_CTRL with start = 1 while a scan runs is answered BUSY and changes nothing, the scan goes on;
with start = 0 it ends the scan as aborted and sets the other fields. What the host makes of the points is no effect
of the device. -/
def Obligations.EyeScanStartIsRefusedWhileRunning : Prop :=
  ∀ (n : Fin 48) (v : Word) (s : State), s.get F.laneEyeStatState n = 1 →
      (bits v.toNat 31 31 = 1 → exec (.laneEyeStart n v) s = .next (s.answer .busy)) ∧
      (bits v.toNat 31 31 = 0 →
        ∃ t : State, exec (.laneEyeStart n v) s = .next (t.answer .ok) ∧ exec (.eyeScanAbort n (some v)) s = .next (t.answer .ok) ∧
          t.get F.laneEyeStatState n = 3 ∧ t.get F.laneEyeCtrlStart n = 0 ∧ t.get F.laneEyeCtrlDwell n = bits v.toNat 28 24 ∧
          t.get F.laneEyeCtrlLane n = bits v.toNat 23 20 ∧ t.get F.laneEyeCtrlVolt n = bits v.toNat 13 7 ∧
          t.get F.laneEyeCtrlPhase n = bits v.toNat 5 0 ∧ t.lanes = s.lanes ∧ t.mem = s.mem)

/-- O44. NOC_RTR_VCDEPTH divides the 64 slots of each input port, 16 to each channel at reset. A write that leaves a
channel fewer than 2 slots, or gives out more than 64, is DENIED and changes nothing; any other is taken, and the
division in force stays until the router's next reconfiguration, which takes the register's. -/
def Obligations.VirtualChannelSlots : Prop :=
  (∀ (r : Fin 144) (v : Word) (s : State),
      let d (k : Nat) : Nat := bits v.toNat (8 * k + 7) (8 * k)
      ((∃ k, k < 4 ∧ d k < 2) ∨ 64 < d 0 + d 1 + d 2 + d 3 → exec (.vcdepthWrite r v) s = .next (s.answer .denied)) ∧
      ((∀ k, k < 4 → 2 ≤ d k) → d 0 + d 1 + d 2 + d 3 ≤ 64 →
        ∃ t : State, exec (.vcdepthWrite r v) s = .next (t.answer .ok) ∧ t.word .nocRtrVcdepth r = v ∧ t.noc = s.noc ∧ t.mem = s.mem))
  ∧ (State.reset.noc.depth = [] ∧ State.reset.word .nocRtrVcdepth 143 = 0x10101010)
  ∧ (∀ (r : Fin 144) (wires : Nat) (x : Fin 3) (s : State), s.nocClocked = true → s.noc.active = some (r.val, .command) → s.rtrSt r = 2 →
      ∃ t : State, exec (.routerReconfDone r wires x) s = .next t ∧ Tab.get 0x10101010 t.noc.depth r = (s.word .nocRtrVcdepth r).toNat)

/-- O45. Selecting IDCODE and capturing its register shifts out 0x10A4956B, whose fields are the version, the part, the
manufacturer and 1; the version is CFG_ID.stepping, which reset gives and a power-on reset gives again. -/
def Obligations.IdentificationCode : Prop :=
  (∀ s : State, ∃ t : State, exec .idcode s = .next (t.emit (.tdo 32 0x10A4956B)) ∧ t.dbg.ir = 2) ∧
      bits 0x10A4956B 31 28 = 1 ∧ bits 0x10A4956B 27 12 = 0x0A49 ∧ bits 0x10A4956B 11 1 = 0x2B5 ∧ bits 0x10A4956B 0 0 = 1 ∧
      State.reset.get F.cfgIdStepping = 1 ∧ ∀ s : State, ∃ t : State, exec .powerOnReset s = .next t ∧ t.get F.cfgIdStepping = 1

/-- O46. For every register and every bit: a read-write bit is set, a bit that the block's lock covers is set unless the
block is locked, a write of 1 sets a bit that is written 1 to set and clears one that is written 1 to clear, and every
other bit keeps its value. -/
def Obligations.RegisterFieldAccessCodes : Prop :=
  ∀ (r : RegName) (locked : Bool) (old v : Word) (k : Nat), k < 32 →
      let new := (codedWord r.info locked old v).getLsbD k
      (r.info.rw.testBit k = true → new = v.getLsbD k) ∧
      (r.info.rwl.testBit k = true → new = if locked then old.getLsbD k else v.getLsbD k) ∧
      (r.info.w1s.testBit k = true → new = (old.getLsbD k || v.getLsbD k)) ∧
      (r.info.w1c.testBit k = true → new = (old.getLsbD k && !v.getLsbD k)) ∧
      (r.info.rw.testBit k = false → r.info.rwl.testBit k = false → r.info.w1s.testBit k = false → r.info.w1c.testBit k = false →
        new = old.getLsbD k)

/-- O47. A quiet read, as the debug port makes them, leaves every register and every other part of the state as it was,
whatever it reads. An access to register space that is not 4 bytes long is refused without effect. -/
def Obligations.QuietReadsChangeNothing : Prop :=
  ∀ (a : Nat) (s : State), s.clk.held = false → exec (.rcRead a 4 true) s = .next (s.answer (regRead a true s).1 (regRead a true s).2.1) ∧
      ∀ (n : Nat) (q : Bool) (v : Word), n ≠ 4 → exec (.rcRead a n q) s = .next (s.answer .denied) ∧ exec (.regWrite a n v) s = .next (s.answer .denied)

/-- O48. An access to on-chip space with a key id other than 0 and one to a reserved offset get DECODE, one to the core
memories of a Quill group whose domain is not ON gets DOMAIN_OFF; none of them has an effect. -/
def Obligations.RefusedMemoryAccesses : Prop :=
  ∀ (q : Requester) (a : Nat) (acc : MemAcc) (s : State),
      (offsetOf a < 2 ^ 32 → keyId a ≠ 0 → memServe q a acc s = { status := .decode, state := s }) ∧
      (2 ^ 32 ≤ offsetOf a → offsetOf a < nearStart → memServe q a acc s = { status := .decode, state := s }) ∧
      (nearEnd ≤ offsetOf a → offsetOf a < caveStart → memServe q a acc s = { status := .decode, state := s }) ∧
      (caveStart + 2 ^ 41 ≤ offsetOf a → memServe q a acc s = { status := .decode, state := s }) ∧
      (keyId a = 0 → 0x20000000 ≤ offsetOf a → offsetOf a < 0x20800000 → (s.dom (100 + coreGroup (offsetOf a))).st ≠ .on →
        memServe q a acc s = { status := .domainOff, state := s })

/-- O49. At reset the registers hold the values their chapters' tables give, the on-chip memories list nothing, no command
is waiting and nothing has been answered. That a byte no write has reached reads 0 once the memories are filled is the
fill of start-up; that it does so before is the model's choice (log entry 4). -/
def Obligations.ResetRegisterValues : Prop :=
  State.reset.word .mtimeNomPeriod = 0x17D7840 ∧ State.reset.word .mtimeOrbitLen = 0xFFF ∧ State.reset.word .mtimeRtCtrl = 0xFFF0000 ∧
      (∀ n, n < 48 → State.reset.word .laneCfg n = 0x320000) ∧ State.reset.word .nearCtrl = 0x32 ∧ State.reset.word .xcrCtrl = 0x1000 ∧
      (∀ r, r < 144 → State.reset.word .nocRtrVcdepth r = 0x10101010) ∧ State.reset.word .wxCtrl = 0xA00 ∧
      (∀ n, n < 128 → State.reset.word .qcStatus n = 0x10000000) ∧ State.reset.word .cfgFailFrame = 0xFFFFFFFF ∧
      State.reset.word .ethUdp = 0xA000 ∧ State.reset.word .scmCal = 0x3C ∧ State.reset.word .clkCtrl = 2 ∧
      State.reset.word .cascRoute0 = 0xFFFFFFFF ∧ memWf State.reset.mem = true ∧ (∀ a, State.reset.memBytes a 1 = [0]) ∧
      State.reset.pending = [] ∧ State.reset.out = []

/-- O50. The device has an answer of its own for every command: no step faults and none is refused by the model, in any
state, with an empty queue or whatever command waits. -/
def Obligations.EveryStepAnswersAState : Prop :=
  ∀ s : State, s.safe

/-- O51. A command's effect leaves the queue as it is: the commands waiting behind it, of whatever kind, are still there
in their order, resets included. The queue is the model's own (log entry 1). -/
def Obligations.CommandsLeaveTheQueue : Prop :=
  ∀ (c : Instr) (s t : State), exec c s = .next t → t.pending = s.pending

/-- O52. In every state whose memory lists its bytes by strictly rising addresses, with none equal to what an unlisted
address reads as, a step leaves it so: equal contents stay equal data. The form is the model's own (log entry 3). -/
def Obligations.MemoryFormIsKept : Prop :=
  ∀ s t : State, memWf s.mem = true → step s = .next t → memWf t.mem = true

/-- O53. For every frame length, tag, type and payload: the frame that a transmitter sends, descrambled and taken apart as
a receiver does, has a sync word that fits its tag, a correct CRC-32C, and the tag, type and payload that were sent. -/
def Obligations.FramesReadAsSent : Prop :=
  ∀ m tag typ payload : Nat, 64 ≤ m → tag < 256 → typ < 256 → payload < 2 ^ (m - 64) →
      parseFrame m (txFrame m tag typ payload)
        = (true, { sync := syncWord tag, tag := tag, typ := typ, payload := payload, crcOk := true })

/-- O54. For every line of near store or cave, key and data: a full-line write that is accepted (key valid, table line
good) leaves a line that a read with the same key finds clean and decrypts to the data written, whether the write
initialised the page, took the next minor counter or re-encrypted the page, unless the stored tag is the reserved
value of a poisoned line. -/
def Obligations.LinesReadBackAsWritten : Prop :=
  ∀ (e e' addr : Nat) (data : List Byte) (seen : Line × RsFound) (f f' : EngFetch) (s : State), nearStart ≤ offsetOf addr → data.length = 64 → f.tableFail = false → f'.tableFail = false →
      let w := lineWriteOp e addr data (List.replicate 64 true) false seen f s
      let l := w.state.lineAt (offsetOf addr / 64)
      w.status = .ok → l.tag ≠ poisonTag →
      (lineReadOp e' addr (l, .clean) f' w.state).status = .ok ∧ (lineReadOp e' addr (l, .clean) f' w.state).data = data ∧
        (lineReadOp e' addr (l, .clean) f' w.state).poison = false

/-- O55. For every 64-bit word: stored with its check bits it reads without error; with any one of its 64 data bits or 8
check bits inverted it reads corrected; stored poisoned it reads poisoned, with its data. -/
def Obligations.SingleBitErrorsAreCorrected : Prop :=
  ∀ d : DWord, eccRead d (eccCheck d) = .good d false ∧
      (∀ k, k < 64 → eccRead (d ^^^ (1 <<< k)) (eccCheck d) = .good d true) ∧
      (∀ j, j < 8 → eccRead d (eccCheck d ^^^ (1 <<< j)) = .good d true) ∧ eccRead d (eccPoison d) = .poisoned d

/-- O56. For every 64-bit word stored with its check bits and then any two of its 72 bits inverted: the read is
uncorrectable and delivers the data bits as stored. -/
def Obligations.DoubleBitErrorsAreDetected : Prop :=
  ∀ (d : DWord) (j k : Nat), j < k → k < 72 →
      let flip (i : Nat) (w : DWord × Byte) : DWord × Byte := if i < 64 then (w.1 ^^^ (1 <<< i), w.2) else (w.1, w.2 ^^^ (1 <<< (i - 64)))
      let w := flip j (flip k (d, eccCheck d))
      eccRead w.1 w.2 = .uncorrectable w.1

/-- O57. A whole word written without poison reads back clean, with its data; written with poison it reads back poisoned,
with its data; every other word reads as before, with its own check bits. -/
def Obligations.StoredWordsReadBack : Prop :=
  ∀ (w : Nat) (d : DWord) (s : State),
      (s.writeWord w d 255 false).wordRead w = .good d false ∧ (s.writeWord w d 255 true).wordRead w = .poisoned d ∧
      ∀ (u : Nat) (p : Bool), u ≠ w → (s.writeWord w d 255 p).wordRead u = s.wordRead u

/-- O58. For every orbit length and every pair of crossing indices in it, the jump that MTIME_REALIGNED reports is a
signed number of that range which differs from the difference of the indices by a multiple of the orbit length; that
it is given in two's complement of 64 bits is the model's choice (log entry 6). -/
def Obligations.RealignmentJumpRange : Prop :=
  ∀ old new l : Nat, 0 < l → l ≤ 16384 → new < l →
      ∃ j : Int, -((l / 2 : Nat) : Int) ≤ j ∧ j ≤ ((l + 1) / 2 : Nat) - 1 ∧ (l : Int) ∣ j - ((new : Int) - (old : Int)) ∧
        jumpOf old new l = (j % 2 ^ 64).toNat

/-- O59. For every type, destination, source, tag and body: a message at the head of a stream is taken out whole, the rest
of the stream stays, and its header gives back the four fields. -/
def Obligations.ServiceMessagesParse : Prop :=
  ∀ (n typ dst src tag : Nat) (body rest : List Byte), 1 ≤ typ → typ < 16 → dst < 16 → src < 16 → tag < 65536 → body.length < 2 ^ 17 →
      let m := cascMessage typ dst src tag body
      takeService (n + 1) (m ++ rest) = (m :: (takeService n rest).1, (takeService n rest).2) ∧
      msgType m = typ ∧ msgDst m = dst ∧ msgSrc m = src ∧ msgTag m = tag

/-- O60. For every set of clocks with an edge and every flip-flop and riser register of the fabric: the state bit it holds
for a context is as before, unless its region is in service and that context is the region's current one. The frames
of the configuration have slots of the two layers. -/
def Obligations.EdgesChangeTheCurrentContext : Prop :=
  ∀ (hits : Nat → Bool) (key : Nat) (s : State), (∀ e ∈ s.frames, e.1 < 2 * 675840) →
      Tab.look (fabEdge hits s).flops key = Tab.look s.flops key ∨
        (s.regionRuns (flopRegion key) = true ∧ s.ctxOf (flopRegion key) % 4 = key % 4)

end
end

