-- ==== Sys2Proof/Laws/State.lean ====
section
/-!
SUPPORT. One lemma per shared update and field of the state that it leaves alone: no proof unfolds a record update.
-/
namespace Sys2Proof.Machine

variable (s : State)


/-! ### setWord -/

@[simp] theorem setWord_mem (r : RegName) (v : Word) (i j : Nat) : (s.setWord r v i j).mem = s.mem := rfl
@[simp] theorem setWord_syn (r : RegName) (v : Word) (i j : Nat) : (s.setWord r v i j).syn = s.syn := rfl
@[simp] theorem setWord_banks (r : RegName) (v : Word) (i j : Nat) : (s.setWord r v i j).banks = s.banks := rfl
@[simp] theorem setWord_scrubs (r : RegName) (v : Word) (i j : Nat) : (s.setWord r v i j).scrubs = s.scrubs := rfl
@[simp] theorem setWord_ended (r : RegName) (v : Word) (i j : Nat) : (s.setWord r v i j).ended = s.ended := rfl
@[simp] theorem setWord_doms (r : RegName) (v : Word) (i j : Nat) : (s.setWord r v i j).doms = s.doms := rfl
@[simp] theorem setWord_mt (r : RegName) (v : Word) (i j : Nat) : (s.setWord r v i j).mt = s.mt := rfl
@[simp] theorem setWord_lanes (r : RegName) (v : Word) (i j : Nat) : (s.setWord r v i j).lanes = s.lanes := rfl
@[simp] theorem setWord_bundles (r : RegName) (v : Word) (i j : Nat) : (s.setWord r v i j).bundles = s.bundles := rfl
@[simp] theorem setWord_txTripped (r : RegName) (v : Word) (i j : Nat) : (s.setWord r v i j).txTripped = s.txTripped := rfl
@[simp] theorem setWord_spans (r : RegName) (v : Word) (i j : Nat) : (s.setWord r v i j).spans = s.spans := rfl
@[simp] theorem setWord_pins (r : RegName) (v : Word) (i j : Nat) : (s.setWord r v i j).pins = s.pins := rfl
@[simp] theorem setWord_hoops (r : RegName) (v : Word) (i j : Nat) : (s.setWord r v i j).hoops = s.hoops := rfl
@[simp] theorem setWord_flops (r : RegName) (v : Word) (i j : Nat) : (s.setWord r v i j).flops = s.flops := rfl
@[simp] theorem setWord_riserBad (r : RegName) (v : Word) (i j : Nat) : (s.setWord r v i j).riserBad = s.riserBad := rfl
@[simp] theorem setWord_riserSpares (r : RegName) (v : Word) (i j : Nat) : (s.setWord r v i j).riserSpares = s.riserSpares := rfl
@[simp] theorem setWord_badFrames (r : RegName) (v : Word) (i j : Nat) : (s.setWord r v i j).badFrames = s.badFrames := rfl
@[simp] theorem setWord_startRefused (r : RegName) (v : Word) (i j : Nat) : (s.setWord r v i j).startRefused = s.startRefused := rfl
@[simp] theorem setWord_groupAt (r : RegName) (v : Word) (i j : Nat) : (s.setWord r v i j).groupAt = s.groupAt := rfl
@[simp] theorem setWord_fixValid (r : RegName) (v : Word) (i j : Nat) : (s.setWord r v i j).fixValid = s.fixValid := rfl
@[simp] theorem setWord_sliceCfgs (r : RegName) (v : Word) (i j : Nat) : (s.setWord r v i j).sliceCfgs = s.sliceCfgs := rfl
@[simp] theorem setWord_slices (r : RegName) (v : Word) (i j : Nat) : (s.setWord r v i j).slices = s.slices := rfl
@[simp] theorem setWord_ranks (r : RegName) (v : Word) (i j : Nat) : (s.setWord r v i j).ranks = s.ranks := rfl
@[simp] theorem setWord_pms (r : RegName) (v : Word) (i j : Nat) : (s.setWord r v i j).pms = s.pms := rfl
@[simp] theorem setWord_pmus (r : RegName) (v : Word) (i j : Nat) : (s.setWord r v i j).pmus = s.pmus := rfl
@[simp] theorem setWord_tokens (r : RegName) (v : Word) (i j : Nat) : (s.setWord r v i j).tokens = s.tokens := rfl
@[simp] theorem setWord_xcr (r : RegName) (v : Word) (i j : Nat) : (s.setWord r v i j).xcr = s.xcr := rfl
@[simp] theorem setWord_near (r : RegName) (v : Word) (i j : Nat) : (s.setWord r v i j).near = s.near := rfl
@[simp] theorem setWord_nears (r : RegName) (v : Word) (i j : Nat) : (s.setWord r v i j).nears = s.nears := rfl
@[simp] theorem setWord_k0Denied (r : RegName) (v : Word) (i j : Nat) : (s.setWord r v i j).k0Denied = s.k0Denied := rfl
@[simp] theorem setWord_caves (r : RegName) (v : Word) (i j : Nat) : (s.setWord r v i j).caves = s.caves := rfl
@[simp] theorem setWord_cave (r : RegName) (v : Word) (i j : Nat) : (s.setWord r v i j).cave = s.cave := rfl
@[simp] theorem setWord_hw (r : RegName) (v : Word) (i j : Nat) : (s.setWord r v i j).hw = s.hw := rfl
@[simp] theorem setWord_ring (r : RegName) (v : Word) (i j : Nat) : (s.setWord r v i j).ring = s.ring := rfl
@[simp] theorem setWord_lbQueue (r : RegName) (v : Word) (i j : Nat) : (s.setWord r v i j).lbQueue = s.lbQueue := rfl
@[simp] theorem setWord_lbEngs (r : RegName) (v : Word) (i j : Nat) : (s.setWord r v i j).lbEngs = s.lbEngs := rfl
@[simp] theorem setWord_lbtx (r : RegName) (v : Word) (i j : Nat) : (s.setWord r v i j).lbtx = s.lbtx := rfl
@[simp] theorem setWord_noc (r : RegName) (v : Word) (i j : Nat) : (s.setWord r v i j).noc = s.noc := rfl
@[simp] theorem setWord_cores (r : RegName) (v : Word) (i j : Nat) : (s.setWord r v i j).cores = s.cores := rfl
@[simp] theorem setWord_resv (r : RegName) (v : Word) (i j : Nat) : (s.setWord r v i j).resv = s.resv := rfl
@[simp] theorem setWord_wx (r : RegName) (v : Word) (i j : Nat) : (s.setWord r v i j).wx = s.wx := rfl
@[simp] theorem setWord_shadows (r : RegName) (v : Word) (i j : Nat) : (s.setWord r v i j).shadows = s.shadows := rfl
@[simp] theorem setWord_dbg (r : RegName) (v : Word) (i j : Nat) : (s.setWord r v i j).dbg = s.dbg := rfl
@[simp] theorem setWord_frameFlips (r : RegName) (v : Word) (i j : Nat) : (s.setWord r v i j).frameFlips = s.frameFlips := rfl
@[simp] theorem setWord_frames (r : RegName) (v : Word) (i j : Nat) : (s.setWord r v i j).frames = s.frames := rfl
@[simp] theorem setWord_loader (r : RegName) (v : Word) (i j : Nat) : (s.setWord r v i j).loader = s.loader := rfl
@[simp] theorem setWord_flash (r : RegName) (v : Word) (i j : Nat) : (s.setWord r v i j).flash = s.flash := rfl
@[simp] theorem setWord_otp (r : RegName) (v : Word) (i j : Nat) : (s.setWord r v i j).otp = s.otp := rfl
@[simp] theorem setWord_clk (r : RegName) (v : Word) (i j : Nat) : (s.setWord r v i j).clk = s.clk := rfl
@[simp] theorem setWord_scm (r : RegName) (v : Word) (i j : Nat) : (s.setWord r v i j).scm = s.scm := rfl
@[simp] theorem setWord_failed (r : RegName) (v : Word) (i j : Nat) : (s.setWord r v i j).failed = s.failed := rfl
@[simp] theorem setWord_host (r : RegName) (v : Word) (i j : Nat) : (s.setWord r v i j).host = s.host := rfl
@[simp] theorem setWord_casc (r : RegName) (v : Word) (i j : Nat) : (s.setWord r v i j).casc = s.casc := rfl
@[simp] theorem setWord_warm (r : RegName) (v : Word) (i j : Nat) : (s.setWord r v i j).warm = s.warm := rfl
@[simp] theorem setWord_pt (r : RegName) (v : Word) (i j : Nat) : (s.setWord r v i j).pt = s.pt := rfl
@[simp] theorem setWord_ptRuns (r : RegName) (v : Word) (i j : Nat) : (s.setWord r v i j).ptRuns = s.ptRuns := rfl
@[simp] theorem setWord_log (r : RegName) (v : Word) (i j : Nat) : (s.setWord r v i j).log = s.log := rfl
@[simp] theorem setWord_free (r : RegName) (v : Word) (i j : Nat) : (s.setWord r v i j).free = s.free := rfl
@[simp] theorem setWord_out (r : RegName) (v : Word) (i j : Nat) : (s.setWord r v i j).out = s.out := rfl
@[simp] theorem setWord_pending (r : RegName) (v : Word) (i j : Nat) : (s.setWord r v i j).pending = s.pending := rfl

/-! ### put -/

@[simp] theorem put_mem (f : Fld) (v i j : Nat) : (s.put f v i j).mem = s.mem := rfl
@[simp] theorem put_syn (f : Fld) (v i j : Nat) : (s.put f v i j).syn = s.syn := rfl
@[simp] theorem put_banks (f : Fld) (v i j : Nat) : (s.put f v i j).banks = s.banks := rfl
@[simp] theorem put_scrubs (f : Fld) (v i j : Nat) : (s.put f v i j).scrubs = s.scrubs := rfl
@[simp] theorem put_ended (f : Fld) (v i j : Nat) : (s.put f v i j).ended = s.ended := rfl
@[simp] theorem put_doms (f : Fld) (v i j : Nat) : (s.put f v i j).doms = s.doms := rfl
@[simp] theorem put_mt (f : Fld) (v i j : Nat) : (s.put f v i j).mt = s.mt := rfl
@[simp] theorem put_lanes (f : Fld) (v i j : Nat) : (s.put f v i j).lanes = s.lanes := rfl
@[simp] theorem put_bundles (f : Fld) (v i j : Nat) : (s.put f v i j).bundles = s.bundles := rfl
@[simp] theorem put_txTripped (f : Fld) (v i j : Nat) : (s.put f v i j).txTripped = s.txTripped := rfl
@[simp] theorem put_spans (f : Fld) (v i j : Nat) : (s.put f v i j).spans = s.spans := rfl
@[simp] theorem put_pins (f : Fld) (v i j : Nat) : (s.put f v i j).pins = s.pins := rfl
@[simp] theorem put_hoops (f : Fld) (v i j : Nat) : (s.put f v i j).hoops = s.hoops := rfl
@[simp] theorem put_flops (f : Fld) (v i j : Nat) : (s.put f v i j).flops = s.flops := rfl
@[simp] theorem put_riserBad (f : Fld) (v i j : Nat) : (s.put f v i j).riserBad = s.riserBad := rfl
@[simp] theorem put_riserSpares (f : Fld) (v i j : Nat) : (s.put f v i j).riserSpares = s.riserSpares := rfl
@[simp] theorem put_badFrames (f : Fld) (v i j : Nat) : (s.put f v i j).badFrames = s.badFrames := rfl
@[simp] theorem put_startRefused (f : Fld) (v i j : Nat) : (s.put f v i j).startRefused = s.startRefused := rfl
@[simp] theorem put_groupAt (f : Fld) (v i j : Nat) : (s.put f v i j).groupAt = s.groupAt := rfl
@[simp] theorem put_fixValid (f : Fld) (v i j : Nat) : (s.put f v i j).fixValid = s.fixValid := rfl
@[simp] theorem put_sliceCfgs (f : Fld) (v i j : Nat) : (s.put f v i j).sliceCfgs = s.sliceCfgs := rfl
@[simp] theorem put_slices (f : Fld) (v i j : Nat) : (s.put f v i j).slices = s.slices := rfl
@[simp] theorem put_ranks (f : Fld) (v i j : Nat) : (s.put f v i j).ranks = s.ranks := rfl
@[simp] theorem put_pms (f : Fld) (v i j : Nat) : (s.put f v i j).pms = s.pms := rfl
@[simp] theorem put_pmus (f : Fld) (v i j : Nat) : (s.put f v i j).pmus = s.pmus := rfl
@[simp] theorem put_tokens (f : Fld) (v i j : Nat) : (s.put f v i j).tokens = s.tokens := rfl
@[simp] theorem put_xcr (f : Fld) (v i j : Nat) : (s.put f v i j).xcr = s.xcr := rfl
@[simp] theorem put_near (f : Fld) (v i j : Nat) : (s.put f v i j).near = s.near := rfl
@[simp] theorem put_nears (f : Fld) (v i j : Nat) : (s.put f v i j).nears = s.nears := rfl
@[simp] theorem put_k0Denied (f : Fld) (v i j : Nat) : (s.put f v i j).k0Denied = s.k0Denied := rfl
@[simp] theorem put_caves (f : Fld) (v i j : Nat) : (s.put f v i j).caves = s.caves := rfl
@[simp] theorem put_cave (f : Fld) (v i j : Nat) : (s.put f v i j).cave = s.cave := rfl
@[simp] theorem put_hw (f : Fld) (v i j : Nat) : (s.put f v i j).hw = s.hw := rfl
@[simp] theorem put_ring (f : Fld) (v i j : Nat) : (s.put f v i j).ring = s.ring := rfl
@[simp] theorem put_lbQueue (f : Fld) (v i j : Nat) : (s.put f v i j).lbQueue = s.lbQueue := rfl
@[simp] theorem put_lbEngs (f : Fld) (v i j : Nat) : (s.put f v i j).lbEngs = s.lbEngs := rfl
@[simp] theorem put_lbtx (f : Fld) (v i j : Nat) : (s.put f v i j).lbtx = s.lbtx := rfl
@[simp] theorem put_noc (f : Fld) (v i j : Nat) : (s.put f v i j).noc = s.noc := rfl
@[simp] theorem put_cores (f : Fld) (v i j : Nat) : (s.put f v i j).cores = s.cores := rfl
@[simp] theorem put_resv (f : Fld) (v i j : Nat) : (s.put f v i j).resv = s.resv := rfl
@[simp] theorem put_wx (f : Fld) (v i j : Nat) : (s.put f v i j).wx = s.wx := rfl
@[simp] theorem put_shadows (f : Fld) (v i j : Nat) : (s.put f v i j).shadows = s.shadows := rfl
@[simp] theorem put_dbg (f : Fld) (v i j : Nat) : (s.put f v i j).dbg = s.dbg := rfl
@[simp] theorem put_frameFlips (f : Fld) (v i j : Nat) : (s.put f v i j).frameFlips = s.frameFlips := rfl
@[simp] theorem put_frames (f : Fld) (v i j : Nat) : (s.put f v i j).frames = s.frames := rfl
@[simp] theorem put_loader (f : Fld) (v i j : Nat) : (s.put f v i j).loader = s.loader := rfl
@[simp] theorem put_flash (f : Fld) (v i j : Nat) : (s.put f v i j).flash = s.flash := rfl
@[simp] theorem put_otp (f : Fld) (v i j : Nat) : (s.put f v i j).otp = s.otp := rfl
@[simp] theorem put_clk (f : Fld) (v i j : Nat) : (s.put f v i j).clk = s.clk := rfl
@[simp] theorem put_scm (f : Fld) (v i j : Nat) : (s.put f v i j).scm = s.scm := rfl
@[simp] theorem put_failed (f : Fld) (v i j : Nat) : (s.put f v i j).failed = s.failed := rfl
@[simp] theorem put_host (f : Fld) (v i j : Nat) : (s.put f v i j).host = s.host := rfl
@[simp] theorem put_casc (f : Fld) (v i j : Nat) : (s.put f v i j).casc = s.casc := rfl
@[simp] theorem put_warm (f : Fld) (v i j : Nat) : (s.put f v i j).warm = s.warm := rfl
@[simp] theorem put_pt (f : Fld) (v i j : Nat) : (s.put f v i j).pt = s.pt := rfl
@[simp] theorem put_ptRuns (f : Fld) (v i j : Nat) : (s.put f v i j).ptRuns = s.ptRuns := rfl
@[simp] theorem put_log (f : Fld) (v i j : Nat) : (s.put f v i j).log = s.log := rfl
@[simp] theorem put_free (f : Fld) (v i j : Nat) : (s.put f v i j).free = s.free := rfl
@[simp] theorem put_out (f : Fld) (v i j : Nat) : (s.put f v i j).out = s.out := rfl
@[simp] theorem put_pending (f : Fld) (v i j : Nat) : (s.put f v i j).pending = s.pending := rfl

/-! ### flag -/

@[simp] theorem flag_mem (f : Fld) (i j : Nat) : (s.flag f i j).mem = s.mem := rfl
@[simp] theorem flag_syn (f : Fld) (i j : Nat) : (s.flag f i j).syn = s.syn := rfl
@[simp] theorem flag_banks (f : Fld) (i j : Nat) : (s.flag f i j).banks = s.banks := rfl
@[simp] theorem flag_scrubs (f : Fld) (i j : Nat) : (s.flag f i j).scrubs = s.scrubs := rfl
@[simp] theorem flag_ended (f : Fld) (i j : Nat) : (s.flag f i j).ended = s.ended := rfl
@[simp] theorem flag_doms (f : Fld) (i j : Nat) : (s.flag f i j).doms = s.doms := rfl
@[simp] theorem flag_mt (f : Fld) (i j : Nat) : (s.flag f i j).mt = s.mt := rfl
@[simp] theorem flag_lanes (f : Fld) (i j : Nat) : (s.flag f i j).lanes = s.lanes := rfl
@[simp] theorem flag_bundles (f : Fld) (i j : Nat) : (s.flag f i j).bundles = s.bundles := rfl
@[simp] theorem flag_txTripped (f : Fld) (i j : Nat) : (s.flag f i j).txTripped = s.txTripped := rfl
@[simp] theorem flag_spans (f : Fld) (i j : Nat) : (s.flag f i j).spans = s.spans := rfl
@[simp] theorem flag_pins (f : Fld) (i j : Nat) : (s.flag f i j).pins = s.pins := rfl
@[simp] theorem flag_hoops (f : Fld) (i j : Nat) : (s.flag f i j).hoops = s.hoops := rfl
@[simp] theorem flag_flops (f : Fld) (i j : Nat) : (s.flag f i j).flops = s.flops := rfl
@[simp] theorem flag_riserBad (f : Fld) (i j : Nat) : (s.flag f i j).riserBad = s.riserBad := rfl
@[simp] theorem flag_riserSpares (f : Fld) (i j : Nat) : (s.flag f i j).riserSpares = s.riserSpares := rfl
@[simp] theorem flag_badFrames (f : Fld) (i j : Nat) : (s.flag f i j).badFrames = s.badFrames := rfl
@[simp] theorem flag_startRefused (f : Fld) (i j : Nat) : (s.flag f i j).startRefused = s.startRefused := rfl
@[simp] theorem flag_groupAt (f : Fld) (i j : Nat) : (s.flag f i j).groupAt = s.groupAt := rfl
@[simp] theorem flag_fixValid (f : Fld) (i j : Nat) : (s.flag f i j).fixValid = s.fixValid := rfl
@[simp] theorem flag_sliceCfgs (f : Fld) (i j : Nat) : (s.flag f i j).sliceCfgs = s.sliceCfgs := rfl
@[simp] theorem flag_slices (f : Fld) (i j : Nat) : (s.flag f i j).slices = s.slices := rfl
@[simp] theorem flag_ranks (f : Fld) (i j : Nat) : (s.flag f i j).ranks = s.ranks := rfl
@[simp] theorem flag_pms (f : Fld) (i j : Nat) : (s.flag f i j).pms = s.pms := rfl
@[simp] theorem flag_pmus (f : Fld) (i j : Nat) : (s.flag f i j).pmus = s.pmus := rfl
@[simp] theorem flag_tokens (f : Fld) (i j : Nat) : (s.flag f i j).tokens = s.tokens := rfl
@[simp] theorem flag_xcr (f : Fld) (i j : Nat) : (s.flag f i j).xcr = s.xcr := rfl
@[simp] theorem flag_near (f : Fld) (i j : Nat) : (s.flag f i j).near = s.near := rfl
@[simp] theorem flag_nears (f : Fld) (i j : Nat) : (s.flag f i j).nears = s.nears := rfl
@[simp] theorem flag_k0Denied (f : Fld) (i j : Nat) : (s.flag f i j).k0Denied = s.k0Denied := rfl
@[simp] theorem flag_caves (f : Fld) (i j : Nat) : (s.flag f i j).caves = s.caves := rfl
@[simp] theorem flag_cave (f : Fld) (i j : Nat) : (s.flag f i j).cave = s.cave := rfl
@[simp] theorem flag_hw (f : Fld) (i j : Nat) : (s.flag f i j).hw = s.hw := rfl
@[simp] theorem flag_ring (f : Fld) (i j : Nat) : (s.flag f i j).ring = s.ring := rfl
@[simp] theorem flag_lbQueue (f : Fld) (i j : Nat) : (s.flag f i j).lbQueue = s.lbQueue := rfl
@[simp] theorem flag_lbEngs (f : Fld) (i j : Nat) : (s.flag f i j).lbEngs = s.lbEngs := rfl
@[simp] theorem flag_lbtx (f : Fld) (i j : Nat) : (s.flag f i j).lbtx = s.lbtx := rfl
@[simp] theorem flag_noc (f : Fld) (i j : Nat) : (s.flag f i j).noc = s.noc := rfl
@[simp] theorem flag_cores (f : Fld) (i j : Nat) : (s.flag f i j).cores = s.cores := rfl
@[simp] theorem flag_resv (f : Fld) (i j : Nat) : (s.flag f i j).resv = s.resv := rfl
@[simp] theorem flag_wx (f : Fld) (i j : Nat) : (s.flag f i j).wx = s.wx := rfl
@[simp] theorem flag_shadows (f : Fld) (i j : Nat) : (s.flag f i j).shadows = s.shadows := rfl
@[simp] theorem flag_dbg (f : Fld) (i j : Nat) : (s.flag f i j).dbg = s.dbg := rfl
@[simp] theorem flag_frameFlips (f : Fld) (i j : Nat) : (s.flag f i j).frameFlips = s.frameFlips := rfl
@[simp] theorem flag_frames (f : Fld) (i j : Nat) : (s.flag f i j).frames = s.frames := rfl
@[simp] theorem flag_loader (f : Fld) (i j : Nat) : (s.flag f i j).loader = s.loader := rfl
@[simp] theorem flag_flash (f : Fld) (i j : Nat) : (s.flag f i j).flash = s.flash := rfl
@[simp] theorem flag_otp (f : Fld) (i j : Nat) : (s.flag f i j).otp = s.otp := rfl
@[simp] theorem flag_clk (f : Fld) (i j : Nat) : (s.flag f i j).clk = s.clk := rfl
@[simp] theorem flag_scm (f : Fld) (i j : Nat) : (s.flag f i j).scm = s.scm := rfl
@[simp] theorem flag_failed (f : Fld) (i j : Nat) : (s.flag f i j).failed = s.failed := rfl
@[simp] theorem flag_host (f : Fld) (i j : Nat) : (s.flag f i j).host = s.host := rfl
@[simp] theorem flag_casc (f : Fld) (i j : Nat) : (s.flag f i j).casc = s.casc := rfl
@[simp] theorem flag_warm (f : Fld) (i j : Nat) : (s.flag f i j).warm = s.warm := rfl
@[simp] theorem flag_pt (f : Fld) (i j : Nat) : (s.flag f i j).pt = s.pt := rfl
@[simp] theorem flag_ptRuns (f : Fld) (i j : Nat) : (s.flag f i j).ptRuns = s.ptRuns := rfl
@[simp] theorem flag_log (f : Fld) (i j : Nat) : (s.flag f i j).log = s.log := rfl
@[simp] theorem flag_free (f : Fld) (i j : Nat) : (s.flag f i j).free = s.free := rfl
@[simp] theorem flag_out (f : Fld) (i j : Nat) : (s.flag f i j).out = s.out := rfl
@[simp] theorem flag_pending (f : Fld) (i j : Nat) : (s.flag f i j).pending = s.pending := rfl

/-! ### clear -/

@[simp] theorem clear_mem (f : Fld) (i j : Nat) : (s.clear f i j).mem = s.mem := rfl
@[simp] theorem clear_syn (f : Fld) (i j : Nat) : (s.clear f i j).syn = s.syn := rfl
@[simp] theorem clear_banks (f : Fld) (i j : Nat) : (s.clear f i j).banks = s.banks := rfl
@[simp] theorem clear_scrubs (f : Fld) (i j : Nat) : (s.clear f i j).scrubs = s.scrubs := rfl
@[simp] theorem clear_ended (f : Fld) (i j : Nat) : (s.clear f i j).ended = s.ended := rfl
@[simp] theorem clear_doms (f : Fld) (i j : Nat) : (s.clear f i j).doms = s.doms := rfl
@[simp] theorem clear_mt (f : Fld) (i j : Nat) : (s.clear f i j).mt = s.mt := rfl
@[simp] theorem clear_lanes (f : Fld) (i j : Nat) : (s.clear f i j).lanes = s.lanes := rfl
@[simp] theorem clear_bundles (f : Fld) (i j : Nat) : (s.clear f i j).bundles = s.bundles := rfl
@[simp] theorem clear_txTripped (f : Fld) (i j : Nat) : (s.clear f i j).txTripped = s.txTripped := rfl
@[simp] theorem clear_spans (f : Fld) (i j : Nat) : (s.clear f i j).spans = s.spans := rfl
@[simp] theorem clear_pins (f : Fld) (i j : Nat) : (s.clear f i j).pins = s.pins := rfl
@[simp] theorem clear_hoops (f : Fld) (i j : Nat) : (s.clear f i j).hoops = s.hoops := rfl
@[simp] theorem clear_flops (f : Fld) (i j : Nat) : (s.clear f i j).flops = s.flops := rfl
@[simp] theorem clear_riserBad (f : Fld) (i j : Nat) : (s.clear f i j).riserBad = s.riserBad := rfl
@[simp] theorem clear_riserSpares (f : Fld) (i j : Nat) : (s.clear f i j).riserSpares = s.riserSpares := rfl
@[simp] theorem clear_badFrames (f : Fld) (i j : Nat) : (s.clear f i j).badFrames = s.badFrames := rfl
@[simp] theorem clear_startRefused (f : Fld) (i j : Nat) : (s.clear f i j).startRefused = s.startRefused := rfl
@[simp] theorem clear_groupAt (f : Fld) (i j : Nat) : (s.clear f i j).groupAt = s.groupAt := rfl
@[simp] theorem clear_fixValid (f : Fld) (i j : Nat) : (s.clear f i j).fixValid = s.fixValid := rfl
@[simp] theorem clear_sliceCfgs (f : Fld) (i j : Nat) : (s.clear f i j).sliceCfgs = s.sliceCfgs := rfl
@[simp] theorem clear_slices (f : Fld) (i j : Nat) : (s.clear f i j).slices = s.slices := rfl
@[simp] theorem clear_ranks (f : Fld) (i j : Nat) : (s.clear f i j).ranks = s.ranks := rfl
@[simp] theorem clear_pms (f : Fld) (i j : Nat) : (s.clear f i j).pms = s.pms := rfl
@[simp] theorem clear_pmus (f : Fld) (i j : Nat) : (s.clear f i j).pmus = s.pmus := rfl
@[simp] theorem clear_tokens (f : Fld) (i j : Nat) : (s.clear f i j).tokens = s.tokens := rfl
@[simp] theorem clear_xcr (f : Fld) (i j : Nat) : (s.clear f i j).xcr = s.xcr := rfl
@[simp] theorem clear_near (f : Fld) (i j : Nat) : (s.clear f i j).near = s.near := rfl
@[simp] theorem clear_nears (f : Fld) (i j : Nat) : (s.clear f i j).nears = s.nears := rfl
@[simp] theorem clear_k0Denied (f : Fld) (i j : Nat) : (s.clear f i j).k0Denied = s.k0Denied := rfl
@[simp] theorem clear_caves (f : Fld) (i j : Nat) : (s.clear f i j).caves = s.caves := rfl
@[simp] theorem clear_cave (f : Fld) (i j : Nat) : (s.clear f i j).cave = s.cave := rfl
@[simp] theorem clear_hw (f : Fld) (i j : Nat) : (s.clear f i j).hw = s.hw := rfl
@[simp] theorem clear_ring (f : Fld) (i j : Nat) : (s.clear f i j).ring = s.ring := rfl
@[simp] theorem clear_lbQueue (f : Fld) (i j : Nat) : (s.clear f i j).lbQueue = s.lbQueue := rfl
@[simp] theorem clear_lbEngs (f : Fld) (i j : Nat) : (s.clear f i j).lbEngs = s.lbEngs := rfl
@[simp] theorem clear_lbtx (f : Fld) (i j : Nat) : (s.clear f i j).lbtx = s.lbtx := rfl
@[simp] theorem clear_noc (f : Fld) (i j : Nat) : (s.clear f i j).noc = s.noc := rfl
@[simp] theorem clear_cores (f : Fld) (i j : Nat) : (s.clear f i j).cores = s.cores := rfl
@[simp] theorem clear_resv (f : Fld) (i j : Nat) : (s.clear f i j).resv = s.resv := rfl
@[simp] theorem clear_wx (f : Fld) (i j : Nat) : (s.clear f i j).wx = s.wx := rfl
@[simp] theorem clear_shadows (f : Fld) (i j : Nat) : (s.clear f i j).shadows = s.shadows := rfl
@[simp] theorem clear_dbg (f : Fld) (i j : Nat) : (s.clear f i j).dbg = s.dbg := rfl
@[simp] theorem clear_frameFlips (f : Fld) (i j : Nat) : (s.clear f i j).frameFlips = s.frameFlips := rfl
@[simp] theorem clear_frames (f : Fld) (i j : Nat) : (s.clear f i j).frames = s.frames := rfl
@[simp] theorem clear_loader (f : Fld) (i j : Nat) : (s.clear f i j).loader = s.loader := rfl
@[simp] theorem clear_flash (f : Fld) (i j : Nat) : (s.clear f i j).flash = s.flash := rfl
@[simp] theorem clear_otp (f : Fld) (i j : Nat) : (s.clear f i j).otp = s.otp := rfl
@[simp] theorem clear_clk (f : Fld) (i j : Nat) : (s.clear f i j).clk = s.clk := rfl
@[simp] theorem clear_scm (f : Fld) (i j : Nat) : (s.clear f i j).scm = s.scm := rfl
@[simp] theorem clear_failed (f : Fld) (i j : Nat) : (s.clear f i j).failed = s.failed := rfl
@[simp] theorem clear_host (f : Fld) (i j : Nat) : (s.clear f i j).host = s.host := rfl
@[simp] theorem clear_casc (f : Fld) (i j : Nat) : (s.clear f i j).casc = s.casc := rfl
@[simp] theorem clear_warm (f : Fld) (i j : Nat) : (s.clear f i j).warm = s.warm := rfl
@[simp] theorem clear_pt (f : Fld) (i j : Nat) : (s.clear f i j).pt = s.pt := rfl
@[simp] theorem clear_ptRuns (f : Fld) (i j : Nat) : (s.clear f i j).ptRuns = s.ptRuns := rfl
@[simp] theorem clear_log (f : Fld) (i j : Nat) : (s.clear f i j).log = s.log := rfl
@[simp] theorem clear_free (f : Fld) (i j : Nat) : (s.clear f i j).free = s.free := rfl
@[simp] theorem clear_out (f : Fld) (i j : Nat) : (s.clear f i j).out = s.out := rfl
@[simp] theorem clear_pending (f : Fld) (i j : Nat) : (s.clear f i j).pending = s.pending := rfl

/-! ### putBit -/

@[simp] theorem putBit_mem (f : Fld) (b : Bool) (i j : Nat) : (s.putBit f b i j).mem = s.mem := rfl
@[simp] theorem putBit_syn (f : Fld) (b : Bool) (i j : Nat) : (s.putBit f b i j).syn = s.syn := rfl
@[simp] theorem putBit_banks (f : Fld) (b : Bool) (i j : Nat) : (s.putBit f b i j).banks = s.banks := rfl
@[simp] theorem putBit_scrubs (f : Fld) (b : Bool) (i j : Nat) : (s.putBit f b i j).scrubs = s.scrubs := rfl
@[simp] theorem putBit_ended (f : Fld) (b : Bool) (i j : Nat) : (s.putBit f b i j).ended = s.ended := rfl
@[simp] theorem putBit_doms (f : Fld) (b : Bool) (i j : Nat) : (s.putBit f b i j).doms = s.doms := rfl
@[simp] theorem putBit_mt (f : Fld) (b : Bool) (i j : Nat) : (s.putBit f b i j).mt = s.mt := rfl
@[simp] theorem putBit_lanes (f : Fld) (b : Bool) (i j : Nat) : (s.putBit f b i j).lanes = s.lanes := rfl
@[simp] theorem putBit_bundles (f : Fld) (b : Bool) (i j : Nat) : (s.putBit f b i j).bundles = s.bundles := rfl
@[simp] theorem putBit_txTripped (f : Fld) (b : Bool) (i j : Nat) : (s.putBit f b i j).txTripped = s.txTripped := rfl
@[simp] theorem putBit_spans (f : Fld) (b : Bool) (i j : Nat) : (s.putBit f b i j).spans = s.spans := rfl
@[simp] theorem putBit_pins (f : Fld) (b : Bool) (i j : Nat) : (s.putBit f b i j).pins = s.pins := rfl
@[simp] theorem putBit_hoops (f : Fld) (b : Bool) (i j : Nat) : (s.putBit f b i j).hoops = s.hoops := rfl
@[simp] theorem putBit_flops (f : Fld) (b : Bool) (i j : Nat) : (s.putBit f b i j).flops = s.flops := rfl
@[simp] theorem putBit_riserBad (f : Fld) (b : Bool) (i j : Nat) : (s.putBit f b i j).riserBad = s.riserBad := rfl
@[simp] theorem putBit_riserSpares (f : Fld) (b : Bool) (i j : Nat) : (s.putBit f b i j).riserSpares = s.riserSpares := rfl
@[simp] theorem putBit_badFrames (f : Fld) (b : Bool) (i j : Nat) : (s.putBit f b i j).badFrames = s.badFrames := rfl
@[simp] theorem putBit_startRefused (f : Fld) (b : Bool) (i j : Nat) : (s.putBit f b i j).startRefused = s.startRefused := rfl
@[simp] theorem putBit_groupAt (f : Fld) (b : Bool) (i j : Nat) : (s.putBit f b i j).groupAt = s.groupAt := rfl
@[simp] theorem putBit_fixValid (f : Fld) (b : Bool) (i j : Nat) : (s.putBit f b i j).fixValid = s.fixValid := rfl
@[simp] theorem putBit_sliceCfgs (f : Fld) (b : Bool) (i j : Nat) : (s.putBit f b i j).sliceCfgs = s.sliceCfgs := rfl
@[simp] theorem putBit_slices (f : Fld) (b : Bool) (i j : Nat) : (s.putBit f b i j).slices = s.slices := rfl
@[simp] theorem putBit_ranks (f : Fld) (b : Bool) (i j : Nat) : (s.putBit f b i j).ranks = s.ranks := rfl
@[simp] theorem putBit_pms (f : Fld) (b : Bool) (i j : Nat) : (s.putBit f b i j).pms = s.pms := rfl
@[simp] theorem putBit_pmus (f : Fld) (b : Bool) (i j : Nat) : (s.putBit f b i j).pmus = s.pmus := rfl
@[simp] theorem putBit_tokens (f : Fld) (b : Bool) (i j : Nat) : (s.putBit f b i j).tokens = s.tokens := rfl
@[simp] theorem putBit_xcr (f : Fld) (b : Bool) (i j : Nat) : (s.putBit f b i j).xcr = s.xcr := rfl
@[simp] theorem putBit_near (f : Fld) (b : Bool) (i j : Nat) : (s.putBit f b i j).near = s.near := rfl
@[simp] theorem putBit_nears (f : Fld) (b : Bool) (i j : Nat) : (s.putBit f b i j).nears = s.nears := rfl
@[simp] theorem putBit_k0Denied (f : Fld) (b : Bool) (i j : Nat) : (s.putBit f b i j).k0Denied = s.k0Denied := rfl
@[simp] theorem putBit_caves (f : Fld) (b : Bool) (i j : Nat) : (s.putBit f b i j).caves = s.caves := rfl
@[simp] theorem putBit_cave (f : Fld) (b : Bool) (i j : Nat) : (s.putBit f b i j).cave = s.cave := rfl
@[simp] theorem putBit_hw (f : Fld) (b : Bool) (i j : Nat) : (s.putBit f b i j).hw = s.hw := rfl
@[simp] theorem putBit_ring (f : Fld) (b : Bool) (i j : Nat) : (s.putBit f b i j).ring = s.ring := rfl
@[simp] theorem putBit_lbQueue (f : Fld) (b : Bool) (i j : Nat) : (s.putBit f b i j).lbQueue = s.lbQueue := rfl
@[simp] theorem putBit_lbEngs (f : Fld) (b : Bool) (i j : Nat) : (s.putBit f b i j).lbEngs = s.lbEngs := rfl
@[simp] theorem putBit_lbtx (f : Fld) (b : Bool) (i j : Nat) : (s.putBit f b i j).lbtx = s.lbtx := rfl
@[simp] theorem putBit_noc (f : Fld) (b : Bool) (i j : Nat) : (s.putBit f b i j).noc = s.noc := rfl
@[simp] theorem putBit_cores (f : Fld) (b : Bool) (i j : Nat) : (s.putBit f b i j).cores = s.cores := rfl
@[simp] theorem putBit_resv (f : Fld) (b : Bool) (i j : Nat) : (s.putBit f b i j).resv = s.resv := rfl
@[simp] theorem putBit_wx (f : Fld) (b : Bool) (i j : Nat) : (s.putBit f b i j).wx = s.wx := rfl
@[simp] theorem putBit_shadows (f : Fld) (b : Bool) (i j : Nat) : (s.putBit f b i j).shadows = s.shadows := rfl
@[simp] theorem putBit_dbg (f : Fld) (b : Bool) (i j : Nat) : (s.putBit f b i j).dbg = s.dbg := rfl
@[simp] theorem putBit_frameFlips (f : Fld) (b : Bool) (i j : Nat) : (s.putBit f b i j).frameFlips = s.frameFlips := rfl
@[simp] theorem putBit_frames (f : Fld) (b : Bool) (i j : Nat) : (s.putBit f b i j).frames = s.frames := rfl
@[simp] theorem putBit_loader (f : Fld) (b : Bool) (i j : Nat) : (s.putBit f b i j).loader = s.loader := rfl
@[simp] theorem putBit_flash (f : Fld) (b : Bool) (i j : Nat) : (s.putBit f b i j).flash = s.flash := rfl
@[simp] theorem putBit_otp (f : Fld) (b : Bool) (i j : Nat) : (s.putBit f b i j).otp = s.otp := rfl
@[simp] theorem putBit_clk (f : Fld) (b : Bool) (i j : Nat) : (s.putBit f b i j).clk = s.clk := rfl
@[simp] theorem putBit_scm (f : Fld) (b : Bool) (i j : Nat) : (s.putBit f b i j).scm = s.scm := rfl
@[simp] theorem putBit_failed (f : Fld) (b : Bool) (i j : Nat) : (s.putBit f b i j).failed = s.failed := rfl
@[simp] theorem putBit_host (f : Fld) (b : Bool) (i j : Nat) : (s.putBit f b i j).host = s.host := rfl
@[simp] theorem putBit_casc (f : Fld) (b : Bool) (i j : Nat) : (s.putBit f b i j).casc = s.casc := rfl
@[simp] theorem putBit_warm (f : Fld) (b : Bool) (i j : Nat) : (s.putBit f b i j).warm = s.warm := rfl
@[simp] theorem putBit_pt (f : Fld) (b : Bool) (i j : Nat) : (s.putBit f b i j).pt = s.pt := rfl
@[simp] theorem putBit_ptRuns (f : Fld) (b : Bool) (i j : Nat) : (s.putBit f b i j).ptRuns = s.ptRuns := rfl
@[simp] theorem putBit_log (f : Fld) (b : Bool) (i j : Nat) : (s.putBit f b i j).log = s.log := rfl
@[simp] theorem putBit_free (f : Fld) (b : Bool) (i j : Nat) : (s.putBit f b i j).free = s.free := rfl
@[simp] theorem putBit_out (f : Fld) (b : Bool) (i j : Nat) : (s.putBit f b i j).out = s.out := rfl
@[simp] theorem putBit_pending (f : Fld) (b : Bool) (i j : Nat) : (s.putBit f b i j).pending = s.pending := rfl

/-! ### addSat -/

@[simp] theorem addSat_mem (f : Fld) (n i j : Nat) : (s.addSat f n i j).mem = s.mem := rfl
@[simp] theorem addSat_syn (f : Fld) (n i j : Nat) : (s.addSat f n i j).syn = s.syn := rfl
@[simp] theorem addSat_banks (f : Fld) (n i j : Nat) : (s.addSat f n i j).banks = s.banks := rfl
@[simp] theorem addSat_scrubs (f : Fld) (n i j : Nat) : (s.addSat f n i j).scrubs = s.scrubs := rfl
@[simp] theorem addSat_ended (f : Fld) (n i j : Nat) : (s.addSat f n i j).ended = s.ended := rfl
@[simp] theorem addSat_doms (f : Fld) (n i j : Nat) : (s.addSat f n i j).doms = s.doms := rfl
@[simp] theorem addSat_mt (f : Fld) (n i j : Nat) : (s.addSat f n i j).mt = s.mt := rfl
@[simp] theorem addSat_lanes (f : Fld) (n i j : Nat) : (s.addSat f n i j).lanes = s.lanes := rfl
@[simp] theorem addSat_bundles (f : Fld) (n i j : Nat) : (s.addSat f n i j).bundles = s.bundles := rfl
@[simp] theorem addSat_txTripped (f : Fld) (n i j : Nat) : (s.addSat f n i j).txTripped = s.txTripped := rfl
@[simp] theorem addSat_spans (f : Fld) (n i j : Nat) : (s.addSat f n i j).spans = s.spans := rfl
@[simp] theorem addSat_pins (f : Fld) (n i j : Nat) : (s.addSat f n i j).pins = s.pins := rfl
@[simp] theorem addSat_hoops (f : Fld) (n i j : Nat) : (s.addSat f n i j).hoops = s.hoops := rfl
@[simp] theorem addSat_flops (f : Fld) (n i j : Nat) : (s.addSat f n i j).flops = s.flops := rfl
@[simp] theorem addSat_riserBad (f : Fld) (n i j : Nat) : (s.addSat f n i j).riserBad = s.riserBad := rfl
@[simp] theorem addSat_riserSpares (f : Fld) (n i j : Nat) : (s.addSat f n i j).riserSpares = s.riserSpares := rfl
@[simp] theorem addSat_badFrames (f : Fld) (n i j : Nat) : (s.addSat f n i j).badFrames = s.badFrames := rfl
@[simp] theorem addSat_startRefused (f : Fld) (n i j : Nat) : (s.addSat f n i j).startRefused = s.startRefused := rfl
@[simp] theorem addSat_groupAt (f : Fld) (n i j : Nat) : (s.addSat f n i j).groupAt = s.groupAt := rfl
@[simp] theorem addSat_fixValid (f : Fld) (n i j : Nat) : (s.addSat f n i j).fixValid = s.fixValid := rfl
@[simp] theorem addSat_sliceCfgs (f : Fld) (n i j : Nat) : (s.addSat f n i j).sliceCfgs = s.sliceCfgs := rfl
@[simp] theorem addSat_slices (f : Fld) (n i j : Nat) : (s.addSat f n i j).slices = s.slices := rfl
@[simp] theorem addSat_ranks (f : Fld) (n i j : Nat) : (s.addSat f n i j).ranks = s.ranks := rfl
@[simp] theorem addSat_pms (f : Fld) (n i j : Nat) : (s.addSat f n i j).pms = s.pms := rfl
@[simp] theorem addSat_pmus (f : Fld) (n i j : Nat) : (s.addSat f n i j).pmus = s.pmus := rfl
@[simp] theorem addSat_tokens (f : Fld) (n i j : Nat) : (s.addSat f n i j).tokens = s.tokens := rfl
@[simp] theorem addSat_xcr (f : Fld) (n i j : Nat) : (s.addSat f n i j).xcr = s.xcr := rfl
@[simp] theorem addSat_near (f : Fld) (n i j : Nat) : (s.addSat f n i j).near = s.near := rfl
@[simp] theorem addSat_nears (f : Fld) (n i j : Nat) : (s.addSat f n i j).nears = s.nears := rfl
@[simp] theorem addSat_k0Denied (f : Fld) (n i j : Nat) : (s.addSat f n i j).k0Denied = s.k0Denied := rfl
@[simp] theorem addSat_caves (f : Fld) (n i j : Nat) : (s.addSat f n i j).caves = s.caves := rfl
@[simp] theorem addSat_cave (f : Fld) (n i j : Nat) : (s.addSat f n i j).cave = s.cave := rfl
@[simp] theorem addSat_hw (f : Fld) (n i j : Nat) : (s.addSat f n i j).hw = s.hw := rfl
@[simp] theorem addSat_ring (f : Fld) (n i j : Nat) : (s.addSat f n i j).ring = s.ring := rfl
@[simp] theorem addSat_lbQueue (f : Fld) (n i j : Nat) : (s.addSat f n i j).lbQueue = s.lbQueue := rfl
@[simp] theorem addSat_lbEngs (f : Fld) (n i j : Nat) : (s.addSat f n i j).lbEngs = s.lbEngs := rfl
@[simp] theorem addSat_lbtx (f : Fld) (n i j : Nat) : (s.addSat f n i j).lbtx = s.lbtx := rfl
@[simp] theorem addSat_noc (f : Fld) (n i j : Nat) : (s.addSat f n i j).noc = s.noc := rfl
@[simp] theorem addSat_cores (f : Fld) (n i j : Nat) : (s.addSat f n i j).cores = s.cores := rfl
@[simp] theorem addSat_resv (f : Fld) (n i j : Nat) : (s.addSat f n i j).resv = s.resv := rfl
@[simp] theorem addSat_wx (f : Fld) (n i j : Nat) : (s.addSat f n i j).wx = s.wx := rfl
@[simp] theorem addSat_shadows (f : Fld) (n i j : Nat) : (s.addSat f n i j).shadows = s.shadows := rfl
@[simp] theorem addSat_dbg (f : Fld) (n i j : Nat) : (s.addSat f n i j).dbg = s.dbg := rfl
@[simp] theorem addSat_frameFlips (f : Fld) (n i j : Nat) : (s.addSat f n i j).frameFlips = s.frameFlips := rfl
@[simp] theorem addSat_frames (f : Fld) (n i j : Nat) : (s.addSat f n i j).frames = s.frames := rfl
@[simp] theorem addSat_loader (f : Fld) (n i j : Nat) : (s.addSat f n i j).loader = s.loader := rfl
@[simp] theorem addSat_flash (f : Fld) (n i j : Nat) : (s.addSat f n i j).flash = s.flash := rfl
@[simp] theorem addSat_otp (f : Fld) (n i j : Nat) : (s.addSat f n i j).otp = s.otp := rfl
@[simp] theorem addSat_clk (f : Fld) (n i j : Nat) : (s.addSat f n i j).clk = s.clk := rfl
@[simp] theorem addSat_scm (f : Fld) (n i j : Nat) : (s.addSat f n i j).scm = s.scm := rfl
@[simp] theorem addSat_failed (f : Fld) (n i j : Nat) : (s.addSat f n i j).failed = s.failed := rfl
@[simp] theorem addSat_host (f : Fld) (n i j : Nat) : (s.addSat f n i j).host = s.host := rfl
@[simp] theorem addSat_casc (f : Fld) (n i j : Nat) : (s.addSat f n i j).casc = s.casc := rfl
@[simp] theorem addSat_warm (f : Fld) (n i j : Nat) : (s.addSat f n i j).warm = s.warm := rfl
@[simp] theorem addSat_pt (f : Fld) (n i j : Nat) : (s.addSat f n i j).pt = s.pt := rfl
@[simp] theorem addSat_ptRuns (f : Fld) (n i j : Nat) : (s.addSat f n i j).ptRuns = s.ptRuns := rfl
@[simp] theorem addSat_log (f : Fld) (n i j : Nat) : (s.addSat f n i j).log = s.log := rfl
@[simp] theorem addSat_free (f : Fld) (n i j : Nat) : (s.addSat f n i j).free = s.free := rfl
@[simp] theorem addSat_out (f : Fld) (n i j : Nat) : (s.addSat f n i j).out = s.out := rfl
@[simp] theorem addSat_pending (f : Fld) (n i j : Nat) : (s.addSat f n i j).pending = s.pending := rfl

/-! ### bump -/

@[simp] theorem bump_mem (f : Fld) (i j : Nat) : (s.bump f i j).mem = s.mem := rfl
@[simp] theorem bump_syn (f : Fld) (i j : Nat) : (s.bump f i j).syn = s.syn := rfl
@[simp] theorem bump_banks (f : Fld) (i j : Nat) : (s.bump f i j).banks = s.banks := rfl
@[simp] theorem bump_scrubs (f : Fld) (i j : Nat) : (s.bump f i j).scrubs = s.scrubs := rfl
@[simp] theorem bump_ended (f : Fld) (i j : Nat) : (s.bump f i j).ended = s.ended := rfl
@[simp] theorem bump_doms (f : Fld) (i j : Nat) : (s.bump f i j).doms = s.doms := rfl
@[simp] theorem bump_mt (f : Fld) (i j : Nat) : (s.bump f i j).mt = s.mt := rfl
@[simp] theorem bump_lanes (f : Fld) (i j : Nat) : (s.bump f i j).lanes = s.lanes := rfl
@[simp] theorem bump_bundles (f : Fld) (i j : Nat) : (s.bump f i j).bundles = s.bundles := rfl
@[simp] theorem bump_txTripped (f : Fld) (i j : Nat) : (s.bump f i j).txTripped = s.txTripped := rfl
@[simp] theorem bump_spans (f : Fld) (i j : Nat) : (s.bump f i j).spans = s.spans := rfl
@[simp] theorem bump_pins (f : Fld) (i j : Nat) : (s.bump f i j).pins = s.pins := rfl
@[simp] theorem bump_hoops (f : Fld) (i j : Nat) : (s.bump f i j).hoops = s.hoops := rfl
@[simp] theorem bump_flops (f : Fld) (i j : Nat) : (s.bump f i j).flops = s.flops := rfl
@[simp] theorem bump_riserBad (f : Fld) (i j : Nat) : (s.bump f i j).riserBad = s.riserBad := rfl
@[simp] theorem bump_riserSpares (f : Fld) (i j : Nat) : (s.bump f i j).riserSpares = s.riserSpares := rfl
@[simp] theorem bump_badFrames (f : Fld) (i j : Nat) : (s.bump f i j).badFrames = s.badFrames := rfl
@[simp] theorem bump_startRefused (f : Fld) (i j : Nat) : (s.bump f i j).startRefused = s.startRefused := rfl
@[simp] theorem bump_groupAt (f : Fld) (i j : Nat) : (s.bump f i j).groupAt = s.groupAt := rfl
@[simp] theorem bump_fixValid (f : Fld) (i j : Nat) : (s.bump f i j).fixValid = s.fixValid := rfl
@[simp] theorem bump_sliceCfgs (f : Fld) (i j : Nat) : (s.bump f i j).sliceCfgs = s.sliceCfgs := rfl
@[simp] theorem bump_slices (f : Fld) (i j : Nat) : (s.bump f i j).slices = s.slices := rfl
@[simp] theorem bump_ranks (f : Fld) (i j : Nat) : (s.bump f i j).ranks = s.ranks := rfl
@[simp] theorem bump_pms (f : Fld) (i j : Nat) : (s.bump f i j).pms = s.pms := rfl
@[simp] theorem bump_pmus (f : Fld) (i j : Nat) : (s.bump f i j).pmus = s.pmus := rfl
@[simp] theorem bump_tokens (f : Fld) (i j : Nat) : (s.bump f i j).tokens = s.tokens := rfl
@[simp] theorem bump_xcr (f : Fld) (i j : Nat) : (s.bump f i j).xcr = s.xcr := rfl
@[simp] theorem bump_near (f : Fld) (i j : Nat) : (s.bump f i j).near = s.near := rfl
@[simp] theorem bump_nears (f : Fld) (i j : Nat) : (s.bump f i j).nears = s.nears := rfl
@[simp] theorem bump_k0Denied (f : Fld) (i j : Nat) : (s.bump f i j).k0Denied = s.k0Denied := rfl
@[simp] theorem bump_caves (f : Fld) (i j : Nat) : (s.bump f i j).caves = s.caves := rfl
@[simp] theorem bump_cave (f : Fld) (i j : Nat) : (s.bump f i j).cave = s.cave := rfl
@[simp] theorem bump_hw (f : Fld) (i j : Nat) : (s.bump f i j).hw = s.hw := rfl
@[simp] theorem bump_ring (f : Fld) (i j : Nat) : (s.bump f i j).ring = s.ring := rfl
@[simp] theorem bump_lbQueue (f : Fld) (i j : Nat) : (s.bump f i j).lbQueue = s.lbQueue := rfl
@[simp] theorem bump_lbEngs (f : Fld) (i j : Nat) : (s.bump f i j).lbEngs = s.lbEngs := rfl
@[simp] theorem bump_lbtx (f : Fld) (i j : Nat) : (s.bump f i j).lbtx = s.lbtx := rfl
@[simp] theorem bump_noc (f : Fld) (i j : Nat) : (s.bump f i j).noc = s.noc := rfl
@[simp] theorem bump_cores (f : Fld) (i j : Nat) : (s.bump f i j).cores = s.cores := rfl
@[simp] theorem bump_resv (f : Fld) (i j : Nat) : (s.bump f i j).resv = s.resv := rfl
@[simp] theorem bump_wx (f : Fld) (i j : Nat) : (s.bump f i j).wx = s.wx := rfl
@[simp] theorem bump_shadows (f : Fld) (i j : Nat) : (s.bump f i j).shadows = s.shadows := rfl
@[simp] theorem bump_dbg (f : Fld) (i j : Nat) : (s.bump f i j).dbg = s.dbg := rfl
@[simp] theorem bump_frameFlips (f : Fld) (i j : Nat) : (s.bump f i j).frameFlips = s.frameFlips := rfl
@[simp] theorem bump_frames (f : Fld) (i j : Nat) : (s.bump f i j).frames = s.frames := rfl
@[simp] theorem bump_loader (f : Fld) (i j : Nat) : (s.bump f i j).loader = s.loader := rfl
@[simp] theorem bump_flash (f : Fld) (i j : Nat) : (s.bump f i j).flash = s.flash := rfl
@[simp] theorem bump_otp (f : Fld) (i j : Nat) : (s.bump f i j).otp = s.otp := rfl
@[simp] theorem bump_clk (f : Fld) (i j : Nat) : (s.bump f i j).clk = s.clk := rfl
@[simp] theorem bump_scm (f : Fld) (i j : Nat) : (s.bump f i j).scm = s.scm := rfl
@[simp] theorem bump_failed (f : Fld) (i j : Nat) : (s.bump f i j).failed = s.failed := rfl
@[simp] theorem bump_host (f : Fld) (i j : Nat) : (s.bump f i j).host = s.host := rfl
@[simp] theorem bump_casc (f : Fld) (i j : Nat) : (s.bump f i j).casc = s.casc := rfl
@[simp] theorem bump_warm (f : Fld) (i j : Nat) : (s.bump f i j).warm = s.warm := rfl
@[simp] theorem bump_pt (f : Fld) (i j : Nat) : (s.bump f i j).pt = s.pt := rfl
@[simp] theorem bump_ptRuns (f : Fld) (i j : Nat) : (s.bump f i j).ptRuns = s.ptRuns := rfl
@[simp] theorem bump_log (f : Fld) (i j : Nat) : (s.bump f i j).log = s.log := rfl
@[simp] theorem bump_free (f : Fld) (i j : Nat) : (s.bump f i j).free = s.free := rfl
@[simp] theorem bump_out (f : Fld) (i j : Nat) : (s.bump f i j).out = s.out := rfl
@[simp] theorem bump_pending (f : Fld) (i j : Nat) : (s.bump f i j).pending = s.pending := rfl

/-! ### setPair -/

@[simp] theorem setPair_mem (lo hi : RegName) (v i j : Nat) : (s.setPair lo hi v i j).mem = s.mem := rfl
@[simp] theorem setPair_syn (lo hi : RegName) (v i j : Nat) : (s.setPair lo hi v i j).syn = s.syn := rfl
@[simp] theorem setPair_banks (lo hi : RegName) (v i j : Nat) : (s.setPair lo hi v i j).banks = s.banks := rfl
@[simp] theorem setPair_scrubs (lo hi : RegName) (v i j : Nat) : (s.setPair lo hi v i j).scrubs = s.scrubs := rfl
@[simp] theorem setPair_ended (lo hi : RegName) (v i j : Nat) : (s.setPair lo hi v i j).ended = s.ended := rfl
@[simp] theorem setPair_doms (lo hi : RegName) (v i j : Nat) : (s.setPair lo hi v i j).doms = s.doms := rfl
@[simp] theorem setPair_mt (lo hi : RegName) (v i j : Nat) : (s.setPair lo hi v i j).mt = s.mt := rfl
@[simp] theorem setPair_lanes (lo hi : RegName) (v i j : Nat) : (s.setPair lo hi v i j).lanes = s.lanes := rfl
@[simp] theorem setPair_bundles (lo hi : RegName) (v i j : Nat) : (s.setPair lo hi v i j).bundles = s.bundles := rfl
@[simp] theorem setPair_txTripped (lo hi : RegName) (v i j : Nat) : (s.setPair lo hi v i j).txTripped = s.txTripped := rfl
@[simp] theorem setPair_spans (lo hi : RegName) (v i j : Nat) : (s.setPair lo hi v i j).spans = s.spans := rfl
@[simp] theorem setPair_pins (lo hi : RegName) (v i j : Nat) : (s.setPair lo hi v i j).pins = s.pins := rfl
@[simp] theorem setPair_hoops (lo hi : RegName) (v i j : Nat) : (s.setPair lo hi v i j).hoops = s.hoops := rfl
@[simp] theorem setPair_flops (lo hi : RegName) (v i j : Nat) : (s.setPair lo hi v i j).flops = s.flops := rfl
@[simp] theorem setPair_riserBad (lo hi : RegName) (v i j : Nat) : (s.setPair lo hi v i j).riserBad = s.riserBad := rfl
@[simp] theorem setPair_riserSpares (lo hi : RegName) (v i j : Nat) : (s.setPair lo hi v i j).riserSpares = s.riserSpares := rfl
@[simp] theorem setPair_badFrames (lo hi : RegName) (v i j : Nat) : (s.setPair lo hi v i j).badFrames = s.badFrames := rfl
@[simp] theorem setPair_startRefused (lo hi : RegName) (v i j : Nat) : (s.setPair lo hi v i j).startRefused = s.startRefused := rfl
@[simp] theorem setPair_groupAt (lo hi : RegName) (v i j : Nat) : (s.setPair lo hi v i j).groupAt = s.groupAt := rfl
@[simp] theorem setPair_fixValid (lo hi : RegName) (v i j : Nat) : (s.setPair lo hi v i j).fixValid = s.fixValid := rfl
@[simp] theorem setPair_sliceCfgs (lo hi : RegName) (v i j : Nat) : (s.setPair lo hi v i j).sliceCfgs = s.sliceCfgs := rfl
@[simp] theorem setPair_slices (lo hi : RegName) (v i j : Nat) : (s.setPair lo hi v i j).slices = s.slices := rfl
@[simp] theorem setPair_ranks (lo hi : RegName) (v i j : Nat) : (s.setPair lo hi v i j).ranks = s.ranks := rfl
@[simp] theorem setPair_pms (lo hi : RegName) (v i j : Nat) : (s.setPair lo hi v i j).pms = s.pms := rfl
@[simp] theorem setPair_pmus (lo hi : RegName) (v i j : Nat) : (s.setPair lo hi v i j).pmus = s.pmus := rfl
@[simp] theorem setPair_tokens (lo hi : RegName) (v i j : Nat) : (s.setPair lo hi v i j).tokens = s.tokens := rfl
@[simp] theorem setPair_xcr (lo hi : RegName) (v i j : Nat) : (s.setPair lo hi v i j).xcr = s.xcr := rfl
@[simp] theorem setPair_near (lo hi : RegName) (v i j : Nat) : (s.setPair lo hi v i j).near = s.near := rfl
@[simp] theorem setPair_nears (lo hi : RegName) (v i j : Nat) : (s.setPair lo hi v i j).nears = s.nears := rfl
@[simp] theorem setPair_k0Denied (lo hi : RegName) (v i j : Nat) : (s.setPair lo hi v i j).k0Denied = s.k0Denied := rfl
@[simp] theorem setPair_caves (lo hi : RegName) (v i j : Nat) : (s.setPair lo hi v i j).caves = s.caves := rfl
@[simp] theorem setPair_cave (lo hi : RegName) (v i j : Nat) : (s.setPair lo hi v i j).cave = s.cave := rfl
@[simp] theorem setPair_hw (lo hi : RegName) (v i j : Nat) : (s.setPair lo hi v i j).hw = s.hw := rfl
@[simp] theorem setPair_ring (lo hi : RegName) (v i j : Nat) : (s.setPair lo hi v i j).ring = s.ring := rfl
@[simp] theorem setPair_lbQueue (lo hi : RegName) (v i j : Nat) : (s.setPair lo hi v i j).lbQueue = s.lbQueue := rfl
@[simp] theorem setPair_lbEngs (lo hi : RegName) (v i j : Nat) : (s.setPair lo hi v i j).lbEngs = s.lbEngs := rfl
@[simp] theorem setPair_lbtx (lo hi : RegName) (v i j : Nat) : (s.setPair lo hi v i j).lbtx = s.lbtx := rfl
@[simp] theorem setPair_noc (lo hi : RegName) (v i j : Nat) : (s.setPair lo hi v i j).noc = s.noc := rfl
@[simp] theorem setPair_cores (lo hi : RegName) (v i j : Nat) : (s.setPair lo hi v i j).cores = s.cores := rfl
@[simp] theorem setPair_resv (lo hi : RegName) (v i j : Nat) : (s.setPair lo hi v i j).resv = s.resv := rfl
@[simp] theorem setPair_wx (lo hi : RegName) (v i j : Nat) : (s.setPair lo hi v i j).wx = s.wx := rfl
@[simp] theorem setPair_shadows (lo hi : RegName) (v i j : Nat) : (s.setPair lo hi v i j).shadows = s.shadows := rfl
@[simp] theorem setPair_dbg (lo hi : RegName) (v i j : Nat) : (s.setPair lo hi v i j).dbg = s.dbg := rfl
@[simp] theorem setPair_frameFlips (lo hi : RegName) (v i j : Nat) : (s.setPair lo hi v i j).frameFlips = s.frameFlips := rfl
@[simp] theorem setPair_frames (lo hi : RegName) (v i j : Nat) : (s.setPair lo hi v i j).frames = s.frames := rfl
@[simp] theorem setPair_loader (lo hi : RegName) (v i j : Nat) : (s.setPair lo hi v i j).loader = s.loader := rfl
@[simp] theorem setPair_flash (lo hi : RegName) (v i j : Nat) : (s.setPair lo hi v i j).flash = s.flash := rfl
@[simp] theorem setPair_otp (lo hi : RegName) (v i j : Nat) : (s.setPair lo hi v i j).otp = s.otp := rfl
@[simp] theorem setPair_clk (lo hi : RegName) (v i j : Nat) : (s.setPair lo hi v i j).clk = s.clk := rfl
@[simp] theorem setPair_scm (lo hi : RegName) (v i j : Nat) : (s.setPair lo hi v i j).scm = s.scm := rfl
@[simp] theorem setPair_failed (lo hi : RegName) (v i j : Nat) : (s.setPair lo hi v i j).failed = s.failed := rfl
@[simp] theorem setPair_host (lo hi : RegName) (v i j : Nat) : (s.setPair lo hi v i j).host = s.host := rfl
@[simp] theorem setPair_casc (lo hi : RegName) (v i j : Nat) : (s.setPair lo hi v i j).casc = s.casc := rfl
@[simp] theorem setPair_warm (lo hi : RegName) (v i j : Nat) : (s.setPair lo hi v i j).warm = s.warm := rfl
@[simp] theorem setPair_pt (lo hi : RegName) (v i j : Nat) : (s.setPair lo hi v i j).pt = s.pt := rfl
@[simp] theorem setPair_ptRuns (lo hi : RegName) (v i j : Nat) : (s.setPair lo hi v i j).ptRuns = s.ptRuns := rfl
@[simp] theorem setPair_log (lo hi : RegName) (v i j : Nat) : (s.setPair lo hi v i j).log = s.log := rfl
@[simp] theorem setPair_free (lo hi : RegName) (v i j : Nat) : (s.setPair lo hi v i j).free = s.free := rfl
@[simp] theorem setPair_out (lo hi : RegName) (v i j : Nat) : (s.setPair lo hi v i j).out = s.out := rfl
@[simp] theorem setPair_pending (lo hi : RegName) (v i j : Nat) : (s.setPair lo hi v i j).pending = s.pending := rfl

/-! ### emit -/

@[simp] theorem emit_regs (o : Output) : (s.emit o).regs = s.regs := rfl
@[simp] theorem emit_mem (o : Output) : (s.emit o).mem = s.mem := rfl
@[simp] theorem emit_syn (o : Output) : (s.emit o).syn = s.syn := rfl
@[simp] theorem emit_banks (o : Output) : (s.emit o).banks = s.banks := rfl
@[simp] theorem emit_scrubs (o : Output) : (s.emit o).scrubs = s.scrubs := rfl
@[simp] theorem emit_ended (o : Output) : (s.emit o).ended = s.ended := rfl
@[simp] theorem emit_doms (o : Output) : (s.emit o).doms = s.doms := rfl
@[simp] theorem emit_mt (o : Output) : (s.emit o).mt = s.mt := rfl
@[simp] theorem emit_lanes (o : Output) : (s.emit o).lanes = s.lanes := rfl
@[simp] theorem emit_bundles (o : Output) : (s.emit o).bundles = s.bundles := rfl
@[simp] theorem emit_txTripped (o : Output) : (s.emit o).txTripped = s.txTripped := rfl
@[simp] theorem emit_spans (o : Output) : (s.emit o).spans = s.spans := rfl
@[simp] theorem emit_pins (o : Output) : (s.emit o).pins = s.pins := rfl
@[simp] theorem emit_hoops (o : Output) : (s.emit o).hoops = s.hoops := rfl
@[simp] theorem emit_flops (o : Output) : (s.emit o).flops = s.flops := rfl
@[simp] theorem emit_riserBad (o : Output) : (s.emit o).riserBad = s.riserBad := rfl
@[simp] theorem emit_riserSpares (o : Output) : (s.emit o).riserSpares = s.riserSpares := rfl
@[simp] theorem emit_badFrames (o : Output) : (s.emit o).badFrames = s.badFrames := rfl
@[simp] theorem emit_startRefused (o : Output) : (s.emit o).startRefused = s.startRefused := rfl
@[simp] theorem emit_groupAt (o : Output) : (s.emit o).groupAt = s.groupAt := rfl
@[simp] theorem emit_fixValid (o : Output) : (s.emit o).fixValid = s.fixValid := rfl
@[simp] theorem emit_sliceCfgs (o : Output) : (s.emit o).sliceCfgs = s.sliceCfgs := rfl
@[simp] theorem emit_slices (o : Output) : (s.emit o).slices = s.slices := rfl
@[simp] theorem emit_ranks (o : Output) : (s.emit o).ranks = s.ranks := rfl
@[simp] theorem emit_pms (o : Output) : (s.emit o).pms = s.pms := rfl
@[simp] theorem emit_pmus (o : Output) : (s.emit o).pmus = s.pmus := rfl
@[simp] theorem emit_tokens (o : Output) : (s.emit o).tokens = s.tokens := rfl
@[simp] theorem emit_xcr (o : Output) : (s.emit o).xcr = s.xcr := rfl
@[simp] theorem emit_near (o : Output) : (s.emit o).near = s.near := rfl
@[simp] theorem emit_nears (o : Output) : (s.emit o).nears = s.nears := rfl
@[simp] theorem emit_k0Denied (o : Output) : (s.emit o).k0Denied = s.k0Denied := rfl
@[simp] theorem emit_caves (o : Output) : (s.emit o).caves = s.caves := rfl
@[simp] theorem emit_cave (o : Output) : (s.emit o).cave = s.cave := rfl
@[simp] theorem emit_hw (o : Output) : (s.emit o).hw = s.hw := rfl
@[simp] theorem emit_ring (o : Output) : (s.emit o).ring = s.ring := rfl
@[simp] theorem emit_lbQueue (o : Output) : (s.emit o).lbQueue = s.lbQueue := rfl
@[simp] theorem emit_lbEngs (o : Output) : (s.emit o).lbEngs = s.lbEngs := rfl
@[simp] theorem emit_lbtx (o : Output) : (s.emit o).lbtx = s.lbtx := rfl
@[simp] theorem emit_noc (o : Output) : (s.emit o).noc = s.noc := rfl
@[simp] theorem emit_cores (o : Output) : (s.emit o).cores = s.cores := rfl
@[simp] theorem emit_resv (o : Output) : (s.emit o).resv = s.resv := rfl
@[simp] theorem emit_wx (o : Output) : (s.emit o).wx = s.wx := rfl
@[simp] theorem emit_shadows (o : Output) : (s.emit o).shadows = s.shadows := rfl
@[simp] theorem emit_dbg (o : Output) : (s.emit o).dbg = s.dbg := rfl
@[simp] theorem emit_frameFlips (o : Output) : (s.emit o).frameFlips = s.frameFlips := rfl
@[simp] theorem emit_frames (o : Output) : (s.emit o).frames = s.frames := rfl
@[simp] theorem emit_loader (o : Output) : (s.emit o).loader = s.loader := rfl
@[simp] theorem emit_flash (o : Output) : (s.emit o).flash = s.flash := rfl
@[simp] theorem emit_otp (o : Output) : (s.emit o).otp = s.otp := rfl
@[simp] theorem emit_clk (o : Output) : (s.emit o).clk = s.clk := rfl
@[simp] theorem emit_scm (o : Output) : (s.emit o).scm = s.scm := rfl
@[simp] theorem emit_failed (o : Output) : (s.emit o).failed = s.failed := rfl
@[simp] theorem emit_host (o : Output) : (s.emit o).host = s.host := rfl
@[simp] theorem emit_casc (o : Output) : (s.emit o).casc = s.casc := rfl
@[simp] theorem emit_warm (o : Output) : (s.emit o).warm = s.warm := rfl
@[simp] theorem emit_pt (o : Output) : (s.emit o).pt = s.pt := rfl
@[simp] theorem emit_ptRuns (o : Output) : (s.emit o).ptRuns = s.ptRuns := rfl
@[simp] theorem emit_log (o : Output) : (s.emit o).log = s.log := rfl
@[simp] theorem emit_free (o : Output) : (s.emit o).free = s.free := rfl
@[simp] theorem emit_pending (o : Output) : (s.emit o).pending = s.pending := rfl

/-! ### answer -/

@[simp] theorem answer_regs (st : Status) (data : Nat) (p : Bool) : (s.answer st data p).regs = s.regs := rfl
@[simp] theorem answer_mem (st : Status) (data : Nat) (p : Bool) : (s.answer st data p).mem = s.mem := rfl
@[simp] theorem answer_syn (st : Status) (data : Nat) (p : Bool) : (s.answer st data p).syn = s.syn := rfl
@[simp] theorem answer_banks (st : Status) (data : Nat) (p : Bool) : (s.answer st data p).banks = s.banks := rfl
@[simp] theorem answer_scrubs (st : Status) (data : Nat) (p : Bool) : (s.answer st data p).scrubs = s.scrubs := rfl
@[simp] theorem answer_ended (st : Status) (data : Nat) (p : Bool) : (s.answer st data p).ended = s.ended := rfl
@[simp] theorem answer_doms (st : Status) (data : Nat) (p : Bool) : (s.answer st data p).doms = s.doms := rfl
@[simp] theorem answer_mt (st : Status) (data : Nat) (p : Bool) : (s.answer st data p).mt = s.mt := rfl
@[simp] theorem answer_lanes (st : Status) (data : Nat) (p : Bool) : (s.answer st data p).lanes = s.lanes := rfl
@[simp] theorem answer_bundles (st : Status) (data : Nat) (p : Bool) : (s.answer st data p).bundles = s.bundles := rfl
@[simp] theorem answer_txTripped (st : Status) (data : Nat) (p : Bool) : (s.answer st data p).txTripped = s.txTripped := rfl
@[simp] theorem answer_spans (st : Status) (data : Nat) (p : Bool) : (s.answer st data p).spans = s.spans := rfl
@[simp] theorem answer_pins (st : Status) (data : Nat) (p : Bool) : (s.answer st data p).pins = s.pins := rfl
@[simp] theorem answer_hoops (st : Status) (data : Nat) (p : Bool) : (s.answer st data p).hoops = s.hoops := rfl
@[simp] theorem answer_flops (st : Status) (data : Nat) (p : Bool) : (s.answer st data p).flops = s.flops := rfl
@[simp] theorem answer_riserBad (st : Status) (data : Nat) (p : Bool) : (s.answer st data p).riserBad = s.riserBad := rfl
@[simp] theorem answer_riserSpares (st : Status) (data : Nat) (p : Bool) : (s.answer st data p).riserSpares = s.riserSpares := rfl
@[simp] theorem answer_badFrames (st : Status) (data : Nat) (p : Bool) : (s.answer st data p).badFrames = s.badFrames := rfl
@[simp] theorem answer_startRefused (st : Status) (data : Nat) (p : Bool) : (s.answer st data p).startRefused = s.startRefused := rfl
@[simp] theorem answer_groupAt (st : Status) (data : Nat) (p : Bool) : (s.answer st data p).groupAt = s.groupAt := rfl
@[simp] theorem answer_fixValid (st : Status) (data : Nat) (p : Bool) : (s.answer st data p).fixValid = s.fixValid := rfl
@[simp] theorem answer_sliceCfgs (st : Status) (data : Nat) (p : Bool) : (s.answer st data p).sliceCfgs = s.sliceCfgs := rfl
@[simp] theorem answer_slices (st : Status) (data : Nat) (p : Bool) : (s.answer st data p).slices = s.slices := rfl
@[simp] theorem answer_ranks (st : Status) (data : Nat) (p : Bool) : (s.answer st data p).ranks = s.ranks := rfl
@[simp] theorem answer_pms (st : Status) (data : Nat) (p : Bool) : (s.answer st data p).pms = s.pms := rfl
@[simp] theorem answer_pmus (st : Status) (data : Nat) (p : Bool) : (s.answer st data p).pmus = s.pmus := rfl
@[simp] theorem answer_tokens (st : Status) (data : Nat) (p : Bool) : (s.answer st data p).tokens = s.tokens := rfl
@[simp] theorem answer_xcr (st : Status) (data : Nat) (p : Bool) : (s.answer st data p).xcr = s.xcr := rfl
@[simp] theorem answer_near (st : Status) (data : Nat) (p : Bool) : (s.answer st data p).near = s.near := rfl
@[simp] theorem answer_nears (st : Status) (data : Nat) (p : Bool) : (s.answer st data p).nears = s.nears := rfl
@[simp] theorem answer_k0Denied (st : Status) (data : Nat) (p : Bool) : (s.answer st data p).k0Denied = s.k0Denied := rfl
@[simp] theorem answer_caves (st : Status) (data : Nat) (p : Bool) : (s.answer st data p).caves = s.caves := rfl
@[simp] theorem answer_cave (st : Status) (data : Nat) (p : Bool) : (s.answer st data p).cave = s.cave := rfl
@[simp] theorem answer_hw (st : Status) (data : Nat) (p : Bool) : (s.answer st data p).hw = s.hw := rfl
@[simp] theorem answer_ring (st : Status) (data : Nat) (p : Bool) : (s.answer st data p).ring = s.ring := rfl
@[simp] theorem answer_lbQueue (st : Status) (data : Nat) (p : Bool) : (s.answer st data p).lbQueue = s.lbQueue := rfl
@[simp] theorem answer_lbEngs (st : Status) (data : Nat) (p : Bool) : (s.answer st data p).lbEngs = s.lbEngs := rfl
@[simp] theorem answer_lbtx (st : Status) (data : Nat) (p : Bool) : (s.answer st data p).lbtx = s.lbtx := rfl
@[simp] theorem answer_noc (st : Status) (data : Nat) (p : Bool) : (s.answer st data p).noc = s.noc := rfl
@[simp] theorem answer_cores (st : Status) (data : Nat) (p : Bool) : (s.answer st data p).cores = s.cores := rfl
@[simp] theorem answer_resv (st : Status) (data : Nat) (p : Bool) : (s.answer st data p).resv = s.resv := rfl
@[simp] theorem answer_wx (st : Status) (data : Nat) (p : Bool) : (s.answer st data p).wx = s.wx := rfl
@[simp] theorem answer_shadows (st : Status) (data : Nat) (p : Bool) : (s.answer st data p).shadows = s.shadows := rfl
@[simp] theorem answer_dbg (st : Status) (data : Nat) (p : Bool) : (s.answer st data p).dbg = s.dbg := rfl
@[simp] theorem answer_frameFlips (st : Status) (data : Nat) (p : Bool) : (s.answer st data p).frameFlips = s.frameFlips := rfl
@[simp] theorem answer_frames (st : Status) (data : Nat) (p : Bool) : (s.answer st data p).frames = s.frames := rfl
@[simp] theorem answer_loader (st : Status) (data : Nat) (p : Bool) : (s.answer st data p).loader = s.loader := rfl
@[simp] theorem answer_flash (st : Status) (data : Nat) (p : Bool) : (s.answer st data p).flash = s.flash := rfl
@[simp] theorem answer_otp (st : Status) (data : Nat) (p : Bool) : (s.answer st data p).otp = s.otp := rfl
@[simp] theorem answer_clk (st : Status) (data : Nat) (p : Bool) : (s.answer st data p).clk = s.clk := rfl
@[simp] theorem answer_scm (st : Status) (data : Nat) (p : Bool) : (s.answer st data p).scm = s.scm := rfl
@[simp] theorem answer_failed (st : Status) (data : Nat) (p : Bool) : (s.answer st data p).failed = s.failed := rfl
@[simp] theorem answer_host (st : Status) (data : Nat) (p : Bool) : (s.answer st data p).host = s.host := rfl
@[simp] theorem answer_casc (st : Status) (data : Nat) (p : Bool) : (s.answer st data p).casc = s.casc := rfl
@[simp] theorem answer_warm (st : Status) (data : Nat) (p : Bool) : (s.answer st data p).warm = s.warm := rfl
@[simp] theorem answer_pt (st : Status) (data : Nat) (p : Bool) : (s.answer st data p).pt = s.pt := rfl
@[simp] theorem answer_ptRuns (st : Status) (data : Nat) (p : Bool) : (s.answer st data p).ptRuns = s.ptRuns := rfl
@[simp] theorem answer_log (st : Status) (data : Nat) (p : Bool) : (s.answer st data p).log = s.log := rfl
@[simp] theorem answer_free (st : Status) (data : Nat) (p : Bool) : (s.answer st data p).free = s.free := rfl
@[simp] theorem answer_pending (st : Status) (data : Nat) (p : Bool) : (s.answer st data p).pending = s.pending := rfl

/-! ### setMemBytes -/

@[simp] theorem setMemBytes_regs (a : Nat) (bs : List Byte) : (s.setMemBytes a bs).regs = s.regs := rfl
@[simp] theorem setMemBytes_syn (a : Nat) (bs : List Byte) : (s.setMemBytes a bs).syn = s.syn := rfl
@[simp] theorem setMemBytes_banks (a : Nat) (bs : List Byte) : (s.setMemBytes a bs).banks = s.banks := rfl
@[simp] theorem setMemBytes_scrubs (a : Nat) (bs : List Byte) : (s.setMemBytes a bs).scrubs = s.scrubs := rfl
@[simp] theorem setMemBytes_ended (a : Nat) (bs : List Byte) : (s.setMemBytes a bs).ended = s.ended := rfl
@[simp] theorem setMemBytes_doms (a : Nat) (bs : List Byte) : (s.setMemBytes a bs).doms = s.doms := rfl
@[simp] theorem setMemBytes_mt (a : Nat) (bs : List Byte) : (s.setMemBytes a bs).mt = s.mt := rfl
@[simp] theorem setMemBytes_lanes (a : Nat) (bs : List Byte) : (s.setMemBytes a bs).lanes = s.lanes := rfl
@[simp] theorem setMemBytes_bundles (a : Nat) (bs : List Byte) : (s.setMemBytes a bs).bundles = s.bundles := rfl
@[simp] theorem setMemBytes_txTripped (a : Nat) (bs : List Byte) : (s.setMemBytes a bs).txTripped = s.txTripped := rfl
@[simp] theorem setMemBytes_spans (a : Nat) (bs : List Byte) : (s.setMemBytes a bs).spans = s.spans := rfl
@[simp] theorem setMemBytes_pins (a : Nat) (bs : List Byte) : (s.setMemBytes a bs).pins = s.pins := rfl
@[simp] theorem setMemBytes_hoops (a : Nat) (bs : List Byte) : (s.setMemBytes a bs).hoops = s.hoops := rfl
@[simp] theorem setMemBytes_flops (a : Nat) (bs : List Byte) : (s.setMemBytes a bs).flops = s.flops := rfl
@[simp] theorem setMemBytes_riserBad (a : Nat) (bs : List Byte) : (s.setMemBytes a bs).riserBad = s.riserBad := rfl
@[simp] theorem setMemBytes_riserSpares (a : Nat) (bs : List Byte) : (s.setMemBytes a bs).riserSpares = s.riserSpares := rfl
@[simp] theorem setMemBytes_badFrames (a : Nat) (bs : List Byte) : (s.setMemBytes a bs).badFrames = s.badFrames := rfl
@[simp] theorem setMemBytes_startRefused (a : Nat) (bs : List Byte) : (s.setMemBytes a bs).startRefused = s.startRefused := rfl
@[simp] theorem setMemBytes_groupAt (a : Nat) (bs : List Byte) : (s.setMemBytes a bs).groupAt = s.groupAt := rfl
@[simp] theorem setMemBytes_fixValid (a : Nat) (bs : List Byte) : (s.setMemBytes a bs).fixValid = s.fixValid := rfl
@[simp] theorem setMemBytes_sliceCfgs (a : Nat) (bs : List Byte) : (s.setMemBytes a bs).sliceCfgs = s.sliceCfgs := rfl
@[simp] theorem setMemBytes_slices (a : Nat) (bs : List Byte) : (s.setMemBytes a bs).slices = s.slices := rfl
@[simp] theorem setMemBytes_ranks (a : Nat) (bs : List Byte) : (s.setMemBytes a bs).ranks = s.ranks := rfl
@[simp] theorem setMemBytes_pms (a : Nat) (bs : List Byte) : (s.setMemBytes a bs).pms = s.pms := rfl
@[simp] theorem setMemBytes_pmus (a : Nat) (bs : List Byte) : (s.setMemBytes a bs).pmus = s.pmus := rfl
@[simp] theorem setMemBytes_tokens (a : Nat) (bs : List Byte) : (s.setMemBytes a bs).tokens = s.tokens := rfl
@[simp] theorem setMemBytes_xcr (a : Nat) (bs : List Byte) : (s.setMemBytes a bs).xcr = s.xcr := rfl
@[simp] theorem setMemBytes_near (a : Nat) (bs : List Byte) : (s.setMemBytes a bs).near = s.near := rfl
@[simp] theorem setMemBytes_nears (a : Nat) (bs : List Byte) : (s.setMemBytes a bs).nears = s.nears := rfl
@[simp] theorem setMemBytes_k0Denied (a : Nat) (bs : List Byte) : (s.setMemBytes a bs).k0Denied = s.k0Denied := rfl
@[simp] theorem setMemBytes_caves (a : Nat) (bs : List Byte) : (s.setMemBytes a bs).caves = s.caves := rfl
@[simp] theorem setMemBytes_cave (a : Nat) (bs : List Byte) : (s.setMemBytes a bs).cave = s.cave := rfl
@[simp] theorem setMemBytes_hw (a : Nat) (bs : List Byte) : (s.setMemBytes a bs).hw = s.hw := rfl
@[simp] theorem setMemBytes_ring (a : Nat) (bs : List Byte) : (s.setMemBytes a bs).ring = s.ring := rfl
@[simp] theorem setMemBytes_lbQueue (a : Nat) (bs : List Byte) : (s.setMemBytes a bs).lbQueue = s.lbQueue := rfl
@[simp] theorem setMemBytes_lbEngs (a : Nat) (bs : List Byte) : (s.setMemBytes a bs).lbEngs = s.lbEngs := rfl
@[simp] theorem setMemBytes_lbtx (a : Nat) (bs : List Byte) : (s.setMemBytes a bs).lbtx = s.lbtx := rfl
@[simp] theorem setMemBytes_noc (a : Nat) (bs : List Byte) : (s.setMemBytes a bs).noc = s.noc := rfl
@[simp] theorem setMemBytes_cores (a : Nat) (bs : List Byte) : (s.setMemBytes a bs).cores = s.cores := rfl
@[simp] theorem setMemBytes_resv (a : Nat) (bs : List Byte) : (s.setMemBytes a bs).resv = s.resv := rfl
@[simp] theorem setMemBytes_wx (a : Nat) (bs : List Byte) : (s.setMemBytes a bs).wx = s.wx := rfl
@[simp] theorem setMemBytes_shadows (a : Nat) (bs : List Byte) : (s.setMemBytes a bs).shadows = s.shadows := rfl
@[simp] theorem setMemBytes_dbg (a : Nat) (bs : List Byte) : (s.setMemBytes a bs).dbg = s.dbg := rfl
@[simp] theorem setMemBytes_frameFlips (a : Nat) (bs : List Byte) : (s.setMemBytes a bs).frameFlips = s.frameFlips := rfl
@[simp] theorem setMemBytes_frames (a : Nat) (bs : List Byte) : (s.setMemBytes a bs).frames = s.frames := rfl
@[simp] theorem setMemBytes_loader (a : Nat) (bs : List Byte) : (s.setMemBytes a bs).loader = s.loader := rfl
@[simp] theorem setMemBytes_flash (a : Nat) (bs : List Byte) : (s.setMemBytes a bs).flash = s.flash := rfl
@[simp] theorem setMemBytes_otp (a : Nat) (bs : List Byte) : (s.setMemBytes a bs).otp = s.otp := rfl
@[simp] theorem setMemBytes_clk (a : Nat) (bs : List Byte) : (s.setMemBytes a bs).clk = s.clk := rfl
@[simp] theorem setMemBytes_scm (a : Nat) (bs : List Byte) : (s.setMemBytes a bs).scm = s.scm := rfl
@[simp] theorem setMemBytes_failed (a : Nat) (bs : List Byte) : (s.setMemBytes a bs).failed = s.failed := rfl
@[simp] theorem setMemBytes_host (a : Nat) (bs : List Byte) : (s.setMemBytes a bs).host = s.host := rfl
@[simp] theorem setMemBytes_casc (a : Nat) (bs : List Byte) : (s.setMemBytes a bs).casc = s.casc := rfl
@[simp] theorem setMemBytes_warm (a : Nat) (bs : List Byte) : (s.setMemBytes a bs).warm = s.warm := rfl
@[simp] theorem setMemBytes_pt (a : Nat) (bs : List Byte) : (s.setMemBytes a bs).pt = s.pt := rfl
@[simp] theorem setMemBytes_ptRuns (a : Nat) (bs : List Byte) : (s.setMemBytes a bs).ptRuns = s.ptRuns := rfl
@[simp] theorem setMemBytes_log (a : Nat) (bs : List Byte) : (s.setMemBytes a bs).log = s.log := rfl
@[simp] theorem setMemBytes_free (a : Nat) (bs : List Byte) : (s.setMemBytes a bs).free = s.free := rfl
@[simp] theorem setMemBytes_out (a : Nat) (bs : List Byte) : (s.setMemBytes a bs).out = s.out := rfl
@[simp] theorem setMemBytes_pending (a : Nat) (bs : List Byte) : (s.setMemBytes a bs).pending = s.pending := rfl

/-! ### What they change -/

@[simp] theorem setWord_regs (r : RegName) (v : Word) (i j : Nat) :
    (s.setWord r v i j).regs = Tab.put (regReset r (i % 65536)) s.regs (regKey r i j) v := rfl
@[simp] theorem emit_out (o : Output) : (s.emit o).out = s.out ++ [o] := rfl
@[simp] theorem answer_out (st : Status) (data : Nat) (p : Bool) :
    (s.answer st data p).out = s.out ++ [.resp st data p] := rfl
@[simp] theorem setMemBytes_mem (a : Nat) (bs : List Byte) : (s.setMemBytes a bs).mem = Tab.putList 0 s.mem a bs := rfl

/-! ### A block and its clock -/

@[simp] theorem whenClocked_true (o : Out) : whenClocked true s o = o := rfl
@[simp] theorem whenClocked_false (o : Out) : whenClocked false s o = .next s := rfl

/-- A command of a clocked block has its effect, or changes nothing. -/
theorem whenClocked_next {runs : Bool} {o : Out} {t : State} (h : whenClocked runs s o = .next t) :
    runs = true ∧ o = .next t ∨ runs = false ∧ t = s := by
  cases runs with
  | true => exact .inl ⟨rfl, h⟩
  | false => exact .inr ⟨rfl, (Host.Outcome.next.inj h).symm⟩

end Sys2Proof.Machine
end

