-- ==== Sys2Proof/Laws/Table.lean ====
section
/-!
SUPPORT. The laws of sparse tables: a read after a write to the same key gives the value written, a write leaves every
other key alone, and every operation keeps the canonical form.
-/
namespace Sys2Proof.Machine

variable {α : Type}

theorem tab_look_set_same (t : Tab α) (k : Nat) (v : α) : Tab.look (Tab.set t k v) k = some v := by
  induction t with
  | nil => simp [Tab.set, Tab.look]
  | cons e t ih =>
    obtain ⟨a, w⟩ := e
    simp only [Tab.set]
    split
    · simp [Tab.look]
    · split
      · simp [Tab.look]
      · rename_i h1 h2
        have : a ≠ k := fun h => h2 h.symm
        simp [Tab.look, this, ih]

theorem tab_look_set_other (t : Tab α) (k j : Nat) (v : α) (h : j ≠ k) :
    Tab.look (Tab.set t k v) j = Tab.look t j := by
  induction t with
  | nil => simp [Tab.set, Tab.look, Ne.symm h]
  | cons e t ih =>
    obtain ⟨a, w⟩ := e
    simp only [Tab.set]
    split
    · simp [Tab.look, Ne.symm h]
    · split
      · rename_i h2; subst h2; simp [Tab.look, Ne.symm h]
      · simp [Tab.look, ih]

theorem tab_look_del_other (t : Tab α) (k j : Nat) (h : j ≠ k) :
    Tab.look (Tab.del t k) j = Tab.look t j := by
  induction t with
  | nil => simp [Tab.del]
  | cons e t ih =>
    obtain ⟨a, w⟩ := e
    simp only [Tab.del]
    split
    · rename_i h2; subst h2; simp [Tab.look, Ne.symm h, ih]
    · simp [Tab.look, ih]

theorem tab_look_del_same (t : Tab α) (k : Nat) : Tab.look (Tab.del t k) k = none := by
  induction t with
  | nil => rfl
  | cons e t ih =>
    obtain ⟨a, w⟩ := e
    simp only [Tab.del]
    split
    · exact ih
    · rename_i h2
      simp [Tab.look, h2, ih]

theorem tab_mem_set {t : Tab α} {k : Nat} {v : α} {e : Nat × α} (h : e ∈ Tab.set t k v) :
    e = (k, v) ∨ e ∈ t := by
  induction t with
  | nil => simp [Tab.set] at h; exact .inl h
  | cons x t ih =>
    obtain ⟨a, w⟩ := x
    simp only [Tab.set] at h
    split at h
    · simpa using h
    · split at h
      · simp at h; rcases h with h | h
        · exact .inl h
        · exact .inr (by simp [h])
      · simp at h; rcases h with h | h
        · exact .inr (by simp [h])
        · rcases ih h with h | h
          · exact .inl h
          · exact .inr (by simp [h])

theorem tab_mem_del {t : Tab α} {k : Nat} {e : Nat × α} (h : e ∈ Tab.del t k) : e ∈ t := by
  induction t with
  | nil => simp [Tab.del] at h
  | cons x t ih =>
    obtain ⟨a, w⟩ := x
    simp only [Tab.del] at h
    split at h
    · simp [ih h]
    · simp at h; rcases h with h | h
      · simp [h]
      · simp [ih h]

theorem tab_set_rising {t : Tab α} (k : Nat) (v : α) (hs : t.Pairwise (fun a b => a.1 < b.1)) :
    (Tab.set t k v).Pairwise (fun a b => a.1 < b.1) := by
  induction t with
  | nil => simp [Tab.set]
  | cons x t ih =>
    obtain ⟨a, w⟩ := x
    have hs' := hs
    rw [List.pairwise_cons] at hs
    simp only [Tab.set]
    split
    · rename_i h
      rw [List.pairwise_cons]
      refine ⟨fun e he => ?_, hs'⟩
      simp at he; rcases he with he | he
      · subst he; exact h
      · exact Nat.lt_trans h (hs.1 e he)
    · split
      · rename_i h; subst h
        rw [List.pairwise_cons]; exact ⟨hs.1, hs.2⟩
      · rw [List.pairwise_cons]
        refine ⟨fun e he => ?_, ih hs.2⟩
        rcases tab_mem_set he with h | h
        · subst h; simp; omega
        · exact hs.1 e h

theorem tab_del_rising {t : Tab α} (k : Nat) (hs : t.Pairwise (fun a b => a.1 < b.1)) :
    (Tab.del t k).Pairwise (fun a b => a.1 < b.1) := by
  induction t with
  | nil => simp [Tab.del]
  | cons x t ih =>
    obtain ⟨a, w⟩ := x
    rw [List.pairwise_cons] at hs
    simp only [Tab.del]
    split
    · exact ih hs.2
    · rw [List.pairwise_cons]
      exact ⟨fun e he => hs.1 e (tab_mem_del he), ih hs.2⟩

variable [DecidableEq α]

/-- A read after a write to the same key gives the value written. -/
theorem tab_get_put_same (d : α) (t : Tab α) (k : Nat) (v : α) : Tab.get d (Tab.put d t k v) k = v := by
  unfold Tab.put Tab.get
  split
  · rename_i h; simp [tab_look_del_same t k, h]
  · simp [tab_look_set_same]

/-- A write leaves every other key alone. -/
theorem tab_get_put_other (d d' : α) (t : Tab α) (k j : Nat) (v : α) (h : j ≠ k) :
    Tab.get d' (Tab.put d t k v) j = Tab.get d' t j := by
  unfold Tab.put Tab.get
  split
  · rw [tab_look_del_other t k j h]
  · rw [tab_look_set_other t k j v h]

/-- A write keeps the canonical form. -/
theorem tab_put_wf {d : Nat → α} {t : Tab α} (k : Nat) (v : α) (h : Tab.wf d t = true) :
    Tab.wf d (Tab.put (d k) t k v) = true := by
  simp only [Tab.wf, Bool.and_eq_true, decide_eq_true_eq, List.all_eq_true] at h ⊢
  unfold Tab.put
  split
  · exact ⟨tab_del_rising k h.1, fun e he => h.2 e (tab_mem_del he)⟩
  · rename_i hv
    refine ⟨tab_set_rising k v h.1, fun e he => ?_⟩
    rcases tab_mem_set he with he | he
    · subst he; simpa using hv
    · exact h.2 e he

end Sys2Proof.Machine
end

