-- ==== Sys2Proof/Laws/Regs.lean ====
section
/-!
SUPPORT. The laws of the register file: a field written reads back the value modulo its width; fields of other registers,
other indices and other bits of the same register are left alone. Also the canonical form of on-chip memory.
-/
namespace Sys2Proof.Machine

variable (s : State)

/-- Registers with indices below 65,536 have keys of their own. -/
theorem regKey_inj {r r' : RegName} {i i' j j' : Nat} (hi : i < 65536) (hi' : i' < 65536) (hj : j < 65536) (hj' : j' < 65536)
    (h : regKey r i j = regKey r' i' j') : r = r' ∧ i = i' ∧ j = j' := by
  simp only [regKey, Nat.mod_eq_of_lt hi, Nat.mod_eq_of_lt hi', Nat.mod_eq_of_lt hj, Nat.mod_eq_of_lt hj'] at h
  have h1 : r.ctorIdx = r'.ctorIdx := by omega
  refine ⟨?_, by omega, by omega⟩
  have a := RegName.ofNat_ctorIdx r
  have b := RegName.ofNat_ctorIdx r'
  rw [← a, ← b, h1]

/-- Keys of different registers differ. -/
theorem regKey_ne {r r' : RegName} (i i' j j' : Nat) (h : r ≠ r') : regKey r i j ≠ regKey r' i' j' := by
  intro e
  simp only [regKey] at e
  have h1 : r.ctorIdx = r'.ctorIdx := by
    have := Nat.mod_lt i (y := 65536) (by decide)
    have := Nat.mod_lt i' (y := 65536) (by decide)
    have := Nat.mod_lt j (y := 65536) (by decide)
    have := Nat.mod_lt j' (y := 65536) (by decide)
    omega
  have a := RegName.ofNat_ctorIdx r
  have b := RegName.ofNat_ctorIdx r'
  exact h (by rw [← a, ← b, h1])

/-- A register written reads as the word written. -/
@[simp] theorem word_setWord_same (r : RegName) (v : Word) (i j : Nat) : (s.setWord r v i j).word r i j = v := by
  simp [State.word, tab_get_put_same]

/-- Writing a register leaves every other key alone. -/
theorem word_setWord_key (r r' : RegName) (v : Word) (i j i' j' : Nat) (h : regKey r' i' j' ≠ regKey r i j) :
    (s.setWord r v i j).word r' i' j' = s.word r' i' j' := by
  simp [State.word, tab_get_put_other _ _ _ _ _ _ h]

/-- Writing a register leaves every other register alone. -/
theorem word_setWord_other (r r' : RegName) (v : Word) (i j i' j' : Nat) (h : r' ≠ r) :
    (s.setWord r v i j).word r' i' j' = s.word r' i' j' :=
  word_setWord_key s r r' v i j i' j' (regKey_ne _ _ _ _ h)

/-- A field of another register is left alone. -/
theorem get_put_other_reg (f g : Fld) (v i j i' j' : Nat) (h : g.reg ≠ f.reg) : (s.put f v i j).get g i' j' = s.get g i' j' := by
  simp only [State.get, State.put, word_setWord_other _ _ _ _ _ _ _ _ h]

/-- A field at another index is left alone. -/
theorem get_put_other_index (f g : Fld) (v i j i' j' : Nat) (h : regKey g.reg i' j' ≠ regKey f.reg i j) :
    (s.put f v i j).get g i' j' = s.get g i' j' := by
  simp only [State.get, State.put, word_setWord_key _ _ _ _ _ _ _ _ h]

/-- Bits of a number with a field replaced: inside the field, those of the value; outside, those of the number. -/
theorem testBit_setBits (w hi lo v k : Nat) (h : lo ≤ hi) :
    (setBits w hi lo v).testBit k = if lo ≤ k ∧ k ≤ hi then v.testBit (k - lo) else w.testBit k := by
  simp only [setBits, Nat.testBit_or, Nat.testBit_shiftLeft, Nat.testBit_shiftRight, Nat.testBit_mod_two_pow]
  by_cases h1 : k < lo
  · have h2 : ¬ lo ≤ k := by omega
    have h3 : ¬ hi + 1 ≤ k := by omega
    simp [h1, h2, h3]
  · by_cases h2 : k ≤ hi
    · have h3 : ¬ hi + 1 ≤ k := by omega
      have h4 : k - lo < hi + 1 - lo := by omega
      have h5 : lo ≤ k := by omega
      simp [h1, h2, h3, h4, h5]
    · have h3 : hi + 1 ≤ k := by omega
      have h4 : ¬ k - lo < hi + 1 - lo := by omega
      have h5 : hi + 1 + (k - (hi + 1)) = k := by omega
      simp [h1, h2, h3, h4, h5]

/-- The field just written reads as the value modulo its width. -/
theorem bits_setBits_same (w hi lo v : Nat) (h : lo ≤ hi) : bits (setBits w hi lo v) hi lo = v % 2 ^ (hi + 1 - lo) := by
  apply Nat.eq_of_testBit_eq
  intro k
  simp only [bits, Nat.testBit_mod_two_pow, Nat.testBit_shiftRight, testBit_setBits _ _ _ _ _ h]
  by_cases hk : k < hi + 1 - lo
  · have : lo + k ≤ hi := by omega
    simp [hk, this]
  · simp [hk]

/-- A field of other bits is left alone. -/
theorem bits_setBits_other (w hi lo v hi' lo' : Nat) (h : lo ≤ hi) (d : hi' < lo ∨ hi < lo') :
    bits (setBits w hi lo v) hi' lo' = bits w hi' lo' := by
  apply Nat.eq_of_testBit_eq
  intro k
  simp only [bits, Nat.testBit_mod_two_pow, Nat.testBit_shiftRight, testBit_setBits _ _ _ _ _ h]
  by_cases hk : k < hi' + 1 - lo'
  · have : ¬ (lo ≤ lo' + k ∧ lo' + k ≤ hi) := by omega
    simp [hk, this]
  · simp [hk]

/-- A field of a 32-bit register stays within 32 bits when a field of it is replaced. -/
theorem setBits_lt (w hi lo v : Nat) (h : lo ≤ hi) (h32 : hi ≤ 31) (hw : w < 2 ^ 32) : setBits w hi lo v < 2 ^ 32 := by
  apply Nat.lt_pow_two_of_testBit
  intro k hk
  rw [testBit_setBits _ _ _ _ _ h]
  have : ¬ (lo ≤ k ∧ k ≤ hi) := by omega
  simp only [this, if_false]
  exact Nat.testBit_lt_two_pow (Nat.lt_of_lt_of_le hw (Nat.pow_le_pow_right (by decide) hk))

/-- A field written reads back the value modulo its width. -/
theorem get_put_same (f : Fld) (v i j : Nat) (h : f.lo ≤ f.hi) (h32 : f.hi ≤ 31) :
    (s.put f v i j).get f i j = v % 2 ^ f.width := by
  simp only [State.get, State.put, word_setWord_same, BitVec.toNat_ofNat]
  rw [Nat.mod_eq_of_lt (setBits_lt _ _ _ _ h h32 (s.word f.reg i j).isLt)]
  exact bits_setBits_same _ _ _ _ h

/-- Another field of the same register is left alone. -/
theorem get_put_other_bits (f g : Fld) (v i j : Nat) (hr : g.reg = f.reg) (h : f.lo ≤ f.hi) (h32 : f.hi ≤ 31)
    (d : g.hi < f.lo ∨ f.hi < g.lo) : (s.put f v i j).get g i j = s.get g i j := by
  simp only [State.get, State.put, hr, word_setWord_same, BitVec.toNat_ofNat]
  rw [Nat.mod_eq_of_lt (setBits_lt _ _ _ _ h h32 (s.word f.reg i j).isLt)]
  exact bits_setBits_other _ _ _ _ _ _ h d

/-- A field's value is below 2 to its width. -/
theorem get_lt (f : Fld) (i j : Nat) : s.get f i j < 2 ^ f.width := Nat.mod_lt _ (Nat.two_pow_pos _)

/-! ### On-chip memory keeps its canonical form -/

theorem tab_putList_wf {α : Type} [DecidableEq α] {d : α} {t : Tab α} (k : Nat) (vs : List α)
    (h : Tab.wf (fun _ => d) t = true) : Tab.wf (fun _ => d) (Tab.putList d t k vs) = true := by
  induction vs generalizing t k with
  | nil => exact h
  | cons v vs ih => exact ih (k + 1) (tab_put_wf k v h)

theorem tab_filter_wf {α : Type} [DecidableEq α] {d : Nat → α} {t : Tab α} (p : Nat × α → Bool) (h : Tab.wf d t = true) :
    Tab.wf d (t.filter p) = true := by
  simp only [Tab.wf, Bool.and_eq_true, decide_eq_true_eq, List.all_eq_true] at h ⊢
  exact ⟨h.1.filter p, fun e he => h.2 e (List.mem_filter.mp he).1⟩

/-- Writing bytes keeps the canonical form. -/
theorem setMemBytes_wf (a : Nat) (bs : List Byte) (h : memWf s.mem = true) : memWf (s.setMemBytes a bs).mem = true :=
  tab_putList_wf a bs h

/-- The memory after reset has the canonical form. -/
theorem reset_memWf : memWf State.reset.mem = true := rfl

end Sys2Proof.Machine
end

