-- ==== Sys2Proof/Laws/Events.lean ====
section
/-!
SUPPORT. What sending, logging and reporting an event leave alone: everything but the registers of the event and blotter
counts, the sessions, the log and what has been sent.
-/
namespace Sys2Proof.Machine

variable (s : State)

theorem foldl_keep {α β : Type} (f : State → α → State) (g : State → β) (h : ∀ t x, g (f t x) = g t) (l : List α) :
    ∀ s, g (l.foldl f s) = g s := by
  induction l with
  | nil => intro s; rfl
  | cons x l ih => intro s; rw [List.foldl_cons, ih, h]

/-- A function of the state that survives register writes to the counts of events, sessions, the log and what is sent. -/
structure EventFrame {β : Type} (g : State → β) : Prop where
  emit : ∀ s o, g (s.emit o) = g s
  host : ∀ s h, g { s with host := h } = g s
  log : ∀ s l, g { s with log := l } = g s
  put : ∀ (s : State) (f : Fld) v, f.reg = .ethErr ∨ f.reg = .ethEvtNext ∨ f.reg = .scmBlotNext ∨ f.reg = .scmBlotDrop ∨ f.reg = .scmErr →
    g (s.put f v) = g s

theorem EventFrame.sendVcp {β : Type} {g : State → β} (h : EventFrame g) (d : Peer) (b : List Nat) : g (s.sendVcp d b) = g s := by
  simp only [State.sendVcp, State.sendEth, State.drive]
  split
  · split
    · rfl
    · exact h.emit _ _
  · rfl

theorem EventFrame.modSess {β : Type} {g : State → β} (h : EventFrame g) (k : Nat) (f : Session → Session) :
    g (s.modSess k f) = g s := h.host _ _

theorem EventFrame.eventTo {β : Type} {g : State → β} (h : EventFrame g) (e : EvEntry) (k : Nat) (a b : Option (Nat × Nat)) :
    g (eventTo e k a b s) = g s := by
  cases a with
  | none => exact h.put _ _ _ (Or.inl rfl)
  | some u =>
    cases b with
    | none => exact h.put _ _ _ (Or.inl rfl)
    | some v => exact (h.sendVcp _ _ _).trans ((h.host _ _).trans (h.modSess _ _ _))

theorem EventFrame.sendEvent {β : Type} {g : State → β} (h : EventFrame g) (e : EvEntry) (a : Option Nat) :
    g (sendEvent e a s) = g s := by
  unfold Sys2Proof.Machine.sendEvent
  refine foldl_keep _ g ?_ _ _
  intro t x
  dsimp only
  split
  · rw [h.eventTo, h.modSess]
  · rfl

theorem EventFrame.logEvent {β : Type} {g : State → β} (h : EventFrame g) (c o v : Nat)
    (m : Option (Nat × Nat × Nat × Nat × List Byte)) (a : Option Nat) : g (s.logEvent c o v m a) = g s := by
  rw [State.logEvent, h.sendEvent, h.log, h.put _ _ _ (Or.inr (Or.inl rfl))]

theorem EventFrame.blot {β : Type} {g : State → β} (h : EventFrame g) (c v d : Nat) : g (s.blot c v d) = g s := by
  have e : g ((s.addSat F.scmBlotDropVal 1).flag F.scmErrBlotterDrop) = g s := by
    rw [State.flag, h.put _ _ _ (by decide), State.addSat, h.put _ _ _ (by decide)]
  rw [State.blot]
  split
  · rw [h.log, h.put _ _ _ (by decide)]
  · dsimp only
    split
    · exact e
    · rw [h.logEvent, h.log, e]

theorem EventFrame.raise {β : Type} {g : State → β} (h : EventFrame g) (e : Ev) (o v : Nat) : g (s.raise e o v) = g s := by
  rw [State.raise, h.blot, h.logEvent]

/-- A register outside the event counts survives. -/
theorem eventFrame_word (r : RegName) (i j : Nat)
    (hr : r ≠ .ethErr ∧ r ≠ .ethEvtNext ∧ r ≠ .scmBlotNext ∧ r ≠ .scmBlotDrop ∧ r ≠ .scmErr) :
    EventFrame (fun s => s.word r i j) where
  emit _ _ := rfl
  host _ _ := rfl
  log _ _ := rfl
  put s f v h := by
    obtain ⟨h1, h2, h3, h4, h5⟩ := hr
    refine word_setWord_other s f.reg r _ 0 0 i j ?_
    rintro rfl
    rcases h with h | h | h | h | h <;> contradiction

/-- A field outside the event counts survives an event. -/
theorem get_raise (e : Ev) (o v : Nat) (f : Fld) (i j : Nat)
    (hr : f.reg ≠ .ethErr ∧ f.reg ≠ .ethEvtNext ∧ f.reg ≠ .scmBlotNext ∧ f.reg ≠ .scmBlotDrop ∧ f.reg ≠ .scmErr) :
    (s.raise e o v).get f i j = s.get f i j := by
  have := (eventFrame_word f.reg i j hr).raise s e o v
  simp only [State.get, this]

/-- A field outside the event counts survives a blotter record. -/
theorem get_blot (c o v : Nat) (f : Fld) (i j : Nat)
    (hr : f.reg ≠ .ethErr ∧ f.reg ≠ .ethEvtNext ∧ f.reg ≠ .scmBlotNext ∧ f.reg ≠ .scmBlotDrop ∧ f.reg ≠ .scmErr) :
    (s.blot c o v).get f i j = s.get f i j := by
  have := (eventFrame_word f.reg i j hr).blot s c o v
  simp only [State.get, this]

theorem eventFrame_mem : EventFrame (fun s => s.mem) := ⟨fun _ _ => rfl, fun _ _ => rfl, fun _ _ => rfl, fun _ _ _ _ => rfl⟩
theorem eventFrame_syn : EventFrame (fun s => s.syn) := ⟨fun _ _ => rfl, fun _ _ => rfl, fun _ _ => rfl, fun _ _ _ _ => rfl⟩
theorem eventFrame_banks : EventFrame (fun s => s.banks) := ⟨fun _ _ => rfl, fun _ _ => rfl, fun _ _ => rfl, fun _ _ _ _ => rfl⟩
theorem eventFrame_scrubs : EventFrame (fun s => s.scrubs) := ⟨fun _ _ => rfl, fun _ _ => rfl, fun _ _ => rfl, fun _ _ _ _ => rfl⟩
theorem eventFrame_ended : EventFrame (fun s => s.ended) := ⟨fun _ _ => rfl, fun _ _ => rfl, fun _ _ => rfl, fun _ _ _ _ => rfl⟩
theorem eventFrame_doms : EventFrame (fun s => s.doms) := ⟨fun _ _ => rfl, fun _ _ => rfl, fun _ _ => rfl, fun _ _ _ _ => rfl⟩
theorem eventFrame_mt : EventFrame (fun s => s.mt) := ⟨fun _ _ => rfl, fun _ _ => rfl, fun _ _ => rfl, fun _ _ _ _ => rfl⟩
theorem eventFrame_lanes : EventFrame (fun s => s.lanes) := ⟨fun _ _ => rfl, fun _ _ => rfl, fun _ _ => rfl, fun _ _ _ _ => rfl⟩
theorem eventFrame_bundles : EventFrame (fun s => s.bundles) := ⟨fun _ _ => rfl, fun _ _ => rfl, fun _ _ => rfl, fun _ _ _ _ => rfl⟩
theorem eventFrame_txTripped : EventFrame (fun s => s.txTripped) := ⟨fun _ _ => rfl, fun _ _ => rfl, fun _ _ => rfl, fun _ _ _ _ => rfl⟩
theorem eventFrame_spans : EventFrame (fun s => s.spans) := ⟨fun _ _ => rfl, fun _ _ => rfl, fun _ _ => rfl, fun _ _ _ _ => rfl⟩
theorem eventFrame_pins : EventFrame (fun s => s.pins) := ⟨fun _ _ => rfl, fun _ _ => rfl, fun _ _ => rfl, fun _ _ _ _ => rfl⟩
theorem eventFrame_hoops : EventFrame (fun s => s.hoops) := ⟨fun _ _ => rfl, fun _ _ => rfl, fun _ _ => rfl, fun _ _ _ _ => rfl⟩
theorem eventFrame_badFrames : EventFrame (fun s => s.badFrames) := ⟨fun _ _ => rfl, fun _ _ => rfl, fun _ _ => rfl, fun _ _ _ _ => rfl⟩
theorem eventFrame_startRefused : EventFrame (fun s => s.startRefused) := ⟨fun _ _ => rfl, fun _ _ => rfl, fun _ _ => rfl, fun _ _ _ _ => rfl⟩
theorem eventFrame_groupAt : EventFrame (fun s => s.groupAt) := ⟨fun _ _ => rfl, fun _ _ => rfl, fun _ _ => rfl, fun _ _ _ _ => rfl⟩
theorem eventFrame_fixValid : EventFrame (fun s => s.fixValid) := ⟨fun _ _ => rfl, fun _ _ => rfl, fun _ _ => rfl, fun _ _ _ _ => rfl⟩
theorem eventFrame_sliceCfgs : EventFrame (fun s => s.sliceCfgs) := ⟨fun _ _ => rfl, fun _ _ => rfl, fun _ _ => rfl, fun _ _ _ _ => rfl⟩
theorem eventFrame_slices : EventFrame (fun s => s.slices) := ⟨fun _ _ => rfl, fun _ _ => rfl, fun _ _ => rfl, fun _ _ _ _ => rfl⟩
theorem eventFrame_ranks : EventFrame (fun s => s.ranks) := ⟨fun _ _ => rfl, fun _ _ => rfl, fun _ _ => rfl, fun _ _ _ _ => rfl⟩
theorem eventFrame_pms : EventFrame (fun s => s.pms) := ⟨fun _ _ => rfl, fun _ _ => rfl, fun _ _ => rfl, fun _ _ _ _ => rfl⟩
theorem eventFrame_pmus : EventFrame (fun s => s.pmus) := ⟨fun _ _ => rfl, fun _ _ => rfl, fun _ _ => rfl, fun _ _ _ _ => rfl⟩
theorem eventFrame_tokens : EventFrame (fun s => s.tokens) := ⟨fun _ _ => rfl, fun _ _ => rfl, fun _ _ => rfl, fun _ _ _ _ => rfl⟩
theorem eventFrame_xcr : EventFrame (fun s => s.xcr) := ⟨fun _ _ => rfl, fun _ _ => rfl, fun _ _ => rfl, fun _ _ _ _ => rfl⟩
theorem eventFrame_near : EventFrame (fun s => s.near) := ⟨fun _ _ => rfl, fun _ _ => rfl, fun _ _ => rfl, fun _ _ _ _ => rfl⟩
theorem eventFrame_nears : EventFrame (fun s => s.nears) := ⟨fun _ _ => rfl, fun _ _ => rfl, fun _ _ => rfl, fun _ _ _ _ => rfl⟩
theorem eventFrame_caves : EventFrame (fun s => s.caves) := ⟨fun _ _ => rfl, fun _ _ => rfl, fun _ _ => rfl, fun _ _ _ _ => rfl⟩
theorem eventFrame_cave : EventFrame (fun s => s.cave) := ⟨fun _ _ => rfl, fun _ _ => rfl, fun _ _ => rfl, fun _ _ _ _ => rfl⟩
theorem eventFrame_hw : EventFrame (fun s => s.hw) := ⟨fun _ _ => rfl, fun _ _ => rfl, fun _ _ => rfl, fun _ _ _ _ => rfl⟩
theorem eventFrame_ring : EventFrame (fun s => s.ring) := ⟨fun _ _ => rfl, fun _ _ => rfl, fun _ _ => rfl, fun _ _ _ _ => rfl⟩
theorem eventFrame_lbQueue : EventFrame (fun s => s.lbQueue) := ⟨fun _ _ => rfl, fun _ _ => rfl, fun _ _ => rfl, fun _ _ _ _ => rfl⟩
theorem eventFrame_lbEngs : EventFrame (fun s => s.lbEngs) := ⟨fun _ _ => rfl, fun _ _ => rfl, fun _ _ => rfl, fun _ _ _ _ => rfl⟩
theorem eventFrame_lbtx : EventFrame (fun s => s.lbtx) := ⟨fun _ _ => rfl, fun _ _ => rfl, fun _ _ => rfl, fun _ _ _ _ => rfl⟩
theorem eventFrame_noc : EventFrame (fun s => s.noc) := ⟨fun _ _ => rfl, fun _ _ => rfl, fun _ _ => rfl, fun _ _ _ _ => rfl⟩
theorem eventFrame_cores : EventFrame (fun s => s.cores) := ⟨fun _ _ => rfl, fun _ _ => rfl, fun _ _ => rfl, fun _ _ _ _ => rfl⟩
theorem eventFrame_resv : EventFrame (fun s => s.resv) := ⟨fun _ _ => rfl, fun _ _ => rfl, fun _ _ => rfl, fun _ _ _ _ => rfl⟩
theorem eventFrame_wx : EventFrame (fun s => s.wx) := ⟨fun _ _ => rfl, fun _ _ => rfl, fun _ _ => rfl, fun _ _ _ _ => rfl⟩
theorem eventFrame_shadows : EventFrame (fun s => s.shadows) := ⟨fun _ _ => rfl, fun _ _ => rfl, fun _ _ => rfl, fun _ _ _ _ => rfl⟩
theorem eventFrame_dbg : EventFrame (fun s => s.dbg) := ⟨fun _ _ => rfl, fun _ _ => rfl, fun _ _ => rfl, fun _ _ _ _ => rfl⟩
theorem eventFrame_frames : EventFrame (fun s => s.frames) := ⟨fun _ _ => rfl, fun _ _ => rfl, fun _ _ => rfl, fun _ _ _ _ => rfl⟩
theorem eventFrame_loader : EventFrame (fun s => s.loader) := ⟨fun _ _ => rfl, fun _ _ => rfl, fun _ _ => rfl, fun _ _ _ _ => rfl⟩
theorem eventFrame_flash : EventFrame (fun s => s.flash) := ⟨fun _ _ => rfl, fun _ _ => rfl, fun _ _ => rfl, fun _ _ _ _ => rfl⟩
theorem eventFrame_otp : EventFrame (fun s => s.otp) := ⟨fun _ _ => rfl, fun _ _ => rfl, fun _ _ => rfl, fun _ _ _ _ => rfl⟩
theorem eventFrame_clk : EventFrame (fun s => s.clk) := ⟨fun _ _ => rfl, fun _ _ => rfl, fun _ _ => rfl, fun _ _ _ _ => rfl⟩
theorem eventFrame_scm : EventFrame (fun s => s.scm) := ⟨fun _ _ => rfl, fun _ _ => rfl, fun _ _ => rfl, fun _ _ _ _ => rfl⟩
theorem eventFrame_failed : EventFrame (fun s => s.failed) := ⟨fun _ _ => rfl, fun _ _ => rfl, fun _ _ => rfl, fun _ _ _ _ => rfl⟩
theorem eventFrame_casc : EventFrame (fun s => s.casc) := ⟨fun _ _ => rfl, fun _ _ => rfl, fun _ _ => rfl, fun _ _ _ _ => rfl⟩
theorem eventFrame_warm : EventFrame (fun s => s.warm) := ⟨fun _ _ => rfl, fun _ _ => rfl, fun _ _ => rfl, fun _ _ _ _ => rfl⟩
theorem eventFrame_pt : EventFrame (fun s => s.pt) := ⟨fun _ _ => rfl, fun _ _ => rfl, fun _ _ => rfl, fun _ _ _ _ => rfl⟩
theorem eventFrame_ptRuns : EventFrame (fun s => s.ptRuns) := ⟨fun _ _ => rfl, fun _ _ => rfl, fun _ _ => rfl, fun _ _ _ _ => rfl⟩
theorem eventFrame_free : EventFrame (fun s => s.free) := ⟨fun _ _ => rfl, fun _ _ => rfl, fun _ _ => rfl, fun _ _ _ _ => rfl⟩
theorem eventFrame_pending : EventFrame (fun s => s.pending) := ⟨fun _ _ => rfl, fun _ _ => rfl, fun _ _ => rfl, fun _ _ _ _ => rfl⟩

@[simp] theorem raise_mem (e : Ev) (o v : Nat) : (s.raise e o v).mem = s.mem := (eventFrame_mem).raise s e o v
@[simp] theorem raise_syn (e : Ev) (o v : Nat) : (s.raise e o v).syn = s.syn := (eventFrame_syn).raise s e o v
@[simp] theorem raise_banks (e : Ev) (o v : Nat) : (s.raise e o v).banks = s.banks := (eventFrame_banks).raise s e o v
@[simp] theorem raise_scrubs (e : Ev) (o v : Nat) : (s.raise e o v).scrubs = s.scrubs := (eventFrame_scrubs).raise s e o v
@[simp] theorem raise_ended (e : Ev) (o v : Nat) : (s.raise e o v).ended = s.ended := (eventFrame_ended).raise s e o v
@[simp] theorem raise_doms (e : Ev) (o v : Nat) : (s.raise e o v).doms = s.doms := (eventFrame_doms).raise s e o v
@[simp] theorem raise_mt (e : Ev) (o v : Nat) : (s.raise e o v).mt = s.mt := (eventFrame_mt).raise s e o v
@[simp] theorem raise_lanes (e : Ev) (o v : Nat) : (s.raise e o v).lanes = s.lanes := (eventFrame_lanes).raise s e o v
@[simp] theorem raise_bundles (e : Ev) (o v : Nat) : (s.raise e o v).bundles = s.bundles := (eventFrame_bundles).raise s e o v
@[simp] theorem raise_txTripped (e : Ev) (o v : Nat) : (s.raise e o v).txTripped = s.txTripped := (eventFrame_txTripped).raise s e o v
@[simp] theorem raise_spans (e : Ev) (o v : Nat) : (s.raise e o v).spans = s.spans := (eventFrame_spans).raise s e o v
@[simp] theorem raise_pins (e : Ev) (o v : Nat) : (s.raise e o v).pins = s.pins := (eventFrame_pins).raise s e o v
@[simp] theorem raise_hoops (e : Ev) (o v : Nat) : (s.raise e o v).hoops = s.hoops := (eventFrame_hoops).raise s e o v
@[simp] theorem raise_badFrames (e : Ev) (o v : Nat) : (s.raise e o v).badFrames = s.badFrames := (eventFrame_badFrames).raise s e o v
@[simp] theorem raise_startRefused (e : Ev) (o v : Nat) : (s.raise e o v).startRefused = s.startRefused := (eventFrame_startRefused).raise s e o v
@[simp] theorem raise_groupAt (e : Ev) (o v : Nat) : (s.raise e o v).groupAt = s.groupAt := (eventFrame_groupAt).raise s e o v
@[simp] theorem raise_fixValid (e : Ev) (o v : Nat) : (s.raise e o v).fixValid = s.fixValid := (eventFrame_fixValid).raise s e o v
@[simp] theorem raise_sliceCfgs (e : Ev) (o v : Nat) : (s.raise e o v).sliceCfgs = s.sliceCfgs := (eventFrame_sliceCfgs).raise s e o v
@[simp] theorem raise_slices (e : Ev) (o v : Nat) : (s.raise e o v).slices = s.slices := (eventFrame_slices).raise s e o v
@[simp] theorem raise_ranks (e : Ev) (o v : Nat) : (s.raise e o v).ranks = s.ranks := (eventFrame_ranks).raise s e o v
@[simp] theorem raise_pms (e : Ev) (o v : Nat) : (s.raise e o v).pms = s.pms := (eventFrame_pms).raise s e o v
@[simp] theorem raise_pmus (e : Ev) (o v : Nat) : (s.raise e o v).pmus = s.pmus := (eventFrame_pmus).raise s e o v
@[simp] theorem raise_tokens (e : Ev) (o v : Nat) : (s.raise e o v).tokens = s.tokens := (eventFrame_tokens).raise s e o v
@[simp] theorem raise_xcr (e : Ev) (o v : Nat) : (s.raise e o v).xcr = s.xcr := (eventFrame_xcr).raise s e o v
@[simp] theorem raise_near (e : Ev) (o v : Nat) : (s.raise e o v).near = s.near := (eventFrame_near).raise s e o v
@[simp] theorem raise_nears (e : Ev) (o v : Nat) : (s.raise e o v).nears = s.nears := (eventFrame_nears).raise s e o v
@[simp] theorem raise_caves (e : Ev) (o v : Nat) : (s.raise e o v).caves = s.caves := (eventFrame_caves).raise s e o v
@[simp] theorem raise_cave (e : Ev) (o v : Nat) : (s.raise e o v).cave = s.cave := (eventFrame_cave).raise s e o v
@[simp] theorem raise_hw (e : Ev) (o v : Nat) : (s.raise e o v).hw = s.hw := (eventFrame_hw).raise s e o v
@[simp] theorem raise_ring (e : Ev) (o v : Nat) : (s.raise e o v).ring = s.ring := (eventFrame_ring).raise s e o v
@[simp] theorem raise_lbQueue (e : Ev) (o v : Nat) : (s.raise e o v).lbQueue = s.lbQueue := (eventFrame_lbQueue).raise s e o v
@[simp] theorem raise_lbEngs (e : Ev) (o v : Nat) : (s.raise e o v).lbEngs = s.lbEngs := (eventFrame_lbEngs).raise s e o v
@[simp] theorem raise_lbtx (e : Ev) (o v : Nat) : (s.raise e o v).lbtx = s.lbtx := (eventFrame_lbtx).raise s e o v
@[simp] theorem raise_noc (e : Ev) (o v : Nat) : (s.raise e o v).noc = s.noc := (eventFrame_noc).raise s e o v
@[simp] theorem raise_cores (e : Ev) (o v : Nat) : (s.raise e o v).cores = s.cores := (eventFrame_cores).raise s e o v
@[simp] theorem raise_resv (e : Ev) (o v : Nat) : (s.raise e o v).resv = s.resv := (eventFrame_resv).raise s e o v
@[simp] theorem raise_wx (e : Ev) (o v : Nat) : (s.raise e o v).wx = s.wx := (eventFrame_wx).raise s e o v
@[simp] theorem raise_shadows (e : Ev) (o v : Nat) : (s.raise e o v).shadows = s.shadows := (eventFrame_shadows).raise s e o v
@[simp] theorem raise_dbg (e : Ev) (o v : Nat) : (s.raise e o v).dbg = s.dbg := (eventFrame_dbg).raise s e o v
@[simp] theorem raise_frames (e : Ev) (o v : Nat) : (s.raise e o v).frames = s.frames := (eventFrame_frames).raise s e o v
@[simp] theorem raise_loader (e : Ev) (o v : Nat) : (s.raise e o v).loader = s.loader := (eventFrame_loader).raise s e o v
@[simp] theorem raise_flash (e : Ev) (o v : Nat) : (s.raise e o v).flash = s.flash := (eventFrame_flash).raise s e o v
@[simp] theorem raise_otp (e : Ev) (o v : Nat) : (s.raise e o v).otp = s.otp := (eventFrame_otp).raise s e o v
@[simp] theorem raise_clk (e : Ev) (o v : Nat) : (s.raise e o v).clk = s.clk := (eventFrame_clk).raise s e o v
@[simp] theorem raise_scm (e : Ev) (o v : Nat) : (s.raise e o v).scm = s.scm := (eventFrame_scm).raise s e o v
@[simp] theorem raise_failed (e : Ev) (o v : Nat) : (s.raise e o v).failed = s.failed := (eventFrame_failed).raise s e o v
@[simp] theorem raise_casc (e : Ev) (o v : Nat) : (s.raise e o v).casc = s.casc := (eventFrame_casc).raise s e o v
@[simp] theorem raise_warm (e : Ev) (o v : Nat) : (s.raise e o v).warm = s.warm := (eventFrame_warm).raise s e o v
@[simp] theorem raise_pt (e : Ev) (o v : Nat) : (s.raise e o v).pt = s.pt := (eventFrame_pt).raise s e o v
@[simp] theorem raise_ptRuns (e : Ev) (o v : Nat) : (s.raise e o v).ptRuns = s.ptRuns := (eventFrame_ptRuns).raise s e o v
@[simp] theorem raise_free (e : Ev) (o v : Nat) : (s.raise e o v).free = s.free := (eventFrame_free).raise s e o v
@[simp] theorem raise_pending (e : Ev) (o v : Nat) : (s.raise e o v).pending = s.pending := (eventFrame_pending).raise s e o v

@[simp] theorem blot_mem (c o v : Nat) : (s.blot c o v).mem = s.mem := (eventFrame_mem).blot s c o v
@[simp] theorem blot_syn (c o v : Nat) : (s.blot c o v).syn = s.syn := (eventFrame_syn).blot s c o v
@[simp] theorem blot_banks (c o v : Nat) : (s.blot c o v).banks = s.banks := (eventFrame_banks).blot s c o v
@[simp] theorem blot_scrubs (c o v : Nat) : (s.blot c o v).scrubs = s.scrubs := (eventFrame_scrubs).blot s c o v
@[simp] theorem blot_ended (c o v : Nat) : (s.blot c o v).ended = s.ended := (eventFrame_ended).blot s c o v
@[simp] theorem blot_doms (c o v : Nat) : (s.blot c o v).doms = s.doms := (eventFrame_doms).blot s c o v
@[simp] theorem blot_mt (c o v : Nat) : (s.blot c o v).mt = s.mt := (eventFrame_mt).blot s c o v
@[simp] theorem blot_lanes (c o v : Nat) : (s.blot c o v).lanes = s.lanes := (eventFrame_lanes).blot s c o v
@[simp] theorem blot_bundles (c o v : Nat) : (s.blot c o v).bundles = s.bundles := (eventFrame_bundles).blot s c o v
@[simp] theorem blot_txTripped (c o v : Nat) : (s.blot c o v).txTripped = s.txTripped := (eventFrame_txTripped).blot s c o v
@[simp] theorem blot_spans (c o v : Nat) : (s.blot c o v).spans = s.spans := (eventFrame_spans).blot s c o v
@[simp] theorem blot_pins (c o v : Nat) : (s.blot c o v).pins = s.pins := (eventFrame_pins).blot s c o v
@[simp] theorem blot_hoops (c o v : Nat) : (s.blot c o v).hoops = s.hoops := (eventFrame_hoops).blot s c o v
@[simp] theorem blot_badFrames (c o v : Nat) : (s.blot c o v).badFrames = s.badFrames := (eventFrame_badFrames).blot s c o v
@[simp] theorem blot_startRefused (c o v : Nat) : (s.blot c o v).startRefused = s.startRefused := (eventFrame_startRefused).blot s c o v
@[simp] theorem blot_groupAt (c o v : Nat) : (s.blot c o v).groupAt = s.groupAt := (eventFrame_groupAt).blot s c o v
@[simp] theorem blot_fixValid (c o v : Nat) : (s.blot c o v).fixValid = s.fixValid := (eventFrame_fixValid).blot s c o v
@[simp] theorem blot_sliceCfgs (c o v : Nat) : (s.blot c o v).sliceCfgs = s.sliceCfgs := (eventFrame_sliceCfgs).blot s c o v
@[simp] theorem blot_slices (c o v : Nat) : (s.blot c o v).slices = s.slices := (eventFrame_slices).blot s c o v
@[simp] theorem blot_ranks (c o v : Nat) : (s.blot c o v).ranks = s.ranks := (eventFrame_ranks).blot s c o v
@[simp] theorem blot_pms (c o v : Nat) : (s.blot c o v).pms = s.pms := (eventFrame_pms).blot s c o v
@[simp] theorem blot_pmus (c o v : Nat) : (s.blot c o v).pmus = s.pmus := (eventFrame_pmus).blot s c o v
@[simp] theorem blot_tokens (c o v : Nat) : (s.blot c o v).tokens = s.tokens := (eventFrame_tokens).blot s c o v
@[simp] theorem blot_xcr (c o v : Nat) : (s.blot c o v).xcr = s.xcr := (eventFrame_xcr).blot s c o v
@[simp] theorem blot_near (c o v : Nat) : (s.blot c o v).near = s.near := (eventFrame_near).blot s c o v
@[simp] theorem blot_nears (c o v : Nat) : (s.blot c o v).nears = s.nears := (eventFrame_nears).blot s c o v
@[simp] theorem blot_caves (c o v : Nat) : (s.blot c o v).caves = s.caves := (eventFrame_caves).blot s c o v
@[simp] theorem blot_cave (c o v : Nat) : (s.blot c o v).cave = s.cave := (eventFrame_cave).blot s c o v
@[simp] theorem blot_hw (c o v : Nat) : (s.blot c o v).hw = s.hw := (eventFrame_hw).blot s c o v
@[simp] theorem blot_ring (c o v : Nat) : (s.blot c o v).ring = s.ring := (eventFrame_ring).blot s c o v
@[simp] theorem blot_lbQueue (c o v : Nat) : (s.blot c o v).lbQueue = s.lbQueue := (eventFrame_lbQueue).blot s c o v
@[simp] theorem blot_lbEngs (c o v : Nat) : (s.blot c o v).lbEngs = s.lbEngs := (eventFrame_lbEngs).blot s c o v
@[simp] theorem blot_lbtx (c o v : Nat) : (s.blot c o v).lbtx = s.lbtx := (eventFrame_lbtx).blot s c o v
@[simp] theorem blot_noc (c o v : Nat) : (s.blot c o v).noc = s.noc := (eventFrame_noc).blot s c o v
@[simp] theorem blot_cores (c o v : Nat) : (s.blot c o v).cores = s.cores := (eventFrame_cores).blot s c o v
@[simp] theorem blot_resv (c o v : Nat) : (s.blot c o v).resv = s.resv := (eventFrame_resv).blot s c o v
@[simp] theorem blot_wx (c o v : Nat) : (s.blot c o v).wx = s.wx := (eventFrame_wx).blot s c o v
@[simp] theorem blot_shadows (c o v : Nat) : (s.blot c o v).shadows = s.shadows := (eventFrame_shadows).blot s c o v
@[simp] theorem blot_dbg (c o v : Nat) : (s.blot c o v).dbg = s.dbg := (eventFrame_dbg).blot s c o v
@[simp] theorem blot_frames (c o v : Nat) : (s.blot c o v).frames = s.frames := (eventFrame_frames).blot s c o v
@[simp] theorem blot_loader (c o v : Nat) : (s.blot c o v).loader = s.loader := (eventFrame_loader).blot s c o v
@[simp] theorem blot_flash (c o v : Nat) : (s.blot c o v).flash = s.flash := (eventFrame_flash).blot s c o v
@[simp] theorem blot_otp (c o v : Nat) : (s.blot c o v).otp = s.otp := (eventFrame_otp).blot s c o v
@[simp] theorem blot_clk (c o v : Nat) : (s.blot c o v).clk = s.clk := (eventFrame_clk).blot s c o v
@[simp] theorem blot_scm (c o v : Nat) : (s.blot c o v).scm = s.scm := (eventFrame_scm).blot s c o v
@[simp] theorem blot_failed (c o v : Nat) : (s.blot c o v).failed = s.failed := (eventFrame_failed).blot s c o v
@[simp] theorem blot_casc (c o v : Nat) : (s.blot c o v).casc = s.casc := (eventFrame_casc).blot s c o v
@[simp] theorem blot_warm (c o v : Nat) : (s.blot c o v).warm = s.warm := (eventFrame_warm).blot s c o v
@[simp] theorem blot_pt (c o v : Nat) : (s.blot c o v).pt = s.pt := (eventFrame_pt).blot s c o v
@[simp] theorem blot_ptRuns (c o v : Nat) : (s.blot c o v).ptRuns = s.ptRuns := (eventFrame_ptRuns).blot s c o v
@[simp] theorem blot_free (c o v : Nat) : (s.blot c o v).free = s.free := (eventFrame_free).blot s c o v
@[simp] theorem blot_pending (c o v : Nat) : (s.blot c o v).pending = s.pending := (eventFrame_pending).blot s c o v

end Sys2Proof.Machine
end

