-- ==== Sys2Proof/Laws/Fabric.lean ====
section
/-!
SUPPORT. What the edges of the fabric clocks leave alone: everything but the state bits of flip-flops, the count of free values,
the progress of machine time within its crossing, open levels of span segments and what hoops' wires carried.
-/
namespace Sys2Proof.Machine

/-- A function of the state that no edge of a fabric clock changes. -/
structure FabFrame {β : Type} (g : State → β) : Prop where
  edge : ∀ (s : State) (f : Tab Bool) (k : Nat), g { s with flops := f, free := k } = g s
  time : ∀ (s : State) (tick ns : Nat), g { s with mt := { s.mt with fabTick := tick, fabNs := ns } } = g s
  levels : ∀ (s : State) (p : Tab Span), g { s with spans := p } = g s
  carried : ∀ (s : State) (h : Tab HoopSt), g { s with hoops := h } = g s

variable {β : Type} {g : State → β}

theorem FabFrame.spansTo (h : FabFrame g) (t : Nat) (s : State) : g (spansTo t s) = g s := by
  unfold Machine.spansTo
  split
  · exact h.levels s _
  · rfl

theorem FabFrame.fabEdge (h : FabFrame g) (hits : Nat → Bool) (s : State) : g (fabEdge hits s) = g s := h.edge s _ _

theorem FabFrame.fabRun (h : FabFrame g) (limit n : Nat) (s : State) : g (fabRun limit n s) = g s := by
  induction n generalizing s with
  | zero => rfl
  | succ n ih =>
    simp only [Machine.fabRun]
    split
    · rfl
    · rw [ih, h.time _ _ (Machine.fabEdge _ _).mt.fabNs, h.fabEdge, h.spansTo]

theorem FabFrame.fabTo (h : FabFrame g) (limit : Nat) (s : State) : g (fabTo limit s) = g s := by
  simp only [Machine.fabTo]
  rw [h.time _ _ (Machine.spansTo _ _).mt.fabNs, h.spansTo]
  split
  · exact h.fabRun _ _ s
  · rfl

/-- A crossing boundary's edges leave it alone. -/
theorem FabFrame.fabCross (h : FabFrame g) (s : State) : g (fabCross s) = g s := by
  have keep (t : State) : g (keepCarried t) = g t := by
    unfold Machine.keepCarried
    split
    · rfl
    · exact h.carried t _
  let t := Machine.fabTo fabGrid (keepCarried (Machine.fabTo (fabGrid - 1) s))
  refine (h.levels { t with mt := { t.mt with fabTick := 0, fabNs := 0 } } _).trans ((h.time t 0 0).trans ?_)
  rw [h.fabTo, keep, h.fabTo]

/-- A nanosecond of the fabric leaves it alone. -/
theorem FabFrame.fabIdle (h : FabFrame g) (s : State) : g (fabIdle s) = g s := by
  simp only [Machine.fabIdle]
  rw [h.fabTo, h.time _ s.mt.fabTick]

/-- Memories, registers and what has been sent stay as they are at every edge. -/
theorem fabFrame_mem : FabFrame State.mem := ⟨fun _ _ _ => rfl, fun _ _ _ => rfl, fun _ _ => rfl, fun _ _ => rfl⟩
theorem fabFrame_regs : FabFrame State.regs := ⟨fun _ _ _ => rfl, fun _ _ _ => rfl, fun _ _ => rfl, fun _ _ => rfl⟩
theorem fabFrame_frames : FabFrame State.frames := ⟨fun _ _ _ => rfl, fun _ _ _ => rfl, fun _ _ => rfl, fun _ _ => rfl⟩
theorem fabFrame_out : FabFrame State.out := ⟨fun _ _ _ => rfl, fun _ _ _ => rfl, fun _ _ => rfl, fun _ _ => rfl⟩
theorem fabFrame_pending : FabFrame State.pending := ⟨fun _ _ _ => rfl, fun _ _ _ => rfl, fun _ _ => rfl, fun _ _ => rfl⟩

end Sys2Proof.Machine
end

