-- ==== Sys2Proof/WellFormed.lean ====
section
/-!
DEFINITION. Well-formed commands: operands that the type does not bound lie in the range the spec gives them. The machine
has a meaning for every command, well formed or not.
-/
namespace Sys2Proof

/-- The length of an access: one packet carries 1 to 4,096 bytes (11 R343). -/
def lengthOk (len : Nat) : Bool := decide (1 ≤ len) && decide (len ≤ 4096)

/-- A memory access whose length, byte enables and operand fit one packet (11 R343, R345). -/
def accessOk : MemAcc → Bool
  | .read len => lengthOk len
  | .write data be _ => lengthOk data.length && be.length == data.length
  | .atomic _ size _ => size == 4 || size == 8

/-- A command is well formed. -/
def Instr.wellFormed : Instr → Bool
  | .regWrite addr len _ => decide (addr < 2 ^ 32) && lengthOk len
  | .rcRead addr len _ => decide (addr < 2 ^ 32) && lengthOk len
  | .domainSwitchOff _ => true
  | .domainEnable _ => true
  | .domainGatingDone _ => true
  | .domainPowerUpDone _ => true
  | .mtimeSrcChange _ => true
  | .mtimeRealign => true
  | .mtimeOrbitLoad => true
  | .mtimeNomPeriodWrite _ => true
  | .crossingBoundary _ => true
  | .orbitStart _ => true
  | .orbitMarker _ => true
  | .clockQualified measured => decide (0 < measured)
  | .phaseLock => true
  | .markerSearchTimeout => true
  | .coastReturnTimeout => true
  | .machineClockLoss _ => true
  | .freqWindowEnd measured => decide (0 < measured)
  | .rtShadowWrite _ _ => true
  | .rtSwapRequest _ => true
  | .rtSwapCommit => true
  | .stealWindowWrite _ _ => true
  | .evtTargetWrite _ _ _ => true
  | .eventComparatorFire _ => true
  | .mtimeSnap => true
  | .laneCfgWrite _ _ => true
  | .laneEnable _ _ => true
  | .laneDisable _ _ => true
  | .laneRetrain _ _ => true
  | .laneReinstate _ _ => true
  | .detectPoll _ _ _ _ => true
  | .trainBitLock _ _ _ => true
  | .trainTimeout _ _ => true
  | .alignTimeout _ _ => true
  | .capsTimeout _ _ => true
  | .rxFrame _ _ frame _ => decide (frame < 2 ^ 1024)
  | .rxSlotDelivery _ _ => true
  | .txPortWrite _ _ _ _ data _ _ => decide (data < 2 ^ 960)
  | .txFrameLaunch _ _ => true
  | .bypassFrame _ _ _ payload => decide (payload < 2 ^ 960)
  | .lossOfLock _ _ _ => true
  | .retrainDone _ _ _ => true
  | .retrainTimeout _ _ => true
  | .laneStopDone _ _ => true
  | .ckLaneLoss _ _ => true
  | .laneEyeStart _ _ => true
  | .eyeScanAbort _ _ => true
  | .eyeScanDone _ count => decide (count < 2 ^ 64)
  | .spanContention _ _ => true
  | .spanReenable _ _ => true
  | .fclkCtrlWrite _ => true
  | .iodWrite _ _ => true
  | .grpSwitchRequest _ _ => true
  | .grpRequestApply _ => true
  | .hoopCfgWrite _ _ => true
  | .hoopRelease _ => true
  | .hoopStop _ => true
  | .hoopStopEdge _ => true
  | .hoopStopComplete _ => true
  | .hoopReleaseEdge _ => true
  | .hoopRepairResume _ => true
  | .globalStart => true
  | .sliceSample _ _ _ => true
  | .rankSet _ cands _ => decide (cands.length ≤ 64)
  | .rankResult _ => true
  | .pmSearch _ _ _ _ _ => true
  | .pmSearchResult _ => true
  | .pmuWrite _ _ => true
  | .pmuInvalidate _ _ => true
  | .pmuRead _ _ => true
  | .pmuScrub _ _ => true
  | .pmuSetsel _ _ => true
  | .pmuAbort _ => true
  | .pmuRow _ _ => true
  | .pmuSetselApply _ => true
  | .pmuComplete _ => true
  | .bankPortAccess _ _ _ => true
  | .bankPortResult _ _ => true
  | .bankHandoverRequest _ _ => true
  | .bankHandover _ => true
  | .bankWindowAccess addr _ acc => decide (addr < 2 ^ 32) && accessOk acc
  | .bankWindowTimeout _ => true
  | .scratchAccess _ offset acc => decide (offset < 0x40000) && accessOk acc
  | .bankPowerTarget _ _ => true
  | .bankLoweringDone _ => true
  | .bankWakingDone _ => true
  | .bankClearingDone _ => true
  | .bankUlolWrite _ _ => true
  | .scrubStart _ => true
  | .scrubWord _ _ _ => true
  | .scrubAbort _ => true
  | .scrubComplete _ => true
  | .nearCtrlWrite _ => true
  | .nearTrainingDone _ _ => true
  | .nearFillDone _ => true
  | .dqsDriftCheck _ _ _ => true
  | .zqCalibration _ _ => true
  | .nearRefresh _ _ _ => true
  | .nearAccess _ _ acc _ => accessOk acc
  | .nearPllLossTimeout _ => true
  | .nearMirrorCopyDone _ => true
  | .cavePortEnable _ => true
  | .cavePortDisable _ => true
  | .caveReinstate _ => true
  | .cavePowerWrite _ _ => true
  | .caveLinkingDone _ => true
  | .caveLinkTimeout _ => true
  | .caveProbeDone _ => true
  | .caveStopDone _ => true
  | .caveBlockRx _ => true
  | .caveReplayTimeout _ => true
  | .caveAccess _ _ acc => accessOk acc
  | .caveRdata _ => true
  | .caveWdone _ => true
  | .caveCregRsp _ => true
  | .caveStatus _ => true
  | .caveCredit _ => true
  | .caveLinkSilence _ => true
  | .hwLine _ data _ _ _ _ => data.length == 64
  | .collectorRecord _ => true
  | .migratePage => true
  | .ringCtrlWrite _ _ => true
  | .ringOpen => true
  | .ringStopDone => true
  | .lookbackPush _ => true
  | .lookbackStart _ => true
  | .lookbackComplete _ _ => true
  | .lbtxSend _ _ => true
  | .lbtxDone _ => true
  | .keyErase _ => true
  | .lineRead _ addr _ => addr.toNat % 64 == 0
  | .lineWrite _ addr data be _ _ => addr.toNat % 64 == 0 && data.length == 64 && be.length == 64
  | .releaseStart _ => true
  | .releaseDone => true
  | .nocRead _ _ _ len => lengthOk len
  | .nocWrite _ _ _ data be _ => lengthOk data.length && be.length == data.length
  | .nocPwrite _ _ _ data be _ => lengthOk data.length && be.length == data.length
  | .nocAtomic _ _ _ _ size _ => size == 4 || size == 8
  | .nocToken _ _ _ => true
  | .nocResp _ txn _ data _ => decide (txn < 1024) && decide (data.length ≤ 4096)
  | .registerPortAccess addr len _ => decide (addr < 2 ^ 32) && lengthOk len
  | .flitCrcError _ _ _ => true
  | .nocStallTimeout _ => true
  | .nocResponseTimeout _ txn => decide (txn < 1024)
  | .xbarParityError _ _ => true
  | .routerDrain _ => true
  | .routerDrainEnd _ _ => true
  | .routerReconfDone _ wires _ => decide (wires ≤ 128)
  | .routerReinstate _ => true
  | .vcdepthWrite _ _ => true
  | .coreInstruction _ => true
  | .coreLoad _ => true
  | .loadResponse _ => true
  | .coreStore _ => true
  | .storeErrorResponse _ => true
  | .coreAmo _ => true
  | .coreLr _ => true
  | .coreSc _ => true
  | .coreFence _ => true
  | .coreFenceI _ => true
  | .coreEcall _ => true
  | .coreEbreak _ => true
  | .wxNext _ => true
  | .wxPost _ => true
  | .wxToken _ => true
  | .wxCancel _ => true
  | .wxQstat _ => true
  | .wxSelf _ => true
  | .wxPostWindow _ item => decide (item.length ≤ 64)
  | .wxCancelWrite _ => true
  | .wxTokenArrive _ _ => true
  | .wxDispatch => true
  | .itemDelivered _ => true
  | .affinityWaitExpiry _ => true
  | .preemption => true
  | .preemptSwitch _ => true
  | .delayListTick _ => true
  | .delayDue _ => true
  | .itemCompletion _ => true
  | .completionToken _ _ => true
  | .coreRelease _ => true
  | .coreReinstate _ => true
  | .watchdogExpiry _ => true
  | .shadowMismatch _ => true
  | .shadowReinstate _ => true
  | .loadFull _ => true
  | .loadHoop _ _ => true
  | .loadCancel => true
  | .powerOnLoad => true
  | .loaderHeaderDone => true
  | .imageFillWaitTimeout => true
  | .loaderPrepareDone => true
  | .frameRun => true
  | .mblockRecord => true
  | .bankinitRecord => true
  | .regsRecord => true
  | .segmentEnd => true
  | .flashReadTimeout => true
  | .loaderVerifyDone => true
  | .loaderStartDone => true
  | .scrubFrameRead _ _ => true
  | .frameRewriteStart => true
  | .frameRewriteDone => true
  | .vcpPacketRx pkt => decide (pkt.bytes.length ≤ 9000)
  | .networkControlFrame _ => true
  | .ethFailover => true
  | .ethActiveWrite _ => true
  | .sessionIdleTimeout _ => true
  | .sessionFirstRequestTimeout _ => true
  | .opSessionOpen _ => true
  | .opSessionClose _ => true
  | .opPing _ => true
  | .opReplyResend _ => true
  | .opSessionList _ => true
  | .opEventSubscribe _ => true
  | .opEventRead _ => true
  | .opDeviceInfo _ => true
  | .opTimeSnap _ => true
  | .opRegRead _ => true
  | .opRegWrite _ => true
  | .opMemRead _ => true
  | .opMemWrite _ => true
  | .opFolioLoad _ => true
  | .opHoopLoad _ => true
  | .opHoopCmd _ => true
  | .opDomainSet _ => true
  | .opReinstate _ => true
  | .opLookback _ => true
  | .opFlashRead _ => true
  | .opFlashWrite _ => true
  | .opFlashErase _ => true
  | .opKeyLoad _ => true
  | .opKeyErase _ => true
  | .opOpkeyAdd _ _ => true
  | .opOpkeyRevoke _ => true
  | .opVkeyWrite _ _ => true
  | .opVkeyRevoke _ => true
  | .opFkeyWrite _ _ => true
  | .opPolicySet _ _ => true
  | .opSensorRead _ => true
  | .opSensorReinstate _ => true
  | .opTripClear _ => true
  | .opCalRead _ => true
  | .opSelftestRead _ => true
  | .opRepairApply _ => true
  | .opBlotterRead _ => true
  | .opFwActivate _ => true
  | .opFwConfirm _ => true
  | .opFwStatus _ => true
  | .opQuillLoad _ => true
  | .opAttest _ => true
  | .opIdentity _ => true
  | .commandDone _ => true
  | .ethSend offset _ => decide (offset < 32)
  | .streamEnd => true
  | .hkConversion _ => true
  | .hkRoundEnd => true
  | .tripFabricReset => true
  | .calItemDue _ => true
  | .calMeasurementDone _ _ _ _ => true
  | .calApply _ => true
  | .calResultTimeout _ => true
  | .scmCalDeferred _ => true
  | .selftestDone fails => fails.all (fun f => decide (1 ≤ f.block) && decide (f.block ≤ 9))
  | .spareTest _ _ => true
  | .blotterProgram count => decide (1 ≤ count) && decide (count ≤ 8)
  | .sceumWatchdogExpiry => true
  | .sceumRestart => true
  | .bootRomStart => true
  | .fwTrialTimeout => true
  | .xoLoss => true
  | .xoValid => true
  | .pllUnlock _ => true
  | .pllRelock _ => true
  | .pllFailTimeout _ => true
  | .clkNocWrite _ => true
  | .clkQpllWrite _ _ => true
  | .clkGrpWrite _ _ => true
  | .clkNctlWrite _ => true
  | .rootSelectWrite _ => true
  | .clockSwitchDone _ => true
  | .clkForced _ => true
  | .powerOnReset => true
  | .pgoodFall => true
  | .supplyMonitorFall => true
  | .powerStable => true
  | .clocksPhaseDone _ => true
  | .onchipFillDone => true
  | .srstAssert => true
  | .sysRstWrite _ => true
  | .systemReset => true
  | .systemResetRelease => true
  | .bankSpareCopyStart _ => true
  | .bankCopyDone _ => true
  | .bankTakeover _ => true
  | .bankMarchDone _ _ => true
  | .bankReturnDone _ => true
  | .cascLinkWrite _ _ => true
  | .cascRejoin => true
  | .serviceBlockRx _ => true
  | .cascReq _ => true
  | .cascRsp _ => true
  | .cascDone _ => true
  | .cascRoll _ => true
  | .rollTimer => true
  | .cascMemberLost _ => true
  | .cascMasterLost => true
  | .relayTimeout => true
  | .tapReset => true
  | .extest _ _ => true
  | .samplePreload _ _ => true
  | .idcode => true
  | .extestPulse _ _ => true
  | .extestTrain _ _ => true
  | .bypass => true
  | .dbgRead _ => true
  | .dbgWrite _ _ => true
  | .dbgConsume _ => true
  | .dbgNop => true
  | .dbgAccessTimeout => true
  | .dbgConnect _ => true
  | .dbgUnlockSelect => true
  | .dbgUnlockAnswer _ _ => true
  | .dbgAttach _ => true
  | .dbgSysrstReq _ => true
  | .dbgHalt _ => true
  | .coreHalted _ => true
  | .dbgResume _ => true
  | .dbgStep _ => true
  | .dbgRegRead => true
  | .dbgRegWrite => true
  | .dbgFreezeWrite _ => true
  | .monHelp => true
  | .monStatus => true
  | .monSensors => true
  | .monBlotter n => decide (1 ≤ n) && decide (n ≤ 64)
  | .monBaud _ => true
  | .monRd addr => decide (addr < 2 ^ 48)
  | .monWr addr _ => decide (addr < 2 ^ 48)
  | .monOwnerkey key _ => key.length == 32
  | .monLockout serial => decide (serial < 2 ^ 64)
  | .monReset => true
  | .cascCtrlWrite _ => true
  | .coreMemoryNetAccess _ offset acc => decide (offset < 0x10000) && accessOk acc
  | .reserveFillDone _ => true
  | .pcsBlockLockChange _ _ => true
  | .phyPllLockLoss _ => true
  | .serviceReplayTimeout _ => true
  | .userIoWord _ _ _ _ _ => true
  | .ckLaneReturn _ => true

end Sys2Proof
end

