-- ==== Sys2Proof/Tests/Slice0.lean ====
section
/-!
SUPPORT. Tests: every check of well-formedness refuses an ill-formed command; each statement's hypotheses are met by a
concrete state and operands, clause by clause; the spec's worked examples.
-/
section
open Sys2Proof Sys2Proof.Machine
set_option Elab.async false

/-! ### Helpers -/

/-- The state after reset with XO_IN valid and every synthesiser locked. -/
def Sys2Proof.Tests.lit : State := State.reset.setWord .clkStatus 0x21B0F000

open Sys2Proof.Tests

/-- Core 3 in state ITEM in M mode with an instruction word at its pc, x6 at its data memory and x7 at 5. -/
def Sys2Proof.Tests.coreAt (word : Nat) : State :=
  coreWrite 3 0 (bytesOf word 4)
    ((lit.setQSt 3 .item).modCore 3 (fun c => { c with norm := { x := [(6, 0x30008000), (7, 5)] } }))

/-- An item of 64 bytes for queue 5 with the given first word, and without completion. -/
def Sys2Proof.Tests.itemFor (w0 : Nat) : List Byte := bytesOf w0 4 ++ bytesOf 5 4 ++ List.replicate 56 0

/-- Queue 5 enabled for every group, with an item posted to it. -/
def Sys2Proof.Tests.posted (w0 : Nat) : State :=
  (postItem (Sys2Proof.Tests.itemFor w0) ((lit.flag F.wxQcfgEn 5).put F.wxQcfgGmask 0xFFFF 5)).2

/-- Bytes of flash at an offset of the golden region, where a load from flash reads. -/
def Sys2Proof.Tests.withFlash (at_ : Nat) (bs : List Byte) (s : State) : State :=
  { s with flash := bs.zipIdx.map (fun e => (0x02000000 + at_ + e.2, e.1)) }

/-- The loader in a state of CFG_STATUS, with a full load of the golden region. -/
def Sys2Proof.Tests.loading (st : Nat) (l : LoaderSt) : State :=
  { lit.put F.cfgStatusState st with loader := { l with base := 0x02000000, limit := 0x1000000 } }

/-- The header of a full folio of one segment, with verification key 0 and no encryption, for every stepping and grade. -/
def Sys2Proof.Tests.folioHead : List Byte :=
  bytesOf 0xB5F07A49 4 ++ bytesOf 1 2 ++ bytesOf 1 2 ++ bytesOf 0xA493 2 ++ bytesOf 0xFFFF 2 ++ bytesOf 100000 4 ++
    bytesOf 256 4 ++ bytesOf 1 2 ++ List.replicate 234 0

/-- Near store with every channel ON, key slot 0 valid and image copy 0 in use. -/
def Sys2Proof.Tests.nearUp : State :=
  (((List.range 36).foldl (fun s c => s.put F.nearChStatusState 3 c) lit).put F.xcrKeyValidVal 1).flag F.cfgStatusImg0Ok

/-- Session 0 BUSY with a command that is this device's own, with every right, while Sceum runs. -/
def Sys2Proof.Tests.request (op : Nat) (params : List Nat) (s : State := lit) : State :=
  { s.flag F.scmStatusRunning with
    host := { s.host with
      sessions := [(0, { gen := 1, st := 2, rights := 31, window := 1452, op := op, params := params, last := 1 })]
      order := [0] } }

/-- Session 5 OPEN, and the device with an IPv4 address. -/
def Sys2Proof.Tests.opened : State :=
  { ((lit.flag F.ethCtrlIp4En).put F.ethIp4Val 0x0A000001) with
    host := { lit.host with
      sessions := [(5, { gen := 1, st := 1, rights := 31, window := 1452, last := 9, key := List.replicate 32 7, data := true })] } }

/-- The supplies that writing one-time-programmable storage needs are up. -/
def Sys2Proof.Tests.otpUp : State := [96, 97, 98].foldl (fun s c => s.put F.scmChValue 7200 c) lit


open Sys2Proof.Tests

/-! ### Well-formedness: an ill-formed command of each check is refused -/

theorem test_illformed_register_accesses :
    [Instr.regWrite (2 ^ 32) 4 0, .regWrite 0 0 0, .rcRead (2 ^ 32) 4 true, .rcRead 0 4097 false, .registerPortAccess (2 ^ 32) 4 none,
     .registerPortAccess 0 0 none].all (fun c => !c.wellFormed) = true := by decide

theorem test_illformed_clock_and_lane_commands :
    [Instr.clockQualified 0, .freqWindowEnd 0, .rxFrame 0 0 (2 ^ 1024) 0, .txPortWrite 0 0 0 0 (2 ^ 960) false false,
     .bypassFrame 0 0 0 (2 ^ 960), .eyeScanDone 0 (2 ^ 64)].all (fun c => !c.wellFormed) = true := by decide +kernel

theorem test_illformed_memory_accesses :
    [Instr.rankSet 0 (List.replicate 65 0) false, .bankWindowAccess (2 ^ 32) 0 (.read 8), .bankWindowAccess 0 0 (.read 0),
     .scratchAccess 0 0x40000 (.read 8), .scratchAccess 0 0 (.write [1] [] false), .nearAccess .host 0 (.atomic 0 3 0) [],
     .caveAccess .host 0 (.read 4097), .hwLine 0 [] false false 0 false,
     .lineRead 0 1 plainFetch,
     .lineWrite 0 0 [] [] false plainFetch, .coreMemoryNetAccess 0 0x10000 (.read 8)].all
      (fun c => !c.wellFormed) = true := by decide +kernel

theorem test_illformed_network_and_host_commands :
    [Instr.nocRead 0 .host 0 0, .nocWrite 0 .host 0 [1] [] false, .nocPwrite 0 .host 0 [] [] false, .nocAtomic 0 .host 0 0 5 0,
     .nocResp 0 1024 .ok [] false, .nocResponseTimeout 0 1024, .routerReconfDone 0 129 0, .wxPostWindow 0 (List.replicate 65 0),
     .vcpPacketRx { eth := false, peer := {}, dst := 0, dport := 0, vlan := 0, plain := true, bytes := List.replicate 9001 0 },
     .ethSend 32 []].all (fun c => !c.wellFormed) = true := by decide +kernel

theorem test_illformed_service_commands :
    [Instr.selftestDone [{ block := 0, phase := 0, index := 0, place := 0, bit := 0 }], .blotterProgram 9,
     .monBlotter 65, .monRd (2 ^ 48), .monWr (2 ^ 48) 0, .monOwnerkey [] true, .monLockout (2 ^ 64)].all
      (fun c => !c.wellFormed) = true := by decide +kernel

/-! ### Worked examples of the spec, and published vectors of the algorithms it names -/

/-- FIPS-197, appendix C.3. -/
theorem test_aes256 : Crypto.aes (List.range 32) (List.map (fun i => 17 * i) (List.range 16)) =
    [0x8E, 0xA2, 0xB7, 0xCA, 0x51, 0x67, 0x45, 0xBF, 0xEA, 0xFC, 0x49, 0x90, 0x4B, 0x49, 0x60, 0x89] := by decide +kernel

/-- FIPS-180, SHA-256 of "abc". -/
theorem test_sha256 : Crypto.sha256 [0x61, 0x62, 0x63] =
    [0xBA, 0x78, 0x16, 0xBF, 0x8F, 0x01, 0xCF, 0xEA, 0x41, 0x41, 0x40, 0xDE, 0x5D, 0xAE, 0x22, 0x23, 0xB0, 0x03, 0x61, 0xA3, 0x96, 0x17, 0x7A, 0x9C,
     0xB4, 0x10, 0xFF, 0x61, 0xF2, 0x00, 0x15, 0xAD] := by decide +kernel

/-- 01, after R28: the first line of user history under K5. -/
theorem test_key_of_address : keyId 0x281200000000 = 5 ∧ offsetOf 0x281200000000 = 0x01200000000 := by decide

/-- 09, the ring's example: user page 389,755 lies on N19 at channel page 69,081. -/
theorem test_near_page_place : nearPlace false (2097152 + 389755) = (19, 69081) := by decide

/-- 10, after R323: a keystream block and the tag block. -/
theorem test_crypto_blocks : offsetOf 0x281200000040 / 64 = 0x48000001 ∧
    Crypto.beNat (xcrBlock 1 3 0x11 0x48000001 2) = 0x01000000000000031102400000080002 ∧
    Crypto.beNat (xcrBlock 2 3 0x11 0x48000001 0) = 0x02000000000000031102400000080000 := by decide +kernel

/-- 12, after R380: WX.POST a0, a1, a2 and WX.NEXT a0, a1. -/
theorem test_wx_encodings : decode32 0x00C5950B = .wx .post 10 11 12 ∧ decode32 0x0005850B = .wx .next 10 11 0 := by decide +kernel

/-- 08 R255: the columns of data bits 1, 55 and 63. -/
theorem test_code_columns : eccCheck (1 <<< 1) = 0x0B ∧ eccCheck (1 <<< 55) = 0xE0 ∧ eccCheck (1 <<< 63) = 0x8F := by decide +kernel

/-- 14, the worked example: session 0x0C05 is slot 5, generation 3. -/
theorem test_session_id : ({ State.reset with host := { State.reset.host with sessions := [(5, { gen := 3 })] } }).sessId 5 = 0x0C05 := by
  decide +kernel

/-- 19 R583: CFG_ID's stepping is IDCODE's version. -/
theorem test_stepping : State.reset.get F.cfgIdStepping = bits 0x10A4956B 31 28 := by
  cases h : Config.speedS2 <;> simp [State.get, State.word, regReset, h, State.reset, Tab.get, Tab.look, F.cfgIdStepping, bits]

/-! ### The hypotheses of the statements are met -/

theorem witness_IdleStepCountsPoweredTime :
    (let s : State := { (lit.modClk (fun c => { c with held := true })) with ptRuns := true }; s.pending = [] ∧ s.clk.held = true ∧ s.ptRuns = true ∧ s.mgmtClocked = true)
    ∧ (let s : State := { (State.reset.modClk (fun c => { c with held := true, ptStep := 39 })) with ptRuns := true }; s.pending = [] ∧ s.clk.held = true ∧ s.ptRuns = true ∧ s.mgmtClocked = false ∧ s.clk.ptStep = 39)
    ∧ (let s : State := { (State.reset.modClk (fun c => { c with held := true })) with ptRuns := true }; s.pending = [] ∧ s.clk.held = true ∧ s.ptRuns = true ∧ s.mgmtClocked = false ∧ s.clk.ptStep ≠ 39)
    ∧ (let s := State.reset.modClk (fun c => { c with held := true }); s.pending = [] ∧ s.clk.held = true ∧ s.ptRuns = false)
    ∧ (lit.pending = [] ∧ lit.clk.held = false) := by
  refine ⟨?_, ?_, ?_, ?_, ?_⟩ <;> decide +kernel

theorem witness_RegisterPortAccesses :
    (lit.clk.held = false ∧ 8 ≠ 4)
    ∧ (lit.clk.held = false ∧ 2 ≠ 4)
    ∧ (lit.clk.held = false)
    ∧ (lit.clk.held = false)
    ∧ (lit.clk.held = false)
    ∧ (lit.clk.held = false ∧ lit.nocClocked = true) := by
  refine ⟨?_, ?_, ?_, ?_, ?_, ?_⟩ <;> decide +kernel

theorem witness_DomainCommandsComplete :
    ((lit.dom 405).st = .on)
    ∧ (let s := lit.setDom 405 { st := .poweringDown }; (s.dom 405).st = .poweringDown ∧ (s.dom 405).pendingEnable = false)
    ∧ (((lit.setDom 405 { st := .off }).dom 405).st = .off)
    ∧ (let s := lit.setDom 405 { st := .poweringUp }; (s.dom 405).st = .poweringUp ∧ (s.dom 405).pendingOff = false)
    ∧ (domKey (.near 3) = some 203 ∧ ((lit.setDom 203 { st := .poweringDown }).dom 203).st = .poweringDown)
    ∧ (domKey (.cave 3) = some 303 ∧ ((lit.setDom 303 { st := .poweringUp }).dom 303).st = .poweringUp) := by
  refine ⟨?_, ?_, ?_, ?_, ?_, ?_⟩ <;> decide +kernel

theorem witness_RepeatedDomainRequestsHaveNoEffect :
    let s := lit.setDom 102 { st := .poweringDown, pendingEnable := true }; let t := lit.setDom 102 { st := .off }; domKey (.quill 2) = some 102 ∧ Tab.wf (fun _ => {}) s.doms = true ∧ Tab.wf (fun _ => {}) s.hoops = true ∧ (s.dom 102).st = .poweringDown ∧ (s.dom 102).pendingEnable = true ∧ Tab.wf (fun _ => {}) t.doms = true ∧ (t.dom 102).pendingEnable = false ∧ (t.dom 102).st = .off := by decide +kernel

theorem witness_MachineTimeWritesComplete :
    (lit.bit F.mtimeCtrlLock = false ∧ srcOf (lit.get F.mtimeCtrlSrc) (lit.get F.mtimeCtrlTbundle)
    = srcOf (lit.word .mtimeCtrl &&& 3).toNat (lit.get F.mtimeCtrlTbundle))
    ∧ (lit.bit F.mtimeCtrlLock = false ∧ srcOf (lit.get F.mtimeCtrlSrc) (lit.get F.mtimeCtrlTbundle)
    ≠ srcOf 2 (lit.get F.mtimeCtrlTbundle))
    ∧ ((lit.put F.mtimeStatusState 2).mtSt = .aligned ∧ (lit.put F.mtimeStatusState 3).mtSt = .slipped)
    ∧ (lit.bit F.mtimeCtrlLock = false ∧ 12500000 ≤ (25000000 : Word).toNat ∧ (25000000 : Word).toNat ≤ 100000000)
    ∧ (lit.bit F.mtimeRtStatusSwapPending = false ∧
    (eccRead (lit.rtWord (!lit.activeBank) 5).1 (lit.rtWord (!lit.activeBank) 5).2).poison = false)
    ∧ (lit.bit F.mtimeRtStatusSwapPending = false ∧ bitAt (0x80FF0000 : Word).toNat 31 = true ∧ 255 ≤ bits (0x80FF0000 : Word).toNat 29 16) := by
  refine ⟨?_, ?_, ?_, ?_, ?_, ?_⟩ <;> decide +kernel

theorem witness_MachineTimeEventsComplete :
    (lit.externalSrc = true ∧ freqOff 25000000 (lit.get F.mtimeNomPeriodVal) = false ∧ lit.mtSt = .free)
    ∧ ((lit.enterAcquire false).mt.pullIn = true ∧ (lit.enterAcquire false).externalSrc = true ∧ (lit.enterAcquire false).mtSt = .acquire)
    ∧ (let s := lit.enterAcquire true; let t := { s with mt := { s.mt with searchCross := 65536 } }
    t.mtSt = .acquire ∧ t.mt.locked = true ∧ 65536 ≤ t.mt.searchCross ∧ t.mt.searchLate = false)
    ∧ (let s := lit.put F.mtimeStatusState 4; let t := { s with mt := { s.mt with searchCross := 65536, returnCheck := true } }
    t.mtSt = .coasting ∧ t.mt.returnCheck = true ∧ 65536 ≤ t.mt.searchCross)
    ∧ ((lit.clear F.mtimeStatusCoasting).externalSrc = true ∧ (lit.clear F.mtimeStatusCoasting).bit F.mtimeStatusCoasting = false)
    ∧ (lit.externalSrc = true ∧ freqOff 25000000 (lit.get F.mtimeNomPeriodVal) = false)
    ∧ (lit.externalSrc = true)
    ∧ (({ lit with mt := { lit.mt with swapDue := true } } : State).mt.swapDue = true)
    ∧ ((lit.flag F.mtimeEvtCtrlArm 3).bit F.mtimeEvtCtrlArm 3 = true ∧ (lit.flag F.mtimeEvtCtrlArm 3).evtTarget 3 ≤ (lit.flag F.mtimeEvtCtrlArm 3).stamp % 2 ^ 62) := by
  refine ⟨?_, ?_, ?_, ?_, ?_, ?_, ?_, ⟨?_, ?_⟩⟩ <;> decide +kernel

theorem witness_TimeEventsLeadOn :
    (lit.externalSrc = true ∧ freqOff 25000000 (lit.get F.mtimeNomPeriodVal) = false ∧ lit.mtSt = .free)
    ∧ ((lit.enterAcquire false).mt.pullIn = true ∧ (lit.enterAcquire false).externalSrc = true ∧ (lit.enterAcquire false).mtSt = .acquire)
    ∧ (let s := lit.enterAcquire true; let t := { s with mt := { s.mt with searchCross := 65536 } }
    t.mtSt = .acquire ∧ t.mt.locked = true ∧ 65536 ≤ t.mt.searchCross ∧ t.mt.searchLate = false)
    ∧ (let s := lit.put F.mtimeStatusState 4; let t := { s with mt := { s.mt with searchCross := 65536, returnCheck := true } }
    t.mtSt = .coasting ∧ t.mt.returnCheck = true ∧ 65536 ≤ t.mt.searchCross)
    ∧ (lit.externalSrc = true)
    ∧ (lit.externalSrc = true ∧ freqOff 25000000 (lit.get F.mtimeNomPeriodVal) = false)
    ∧ (lit.externalSrc = true)
    ∧ (({ lit with mt := { lit.mt with swapDue := true } } : State).mt.swapDue = true)
    ∧ ((lit.flag F.mtimeEvtCtrlArm 3).bit F.mtimeEvtCtrlArm 3 = true ∧ (lit.flag F.mtimeEvtCtrlArm 3).evtTarget 3 ≤ (lit.flag F.mtimeEvtCtrlArm 3).stamp % 2 ^ 62) := by
  refine ⟨?_, ?_, ?_, ?_, ?_, ?_, ?_, ⟨?_, ?_⟩⟩ <;> decide +kernel

theorem witness_LaneCommandsComplete :
    (((((lit.flag F.laneCfgEn 5).flag F.fabCtrlStarted).modBundle 5 (fun b => { b with live := true })).laneSt 5 2) = .off ∧
    (((lit.flag F.laneCfgEn 5).flag F.fabCtrlStarted).modBundle 5 (fun b => { b with live := true })).bundleReady 5 = true)
    ∧ ((lit.setLaneSt 5 2 .active).laneSt 5 2 = .active ∧ (lit.setLaneSt 5 8 .standby).laneSt 5 8 = .standby)
    ∧ ((lit.setLaneSt 5 2 .retired).laneSt 5 2 = .retired)
    ∧ (lit.bit F.laneGctrlLock = false ∧ lit.allLanesOff 5 = true ∧ 10 ≤ bits (0x00320001 : Word).toNat 22 16 ∧
    bits (0x00320001 : Word).toNat 22 16 ≤ 64 ∧ bits (0x00320001 : Word).toNat 25 24 = lit.get F.laneCfgMode 5)
    ∧ (let s := lit.setLaneSt 5 3 .active; s.get F.laneEyeStatState 5 ≠ 1 ∧ bitAt (0x80300000 : Word).toNat 31 = true ∧ (eyeFields 5 0x80300000 s).eyeLaneOk 5 = true)
    ∧ (let s := lit.put F.laneEyeStatState 1 5; s.get F.laneEyeStatState 5 = 1 ∧ s.eyeLaneOk 5 = false)
    ∧ (let s := (lit.setLaneSt 5 3 .active).put F.laneEyeCtrlLane 3 5; let t := s.put F.laneEyeStatState 1 5
    t.get F.laneEyeStatState 5 = 1 ∧ t.eyeLaneOk 5 = true ∧ 7 ≤ t.eyeBits 5) := by
  refine ⟨?_, ?_, ?_, ?_, ?_, ?_, ?_⟩ <;> decide +kernel

theorem witness_LaneBringupEventsComplete :
    (let s := (lit.setLaneSt 5 2 .detect).modLane 5 2 (fun l => { l with farFound := true }); s.laneSt 5 2 = .detect ∧ (s.lane 5 2).farFound = true)
    ∧ (let s := (lit.setLaneSt 5 2 .train).put F.laneSliceUsable 15 5 2; s.laneSt 5 2 = .train ∧ (s.get F.laneSliceUsable 5 2).testBit 1 = true)
    ∧ ((lit.setLaneSt 5 2 .train).laneSt 5 2 = .train)
    ∧ ((lit.setLaneSt 5 2 .align).laneSt 5 2 = .align)
    ∧ ((lit.setLaneSt 5 2 .caps).laneSt 5 2 = .caps)
    ∧ ((lit.setLaneSt 5 2 .active).laneSt 5 2 = .active)
    ∧ ((lit.setLaneSt 5 2 .retrain).laneSt 5 2 = .retrain)
    ∧ ((lit.setLaneSt 5 2 .retrain).laneSt 5 2 = .retrain ∧ (lit.setLaneSt 5 2 .retrain).lanesHeld 5 = false)
    ∧ ((lit.setLaneSt 5 2 .stopping).laneSt 5 2 = .stopping ∧ (lit.setLaneSt 5 2 .stopping).bit F.laneLstPendingEnable 5 2 = false)
    ∧ (lit.timingSrc = false)
    ∧ (let s := ((lit.put F.laneCfgMode modeTiming 5).put F.mtimeCtrlSrc 1).put F.mtimeCtrlTbundle 5; s.timingSrc = true ∧ s.get F.mtimeCtrlTbundle = 5) := by
  refine ⟨?_, ?_, ?_, ?_, ?_, ?_, ?_, ⟨?_, ?_, ?_, ?_⟩⟩ <;> decide +kernel

theorem witness_LaneTrafficCompletes :
    (let s := (lit.setLaneSt 5 2 .active).put F.laneCfgMult 10 5; s.extest = false ∧ s.laneSt 5 2 = .active ∧
    s.bit F.laneLctrlRxInv 5 2 = false ∧ s.bit F.laneLstPolInv 5 2 = false ∧ (parseFrame (s.frameBits 5) (0 % 2 ^ s.frameBits 5)).1 = false)
    ∧ (let s := ((lit.setLaneSt 5 2 .active).put F.laneCfgMult 10 5).put F.fabFclkCtrlK0 8; let f := txFrame 160 0 0 12345; s.extest = false ∧ s.laneSt 5 2 = .active ∧
    s.bit F.laneLctrlRxInv 5 2 = false ∧ s.bit F.laneLstPolInv 5 2 = false ∧ s.tooEarly 5 3 = false ∧ (parseFrame (s.frameBits 5) (f % 2 ^ s.frameBits 5)).1 = true ∧
    s.slotMatch 5 (parseFrame (s.frameBits 5) (f % 2 ^ s.frameBits 5)).2.tag = true)
    ∧ (lit.get F.laneStatusReversed 5 = 0)
    ∧ (let s := (lit.flag F.laneStatusReversed 4).put F.laneGangSize 1 4; s.get F.laneStatusReversed 4 = 1 ∧ s.get F.laneGangSize 4 = 1 ∧
    s.get F.laneGangPos 4 = 0 ∧ (s.bundle 4).steerFor = none ∧ (s.bundle 4).spareCarries = none)
    ∧ (lit.lbtxOwns 5 = false ∧ lit.serviceLane 5 2 = false ∧ lit.get F.laneCfgTxLayer 5 = 0 ∧ lit.get F.laneCfgMode 5 ≠ modeCave ∧
    Tab.look (lit.lane 5 2).tx (lit.txBoundary 0) = none)
    ∧ (lit.get F.laneCfgTxLayer 5 ≠ 1)
    ∧ (let s := (((lit.flag F.laneCfgEn 5).flag F.fabCtrlStarted).modBundle 5 (fun b => { b with live := true })); s.bundleReady 5 = true ∧ s.extest = false ∧ s.mt.cross = s.markerIndex)
    ∧ (let s := (((lit.flag F.laneCfgEn 5).flag F.fabCtrlStarted).modBundle 5 (fun b => { b with live := true })); let t := { s with mt := { s.mt with cross := 7 } }
    t.bundleReady 5 = true ∧ t.extest = false ∧ t.mt.cross ≠ t.markerIndex)
    ∧ (let s := ((((lit.flag F.laneCfgEn 5).flag F.fabCtrlStarted).modBundle 5 (fun b => { b with live := true })).setLaneSt 5 2 .active).put F.mtimeStatusState 2; s.bundleReady 5 = true ∧ s.extest = false ∧ s.laneSt 5 2 = .active ∧
    s.bit F.laneBypassEn 5 2 = false ∧ s.bit F.laneLctrlTxInv 5 2 = false ∧ s.txTripped = false ∧ s.mtSt = .aligned ∧ (s.bundle 5).voteGood = 0 ∧ Tab.look (s.lane 5 2).tx s.mt.boundary = none)
    ∧ (let s := { (((lit.flag F.laneCfgEn 5).modBundle 5 (fun b => { b with live := true })).setLaneSt 5 2 .active) with txTripped := true }; s.bundleReady 5 = true ∧ s.extest = false ∧ s.laneSt 5 2 = .active ∧
    s.txHeld 5 = true ∧ s.bit F.laneLctrlTxInv 5 2 = false ∧ (s.bundle 5).voteGood = 0)
    ∧ (let s := ((((lit.flag F.laneCfgEn 5).modBundle 5 (fun b => { b with live := true, steerIn := 0 })).setLaneSt 5 2 .active).setLaneSt 5 3 .active).flag F.laneBypassEn 5 3; let t := ((s.put F.laneBypassSrcBundle 5 5 3).put F.laneBypassSrcLane 2 5 3).modLane 5 2 (fun l => { l with lastRx := some ⟨0x1C4E, 3, 0, 7, true⟩ })
    t.bundleReady 5 = true ∧ t.inBypass 5 3 = true ∧ t.extest = false ∧ t.bypassActive 5 3 = true ∧ (t.lane (t.bypassSource 5 3).1 (t.bypassSource 5 3).2).lastRx = some ⟨0x1C4E, 3, 0, 7, true⟩ ∧ t.bit F.laneLctrlTxInv 5 3 = false ∧ (t.bundle 5).steerIn ≠ 8 + 3)
    ∧ (let s := (((((lit.flag F.laneCfgEn 5).modBundle 5 (fun b => { b with live := true, steerIn := 11 })).setLaneSt 5 2 .active).setLaneSt 5 3 .active).setLaneSt 5 8 .standby).flag F.laneBypassEn 5 3; let t := ((s.put F.laneBypassSrcBundle 5 5 3).put F.laneBypassSrcLane 2 5 3).modLane 5 2 (fun l => { l with lastRx := some ⟨0x1C4E, 3, 0, 7, true⟩ })
    t.bundleReady 5 = true ∧ t.inBypass 5 3 = true ∧ t.extest = false ∧ t.bypassActive 5 3 = true ∧ (t.lane (t.bypassSource 5 3).1 (t.bypassSource 5 3).2).lastRx = some ⟨0x1C4E, 3, 0, 7, true⟩ ∧ t.bit F.laneLctrlTxInv 5 3 = false ∧ (t.bundle 5).steerIn = 8 + 3 ∧ t.carries 5 8 = true ∧ t.bit F.laneLctrlTxInv 5 8 = false) := by
  refine ⟨?_, ?_, ?_, ?_, ?_, ?_, ?_, ⟨?_, ?_, ?_, ?_, ?_⟩⟩ <;> decide +kernel

theorem witness_CrossingAndFabricCommandsComplete :
    (lit.clk.held = false ∧ lit.mt.renumber = none ∧ lit.mt.swapDue = false)
    ∧ (let s : State := { lit with mt := { lit.mt with cross := 4095 } }; s.clk.held = false ∧ s.mt.renumber = none ∧ s.mt.swapDue = false ∧ s.nextCross = 0 ∧ s.mt.orbitLoad = false)
    ∧ ((lit.put F.nearChStatusState 2 4).nearClocked 4 = true ∧ (lit.put F.nearChStatusState 2 4).nearSt 4 = .filling)
    ∧ (let s := lit.flag F.fabCtrlStarted; s.started = true ∧ segExists ⟨0, true, 3, 4, 5⟩ = true ∧ (2 : Fin 42).val < (segOf ⟨0, true, 3, 4, 5⟩).drivers.length ∧ (Tab.get {} s.spans (segKey ⟨0, true, 3, 4, 5⟩)).st = .driven ∧ (Tab.get {} s.spans (segKey ⟨0, true, 3, 4, 5⟩)).cuts = [])
    ∧ (let s := (lit.flag F.fabCtrlStarted).setSpan (segKey ⟨0, true, 3, 4, 5⟩) { st := .cut }; (Tab.get {} s.spans (segKey ⟨0, true, 3, 4, 5⟩)).st = .cut ∧ s.regionLoaded (segRegion ⟨0, true, 3, 4, 5⟩) = true)
    ∧ (lit.started = false ∧ lit.bit F.fabCtrlLock = false ∧ legalK (bits (0x0000000C : Word).toNat 4 0) = true ∧ legalK (bits (0x0000000C : Word).toNat 12 8) = true)
    ∧ (let s := (lit.flag F.fabCtrlStarted).flag F.fabIobStatusActive 2; s.get F.fabIobCfgLayer ((70 : Fin 416).val / 32) = (0 : Fin 2).val ∧ s.iobUp ((70 : Fin 416).val / 32) = true ∧ s.iobPaired ((70 : Fin 416).val / 32) = false ∧ s.extest = false)
    ∧ (let s := ((lit.flag F.fabCtrlStarted).flag F.fabIobStatusActive 2).put F.fabIobCfgStd 3 2; s.get F.fabIobCfgLayer ((70 : Fin 416).val / 32) = (0 : Fin 2).val ∧ s.iobUp ((70 : Fin 416).val / 32) = true ∧ s.iobPaired ((70 : Fin 416).val / 32) = true ∧ (70 : Fin 416).val % 2 = 0 ∧ s.extest = false)
    ∧ ((lit.flag F.fabCtrlLock).bit F.fabCtrlLock = true ∧ bitAt (0x80000000 : Word).toNat 31 = true ∧ (lit.flag F.fabCtrlLock).bit F.fabGrpReq 3 = false)
    ∧ ((lit.flag F.fabGrpReq 3).bit F.fabGrpReq 3 = true ∧ Tab.get 0 lit.groupAt 3 ≤ lit.mt.boundary ∧ lit.groupField 3 = none)
    ∧ (let s := (((((lit.put F.cfgStatusState 5).put F.fabFclkCtrlK0 12).put F.mtimeNomPeriodVal 25000000)).put F.cfgStatusKind 0); let t := { s with fixValid := (15, 15) }
    t.started = false ∧ t.get F.cfgStatusState = 5 ∧ t.get F.cfgStatusKind = 0 ∧ t.fixedOk = true ∧ (fclkCheck t).1 = true) := by
  refine ⟨?_, ?_, ?_, ?_, ?_, ?_, ?_, ⟨?_, ?_, ?_, ?_⟩⟩ <;> decide +kernel

theorem witness_HoopCommandsComplete :
    ((lit.setHoopSt 7 .held).hoopSt 7 = .held)
    ∧ (let s := ((lit.setHoopSt 7 .held).flag F.fabCtrlStarted).put F.fabHoopCfgCtxValid 3 7; s.hoopSt 7 = .held ∧ s.started = true ∧ s.get F.fabHoopCfgCtxValid 7 ≠ 0 ∧ (s.hoop 7).releaseAt = none)
    ∧ ((lit.setHoopSt 7 .run).hoopSt 7 = .run ∧ (lit.setHoopSt 7 .repair).hoopSt 7 = .repair)
    ∧ (let s := (lit.setHoopSt 7 .stopping).modHoop 7 (fun h => { h with stopAt := some 0 }); s.hoopSt 7 = .stopping ∧ (s.hoop 7).stopAt = some 0 ∧ 0 ≤ s.mt.boundary)
    ∧ (let s := (lit.setHoopSt 7 .stopping).modHoop 7 (fun h => { h with stopped := some 0 }); let t := { s with mt := { s.mt with boundary := 1 } }; t.hoopSt 7 = .stopping ∧ (t.hoop 7).stopped = some 0 ∧ 0 < t.mt.boundary ∧ (t.hoop 7).stopFor = .command)
    ∧ (let s := (lit.setHoopSt 7 .held).modHoop 7 (fun h => { h with releaseAt := some 0 }); s.hoopSt 7 = .held ∧ (s.hoop 7).releaseAt = some 0 ∧ 0 ≤ s.mt.boundary)
    ∧ (let s := ((lit.setHoopSt 7 .repair).modHoop 7 (fun h => { h with resumeAt := some 0 })).put F.fabHoopCfgCtxValid 15 7; s.hoopSt 7 = .repair ∧ (s.hoop 7).resumeAt = some 0 ∧ 0 ≤ s.mt.boundary ∧ s.ctxOk 7 = true) := by
  refine ⟨?_, ?_, ?_, ?_, ?_, ?_, ?_⟩ <;> decide +kernel

theorem witness_ArithmeticAndMatchCommandsComplete :
    (let s := { (lit.flag F.fabCtrlStarted).put F.fabBindAsBind 4 384 with sliceCfgs := [(4 * 384, { accSrc := 1 })] }; s.blockRuns (sliceOwner 384) (s.get F.fabBindAsBind 384) (s.heldBit .fabHbHoldAs 384) = true ∧
    s.sliceCfg 384 (s.ctxOf (sliceOwner 384)) = { accSrc := 1 })
    ∧ (((lit.flag F.fabCtrlStarted).put F.fabBindRuOwner 192 3 |>.put F.fabBindRuBind 4 3).rankRuns 3 = true)
    ∧ (let s := ((lit.flag F.fabCtrlStarted).put F.fabBindRuOwner 192 3 |>.put F.fabBindRuBind 4 3); let t := s.setRank 3 { pipe := [some { count := 5 }] }; t.rankRuns 3 = true ∧ (t.rank 3).pipe = some { count := 5 } :: [])
    ∧ ((upsetRows 3 [(7, 9)] ((lit.flag F.fabCtrlStarted).put F.fabBindPmOwner 192 3 |>.put F.fabBindPmBind 4 3)).pmRuns 3 = true)
    ∧ (let s := ((lit.flag F.fabCtrlStarted).put F.fabBindPmOwner 192 3 |>.put F.fabBindPmBind 4 3); let t := s.setPm 3 { pipe := [{ count := 5 }] }; t.pmRuns 3 = true ∧ (t.pm 3).pipe = { count := 5 } :: [])
    ∧ (lit.get F.fabPmuStatusState 1 = 0 ∧ pmuRefused 1 0 (bits (9 : Word).toNat 7 0) lit = false)
    ∧ (lit.get F.fabPmuStatusState 1 = 0 ∧ pmuRefused 1 1 (bits (9 : Word).toNat 7 0) lit = false)
    ∧ (lit.get F.fabPmuStatusState 1 = 0 ∧ pmuRefused 1 2 (bits (9 : Word).toNat 7 0) lit = false)
    ∧ (lit.get F.fabPmuStatusState 1 = 0 ∧ pmuRefused 1 3 (bits (9 : Word).toNat 7 0) lit = false)
    ∧ (lit.get F.fabPmuStatusState 1 = 0 ∧ pmuRefused 1 4 (bits (9 : Word).toNat 7 0) lit = false)
    ∧ ((lit.put F.fabPmuStatusState 1 2).get F.fabPmuStatusState 2 ≠ 0 ∧ ((lit.put F.fabPmuStatusState 1 2).pmu 2).finished = none)
    ∧ (let s := (lit.put F.fabPmuStatusState 1 2).put F.fabPmuCtrlOp 1 2; s.nocClocked = true ∧ s.get F.fabPmuStatusState 2 = 1 ∧ (s.pmu 2).finished = none ∧ s.frozen F.dbgFreezePmu = false ∧ s.get F.fabPmuCtrlOp 2 = 1)
    ∧ (let s := lit.put F.fabPmuStatusState 2 2; let t := { s with mt := { s.mt with boundary := 1 } }; t.get F.fabPmuStatusState 2 = 2 ∧ (t.pmu 2).finished = none ∧ (t.pmu 2).accepted < t.mt.boundary ∧ t.bit F.fabPmuCtrlAt 2 = false)
    ∧ (let s := (lit.setPmu 2 { finished := some 0 }).put F.fabPmuCtrlOp 1 2; let t := s.flag F.fabPmuWxqEn 2; s.nocClocked = true ∧ (s.pmu 2).finished = some 0 ∧ s.get F.fabPmuCtrlOp 2 = 1 ∧ (t.pmu 2).finished = some 0 ∧ t.bit F.fabPmuWxqEn 2 = true) := by
  refine ⟨?_, ?_, ?_, ?_, ?_, ?_, ?_, ⟨?_, ?_, ?_, ?_, ?_, ?_, ?_⟩⟩ <;> decide +kernel

theorem witness_BankAccessesComplete :
    (let s := ((lit.flag F.fabCtrlStarted).put F.membBownOwner 192 3).put F.membBcfgPmode 2 3; 192 = s.get F.membBownOwner 3 ∧ s.regionRuns 192 = true ∧
    s.bit F.membBcfgHeldA 3 = false ∧ (Tab.get {} s.banks 3).unspared = false ∧ (Tab.get {} s.banks 3).portOff = false ∧ s.get F.membBcfgWidthA 3 = 0 ∧ s.get F.membBcfgPmode 3 = 2 ∧
    (s.port 3 .b).last = none ∧ Tab.get 0 s.syn (0x8000000 + 0x400 * 3 + 1023) = 0)
    ∧ (((lit.modPort 3 .b (fun q => { q with pipe := [(192, 5, false)] })).port 3 .b).pipe = (192, 5, false) :: [] ∧ 192 ≠ lit.get F.membBownOwner 3)
    ∧ ((((lit.put F.membBownOwner 192 3).modPort 3 .b (fun q => { q with pipe := [(192, 5, false)] })).port 3 .b).pipe = (192, 5, false) :: [] ∧ 192 = (lit.put F.membBownOwner 192 3).get F.membBownOwner 3)
    ∧ (bitAt (0x80C10000 : Word).toNat 31 = true ∧ bits (0x80C10000 : Word).toNat 23 16 ≤ 193 ∧ lit.regionLoading (lit.get F.membBownOwner 3) = false ∧
    lit.regionLoading (bits (0x80C10000 : Word).toNat 23 16) = false ∧ (Tab.get {} lit.banks 3).handAt = none)
    ∧ (let s := lit.modBank (.block 3) (fun k => { k with handAt := some 0 }); (Tab.get {} s.banks 3).handAt = some 0 ∧ 0 ≤ s.mt.boundary)
    ∧ (let s := ((lit.flag F.membBcfgWinEn 1).flag F.fabCtrlStarted).put F.fabFclkCtrlK0 8; s.nocClocked = true ∧ s.windowShut ((0x40003FF8 - 0x40000000) / 0x2000) (s.windowPort ((0x40003FF8 - 0x40000000) / 0x2000)) = false ∧ bankRefusal (blockId ((0x40003FF8 - 0x40000000) / 0x2000)) s = none ∧ s.bit F.membBcfgWinEn ((0x40003FF8 - 0x40000000) / 0x2000) = true ∧
    (s.port ((0x40003FF8 - 0x40000000) / 0x2000) (s.windowPort ((0x40003FF8 - 0x40000000) / 0x2000)).other).last = none ∧ Tab.get 0 s.syn (0x40003FF8 / 8) = 0)
    ∧ (lit.nocClocked = true)
    ∧ (lit.quillClocked ((255 : Fin 256) / 16) = true ∧ bankRefusal (.scratch 255) lit = none ∧ 0x3FFF8 % 8 = 0 ∧ Tab.get 0 lit.syn (0x2000000 + 0x8000 * 255 + 0x3FFF8 / 8) = 0)
    ∧ (lit.quillClocked ((255 : Fin 256) / 16) = true ∧ bankRefusal (.scratch 255) lit = none ∧ 0x3FFF8 % 8 = 0 ∧ ([1, 2, 3, 4, 5, 6, 7, 8] : List Byte).length = 8)
    ∧ (let s := lit.setPair .membScrBaseLo .membScrBaseHi 0x40000000 1; s.get F.membScrStatusState 1 = 0 ∧ scrubRefused 1 s = false)
    ∧ ((lit.put F.membScrStatusState 1 1).get F.membScrStatusState 1 = 1 ∧ ((lit.put F.membScrStatusState 1 1).scrub 1).finished = none)
    ∧ (let s := (lit.put F.membScrStatusState 1 1).put F.membScrLenVal 9 1; s.nocClocked = true ∧ s.get F.membScrStatusState 1 = 1 ∧ (s.scrub 1).finished = none ∧ s.frozen F.dbgFreezeScrub = false ∧ s.get F.membScrStatusProgress 1 < s.get F.membScrLenVal 1)
    ∧ ((lit.setScrub 1 { finished := some 0 }).nocClocked = true ∧ ((lit.setScrub 1 { finished := some 0 }).scrub 1).finished = some 0) := by
  refine ⟨?_, ?_, ?_, ?_, ?_, ?_, ?_, ⟨?_, ?_, ?_, ?_, ?_, ?_⟩⟩ <;> decide +kernel

theorem witness_BankPowerAndSparesComplete :
    (lit.power (.block 3) = .on ∧ (lit.bank (.block 3)).unspared = false ∧ (lit.bank (.block 3)).latched = none ∧ lit.spareFor (.block 3) 1 = false)
    ∧ (let s := lit.put F.membBpwrState 1 3; s.power (.block 3) = .lowering ∧ (s.bank (.block 3)).portChange = false ∧ (s.bank (.block 3)).toOff = false ∧ (s.bank (.block 3)).latched = none)
    ∧ (let s := lit.put F.membBpwrState 4 3; s.power (.block 3) = .waking ∧ (s.bank (.block 3)).fromOff = false ∧ (s.bank (.block 3)).latched = none)
    ∧ (let s := lit.put F.membBpwrState 5 3; s.power (.block 3) = .clearing ∧ (s.bank (.block 3)).unspared = false ∧ (s.bank (.block 3)).latched = none)
    ∧ (lit.power (.block 3) = .on ∧ (lit.bank (.block 3)).unspared = false ∧ (lit.bank (.block 3)).latched = none ∧ bits (0x10000 : Word).toNat 1 0 = 0)
    ∧ (let s := lit.modBank (.scratch 3) (fun b => { b with faulty := true }); s.mgmtClocked = true ∧ (s.bank (.scratch 3)).faulty = true ∧ s.spareSt (.scratch 3) = 0 ∧ (∀ m : Fin 256, m.val / 16 = (3 : Fin 256).val / 16 → m ≠ 3 → (s.bank (.scratch m)).faulty = false))
    ∧ (let s := lit.setSpare (.block 3) 1; s.mgmtClocked = true ∧ s.spareFor (.block 3) 1 = true ∧ (s.bank (.block 3)).copied = none)
    ∧ (let s := (lit.setSpare (.scratch 3) 1).modBank (.scratch 3) (fun b => { b with copied := some 0 }); s.quillClocked ((3 : Fin 256) / 16) = true ∧ (s.bank (.scratch 3)).copied = some 0 ∧ s.spareFor (.scratch 3) 1 = true ∧ (s.bank (.scratch 3)).latched = none ∧ (s.bank (.scratch 3)).reinst = 0)
    ∧ (let s := (lit.setSpare (.scratch 3) 2).modBank (.scratch 3) (fun b => { b with reinst := 2 }); (s.bank (.scratch 3)).reinst = 2 ∧ s.spareFor (.scratch 3) 2 = true)
    ∧ ((lit.modBank (.scratch 3) (fun b => { b with reinst := 3 })).mgmtClocked = true ∧ ((lit.modBank (.scratch 3) (fun b => { b with reinst := 3 })).bank (.scratch 3)).reinst = 3 ∧ (lit.modBank (.scratch 3) (fun b => { b with reinst := 3 })).spareFor (.scratch 3) 4 = false) := by
  refine ⟨?_, ?_, ?_, ?_, ?_, ?_, ?_, ⟨?_, ?_, ?_⟩⟩ <;> decide +kernel

theorem witness_NearStoreCommandsComplete :
    (lit.bit F.nearCtrlLock = false ∧ lit.started = false ∧ bits (0x16 : Word).toNat 2 0 ≠ 0 ∧ bitAt (0x16 : Word).toNat 31 = false)
    ∧ ((lit.put F.nearChStatusState 1 4).nearClocked 4 = true ∧ (lit.put F.nearChStatusState 1 4).nearSt 4 = .training ∧ (lit.put F.nearChStatusState 1 4).mirrored = false)
    ∧ ((lit.put F.nearChStatusState 2 4).nearClocked 4 = true ∧ (lit.put F.nearChStatusState 2 4).nearSt 4 = .filling ∧ ((lit.put F.nearChStatusState 2 4).nearCh 4).copying = false)
    ∧ (let s := (lit.put F.nearChStatusState 2 4).modNear 4 (fun n => { n with copying := true }); s.nearClocked 4 = true ∧ s.nearSt 4 = .filling ∧ (s.nearCh 4).copying = true)
    ∧ (((lit.put F.nearChStatusState 3 4).flag F.nearCtrlRanks).rankServes 4 (1 : Fin 2) = true ∧ ((lit.put F.nearChStatusState 3 4).flag F.nearCtrlRanks).extest = false)
    ∧ (((lit.put F.nearChStatusState 3 4).flag F.nearCtrlRanks).rankServes 4 (1 : Fin 2) = true ∧ ((lit.put F.nearChStatusState 3 4).flag F.nearCtrlRanks).extest = false)
    ∧ ((lit.put F.nearChStatusState 3 4).nearSt 4 = .on)
    ∧ (let s := (lit.put F.nearChStatusState 3 4).modNear 4 (fun n => { n with pllLost := true }); s.nearSt 4 = .on ∧ (s.nearCh 4).pllLost = true)
    ∧ (let s := ((lit.put F.nearChStatusState 3 0).put F.xcrKeyValidVal 2).put F.nearCtrlDensity 3; let a := 0x80000000000 + nearUser; a % 64 = 0 ∧ nearGate .sceum a s = none ∧ s.keyValid (keyId a) = true ∧
    s.unfilled (s.nearServer (nearPlace s.mirrored ((offsetOf a - nearStart) / 4096)).1) (nearPlace s.mirrored ((offsetOf a - nearStart) / 4096)).2 = false ∧ tablePage (offsetOf a) = none ∧ s.tableBad (pageKey (offsetOf a)) = false ∧
    (s.page (pageKey (offsetOf a))).touched = false ∧ s.lineAt (offsetOf a / 64) = {})
    ∧ (let s := ((lit.put F.nearChStatusState 3 0).put F.xcrKeyValidVal 2).put F.nearCtrlDensity 3; let a := 0x80000000000 + nearUser; s.engineClocked 0 = true ∧ keyId a ≠ 0 ∧ a % 64 = 0 ∧ engineServes 0 (offsetOf a) s = true ∧ s.keyValid (keyId a) = true ∧
    s.tableBad (pageKey (offsetOf a)) = false ∧ (s.page (pageKey (offsetOf a))).touched = false ∧ s.lineAt (offsetOf a / 64) = {})
    ∧ (let s0 := (lit.put F.nearChStatusState 3 0).put F.xcrKeyValidVal 2; let a := 0x80000000000 + nearUser; let s := s0.setPage (pageKey (offsetOf a)) { touched := true, key := 1 }; s.engineClocked 0 = true ∧ keyId a ≠ 0 ∧ a % 64 = 0 ∧ engineServes 0 (offsetOf a) s = true ∧ s.keyValid (keyId a) = true ∧
    s.tableBad (pageKey (offsetOf a)) = false ∧ (s.page (pageKey (offsetOf a))).touched = true ∧ (s.page (pageKey (offsetOf a))).key = keyId a ∧ (s.page (pageKey (offsetOf a))).exhausted = false ∧
    (sealLine (s.keyBytes (keyId a)) (s.page (pageKey (offsetOf a))).major ((s.lineAt (offsetOf a / 64)).minor + 1) (offsetOf a / 64) [] true).minor ≤ 255)
    ∧ (let s := (lit.put F.xcrRelPageVal 2097152).put F.nearCtrlDensity 3; s.get F.xcrRelStatusState = 0 ∧ releaseRefused ((s.put F.xcrRelCtrlTier (bits (0 : Word).toNat 28 28)).put F.xcrRelCtrlPort (bits (0 : Word).toNat 27 24)) = false)
    ∧ ((lit.put F.xcrRelStatusState 1).nocClocked = true ∧ (lit.put F.xcrRelStatusState 1).get F.xcrRelStatusState = 1) := by
  refine ⟨?_, ?_, ?_, ?_, ?_, ?_, ?_, ⟨?_, ?_, ?_, ?_, ?_, ?_⟩⟩ <;> decide +kernel

theorem witness_CaveCommandsComplete :
    (let s := (lit.put F.cavePcfgBundle 5 3).put F.laneCfgMode 2 5; s.get F.cavePcfgBundle 3 < 48 ∧ s.get F.laneCfgMode (s.get F.cavePcfgBundle 3) = modeCave ∧ (∀ q : Fin 16, q ≠ 3 → s.get F.cavePcfgBundle q ≠ s.get F.cavePcfgBundle 3) ∧ (s.dom (300 + 3)).st = .on ∧ s.cvSt 3 = .down)
    ∧ ((lit.setCvSt 3 .ready).cvSt 3 = .ready)
    ∧ ((lit.setCvSt 3 .retired).cvSt 3 = .retired)
    ∧ ((1 : BitVec 2) ≠ 3 ∧ (1 : BitVec 2).toNat ≠ lit.get F.cavePcfgPower 3 ∧ lit.linkUp 3 = false)
    ∧ (let s := (List.range 8).foldl (fun s m => s.setLaneSt 0 m .active) (lit.setCvSt 3 .linking); s.nocClocked = true ∧ s.cvSt 3 = .linking ∧ (∀ m : Fin 8, s.laneServed (s.get F.cavePcfgBundle 3) m = true))
    ∧ ((lit.setCvSt 3 .linking).nocClocked = true ∧ (lit.setCvSt 3 .linking).cvSt 3 = .linking)
    ∧ (let s := (lit.setCvSt 3 .probe).modCv 3 (fun c => { c with bridge := [(0, 0x10000), (1, 0x2000000), (2, 64), (3, 64)] }); s.nocClocked = true ∧ s.cvSt 3 = .probe ∧
    (s.cv 3).pend = [] ∧ s.get F.caveRingPagesVal ≤ Tab.get 0 (s.cv 3).bridge 1 ∧ Tab.get 0 (s.cv 3).bridge 1 < 2 ^ 32 ∧ bits (Tab.get 0 (s.cv 3).bridge 0) 19 16 = 1)
    ∧ ((lit.setCvSt 3 .stopping).nocClocked = true ∧ (lit.setCvSt 3 .stopping).cvSt 3 = .stopping ∧ (lit.setCvSt 3 .stopping).bit F.cavePstatusPendingEnable 3 = false)
    ∧ ((lit.setCvSt 3 .ready).nocClocked = true ∧ (lit.setCvSt 3 .ready).linkUp 3 = true)
    ∧ (let s := (lit.setCvSt 3 .ready).modCv 3 (fun c => { c with unacked := [(0, [1], 0)] }); s.nocClocked = true ∧ s.linkUp 3 = true ∧ (s.cv 3).unacked ≠ [] ∧ (∀ u ∈ (s.cv 3).unacked, u.2.2 < 7))
    ∧ ((lit.setCvSt 3 .ready).nocClocked = true ∧ (lit.setCvSt 3 .ready).linkUp 3 = true ∧ ((lit.setCvSt 3 .ready).blockSlots 3).any (fun c => c.bad) = true)
    ∧ (let s := (List.range 8).foldl (fun s i => s.modLane 0 i (fun l => { l with slot := { data := 0x40000000 * 2 ^ 64, kind := 0, user := 0, poison := false, bad := false } })) ((lit.setCvSt 3 .ready).put F.laneCfgMult 10)
    s.nocClocked = true ∧ s.linkUp 3 = true ∧ (s.blockSlots 3).any (fun c => c.bad) = false ∧ bits (beVal ((blockOf (s.blockBytes 3) (s.blockSlots 3)).take 4)) 31 30 = 1 ∧
    bitAt (beVal ((blockOf (s.blockBytes 3) (s.blockSlots 3)).take 4)) 9 = false ∧ bits (beVal ((blockOf (s.blockBytes 3) (s.blockSlots 3)).take 4)) 29 20 = (s.cv 3).rxNext)
    ∧ (let s := (((lit.setCvSt 0 .ready).put F.cavePcapVal 100 0).put F.xcrKeyValidVal 2).put F.cavePstatusRcred 5 0; let a := 0x80000000000 + caveStart; s.nocClocked = true ∧ caveGate .sceum a s = none ∧ (s.cv (cavePort (offsetOf a))).waiting = [] ∧ 1 ≤ s.get F.cavePstatusRcred (cavePort (offsetOf a)) ∧ a % 64 = 0)
    ∧ (let m := caveHeader 8 5 1 0 1 0 ++ List.replicate 76 0; let s := lit.modCv 3 (fun c => { c with inbox := [m], pend := [(5, .read 7 64)] }); s.nocClocked = true ∧ (s.cv 3).inbox = [m] ∧ caveType m = 8 ∧ caveArg m = 1 ∧ (s.cv 3).pend = [(caveTag m, .read 7 64)])
    ∧ (let a := 0x80000000000 + caveStart; let m := caveHeader 8 5 1 0 0 0 ++ List.replicate 76 0; let s := (lit.put F.xcrKeyValidVal 2).modCv 3 (fun c => { c with inbox := [m], pend := [(5, .read a 64)] }); s.nocClocked = true ∧ (s.cv 3).inbox = [m] ∧ caveType m = 8 ∧ caveArg m = 0 ∧ (s.cv 3).pend = [(caveTag m, .read a 64)] ∧
    caveLines m = [{ data := List.replicate 64 0, tag := 0, minor := 0, poison := false }] ∧ a % 64 = 0 ∧ s.keyValid (keyId a) = true ∧ s.tableBad (pageKey (offsetOf a)) = false ∧ (s.page (pageKey (offsetOf a))).touched = false)
    ∧ (let m := caveHeader 9 5 1 0 0 0; let s := lit.modCv 3 (fun c => { c with inbox := [m], writes := [(5, 9)], reqs := [{ id := 9, left := 1, status := .ok }] }); s.nocClocked = true ∧ (s.cv 3).inbox = [m] ∧ caveType m = 9 ∧ caveArg m = 0 ∧ (s.cv 3).writes = [(caveTag m, 9)] ∧ (s.cv 3).reqs = [{ id := 9, left := 1, status := .ok }])
    ∧ (let m := caveHeader 10 5 1 0 0 0 ++ beList 7 4; let s := lit.modCv 3 (fun c => { c with inbox := [m], pend := [(5, .creg 2)] }); s.nocClocked = true ∧ (s.cv 3).inbox = [m] ∧ caveType m = 10 ∧ (s.cv 3).pend = [(caveTag m, .creg 2)] ∧ 2 ≠ 1)
    ∧ (let m := caveHeader 11 0 1 0 1 0; let s := ((lit.setCvSt 3 .filling).flag F.cavePcfgEn 3).modCv 3 (fun c => { c with inbox := [m] }); s.nocClocked = true ∧ (s.cv 3).inbox = [m] ∧ caveType m = 11 ∧ caveArg m = 1 ∧ s.cvSt 3 = .filling ∧ s.bit F.cavePcfgEn 3 = true)
    ∧ (let m := caveHeader 12 0 1 0 0 0 ++ beList (5 * 65536 + 3) 4; let s := (lit.setCvSt 3 .ready).modCv 3 (fun c => { c with inbox := [m] }); s.nocClocked = true ∧ (s.cv 3).inbox = [m] ∧ caveType m = 12 ∧ s.linkUp 3 = true ∧ (s.cv 3).waiting = [] ∧
    s.get F.cavePstatusWcred 3 + bits (caveValue m) 31 16 < 65536 ∧ s.get F.cavePstatusRcred 3 + bits (caveValue m) 15 0 < 4096) := by
  refine ⟨?_, ?_, ?_, ?_, ?_, ?_, ?_, ⟨?_, ?_, ?_, ?_, ?_, ?_, ?_, ⟨?_, ?_, ?_, ?_, ?_⟩⟩⟩ <;> decide +kernel

theorem witness_HistoryRingCommandsComplete :
    (let s := lit.flag F.fabCtrlStarted; s.regionRuns (if (9 : Fin 16).val < 8 then 192 else 193) = true ∧ s.hwReady 9 = true ∧ (s.hwPort 9).cur = none ∧ s.recordLate (0 : BitVec 14).toNat = false ∧ (List.replicate 64 (0 : Byte)).length = 64)
    ∧ (let s := lit.setHw 9 { closed := [{ stamp := 0, lines := [([], false)], cont := false, late := false }] }; s.nocClocked = true ∧ (s.hwPort 9).closed = { stamp := 0, lines := [([], false)], cont := false, late := false } :: [] ∧ s.ringSt ≠ 2)
    ∧ (let s := (lit.setHw 9 { closed := [{ stamp := 0, lines := [([], false)], cont := false, late := false }] }).setRingSt 2; s.nocClocked = true ∧ (s.hwPort 9).closed = { stamp := 0, lines := [([], false)], cont := false, late := false } :: [] ∧ s.ringSt = 2 ∧ s.fifoLines + 1 ≤ 32768)
    ∧ (let s := ((((lit.setRingSt 2).put F.nearRingCtrlMode 1).put F.caveRingMaskVal 8).put F.caveRingPagesVal 100).put F.nearRingNlenVal 50; let t := (s.setPair .nearRingHeadLo .nearRingHeadHi 64).setCvSt 3 .ready; let u := { t with ring := { t.ring with fresh := false } }
    u.nocClocked = true ∧ u.ringSt = 2 ∧ u.ringDirect = false ∧ u.ring.fresh = false ∧ u.ring.migrated < u.ringHead / 64 ∧ u.caveSlot u.ring.migrated = some (3, 0) ∧ u.ring.lost.contains u.ring.migrated = false ∧ u.mustSkip u.ring.migrated = false ∧ u.cvSt 3 = .ready ∧ (u.dom (300 + 3)).st = .on)
    ∧ (let s := lit.put F.nearRingCtrlMode 1; bits (0x80000100 : Word).toNat 9 8 = 1 ∧ bits (0x80000100 : Word).toNat 4 0 = s.get F.nearRingCtrlKey ∧ s.get F.nearRingCtrlMode = 1 ∧ bitAt (0x80000100 : Word).toNat 31 = true ∧ s.ringSt = 0)
    ∧ (lit.ringSt = 0 ∧ (100 : Word).toNat < 2 ^ 27 ∧ (100 : Word) ≠ lit.word .nearRingNlen)
    ∧ (let s := lit.setRingSt 1; s.ringSt = 1 ∧ s.pagesFilled (s.get F.nearRingNbaseVal) s.nNear = true ∧ s.pagesFilled (s.get F.nearIdxBaseVal) (s.get F.nearIdxLenVal) = true ∧ s.ringPorts.all (fun p => s.cvSt p == .ready) = true)
    ∧ ((lit.setRingSt 3).nocClocked = true ∧ (lit.setRingSt 3).ring.fifo = [] ∧ (lit.setRingSt 3).ringSt = 3 ∧ (lit.setRingSt 3).bit F.nearRingStatusPendingEnable = false)
    ∧ (let s := lit.setWord .nearLbD 0x10000000 5; s.lbQueue.length < 64 ∧ (s.word .nearLbD 5).toNat % 64 = 0 ∧ isMemory ((s.word .nearLbD 5).toNat + (s.word .nearLbD 6).toNat / 65536 * 2 ^ 32) = true ∧ isMemory ((s.word .nearLbD 5).toNat + (s.word .nearLbD 6).toNat / 65536 * 2 ^ 32 + ((s.word .nearLbD 6).toNat % 65536 + 1) * 65536 - 1) = true)
    ∧ (let s : State := { lit with lbQueue := [[1, 2]] }; s.nocClocked = true ∧ s.lbQueue = [1, 2] :: [] ∧ (s.lbEng 3).busy = false ∧ s.frozen F.dbgFreezeLookback = false)
    ∧ (let s : State := { lit with lbEngs := [(3, { busy := true, words := [] })] }; s.nocClocked = true ∧ (s.lbEng 3).busy = true ∧ s.frozen F.dbgFreezeLookback = false)
    ∧ (let s := lit.flag F.nearLbtxCfgEn 1; s.bit F.nearLbtxCtrlGo 1 = false ∧ s.bit F.nearLbtxCfgEn 1 = true ∧ s.get F.nearLbtxCfgBundle 1 < 48 ∧ s.get F.laneCfgMode (s.get F.nearLbtxCfgBundle 1) = modeDetector ∧ s.get F.nearLbtxLenVal 1 = 0)
    ∧ ((lit.flag F.nearLbtxCtrlGo 1).nocClocked = true ∧ (lit.flag F.nearLbtxCtrlGo 1).bit F.nearLbtxCtrlGo 1 = true ∧ ((lit.flag F.nearLbtxCtrlGo 1).lbtxCh 1).data.isEmpty = true) := by
  refine ⟨?_, ?_, ?_, ?_, ?_, ?_, ?_, ⟨?_, ?_, ?_, ?_, ?_, ?_⟩⟩ <;> decide +kernel

theorem witness_NetworkCommandsComplete :
    (niOfReq .sceum = niSceum ∧ niPresent niSceum = true ∧ lit.fenced niSceum = false ∧ lit.niOf (0x2000000 : BitVec 48).toNat = none)
    ∧ (niOfReq .sceum = niSceum ∧ niPresent niSceum = true ∧ lit.fenced niSceum = false ∧ lit.niOf (0x10000000 : BitVec 48).toNat = some 27 ∧ lit.freeTxn niSceum = some 0 ∧ lit.cutAt niSceum 27 = none ∧ lit.fenced 27 = false ∧
    lit.canStart niSceum { req := .sceum, cmd := 0, addr := (0x10000000 : BitVec 48).toNat, len := 8, vc := vcOf .sceum 0 } = true)
    ∧ (niOfReq .sceum = niSceum ∧ niPresent niSceum = true ∧ lit.fenced niSceum = false ∧ lit.niOf (0x13FFFFC0 : BitVec 48).toNat = some (niTile 15 3 1) ∧ lit.freeTxn niSceum = some 0 ∧ lit.cutAt niSceum (niTile 15 3 1) = none ∧ lit.fenced (niTile 15 3 1) = false ∧
    lit.canStart niSceum { req := .sceum, cmd := 1, addr := (0x13FFFFC0 : BitVec 48).toNat, len := 1, payload := [7], be := [true], poison := false, vc := vcOf .sceum 0 } = true)
    ∧ (niOfReq .sceum = niSceum ∧ niPresent niSceum = true ∧ lit.fenced niSceum = false ∧ lit.niOf (0x20000000 : BitVec 48).toNat = some (niTile 0 0 0) ∧ lit.freeTxn niSceum = some 0 ∧ lit.cutAt niSceum (niTile 0 0 0) = none ∧ lit.fenced (niTile 0 0 0) = false ∧
    lit.canStart niSceum { req := .sceum, cmd := 3, addr := (0x20000000 : BitVec 48).toNat, len := 8, payload := bytesOf (5 : DWord).toNat 8, aop := (2 : Fin 16), vc := vcOf .sceum 0 } = true)
    ∧ (niOfReq .sceum = niSceum ∧ niPresent niSceum = true ∧ lit.fenced niSceum = false ∧ lit.niOf (0x2000000 : BitVec 48).toNat = none)
    ∧ (let u := lit.setDom 100 { st := .off }; niOfReq .sceum = niSceum ∧ niPresent niSceum = true ∧ u.fenced niSceum = false ∧ u.niOf (0x20000000 : BitVec 48).toNat = some (niTile 0 0 0) ∧ u.cutAt niSceum (niTile 0 0 0) = none ∧
    u.canStart niSceum { req := .sceum, cmd := 2, addr := (0x20000000 : BitVec 48).toNat, len := 1, payload := [7], be := [true], poison := false, vc := vcOf .sceum 2 } = true ∧ u.regulated niSceum (vcOf .sceum 2) = false ∧
    u.fenced (niTile 0 0 0) = true ∧ lit.fenced (niTile 0 0 0) = false)
    ∧ (niPresent (niTile 0 0 0) = true ∧ lit.fenced (niTile 0 0 0) = false ∧ lit.cutAt (niTile 0 0 0) niExchange = none ∧ lit.fenced niExchange = false ∧ niTile 0 0 0 ≠ niSceum ∧ niTile 0 0 0 ≠ niExchange ∧ lit.regulated (niTile 0 0 0) 2 = false ∧
    lit.canStart (niTile 0 0 0) { req := .engine, cmd := 4, addr := (5 : BitVec 14).toNat, len := 8, payload := bytesOf (9 : DWord).toNat 8, vc := 2 } = true)
    ∧ (let r : NocReq := { req := .sceum, cmd := 0, addr := 0x10000000, len := 4, txn := 3 }; let s := lit.modNi niSceum (fun q => { q with outs := [r] }); s.nocClocked = true ∧ (s.ni niSceum).outs.find? (fun r => r.txn == 3) = some r ∧ r.req = .sceum ∧ s.fenced niSceum = false ∧ (s.ni 24).outs.find? (fun r => r.txn == 3) = none ∧
    (s.niOf r.addr).bind (fun dst => s.cutAt dst niSceum) = none ∧ (s.ni niSceum).wait = [])
    ∧ (let r : NocReq := { req := .sceum, cmd := 3, addr := 0x10000000, len := 4, txn := 3 }; let s := lit.modNi niSceum (fun q => { q with outs := [r] }); s.nocClocked = true ∧ (s.ni niSceum).outs.find? (fun r => r.txn == 3) = some r ∧ r.repeatable = false ∧ r.req = .sceum)
    ∧ (lit.nocClocked = true)
    ∧ (let r : NocReq := { req := .sceum, cmd := 3, addr := 0x10000000, len := 4 }; let s := lit.modNi niSceum (fun q => { q with wait := [r] }); s.nocClocked = true ∧ (s.ni niSceum).wait = r :: [] ∧ r.repeatable = false ∧ r.req = .sceum) := by
  refine ⟨?_, ?_, ?_, ?_, ?_, ?_, ?_, ⟨?_, ?_, ?_, ?_⟩⟩ <;> decide +kernel

theorem witness_RouterCommandsComplete :
    (lit.nocClocked = true ∧ Tab.get [] lit.noc.replays (4 * 143 + 3) = [] ∧ lit.get F.nocRtrErrcntReplays 143 < 255)
    ∧ (lit.nocClocked = true ∧ Tab.get [] lit.noc.parity 143 = [] ∧ lit.get F.nocRtrErrcntXbar 143 < 255)
    ∧ (lit.rtrSt 143 ≠ 3 ∧ lit.noc.active = none ∧ lit.noc.latched = [])
    ∧ (let s : State := { lit with noc := { lit.noc with active := some (7, .command) } }; s.rtrSt 143 ≠ 3 ∧ s.noc.active = some (7, .command) ∧ s.noc.latched = [])
    ∧ ((lit.put F.nocRtrStatusState 1 143).nocClocked = true ∧ (lit.put F.nocRtrStatusState 1 143).rtrSt 143 = 1)
    ∧ (let s0 : State := { lit with noc := { lit.noc with active := some (143, .command) } }; let s := s0.put F.nocRtrStatusState 2 143; s.nocClocked = true ∧ s.noc.nis.all (fun e => e.2.wait.isEmpty) = true ∧ s.noc.active = some (143, .command) ∧ s.rtrSt 143 = 2 ∧ s.noc.latched = [])
    ∧ (let s := lit.put F.nocRtrStatusState 3 143; lit.rtrSt 143 ≠ 3 ∧ s.rtrSt 143 = 3 ∧ s.noc.active = none ∧ s.noc.latched = [])
    ∧ (let v : Word := 0x3A020202; 2 ≤ bits v.toNat 7 0 ∧ 2 ≤ bits v.toNat 31 24 ∧ bits v.toNat 7 0 + bits v.toNat 15 8 + bits v.toNat 23 16 + bits v.toNat 31 24 ≤ 64 ∧ bits (0x01101010 : Word).toNat 31 24 < 2) := by
  refine ⟨?_, ?_, ?_, ?_, ?_, ?_, ?_, ?_⟩ <;> decide +kernel

theorem witness_CoreInstructionsComplete :
    ((coreAt 0x007302B3).coreRuns (3 : Fin 128) = true ∧ (coreAt 0x007302B3).nextIrq (3 : Fin 128) = none ∧ (fetch (3 : Fin 128) (coreAt 0x007302B3)).1 = .instr (.alu .add 5 6 7) 4)
    ∧ ((coreAt 0x008002EF).coreRuns (3 : Fin 128) = true ∧ (coreAt 0x008002EF).nextIrq (3 : Fin 128) = none ∧ (fetch (3 : Fin 128) (coreAt 0x008002EF)).1 = .instr (.jal 5 8) 4)
    ∧ ((coreAt 0x00731463).coreRuns (3 : Fin 128) = true ∧ (coreAt 0x00731463).nextIrq (3 : Fin 128) = none ∧ (fetch (3 : Fin 128) (coreAt 0x00731463)).1 = .instr (.branch .ne 6 7 8) 4)
    ∧ (let s := coreAt 0x340312F3; s.coreRuns (3 : Fin 128) = true ∧ s.nextIrq (3 : Fin 128) = none ∧ (fetch (3 : Fin 128) s).1 = .instr (.csr .write false 5 6 0x340) 4 ∧ (fetch (3 : Fin 128) s).2.csrAllowed (3 : Fin 128) 0x340 = true ∧ csrReadOnly 0x340 = false)
    ∧ ((coreAt 0xFFFFFFFF).coreRuns (3 : Fin 128) = true ∧ (coreAt 0xFFFFFFFF).nextIrq (3 : Fin 128) = none ∧ (fetch (3 : Fin 128) (coreAt 0xFFFFFFFF)).1 = .instr .illegal 4)
    ∧ ((coreAt 0x73).coreRuns (3 : Fin 128) = true ∧ (coreAt 0x73).nextIrq (3 : Fin 128) = none ∧ (fetch (3 : Fin 128) (coreAt 0x73)).1 = .instr .ecall 4)
    ∧ (let s := coreAt 0x100073; s.coreRuns (3 : Fin 128) = true ∧ s.nextIrq (3 : Fin 128) = none ∧ (fetch (3 : Fin 128) s).1 = .instr .ebreak 4 ∧ (fetch (3 : Fin 128) s).2.bit F.dbgStatusAttached = false)
    ∧ (let s := coreAt 0x0FF0000F; s.coreRuns (3 : Fin 128) = true ∧ s.nextIrq (3 : Fin 128) = none ∧ (fetch (3 : Fin 128) s).1 = .instr .fence 4 ∧ ((fetch (3 : Fin 128) s).2.core (3 : Fin 128)).stores = [])
    ∧ (let s := coreAt 0x100F; s.coreRuns (3 : Fin 128) = true ∧ s.nextIrq (3 : Fin 128) = none ∧ (fetch (3 : Fin 128) s).1 = .instr .fenceI 4) := by
  refine ⟨?_, ?_, ?_, ?_, ?_, ?_, ?_, ⟨?_, ?_⟩⟩ <;> decide +kernel

theorem witness_CoreMemoryInstructionsComplete :
    (let s := coreAt 0x00032283; let t := (fetch 3 s).2; s.coreRuns 3 = true ∧ s.nextIrq 3 = none ∧ (fetch 3 s).1 = .instr (.load .word false 5 6 0) 4 ∧ t.xreg 3 6 = 0x30008000 ∧ t.pmpOk 3 (t.dataUser 3) 0 0x30008000 = true ∧ t.coreTarget 3 0x30008000 = .own 0x20038000 ∧ (coreMemServe 0x20038000 (.read 4) t).poison = false)
    ∧ (let s := coreAt 0x00232283; let t := (fetch 3 s).2; s.coreRuns 3 = true ∧ s.nextIrq 3 = none ∧ (fetch 3 s).1 = .instr (.load .word false 5 6 2) 4 ∧ (t.xreg 3 6 + 2).toNat % RvWidth.word.bytes ≠ 0)
    ∧ (let s := coreAt 0x00532223; let t := (fetch 3 s).2; s.coreRuns 3 = true ∧ s.nextIrq 3 = none ∧ (fetch 3 s).1 = .instr (.store .word 6 5 4) 4 ∧ t.xreg 3 6 + 4 = 0x30008004 ∧ t.pmpOk 3 (t.dataUser 3) 1 0x30008004 = true ∧ t.coreTarget 3 0x30008004 = .own 0x20038004)
    ∧ (let s := coreAt 0x007322AF; let t := (fetch 3 s).2; s.coreRuns 3 = true ∧ s.nextIrq 3 = none ∧ (fetch 3 s).1 = .instr (.amo 1 5 6 7 false) 4 ∧ t.xreg 3 6 = 0x30008000 ∧ t.pmpOk 3 (t.dataUser 3) 1 0x30008000 = true ∧ t.pmpOk 3 (t.dataUser 3) 0 0x30008000 = true ∧ t.coreTarget 3 0x30008000 = .own 0x20038000 ∧ coreBase 3 + 0x8000 ≤ 0x20038000 ∧ (t.core 3).stores = [] ∧ (coreMemServe 0x20038000 (.atomic 1 4 5) t).poison = false)
    ∧ (let s := coreAt 0x100322AF; let t := (fetch 3 s).2; s.coreRuns 3 = true ∧ s.nextIrq 3 = none ∧ (fetch 3 s).1 = .instr (.lr 5 6 false) 4 ∧ t.xreg 3 6 = 0x30008000 ∧ t.pmpOk 3 (t.dataUser 3) 0 0x30008000 = true ∧ t.coreTarget 3 0x30008000 = .own 0x20038000 ∧ (t.core 3).stores = [] ∧ (coreMemServe 0x20038000 (.read 4) t).poison = false)
    ∧ (let s := coreAt 0x187322AF; let t := (fetch 3 s).2; s.coreRuns 3 = true ∧ s.nextIrq 3 = none ∧ (fetch 3 s).1 = .instr (.sc 5 6 7 false) 4 ∧ t.xreg 3 6 = 0x30008000 ∧ t.pmpOk 3 (t.dataUser 3) 1 0x30008000 = true ∧ t.coreTarget 3 0x30008000 = .own 0x20038000 ∧ (t.core 3).stores = [] ∧ Tab.look t.resv 3 = none ∧
    Tab.look (fetch 3 { s with resv := Tab.set s.resv 3 (0x20038000 / 8 + 1) }).2.resv 3 = some (0x20038000 / 8 + 1))
    ∧ (let s := (coreAt 0).modCore 3 (fun c => { c with pend := some (.load 4 false 5 0x40000000 0x30000004), answer := some (.ok, 7, false) }); s.quillClocked (3 / 8) = true ∧ (s.core 3).pend = some (.load 4 false 5 0x40000000 0x30000004) ∧ (s.core 3).answer = some (.ok, 7, false))
    ∧ (let s := (coreAt 0).modCore 3 (fun c => { c with stores := [(0x40000000, 0x40000000)], storeErrs := [(0x40000000, .fault)] }); s.quillClocked (3 / 8) = true ∧ (s.core 3).storeErrs = (0x40000000, .fault) :: [] ∧ (s.core 3).stores.find? (fun e => e.2 == 0x40000000) = some (0x40000000, 0x40000000) ∧ s.csrRaw 3 0x7C9 < 2 ^ 31)
    ∧ (lit.groupOn ((3 : Fin 128) / 8) = true ∧ lit.quillClocked ((3 : Fin 128) / 8) = true ∧ (lit.setDom 100 { st := .off }).groupOn ((3 : Fin 128) / 8) = false) := by
  refine ⟨?_, ?_, ?_, ?_, ?_, ?_, ?_, ⟨?_, ?_⟩⟩ <;> decide +kernel

theorem witness_WorkExchangeInstructionsComplete :
    (let s := (coreAt 0x0003028B).modCore 3 (fun c => { c with slot := some 0 }); let t := (fetch 3 s).2; s.coreRuns 3 = true ∧ s.nextIrq 3 = none ∧ (fetch 3 s).1 = .instr (.wx .next 5 6 0) 4 ∧ t.qSt 3 = .item ∧ t.pmpOk 3 (t.dataUser 3) 1 0x3000FF80 = true ∧ (t.core 3).slot = some 0)
    ∧ (let s := coreAt 0x0073128B; let t := (fetch 3 s).2; s.coreRuns 3 = true ∧ s.nextIrq 3 = none ∧ (fetch 3 s).1 = .instr (.wx .post 5 6 7) 4 ∧ (t.core 3).stores = [] ∧ t.xreg 3 6 = 0x30008000 ∧ t.coreTarget 3 0x30008000 = .own 0x20038000 ∧ t.pmpOk 3 (t.dataUser 3) 0 0x30008000 = true ∧ (coreMemServe 0x20038000 (.read 64) t).poison = false)
    ∧ (let s := (coreAt 0x0073228B).flag F.wxQcfgEn (0x30008000 % 2 ^ 14); let t := (fetch 3 s).2; s.coreRuns 3 = true ∧ s.nextIrq 3 = none ∧ (fetch 3 s).1 = .instr (.wx .token 5 6 7) 4 ∧ (t.core 3).stores = [] ∧ t.bit F.wxQcfgEn ((t.xreg 3 6).toNat % 2 ^ 14) = true ∧ t.tokensHeld < 65536)
    ∧ ((coreAt 0x0003328B).coreRuns 3 = true ∧ (coreAt 0x0003328B).nextIrq 3 = none ∧ (fetch 3 (coreAt 0x0003328B)).1 = .instr (.wx .cancel 5 6 0) 4)
    ∧ ((coreAt 0x000302AB).coreRuns 3 = true ∧ (coreAt 0x000302AB).nextIrq 3 = none ∧ (fetch 3 (coreAt 0x000302AB)).1 = .instr (.wx .qstat 5 6 0) 4)
    ∧ (let s := (coreAt 0x000012AB).modCore 3 (fun c => { c with slot := some 0 }); let t := (fetch 3 s).2; s.coreRuns 3 = true ∧ s.nextIrq 3 = none ∧ (fetch 3 s).1 = .instr (.wx .self 5 0 0) 4 ∧ t.qSt 3 = .item ∧ (t.core 3).slot = some 0 ∧ (let u := (coreAt 0x000012AB).setQSt 3 .boot; u.coreRuns 3 = true ∧ u.nextIrq 3 = none ∧ (fetch 3 u).1 = .instr (.wx .self 5 0 0) 4 ∧ (fetch 3 u).2.qSt 3 = .boot ∧ ((fetch 3 u).2.core 3).slot = none)) := by
  refine ⟨?_, ?_, ?_, ?_, ?_, ?_⟩ <;> decide +kernel

theorem witness_WorkExchangeComplete :
    ((itemFor 0).length = 64 ∧ (postItem (itemFor 0) ((lit.flag F.wxQcfgEn 5).put F.wxQcfgGmask 0xFFFF 5)).1 = .ok 0)
    ∧ (let s := (posted 0).postToken 5 7; s.nocClocked = true ∧ s.tokens = [((5 : BitVec 14).toNat, (7 : DWord).toNat)] ∧ s.bit F.wxQcfgEn (5 : BitVec 14).toNat = true ∧ s.waitingItem (5 : BitVec 14).toNat = none ∧ s.tokensHeld < 65536)
    ∧ (let s := (posted 0).setQSt 9 .wait; s.nocClocked = true ∧ s.frozen F.dbgFreezeWxDispatch = false ∧ (pinnedFaults s).choice = some (5, 0, 9))
    ∧ (let s := ((posted 0).setQSt 9 .wait).modCore 9 (fun c => { c with sent := some 0 }); s.quillClocked (9 / 8) = true ∧ (s.core 9).sent = some 0 ∧ s.qSt 9 = .wait ∧ s.groupOn (9 / 8) = true ∧ s.coreHalted 9 = false ∧ (s.core 9).stepping = false)
    ∧ ((posted 0).nocClocked = true ∧ (posted 0).heads.find? (fun h => h.1 == (5 : BitVec 14).toNat) = some (5, 0))
    ∧ (let s := ((posted 0xC0000000).setQSt 9 .item).modCore 9 (fun c => { c with slot := some 7 }); let s := (List.range 128).foldl (fun s k => if k = 9 then s else s.setQSt k .held) s; s.nocClocked = true ∧ s.frozen F.dbgFreezeWxDispatch = false ∧ s.wx.items = [(0, s.item 0)] ∧
    (s.item 0).st = .ready ∧ (s.item 0).prio = 3 ∧ s.mayRun 9 (s.item 0) = true ∧ (∀ k, k < 128 → s.qSt k = if k = 9 then .item else .held) ∧ (s.core 9).preempt = none ∧ (s.core 9).slot = some 7 ∧ (s.item 7).prio < 3)
    ∧ (let s := ((posted 0).setQSt 9 .item).modCore 9 (fun c => { c with preempt := some 0 }); s.quillClocked (9 / 8) = true ∧ (s.core 9).preempt = some 0 ∧ s.qSt 9 = .item ∧ s.coreHalted 9 = false ∧ s.groupOn (9 / 8) = true ∧ (s.core 9).pend = none)
    ∧ (lit.nocClocked = true ∧ lit.frozen F.dbgFreezeWxDelay = false ∧ (2 : Fin 4) ≠ 3)
    ∧ (let s := posted 0x20000000; let t : State := { s with wx := { s.wx with counts := [(0, 1)] } }; t.nocClocked = true ∧ t.wx.items = [(0, s.item 0)] ∧ (s.item 0).st = .delayed 1 ∧ (s.item 0).list = (0 : Fin 4).val ∧ 1 ≤ Tab.get 0 t.wx.counts (0 : Fin 4) ∧ (s.item 0).need = 0)
    ∧ (let s := completeItem 0 0 0 (posted 0); s.nocClocked = true ∧ (s.item 0).st = .done 0 0 none ∧ (s.item 0).record = none ∧ (s.item 0).cplAddr = 0)
    ∧ (let s := completeItem 0 0 0 (posted 0); let t := s.setItem 0 { s.item 0 with record := some .ok }; t.nocClocked = true ∧ (t.item 0).st = .done 0 0 none ∧ (t.item 0).record = some .ok ∧ (t.item 0).cqEn = false) := by
  refine ⟨?_, ?_, ?_, ?_, ?_, ?_, ?_, ⟨?_, ?_, ?_, ?_⟩⟩ <;> decide +kernel

theorem witness_CoreSupervisionComplete :
    (let s := (lit.flag F.sysStatusOnchipFilled).setQSt 3 .held; s.groupOn ((3 : Fin 128) / 8) = true ∧ s.fillPending = false ∧ s.qSt 3 = .held ∧ s.bit F.dbgConnectHaltQuill = false ∧ (s.core 3).haltPending = false)
    ∧ (let s := lit.setQSt 3 .retired; lit.qSt 3 ≠ .retired ∧ s.qSt 3 = .retired ∧ s.groupOn (3 / 8) = true)
    ∧ (let s := (lit.setQSt 3 .item).flag F.qcWdogEn 3; let t := s.modCore 3 (fun c => { c with warned := true }); t.quillClocked (3 / 8) = true ∧ s.bit F.qcWdogEn 3 = true ∧ s.qSt 3 = .item ∧ s.coreHalted 3 = false ∧ (s.core 3).stepping = false ∧ (s.core 3).warned = false ∧ t.bit F.qcWdogEn 3 = true ∧ t.qSt 3 = .item ∧ t.coreHalted 3 = false ∧ (t.core 3).stepping = false ∧ (t.core 3).warned = true ∧ (t.core 3).haltPending = false)
    ∧ (let s := lit.flag F.qcShstatChecking 3; s.quillClocked 3 = true ∧ s.bit F.qcShstatChecking 3 = true ∧ (s.shadow 3).mismatches = [] ∧ (s.core (s.shadowTarget 3)).haltPending = false)
    ∧ (lit.bit F.qcShstatRetired 3 = false ∧ (lit.flag F.qcShstatRetired 3).bit F.qcShstatRetired 3 = true) := by
  refine ⟨?_, ?_, ?_, ?_, ?_⟩ <;> decide +kernel

theorem witness_FolioLoadsComplete :
    (lit.bit F.scmStatusTrip = false ∧ (2 : BitVec 3).toNat < 3 ∧ lit.ldSt = 0 ∧ (loading 3 {}).bit F.scmStatusTrip = false ∧ (loading 3 {}).ldSt ≠ 0)
    ∧ (lit.bit F.scmStatusTrip = false ∧ lit.ldSt = 0)
    ∧ (lit.ldSt = 0 ∧ (loading 3 {}).ldSt ≠ 0)
    ∧ (let s := (lit.put F.sysStatusPhase 3).flag F.sysStatusSelftestDone; s.mgmtClocked = true ∧ s.ldSt = 0 ∧ s.get F.sysStatusPhase = 3 ∧ s.bit F.sysStatusLoaderDone = false ∧ s.bit F.dbgConnectHoldLoad = false ∧ s.bit F.sysStatusSelftestDone = true)
    ∧ (let s0 := (withFlash 0 folioHead (loading 1 {})).put F.cfgPolicyVkPresent 1; let s : State := { s0 with regs := Tab.set s0.regs (regKey .cfgId 0 0) 0xA4910001 }; s.mgmtClocked = true ∧ s.ldSt = 1 ∧ s.get F.cfgStatusSrc = 0 ∧ s.loader.bytes = [] ∧ s.ldHoop = false ∧ wordAt (s.flashBytes s.loader.base 256) 0 = 0xB5F07A49 ∧
    (let u := s.modLoader (fun l => { l with bytes := s.flashBytes s.loader.base 256 }); headerFault u = none ∧ u.folioBounds = 0 ∧ u.folioEncrypted = false))
    ∧ ((loading 2 {}).mgmtClocked = true ∧ (loading 2 {}).ldSt = 2 ∧ (loading 2 {}).ldHoop = false)
    ∧ (let s := ((loading 2 {}).flag F.cfgStatusKind).setHoopSt 0 .loading; s.mgmtClocked = true ∧ (loading 2 { waited := true }).ldSt = 2 ∧ (loading 2 { waited := true }).ldHoop = false ∧ (loading 2 { waited := true }).loader.waited = true ∧ s.ldSt = 2 ∧ s.ldHoop = true ∧ s.hoopSt s.ldTarget = .loading)
    ∧ (let g : Segment := { start := 256, typ := 1, len := 528 }; let s := withFlash 272 (bytesOf 0 4 ++ bytesOf 5 4 ++ List.replicate 512 7) (loading 3 { cur := some g, bytes := folioHead ++ List.replicate 16 0 }); s.mgmtClocked = true ∧ s.ldSt = 3 ∧ s.get F.cfgStatusSrc = 0 ∧ s.ldHoop = false ∧ s.folioEncrypted = false ∧
    s.loader.cur = some g ∧ 256 ≤ s.loader.bytes.length ∧ 520 ≤ s.bodyLeft g ∧ (let h := ofBytes (s.flashBytes (s.loader.base + s.loader.bytes.length) 8); bits h 31 30 = 0 ∧ bits h 29 17 = 0 ∧ bits h 16 0 = 0 ∧ faLegal (h / 2 ^ 32) = true))
    ∧ (let g : Segment := { start := 256, typ := 2, len := 32 }; let s := withFlash 272 (bytesOf 0x20001FFF 4 ++ bytesOf 193 4 ++ List.replicate 24 0) (loading 3 { cur := some g, bytes := folioHead ++ List.replicate 16 0 }); let bs := s.flashBytes (s.loader.base + s.loader.bytes.length) 32; s.mgmtClocked = true ∧ s.ldSt = 3 ∧ s.get F.cfgStatusSrc = 0 ∧ s.ldHoop = false ∧ s.folioEncrypted = false ∧
    s.loader.cur = some g ∧ 256 ≤ s.loader.bytes.length ∧ 32 ≤ s.bodyLeft g ∧ mblockBad 2 (wordAt bs 0) (wordAt bs 8) (wordAt bs 12) (ofBytes ((bs.drop 16).take 8)) (bs.drop 24) = false ∧ bits (wordAt bs 0) 31 28 = 2 ∧ wordAt bs 4 ≤ 193)
    ∧ (let g : Segment := { start := 256, typ := 3, len := 8200 }; let s := withFlash 272 (bytesOf 8191 8) (loading 3 { cur := some g, bytes := folioHead ++ List.replicate 16 0 }); let bs := s.flashBytes (s.loader.base + s.loader.bytes.length) 8; s.mgmtClocked = true ∧ s.ldSt = 3 ∧ s.get F.cfgStatusSrc = 0 ∧ s.ldHoop = false ∧ s.folioEncrypted = false ∧
    s.loader.cur = some g ∧ 256 ≤ s.loader.bytes.length ∧ 8200 ≤ s.bodyLeft g ∧ bits (ofBytes bs) 63 16 = 0 ∧ bits (ofBytes bs) 15 0 < 8192 ∧ (s.bank (blockId 8191)).unspared = false ∧ s.power (blockId 8191) = .on ∧ (s.bank (blockId 8191)).latched = none)
    ∧ (let g : Segment := { start := 256, typ := 4, len := 8 }; let s := withFlash 272 (bytesOf 7 4 ++ bytesOf 0x300104 4) (loading 3 { cur := some g, bytes := folioHead ++ List.replicate 16 0 }); s.mgmtClocked = true ∧ s.ldSt = 3 ∧ s.get F.cfgStatusSrc = 0 ∧ s.folioEncrypted = false ∧
    s.loader.cur = some g ∧ 256 ≤ s.loader.bytes.length ∧ 8 ≤ s.bodyLeft g ∧ s.loader.regs.length < 8192 ∧ regsAllowed (ofBytes (s.flashBytes (s.loader.base + s.loader.bytes.length) 8) / 2 ^ 32) = true)
    ∧ (let g : Segment := { start := 256, typ := 4, len := 0 }; let s := loading 3 { cur := some g, bytes := (folioHead.take 12 ++ bytesOf 1932 4 ++ folioHead.drop 16) ++ List.replicate 16 0 }; s.mgmtClocked = true ∧ s.ldSt = 3 ∧ s.get F.cfgStatusSrc = 0 ∧ s.folioEncrypted = false ∧ s.loader.cur = some g ∧ s.bodyLeft g = 0 ∧
    256 ≤ s.loader.bytes.length ∧ s.folioSegments ≤ s.loader.seg + 1 ∧ s.loader.bytes.length + 48 + 1612 = s.folioLength ∧ (let u := loading 3 { cur := some g, bytes := (folioHead.take 20 ++ bytesOf 2 2 ++ folioHead.drop 22) ++ List.replicate 16 0 }; u.ldSt = 3 ∧ u.loader.seg + 1 < u.folioSegments ∧ u.bodyLeft g = 0))
    ∧ ((loading 3 {}).mgmtClocked = true ∧ (loading 3 {}).ldSt = 3 ∧ (loading 3 {}).get F.cfgStatusSrc ≠ 2)
    ∧ ((loading 4 {}).mgmtClocked = true ∧ (loading 4 {}).ldSt = 4 ∧ (loading 4 {}).get F.cfgStatusSrc ≠ 2)
    ∧ (let s := loading 5 {}; s.mgmtClocked = true ∧ (s.flag F.cfgStatusKind).mgmtClocked = true ∧ (s.flag F.fabCtrlStarted).mgmtClocked = true ∧ s.ldSt = 5 ∧ (s.flag F.cfgStatusKind).ldSt = 5 ∧ (s.flag F.cfgStatusKind).ldHoop = true ∧ (s.flag F.fabCtrlStarted).ldHoop = false ∧ (s.flag F.fabCtrlStarted).started = true ∧ (s.flag F.fabCtrlStarted).ldSt = 5 ∧ { s with startRefused := true }.ldHoop = false ∧ { s with startRefused := true }.started = false ∧ { s with startRefused := true }.startRefused = true) := by
  refine ⟨?_, ?_, ?_, ?_, ?_, ?_, ?_, ⟨?_, ?_, ?_, ?_, ?_, ?_, ?_, ?_⟩⟩ <;> decide +kernel

theorem witness_FrameRewritesComplete :
    (let fa := (0x600000D : Word).toNat; let u := lit.upsetFrame (faSlot fa) [7]; let v := lit.upsetFrame (faSlot fa) [7, 70, 700]; let w := (loading 0 { queue := List.range 16 }).upsetFrame (faSlot fa) [7, 70, 4127]; lit.mgmtClocked = true ∧ (loading 0 { queue := List.range 16 }).mgmtClocked = true ∧ faLegal fa = true ∧
    u.scrubSkips fa = false ∧ (u.flips (faSlot fa)).length = 1 ∧ v.scrubSkips fa = false ∧ (v.flips (faSlot fa)).length = 3 ∧ v.loader.queue.contains fa = false ∧ v.loader.queue.length < 16 ∧ w.scrubSkips fa = false ∧ (w.flips (faSlot fa)).length = 3 ∧ w.loader.queue.contains fa = false ∧ 16 ≤ w.loader.queue.length)
    ∧ ((loading 0 { queue := [0x6000000] }).mgmtClocked = true ∧ (loading 0 { queue := [0x6000000] }).loader.rewriting = none ∧ (loading 0 { queue := [0x6000000] }).loader.queue = 0x6000000 :: [] ∧ 192 ≤ faRegion 0x6000000)
    ∧ (let s : State := { nearUp with loader := { rewriting := some 0x6000000 } }; s.mgmtClocked = true ∧ s.loader.rewriting = some 0x6000000 ∧ (imageRead 0 (faSlot 0x6000000) { s with loader := { s.loader with rewriting := none } }).1 = some 0)
    ∧ ((loading 0 { rewriting := some 0x6000000 }).mgmtClocked = true ∧ (loading 0 { rewriting := some 0x6000000 }).loader.rewriting = some 0x6000000 ∧ (loading 0 { rewriting := some 0x6000000 }).bit (imgOk 0) = false ∧ (loading 0 { rewriting := some 0x6000000 }).bit (imgOk 1) = false) := by
  refine ⟨?_, ?_, ?_, ?_⟩ <;> decide +kernel

theorem witness_EthernetCommandsComplete :
    (let p : VcpPacket := { eth := false, peer := {}, dst := 0x0A000001, dport := opened.get F.ethUdpVal, vlan := 0, plain := true, bytes := [] }; opened.ethReceives = true ∧ opened.clk.epllLost = false ∧ p.eth = opened.bit F.ethStatusActive ∧ opened.supported p = true ∧ opened.ownAddress p.peer.v6 p.dst = true ∧ p.dport = opened.get F.ethUdpVal ∧ (requestHead (p.bytes.map BitVec.toNat)).isNone = true)
    ∧ (let b := bytesOf 0xB5F06C01 4 ++ [1, 0, 0, 0] ++ bytesOf 1029 4 ++ bytesOf 10 4 ++ bytesOf 3 2 ++ bytesOf 0 4 ++ bytesOf 1 2 ++ bytesOf 0 24
    let t := (packetTag (List.replicate 32 7) ((b ++ List.replicate 16 0).map BitVec.toNat)).map (BitVec.ofNat 8)
    let p : VcpPacket := { eth := false, peer := {}, dst := 0x0A000001, dport := opened.get F.ethUdpVal, vlan := 0, plain := true, bytes := b ++ t }
    opened.ethReceives = true ∧ opened.clk.epllLost = false ∧ opened.supported p = true ∧ opened.ownAddress p.peer.v6 p.dst = true ∧ (requestHead (p.bytes.map BitVec.toNat)).map (fun h => (h.id, h.seq, h.code, h.bad)) = some (1029, 10, 3, 0) ∧ (requestHead (p.bytes.map BitVec.toNat)).map (fun h => h.tag) = some (packetTag (opened.sess 5).key (p.bytes.map BitVec.toNat)) ∧ (opened.sess 5).st = 1 ∧ opened.sessId 5 = 1029 ∧ (opened.sess 5).last = 9 ∧ (opened.sess 5).reqUse = (0, 0) ∧ opened.host.reqUse = (0, 0))
    ∧ (opened.ethReceives = true ∧ opened.clk.epllLost = false ∧ false = opened.bit F.ethStatusActive ∧ opened.ownAddress false 0x0A000001 = true ∧ spend 100 100 opened.pt opened.host.ctlUse = some (1000000000, 0))
    ∧ (let s := (lit.flag F.ethCtrlAuto).flag F.ethStatusLink1; s.bit F.ethCtrlAuto = true ∧ s.bit F.ethStatusActive = false ∧ s.bit F.ethStatusLink0 = false ∧ s.bit F.ethStatusLink1 = true)
    ∧ (lit.bit F.ethStatusActive = false ∧ lit.bit F.ethStatusActive ≠ true)
    ∧ ((opened.sess 5).st = 1 ∧ ((opened.modSess 5 (fun c => { c with first := true })).sess 5).st = 1 ∧ ((opened.modSess 5 (fun c => { c with first := true })).sess 5).first = true)
    ∧ (let r : OpenReq := { okey := 0, params := List.replicate 4 0 ++ [0, 4] ++ List.replicate 26 0, tag := [], seq := 0, peer := {} }; let s := { lit.setOpKey 0 { st := 1, rights := 31 } with host := { lit.host with opens := [r] } };
    s.host.opens = r :: [] ∧ (s.opKey r.okey).st = 1 ∧ r.params.length = 32 ∧ s.openTwin r = none ∧ leAt r.params 28 4 = 0 ∧ 1024 ≤ leAt r.params 4 2 ∧ leAt r.params 8 4 ≤ 3600 ∧ (s.sess (7 : Fin 1024)).st = 0)
    ∧ (let s := opened.modSess 5 (fun c => { c with resend := [[2]], stored := [[1], [9]] }); (s.sess 5).st = 1 ∧ (s.sess 5).resend = [2] :: [] ∧ namedSegments [2] (s.sess 5).stored = [[9]] ∧ [[9]] ≠ ([] : List (List Nat)))
    ∧ (let j : Job := { origin := .relay 1 2, op := 0x42, obj := 2, first := 512, count := 1 }; let s := { opened with host := { opened.host with jobs := [j] } }; s.host.jobs = [j] ∧ j.origin = .relay 1 2 ∧ j.op = 0x42)
    ∧ (let d := bytesOf 0x10000000 8 ++ bytesOf 64 4 ++ bytesOf 1029 4 ++ List.replicate 16 0; opened.clk.held = false ∧ (streamQueue 0 d opened).2 = .ok)
    ∧ (let x : Stream := { src := 0, len := 0, id := 1029, stream := 7, queue := none }; { opened with host := { opened.host with streams := [x] } }.host.streams = x :: [] ∧ x.len = 0) := by
  refine ⟨?_, ?_, ?_, ?_, ?_, ?_, ?_, ⟨?_, ?_, ?_, ?_⟩⟩ <;> decide +kernel

theorem witness_HostSessionCommandsComplete :
    ((request 2 []).commandDue 2 0 = true ∧ (request 2 []).relayTo 0 = none ∧ hostGuard 2 ((request 2 []).sessionCtx 0) (request 2 []) = none)
    ∧ ((request 3 []).commandDue 3 0 = true ∧ (request 3 []).relayTo 0 = none ∧ hostGuard 3 ((request 3 []).sessionCtx 0) (request 3 []) = none)
    ∧ ((request 5 []).commandDue 5 0 = true ∧ (request 5 []).relayTo 0 = none ∧ hostGuard 5 ((request 5 []).sessionCtx 0) (request 5 []) = none)
    ∧ (let s := request 6 [1, 0, 0, 0]; s.commandDue 6 0 = true ∧ s.relayTo 0 = none ∧ hostGuard 6 (s.sessionCtx 0) s = none)
    ∧ (let s := request 7 [0, 0, 0, 0, 128, 0, 0, 0]; s.commandDue 7 0 = true ∧ s.relayTo 0 = none ∧ hostGuard 7 (s.sessionCtx 0) s = none ∧ 1 ≤ leAt (s.hostParams 0) 4 4 ∧ leAt (s.hostParams 0) 4 4 ≤ 128)
    ∧ ((request 16 []).commandDue 16 0 = true ∧ (request 16 []).relayTo 0 = none ∧ hostGuard 16 ((request 16 []).sessionCtx 0) (request 16 []) = none)
    ∧ ((request 17 []).commandDue 17 0 = true ∧ (request 17 []).relayTo 0 = none ∧ hostGuard 17 ((request 17 []).sessionCtx 0) (request 17 []) = none)
    ∧ (let s := request 0x20 (nums 0xD00030 4); s.commandDue 0x20 0 = true ∧ s.relayTo 0 = none ∧ hostGuard 0x20 (s.sessionCtx 0) s = none ∧ s.hostParams 0 = nums 0xD00030 4)
    ∧ (let s := request 0x21 (nums 0xD00030 4 ++ nums (7 : Word).toNat 4); s.commandDue 0x21 0 = true ∧ s.relayTo 0 = none ∧ hostGuard 0x21 (s.sessionCtx 0) s = none ∧ s.hostParams 0 = nums 0xD00030 4 ++ nums (7 : Word).toNat 4)
    ∧ (let s := request 0x22 (nums 0x10000000 8 ++ nums 16 4); let r := ethRead .host [] false 0x10000000 16 s 2; s.commandDue 0x22 0 = true ∧ s.relayTo 0 = none ∧ hostGuard 0x22 (s.sessionCtx 0) s = none ∧ leAt (s.hostParams 0) 0 8 = 0x10000000 ∧ leAt (s.hostParams 0) 8 4 = 16 ∧ memRefusal 0x10000000 = none ∧ r.status = .ok)
    ∧ (let s := request 0x23 (nums 0x10000000 8 ++ nums 2 4 ++ [5, 6]); s.commandDue 0x23 0 = true ∧ s.relayTo 0 = none ∧ hostGuard 0x23 (s.sessionCtx 0) s = none ∧ leAt (s.hostParams 0) 0 8 = 0x10000000 ∧ leAt (s.hostParams 0) 8 4 + 12 = (s.hostParams 0).length ∧ memRefusal 0x10000000 = none ∧ (ethWrite 0 0x10000000 [5, 6] s 4).2.1 = .ok)
    ∧ (let s := request 0x40 (nums 0x1FFFFFFF 4 ++ nums 1 4); s.commandDue 0x40 0 = true ∧ s.relayTo 0 = none ∧ hostGuard 0x40 (s.sessionCtx 0) s = none ∧ 1 ≤ leAt (s.hostParams 0) 4 4 ∧ leAt (s.hostParams 0) 4 4 ≤ 65536 ∧ leAt (s.hostParams 0) 0 4 + leAt (s.hostParams 0) 4 4 ≤ flashSize)
    ∧ (let s := request 0x41 (nums 0x02000000 4 ++ [5, 6]); s.commandDue 0x41 0 = true ∧ s.relayTo 0 = none ∧ hostGuard 0x41 (s.sessionCtx 0) s = none ∧ flashRefusal (s.sessionCtx 0) 0x02000000 2 = none ∧ (flashProgram 0x02000000 [5, 6] s).1 = 2)
    ∧ (let s := request 0x42 (nums 0x02000000 4 ++ nums 2 4); s.commandDue 0x42 0 = true ∧ s.relayTo 0 = none ∧ hostGuard 0x42 (s.sessionCtx 0) s = none ∧ leAt (s.hostParams 0) 0 4 % 65536 = 0 ∧ leAt (s.hostParams 0) 4 4 ≠ 0 ∧ flashRefusal (s.sessionCtx 0) 0x02000000 (2 * 65536) = none) := by
  refine ⟨?_, ?_, ?_, ?_, ?_, ?_, ?_, ⟨?_, ?_, ?_, ?_, ?_, ?_, ?_⟩⟩ <;> decide +kernel

theorem witness_HostControlCommandsComplete :
    (let s := request 0x30 (List.replicate 16 0); s.commandDue 0x30 0 = true ∧ s.relayTo 0 = none ∧ hostGuard 0x30 (s.sessionCtx 0) s = none ∧ leAt (s.hostParams 0) 0 4 < 2 ∧ s.ldSt = 0 ∧ s.bit F.scmStatusTrip = false)
    ∧ (let s := request 0x31 (nums 191 16); s.commandDue 0x31 0 = true ∧ s.relayTo 0 = none ∧ hostGuard 0x31 (s.sessionCtx 0) s = none ∧ leAt (s.hostParams 0) 0 4 < 192 ∧ s.ldSt = 0 ∧ s.bit F.scmStatusTrip = false)
    ∧ (let s := request 0x32 (nums 191 4 ++ nums 1 4); let t := request 0x32 (nums 191 4 ++ nums 2 4); s.commandDue 0x32 0 = true ∧ s.relayTo 0 = none ∧ hostGuard 0x32 (s.sessionCtx 0) s = none ∧ leAt (s.hostParams 0) 0 4 < 192 ∧ leAt (s.hostParams 0) 4 4 = 1 ∧ t.commandDue 0x32 0 = true ∧ t.relayTo 0 = none ∧ hostGuard 0x32 (t.sessionCtx 0) t = none ∧ leAt (t.hostParams 0) 0 4 < 192 ∧ leAt (t.hostParams 0) 4 4 = 2)
    ∧ (let s := request 0x33 (nums 0x0B00000C 4 ++ nums 0 4); let t := request 0x33 (nums 0x0B00000C 4 ++ nums 1 4); s.commandDue 0x33 0 = true ∧ s.relayTo 0 = none ∧ hostGuard 0x33 (s.sessionCtx 0) s = none ∧ domOfObject (leAt (s.hostParams 0) 0 4) = some (some (.iob 12)) ∧ leAt (s.hostParams 0) 4 4 = 0 ∧ t.commandDue 0x33 0 = true ∧ t.relayTo 0 = none ∧ hostGuard 0x33 (t.sessionCtx 0) t = none ∧ domOfObject (leAt (t.hostParams 0) 0 4) = some (some (.iob 12)) ∧ leAt (t.hostParams 0) 4 4 = 1)
    ∧ (let s := request 0x34 (nums 0x0400008F 4); s.commandDue 0x34 0 = true ∧ s.relayTo 0 = none ∧ hostGuard 0x34 (s.sessionCtx 0) s = none ∧ leAt (s.hostParams 0) 0 4 = 4 * 2 ^ 24 + 143)
    ∧ (let s := request 0x35 (List.replicate 20 0 ++ nums 0x10000000 4 ++ List.replicate 8 0); let r := lookbackPush ((List.range 8).map (fun i => leAt (s.hostParams 0) (4 * i) 4)) s; s.commandDue 0x35 0 = true ∧ s.relayTo 0 = none ∧ hostGuard 0x35 (s.sessionCtx 0) s = none ∧ r.2 = .ok) := by
  refine ⟨?_, ?_, ?_, ?_, ?_, ?_⟩ <;> decide +kernel

theorem witness_HostKeyCommandsComplete :
    (let s := request 0x50 (nums 31 4 ++ List.replicate 40 7); s.commandDue 0x50 0 = true ∧ s.relayTo 0 = none ∧ hostGuard 0x50 (s.sessionCtx 0) s = none ∧ leAt (s.hostParams 0) 0 4 = 31 ∧ s.keyValid 31 = false)
    ∧ (let s := request 0x51 (nums 2 4); s.commandDue 0x51 0 = true ∧ s.relayTo 0 = none ∧ hostGuard 0x51 (s.sessionCtx 0) s = none)
    ∧ (let s := request 0x52 (nums 15 4 ++ nums 3 4 ++ List.replicate 40 7) otpUp; s.commandDue 0x52 0 = true ∧ s.relayTo 0 = none ∧ hostGuard 0x52 (s.sessionCtx 0) s = none ∧ leAt (s.hostParams 0) 0 4 = 15 ∧ leAt (s.hostParams 0) 4 4 = 3 ∧ 3 &&& (s.sess 0).rights = 3 ∧ (s.opKey 15).st = 0 ∧ s.otpWritable = true)
    ∧ (let s := request 0x53 (nums 15 4) (otpUp.setOpKey 15 { st := 1 }); s.commandDue 0x53 0 = true ∧ s.relayTo 0 = none ∧ hostGuard 0x53 (s.sessionCtx 0) s = none ∧ leAt (s.hostParams 0) 0 4 = 15 ∧ (s.opKey 15).st = 1 ∧ s.otpWritable = true)
    ∧ (let s := request 0x54 (nums 3 4 ++ [0, 0, 0, 7, 0, 0, 0, 4] ++ List.replicate 48 0) otpUp; s.commandDue 0x54 0 = true ∧ s.relayTo 0 = none ∧ hostGuard 0x54 (s.sessionCtx 0) s = none ∧ leAt (s.hostParams 0) 0 4 = 3 ∧ ((s.hostParams 0).drop 4).take 8 = [0, 0, 0, 7, 0, 0, 0, 4] ∧ s.otp.policy.testBit 3 = false ∧ s.otp.policy.testBit 7 = false ∧ s.otp.failed.contains 3 = false ∧ s.otpWritable = true)
    ∧ (let s := request 0x55 (nums 3 4) { otpUp with otp := { otpUp.otp with policy := 8 } }; s.commandDue 0x55 0 = true ∧ s.relayTo 0 = none ∧ hostGuard 0x55 (s.sessionCtx 0) s = none ∧ leAt (s.hostParams 0) 0 4 = 3 ∧ s.otp.policy.testBit 3 = true ∧ s.otp.policy.testBit 7 = false ∧ s.otpWritable = true)
    ∧ (let s := request 0x56 (nums 3 4 ++ List.replicate 40 7) otpUp; s.commandDue 0x56 0 = true ∧ s.relayTo 0 = none ∧ hostGuard 0x56 (s.sessionCtx 0) s = none ∧ leAt (s.hostParams 0) 0 4 = 3 ∧ s.otp.policy.testBit 11 = false ∧ s.otp.failed.contains 7 = false ∧ s.otpWritable = true)
    ∧ (let s := request 0x57 (nums 0x10000 4) otpUp; s.commandDue 0x57 0 = true ∧ s.relayTo 0 = none ∧ hostGuard 0x57 (s.sessionCtx 0) s = none ∧ leAt (s.hostParams 0) 0 4 = 0x10000 ∧ s.otp.policy.testBit 16 = false ∧ s.otpWritable = true) := by
  refine ⟨?_, ?_, ?_, ?_, ?_, ?_, ?_, ?_⟩ <;> decide +kernel

theorem witness_HostSceumCommandsComplete :
    (let s := request 0x60 []; s.commandDue 0x60 0 = true ∧ s.relayTo 0 = none ∧ hostGuard 0x60 (s.sessionCtx 0) s = none)
    ∧ (let s := request 0x61 (nums 47 4) (lit.put F.scmBrokenHiVal 0x8000); s.commandDue 0x61 0 = true ∧ s.relayTo 0 = none ∧ hostGuard 0x61 (s.sessionCtx 0) s = none ∧ leAt (s.hostParams 0) 0 4 < 48 ∧ s.brokenSensor (leAt (s.hostParams 0) 0 4) = true)
    ∧ (let s := request 0x62 [] (lit.flag F.scmStatusTrip); s.commandDue 0x62 0 = true ∧ s.relayTo 0 = none ∧ hostGuard 0x62 (s.sessionCtx 0) s = none ∧ s.bit F.scmStatusTrip = true ∧ (∀ c < 48, s.temp c < 1600))
    ∧ (let s := request 0x63 []; s.commandDue 0x63 0 = true ∧ s.relayTo 0 = none ∧ hostGuard 0x63 (s.sessionCtx 0) s = none)
    ∧ (let s := request 0x64 (nums 0 4 ++ nums 512 4); s.commandDue 0x64 0 = true ∧ s.relayTo 0 = none ∧ hostGuard 0x64 (s.sessionCtx 0) s = none ∧ leAt (s.hostParams 0) 4 4 = 512)
    ∧ (let s := request 0x65 []; s.commandDue 0x65 0 = true ∧ s.relayTo 0 = none ∧ hostGuard 0x65 (s.sessionCtx 0) s = none)
    ∧ (let s := request 0x66 (nums 0 4 ++ nums 256 4); s.commandDue 0x66 0 = true ∧ s.relayTo 0 = none ∧ hostGuard 0x66 (s.sessionCtx 0) s = none ∧ leAt (s.hostParams 0) 4 4 = 256)
    ∧ (let s := request 0x67 (nums 1 4); s.commandDue 0x67 0 = true ∧ s.relayTo 0 = none ∧ hostGuard 0x67 (s.sessionCtx 0) s = none ∧ leAt (s.hostParams 0) 0 4 < 2)
    ∧ (let s := request 0x68 [] (lit.flag F.scmFwTrial); s.commandDue 0x68 0 = true ∧ s.relayTo 0 = none ∧ hostGuard 0x68 (s.sessionCtx 0) s = none ∧ s.bit F.scmFwTrial = true ∧ s.get F.scmFwSecver ≤ s.otp.fwMin)
    ∧ (let s := request 0x69 []; s.commandDue 0x69 0 = true ∧ s.relayTo 0 = none ∧ hostGuard 0x69 (s.sessionCtx 0) s = none)
    ∧ (let s := request 0x6A (nums (2 ^ 127) 16 ++ nums 0x10000000 8 ++ nums 8 4 ++ nums 8 4 ++ nums 0 4) (lit.setQSt 127 .held); s.commandDue 0x6A 0 = true ∧ s.relayTo 0 = none ∧ hostGuard 0x6A (s.sessionCtx 0) s = none ∧ leAt (s.hostParams 0) 0 16 = 2 ^ 127 ∧ leAt (s.hostParams 0) 24 4 = 8 ∧ leAt (s.hostParams 0) 28 4 = 8 ∧ leAt (s.hostParams 0) 16 8 = 0x10000000 ∧
    memRefusal 0x10000000 = none ∧ s.qSt 127 = .held ∧ (ethRead .host [] false 0x10000000 16 s 2).status = .ok ∧ leAt (s.hostParams 0) 32 4 = 0)
    ∧ (let s := request 0x6B (List.replicate 32 1) (lit.modScm (fun m => { m with leafBlock := some 7 })); s.commandDue 0x6B 0 = true ∧ s.relayTo 0 = none ∧ hostGuard 0x6B (s.sessionCtx 0) s = none ∧ s.scm.leafBlock = some 7 ∧ (spend 10 10 s.pt s.host.signUse).isSome = true)
    ∧ (let s := request 0x6C []; s.commandDue 0x6C 0 = true ∧ s.relayTo 0 = none ∧ hostGuard 0x6C (s.sessionCtx 0) s = none) := by
  refine ⟨?_, ?_, ?_, ?_, ?_, ?_, ?_, ⟨?_, ?_, ?_, ?_, ?_, ?_⟩⟩ <;> decide +kernel

theorem witness_SceumCommandsComplete :
    ((lit.modScm (fun m => { m with next := 122 })).mgmtClocked = true ∧ (lit.modScm (fun m => { m with next := 122 })).clk.held = false ∧ (lit.modScm (fun m => { m with next := 122 })).scm.next < 123)
    ∧ ((lit.modScm (fun m => { m with next := 128 })).mgmtClocked = true ∧ (lit.modScm (fun m => { m with next := 128 })).scm.next = 128 ∧ lit.brokenSensor 47 = false)
    ∧ ((lit.modScm (fun m => { m with tripDue := true })).scm.tripDue = true)
    ∧ (((lit.flag F.scmCtrlCalEn).flag F.scmStatusRunning).mgmtClocked = true ∧ ((lit.flag F.scmCtrlCalEn).flag F.scmStatusRunning).calRuns = true)
    ∧ (let s0 := ((lit.flag F.scmCtrlCalEn).flag F.scmStatusRunning).modCal .oscillator (fun c => { c with due := true }); let s := { s0 with mt := { s0.mt with entry := BitVec.ofNat 64 (2 ^ 40) } }; s.mgmtClocked = true ∧ s.calRuns = true ∧ (s.calItem .oscillator).due = true ∧ s.gapNow = true ∧ s.frozen F.dbgFreezeSceumCal = false ∧ calAgree .oscillator [1000] [968] = true ∧ calAgree .oscillator [1000] [967] = false)
    ∧ (let s := ((lit.flag F.scmCtrlCalEn).put F.laneSliceUsable 15 3 4).modCal (.sampler 3 4) (fun c => { c with agreed := some 3 }); (s.calItem (.sampler 3 4)).agreed = some 3 ∧ s.mt.cross = 0 ∧ s.bit F.scmCtrlCalEn = true ∧ (s.get F.laneSliceUsable 3 4).testBit 3 = true)
    ∧ ((lit.modCal .references (fun c => { c with due := true })).mgmtClocked = true ∧ ((lit.modCal .references (fun c => { c with due := true })).calItem .references).due = true)
    ∧ (let s := ((lit.flag F.scmCtrlCalEn).flag F.scmStatusRunning).modCal .references (fun c => { c with due := true }); s.mgmtClocked = true ∧ s.calRuns = true ∧ (s.calItem .references).due = true ∧ (s.calItem .references).deferred = false)
    ∧ (let s := lit.put F.sysStatusPhase 3; s.mgmtClocked = true ∧ s.get F.sysStatusPhase = 3 ∧ s.warm = false ∧ s.bit F.sysStatusSelftestDone = false ∧ s.repairCopy = none ∧ s.failed = [] ∧ s.scm.results = [])
    ∧ (let s0 := (lit.flag F.scmCtrlSpareEn).flag F.scmStatusRunning; let s := { s0 with mt := { s0.mt with entry := BitVec.ofNat 64 (2 ^ 40) } }; s.mgmtClocked = true ∧ s.bit F.scmCtrlSpareEn = true ∧ s.sceumRuns = true ∧ s.gapNow = true ∧ s.calClaims = false ∧ s.frozen F.dbgFreezeSceumCal = false ∧ s.get F.membSpmapBState 127 = 0)
    ∧ (let s0 := lit.flag F.scmStatusRunning; let s := { s0 with log := { s0.log with buffer := [List.replicate 32 7], pos := 224 * 2048 - 1 } }; s.mgmtClocked = true ∧ s.sceumRuns = true ∧ s.log.buffer = List.replicate 32 7 :: [] ∧ s.log.pos < 224 * 2048)
    ∧ ((lit.flag F.scmStatusRunning).sceumRuns = true ∧ (lit.flag F.scmStatusRunning).dbg.sceumHalted = false)
    ∧ ((lit.modScm (fun m => { m with restartDue := some 2 })).mgmtClocked = true ∧ (lit.modScm (fun m => { m with restartDue := some 2 })).scm.restartDue = some 2 ∧ (lit.modScm (fun m => { m with restartDue := some 2 })).dbg.sceumHalted = false)
    ∧ (let s := (lit.put F.sysStatusPhase 3).modScm (fun m => { m with bootDue := true }); s.mgmtClocked = true ∧ 3 ≤ s.get F.sysStatusPhase ∧ s.clk.held = false ∧ s.scm.bootDue = true ∧ s.dbg.sceumHalted = false ∧ s.slotState 0 = none ∧ s.slotState 1 = none ∧ s.scm.activating = none)
    ∧ (let s := (lit.put F.sysStatusPhase 3).modScm (fun m => { m with bootDue := true, records := [(fwBase 1 + 0x7F0000, (5, 1, 0))] }); s.mgmtClocked = true ∧ 3 ≤ s.get F.sysStatusPhase ∧ s.clk.held = false ∧ s.scm.bootDue = true ∧ s.dbg.sceumHalted = false ∧ s.slotState 1 = some (5, 1, 0) ∧ s.slotState 0 = none ∧ s.scm.activating = none ∧ s.otp.fwMin ≤ s.fwVersion 1)
    ∧ (((lit.flag F.scmStatusRunning).flag F.scmFwTrial).mgmtClocked = true ∧ ((lit.flag F.scmStatusRunning).flag F.scmFwTrial).sceumRuns = true ∧ ((lit.flag F.scmStatusRunning).flag F.scmFwTrial).bit F.scmFwTrial = true) := by
  refine ⟨?_, ?_, ?_, ?_, ?_, ?_, ?_, ⟨?_, ?_, ?_, ?_, ?_, ?_, ?_, ⟨?_, ?_⟩⟩⟩ <;> decide +kernel

theorem witness_ClockCommandsComplete :
    (let s := lit.modClk (fun c => { c with busy := Tab.set c.busy 1 2 }); Tab.get 0 s.clk.busy 1 = 1 + 1 ∧ Tab.get 0 s.clk.latched 1 = 0)
    ∧ (let v : Word := 0x8081000F; let s := lit.flag F.clkNocSel; bits v.toNat 31 31 = 1 ∧ s.bit F.clkNocSel = true ∧ 128 ≤ bits v.toNat 23 16 ∧ 2 ≤ bits v.toNat 3 0 ∧ 25 * bits v.toNat 23 16 ≤ 1600 * bits v.toNat 3 0 ∧ bits v.toNat 23 16 ≠ s.get F.clkNocN)
    ∧ (let s := (List.range 16).foldl (fun s g => s.put F.clkGrpSrc 0 g) lit; (∀ g, g < 16 → s.get F.clkGrpSrc g ≠ (3 : Fin 4)) ∧ 128 ≤ bits (0x00810000 : Word).toNat 23 16 ∧ bits (0x00810000 : Word).toNat 23 16 ≠ s.get F.clkQpllN 3)
    ∧ (let s := (List.range 128).foldl (fun s k => s.setQSt k .held) lit; let v : Word := 0x03000F0F; (∀ k, k < 8 → s.qSt (8 * (15 : Fin 16) + k) = .held) ∧ 25 * s.get F.clkQpllN (bits v.toNat 25 24) ≤ 1200 * bits v.toNat 3 0 ∧ 25 * s.get F.clkQpllN (bits v.toNat 25 24) ≤ 1200 * bits v.toNat 11 8)
    ∧ (bits (BitVec.ofNat 32 (lit.get F.clkNctlSel * 16) : Word).toNat 5 4 = lit.get F.clkNctlSel)
    ∧ (lit.bit F.clkCtrlLock = false ∧ bitAt (6 : Word).toNat 0 = false)
    ∧ ((lit.flag F.clkCtrlRootAuto).clkSource 0 = 0 ∧ (lit.flag F.clkCtrlRootAuto).bit F.clkCtrlRootAuto = true ∧ (lit.clear F.clkCtrlRootAuto).clkSource 0 = 0 ∧ (lit.clear F.clkCtrlRootAuto).bit F.clkCtrlRootAuto = false)
    ∧ ((lit.put F.sysStatusPhase 1).clk.held = false ∧ (lit.put F.sysStatusPhase 1).get F.sysStatusPhase = 1)
    ∧ ((lit.flag F.clkStatusNpllLock).bit F.clkStatusNpllLock = true)
    ∧ (lit.clk.rootStopped = false ∧ lit.clk.failed.contains 2 = false)
    ∧ ((lit.clear F.clkStatusNpllLock).bit F.clkStatusNpllLock = false ∧ (lit.clear F.clkStatusNpllLock).clk.failed.contains 2 = false) := by
  refine ⟨?_, ?_, ?_, ?_, ?_, ?_, ?_, ⟨?_, ?_, ?_, ?_⟩⟩ <;> decide +kernel

theorem witness_ResetCommandsComplete :
    (let s := lit.modClk (fun c => { c with held := true }); s.clk.held = true ∧ s.warm = false)
    ∧ (bits (0xA4900001 : Word).toNat 31 20 = 0xA49 ∧ bitAt (0xA4900001 : Word).toNat 0 = true ∧ bitAt (0xA4900002 : Word).toNat 0 = false)
    ∧ ((lit.modClk (fun c => { c with resetDue := 2 })).clk.resetDue ≠ 0)
    ∧ (let s := { lit.modClk (fun c => { c with held := true }) with warm := true }; s.clk.held = true ∧ s.warm = true ∧ s.bit F.dbgConnectAttach = false ∧ s.bit F.dbgConnectHoldSceum = false)
    ∧ ((lit.put F.sysStatusPhase 2).get F.sysStatusPhase = 2)
    ∧ (let s := (lit.put F.sysStatusPhase 3).flag F.sysStatusSelftestDone; s.get F.sysStatusPhase = 3 ∧ s.fillPending = true ∧ s.bit F.sysStatusSelftestDone = true) := by
  refine ⟨?_, ?_, ?_, ?_, ?_, ?_⟩ <;> decide +kernel

theorem witness_CascadeLinkCommandsComplete :
    (let s := lit.put F.laneCfgMode modeCascade 7; s.bit F.cascCtrlLock = false ∧ bits (0xC0000107 : Word).toNat 5 0 < 48 ∧ s.get F.laneCfgMode (bits (0xC0000107 : Word).toNat 5 0) = modeCascade ∧ (∀ k, k < 15 → k ≠ 3 → s.bit F.cascLinkEn k = false))
    ∧ (let s := { lit with regs := Tab.set lit.regs (regKey .sysStrap 0 0) (BitVec.ofNat 32 (2 ^ F.sysStrapCascMaster.lo)) }; s.bit F.cascCtrlLock = false ∧ (0x00000100 : Word).toNat % 2 ^ 12 = 2 ^ 8 ∧ s.cascSt = .off ∧ s.bit F.sysStrapCascMaster = true ∧ s.upLinks = [])
    ∧ ((lit.setCasc .mismatch).cascSt = .mismatch ∧ (lit.setCasc .hold).cascSt = .hold ∧ (lit.setCasc .joining).cascSt = .joining ∧ lit.cascSt = .off)
    ∧ (let s := (lit.setCasc .aligned).flag F.cascLinkEn 9; let u := s.modLane 0 0 (fun c => { c with service := { c.service with bad := false } }); s.cascSt ≠ .off ∧ s.bit F.cascLinkEn (9 : Fin 15) = true ∧ (s.lane (s.get F.cascLinkBundle 9) (s.get F.cascLinkSvc 9)).service.bad = true ∧ u.cascSt ≠ .off ∧ u.bit F.cascLinkEn (9 : Fin 15) = true ∧ (u.lane (u.get F.cascLinkBundle 9) (u.get F.cascLinkSvc 9)).service.bad = false)
    ∧ (let s := ((lit.setCasc .aligned).flag F.cascLinkEn 9).modClink 9 (fun c => { c with unacked := [(5, [1])] }); s.cascSt ≠ .off ∧ s.bit F.cascLinkEn (9 : Fin 15) = true ∧ (s.clink 9).unacked ≠ [])
    ∧ (let s := ((lit.setCasc .aligned).flag F.cascLinkEn 9).flag F.cascLinkUp 9; s.cascSt = .aligned ∧ s.upLink = some 9 ∧ s.masterGone 9 = true) := by
  refine ⟨?_, ?_, ?_, ?_, ?_, ?_⟩ <;> decide +kernel

theorem witness_CascadeMessagesComplete :
    (let m : List Byte := cascMessage 1 6 0 77 (bytesOf 0 1 ++ [0x1F, 0, 0x20, 0, 0, 0, 0]); let s := ((lit.setCasc .aligned).put F.cascStatusMember 6).modClink 9 (fun c => { c with inbox := [m] }); s.roomForCommand = true ∧ (s.clink 9).inbox = m :: [] ∧ msgType m = 1 ∧ msgDst m = s.cascMember ∧ s.cascSt = .aligned ∧ (hostFn (Crypto.beNat (((m.drop 8).map BitVec.toNat).take 4) % 65536)).isSome = true)
    ∧ (let m : List Byte := cascMessage 2 0 6 77 (List.replicate 4 0); let r : Relay := { tag := 77, member := 6, slot := 1, id := 2, seq := 3, op := 4 }; let s := (lit.modClink 9 (fun c => { c with inbox := [m] })).modCasc (fun c => { c with relays := [r] }); (s.clink 9).inbox = m :: [] ∧ msgType m = 2 ∧ msgDst m = s.cascMember ∧ s.relayOf m false = some r)
    ∧ (let m : List Byte := cascMessage 3 0 6 77 (List.replicate 4 0); let r : Relay := { tag := 77, member := 6, slot := 1, id := 2, seq := 3, op := 4, accepted := true }; let s := (lit.modClink 9 (fun c => { c with inbox := [m] })).modCasc (fun c => { c with relays := [r] }); (s.clink 9).inbox = m :: [] ∧ msgType m = 3 ∧ msgDst m = s.cascMember ∧ s.relayOf m true = some r)
    ∧ (let m : List Byte := cascMessage 4 0 6 0 (bytesOf 0x06000060 4); let s := (lit.setCasc .master).modClink 9 (fun c => { c with inbox := [m] }); s.cascSt = .master ∧ (s.clink 9).inbox = m :: [] ∧ msgType m = 4 ∧ msgDst m = s.cascMember ∧ Tab.get 0 s.casc.rollVia (msgSrc m) = 0)
    ∧ (let s := ((lit.setCasc .aligned).flag F.cascLinkEn 9).put F.cascRoute0Val 9; s.cascSt = .aligned ∧ s.cascRoute 0 = some 9)
    ∧ (let s := (lit.setCasc .master).put F.cascMembersPresent 0x8000; s.cascSt = .master ∧ (s.get F.cascMembersPresent).testBit 15 = true)
    ∧ (let r : Relay := { tag := 77, member := 6, slot := 1, id := 2, seq := 3, op := 4 }; (lit.modCasc (fun c => { c with relays := [r] })).casc.relays = r :: []) := by
  refine ⟨?_, ?_, ?_, ?_, ?_, ?_, ?_⟩ <;> decide +kernel

theorem witness_AccessPortCommandsComplete :
    (({ lit with dbg := { lit.dbg with ir := 0x10 } }).extest = false)
    ∧ (lit.extest = false)
    ∧ (lit.shut = false ∧ ({ lit with dbg := { lit.dbg with ir := 5 } }).shut = false ∧ ({ lit with dbg := { lit.dbg with ir := 5 } }).extest = true)
    ∧ ((lit.flag F.dbgStatusLocked).shut = true ∧ (lit.flag F.dbgStatusLocked).extest = false)
    ∧ (let s := lit.modClk (fun c => { c with held := false }); s.shut = false ∧ s.extest = false ∧ s.dbg.running = none ∧ s.clk.held = false ∧ s.mgmtClocked = true)
    ∧ (({ lit with dbg := { lit.dbg with running := some (0x1000, 1024) } }).dbg.running = some (0x1000, 1024))
    ∧ (lit.shut = false ∧ lit.extest = false ∧ lit.bit F.dbgStatusLocked = false)
    ∧ (lit.extest = false)
    ∧ (({ lit with dbg := { lit.dbg with ir := 0x12 } }).dbg.ir = 0x12 ∧ lit.get F.dbgStatusUnlockFail < 3) := by
  refine ⟨?_, ?_, ?_, ?_, ?_, ?_, ?_, ⟨?_, ?_⟩⟩ <;> decide +kernel

theorem witness_CoreDebugCommandsComplete :
    (lit.shut = false ∧ lit.extest = false ∧ lit.dbg.running = none ∧ bits (0x00000119 : Word).toNat 31 31 = 0)
    ∧ (lit.shut = false ∧ lit.extest = false ∧ lit.dbg.running = none)
    ∧ (let s := (lit.setQSt 127 .item).flag F.dbgStatusAttached; s.shut = false ∧ s.extest = false ∧ s.dbg.running = none ∧ s.bit F.dbgStatusAttached = true ∧ s.coreHalted 127 = false ∧ s.waitsRelease 127 = false)
    ∧ (let s := lit.modCore 127 (fun c => { c with haltReq := true }); s.quillClocked (127 / 8) = true ∧ (s.core 127).haltReq = true ∧ (s.core 127).pend = none ∧ s.coreHalted 127 = false)
    ∧ (let s := ((lit.setQSt 127 .item).flag F.dbgStatusAttached).flag F.qcStatusHalted 127; s.shut = false ∧ s.extest = false ∧ s.dbg.running = none ∧ s.bit F.dbgStatusAttached = true ∧ s.coreHalted 127 = true ∧ s.bankSelected 127 = true)
    ∧ (let s := (((lit.setQSt 100 .item).flag F.qcStatusHalted 100).put F.dbgQcSelCore 100).put F.dbgQcRegnoVal (0x1000 + 31); let n := s.get F.dbgQcSelCore; s.shut = false ∧ s.extest = false ∧ s.dbg.running = none ∧ n < 128 ∧ s.coreHalted n = true ∧ s.qSt n = .item ∧ s.bit F.dbgQcSelBank = false ∧ s.get F.dbgQcRegnoVal = 0x1000 + 31)
    ∧ (let s := (((lit.setQSt 100 .item).flag F.qcStatusHalted 100).put F.dbgQcSelCore 100).put F.dbgQcRegnoVal (0x1000 + 0); let n := s.get F.dbgQcSelCore; s.shut = false ∧ s.extest = false ∧ s.dbg.running = none ∧ n < 128 ∧ s.coreHalted n = true ∧ s.qSt n = .item ∧ s.bit F.dbgQcSelBank = false ∧ s.get F.dbgQcRegnoVal = 0x1000 + 0)
    ∧ (lit.shut = false ∧ lit.extest = false ∧ lit.dbg.running = none) := by
  refine ⟨?_, ?_, ?_, ?_, ?_, ?_, ?_, ?_⟩ <;> decide +kernel

theorem witness_MonitorCommandsComplete :
    (((lit.put F.sysStatusPhase 3).flag F.scmStatusRunning).monServes = true)
    ∧ (((lit.put F.sysStatusPhase 3).flag F.scmStatusRunning).monServes = true)
    ∧ (((lit.put F.sysStatusPhase 3).flag F.scmStatusRunning).monServes = true ∧ baudRates.contains 3000000 = true)
    ∧ (let s := (lit.put F.sysStatusPhase 3).flag F.scmStatusRunning; s.monServes = true ∧ s.bit F.dbgStatusLocked = false ∧ (monAccess 0x10000000 none s).1 = .ok ∧ (monAccess 0x10000000 (some 7) s).1 = .ok)
    ∧ (let s := (otpUp.put F.sysStatusPhase 3).flag F.scmStatusRunning; s.monServes = true ∧ s.bit F.dbgStatusLocked = false ∧ (List.replicate 32 (1 : Byte)).length = 32 ∧ (Tab.get {} s.otp.ops 0).st = 0 ∧ s.otpWritable = true)
    ∧ (let u := (otpUp.put F.sysStatusPhase 3).flag F.scmStatusRunning; let s : State := { u with otp := { u.otp with ops := Tab.set u.otp.ops 0 { st := 1, key := List.replicate 32 7, rights := 31 } } }; s.monServes = true ∧ s.bit F.dbgStatusLocked = false ∧ (Tab.get {} s.otp.ops 0).st = 1 ∧ s.otpWritable = true)
    ∧ (let s := (lit.put F.sysStatusPhase 3).flag F.scmStatusRunning; s.monServes = true ∧ s.bit F.dbgStatusLocked = false) := by
  refine ⟨?_, ?_, ?_, ?_, ?_, ?_, ?_⟩ <;> decide +kernel

theorem witness_SwapPendingRefusesWrites :
    let s := (lit.flag F.mtimeRtStatusSwapPending).modClk (fun c => { c with held := false }); s.bit F.mtimeRtStatusSwapPending = true ∧ s.clk.held = false := by decide +kernel

theorem witness_EyeScanStartIsRefusedWhileRunning :
    (lit.put F.laneEyeStatState 1 47).get F.laneEyeStatState (47 : Fin 48) = 1 ∧ bits (0x80000000 : Word).toNat 31 31 = 1 ∧ bits (0x1F000000 : Word).toNat 31 31 = 0 := by decide +kernel

theorem witness_VirtualChannelSlots :
    (let d (k : Nat) : Nat := bits (0x3A020202 : Word).toNat (8 * k + 7) (8 * k); (∀ k, k < 4 → 2 ≤ d k) ∧ d 0 + d 1 + d 2 + d 3 ≤ 64)
    ∧ (let d (k : Nat) : Nat := bits (0x3B020202 : Word).toNat (8 * k + 7) (8 * k); 64 < d 0 + d 1 + d 2 + d 3)
    ∧ (let s := { lit.put F.nocRtrStatusState 2 77 with noc := { lit.noc with active := some (77, .command) } }; s.nocClocked = true ∧ s.noc.active = some (77, .command) ∧ s.rtrSt 77 = 2) := by
  refine ⟨?_, ?_, ?_⟩ <;> decide +kernel

theorem witness_RegisterFieldAccessCodes :
    (RegName.laneCfg).info.rw.testBit 0 = true ∧ (RegName.laneCfg).info.rwl.testBit 25 = true ∧ (RegName.wxCtrl).info.w1s.testBit 0 = true ∧ (RegName.sysRstcause).info.w1c.testBit 4 = true ∧ (RegName.mtimeStatus).info.rw.testBit 0 = false ∧ (RegName.mtimeStatus).info.rwl.testBit 0 = false ∧ (RegName.mtimeStatus).info.w1s.testBit 0 = false ∧ (RegName.mtimeStatus).info.w1c.testBit 0 = false := by decide +kernel

theorem witness_QuietReadsChangeNothing :
    (lit.modClk (fun c => { c with held := false })).clk.held = false := by decide +kernel

theorem witness_RefusedMemoryAccesses :
    (let a := 0x207FFFFF; let s := lit.setDom (100 + coreGroup (offsetOf a)) { st := .off }; keyId a = 0 ∧ 0x20000000 ≤ offsetOf a ∧ offsetOf a < 0x20800000 ∧ (s.dom (100 + coreGroup (offsetOf a))).st ≠ .on)
    ∧ (offsetOf (2 ^ 43) < 2 ^ 32 ∧ keyId (2 ^ 43) ≠ 0 ∧ 2 ^ 32 ≤ offsetOf (2 ^ 32) ∧ offsetOf (2 ^ 32) < nearStart ∧ nearEnd ≤ offsetOf nearEnd ∧ offsetOf nearEnd < caveStart ∧ caveStart + 2 ^ 41 ≤ offsetOf (caveStart + 2 ^ 41)) := by
  refine ⟨?_, ?_⟩ <;> decide +kernel

theorem witness_CommandsLeaveTheQueue :
    (match exec .srstAssert { lit with pending := [.idcode] } with | .next t => decide (t.pending = [.idcode]) | _ => false) = true := by decide +kernel

theorem witness_MemoryFormIsKept :
    memWf [(0x10000007, (3 : Byte)), (0x40000000, 1)] = true ∧ (match step { lit with mem := [(0x10000007, 3), (0x40000000, 1)] } with | .next t => decide (t.mem = [(0x10000007, 3), (0x40000000, 1)]) | _ => false) = true := by decide +kernel

theorem witness_FramesReadAsSent :
    255 < 2 ^ (72 - 64) ∧ parseFrame 72 (txFrame 72 255 255 255) = (true, { sync := 0x1C4E, tag := 255, typ := 255, payload := 255, crcOk := true }) := by decide +kernel

theorem witness_LinesReadBackAsWritten :
    let s := { lit.put F.xcrKeyValidVal 1 with xcr := { lit.xcr with pages := [(pageKey nearUser, { touched := true, major := 3 })] } }; let w := lineWriteOp 0 nearUser (List.replicate 64 7) (List.replicate 64 true) false ({}, .clean) { upsets := [], other := none, tableFail := false, ctrMiss := false, metaMiss := false } s; w.status = .ok ∧ (w.state.lineAt (offsetOf nearUser / 64)).tag ≠ poisonTag := by decide +kernel

theorem witness_SingleBitErrorsAreCorrected :
    eccRead (0x8000000000000005#64 ^^^ (1 <<< 63)) (eccCheck 0x8000000000000005#64) = .good 0x8000000000000005#64 true := by decide +kernel

theorem witness_DoubleBitErrorsAreDetected :
    70 < 71 ∧ eccRead 5#64 (eccCheck 5#64 ^^^ (1 <<< 7) ^^^ (1 <<< 6)) = .uncorrectable 5#64 := by decide +kernel

theorem witness_StoredWordsReadBack :
    (lit.writeWord 0x2000000 0x0123456789ABCDEF 255 false).wordRead 0x2000000 = .good 0x0123456789ABCDEF false ∧ (0x2000001 : Nat) ≠ 0x2000000 := by decide +kernel

theorem witness_RealignmentJumpRange :
    (0 : Nat) < 4096 ∧ 4095 < 4096 ∧ jumpOf 0 4095 4096 = 2 ^ 64 - 1 := by decide +kernel

theorem witness_ServiceMessagesParse :
    let m := cascMessage 15 15 15 65535 [1]; takeService 2 (m ++ [0]) = ([m], []) ∧ msgType m = 15 ∧ msgTag m = 65535 := by decide +kernel

theorem witness_EdgesChangeTheCurrentContext :
    (∀ e ∈ ({ lit with frames := [(1351679, 1)] } : State).frames, e.1 < 2 * 675840) := by decide +kernel

end
end

/-!
The proof of O5 (01 R18 to R21, 05 R185). A request that finds its latch as it would leave it writes back what the tables of
domains and hoops already hold, and in canonical form such a write leaves the table itself unchanged.
-/
section
namespace Sys2Proof.Machine

/-! ### Writing back what a table holds -/

section
variable {α : Type}

theorem tab_mem_of_look {t : Tab α} {k : Nat} {v : α} (h : Tab.look t k = some v) : (k, v) ∈ t := by
  induction t with
  | nil => simp [Tab.look] at h
  | cons x t ih =>
    obtain ⟨a, w⟩ := x
    by_cases hk : a = k
    · simp only [Tab.look, if_pos hk, Option.some.injEq] at h
      simp [hk, h]
    · simp only [Tab.look, if_neg hk] at h
      exact .tail _ (ih h)

theorem tab_del_of_look_none {t : Tab α} {k : Nat} (h : Tab.look t k = none) : Tab.del t k = t := by
  induction t with
  | nil => rfl
  | cons x t ih =>
    obtain ⟨a, w⟩ := x
    by_cases hk : a = k
    · simp [Tab.look, hk] at h
    · simp only [Tab.look, if_neg hk] at h
      simp [Tab.del, hk, ih h]

theorem tab_set_of_look_some {t : Tab α} {k : Nat} {v : α} (hs : t.Pairwise (fun a b => a.1 < b.1))
    (h : Tab.look t k = some v) : Tab.set t k v = t := by
  induction t with
  | nil => simp [Tab.look] at h
  | cons x t ih =>
    obtain ⟨a, w⟩ := x
    obtain ⟨hlow, hs⟩ := List.pairwise_cons.mp hs
    by_cases hk : a = k
    · simp only [Tab.look, if_pos hk, Option.some.injEq] at h
      simp [Tab.set, hk, h]
    · simp only [Tab.look, if_neg hk] at h
      have hak : a < k := hlow _ (tab_mem_of_look h)
      simp [Tab.set, Nat.not_lt.mpr hak.le, Ne.symm hk, ih hs h]

variable [DecidableEq α]

/-- The canonical form leaves one table for one reading, so writing back what a key reads changes nothing. -/
theorem tab_put_get_self {d : Nat → α} {t : Tab α} (h : Tab.wf d t = true) (k : Nat) :
    Tab.put (d k) t k (Tab.get (d k) t k) = t := by
  simp only [Tab.wf, Bool.and_eq_true, decide_eq_true_eq, List.all_eq_true] at h
  obtain ⟨hs, hne⟩ := h
  cases hl : Tab.look t k with
  | none => simp [Tab.put, Tab.get, hl, tab_del_of_look_none hl]
  | some v =>
    have hv : v ≠ d k := hne (k, v) (tab_mem_of_look hl)
    simp [Tab.put, Tab.get, hl, hv, tab_set_of_look_some hs hl]

end

/-! ### Domains and hoops written back -/

theorem setDom_self {s : State} {k : Nat} {e : DomSt} (h : Tab.wf (fun _ => {}) s.doms = true) (he : e = s.dom k) :
    s.setDom k e = s := by
  rw [State.setDom, he, State.dom, tab_put_get_self h k]

theorem modHoop_self {s : State} {n : Nat} {f : HoopSt → HoopSt} (h : Tab.wf (fun _ => {}) s.hoops = true)
    (hf : f (s.hoop n) = s.hoop n) : s.modHoop n f = s := by
  rw [State.modHoop, hf, State.hoop, tab_put_get_self h n]

/-! ### What the two requests do in each state of a domain (01 R18 to R20) -/

theorem exec_domainEnable (d : Dom) (s : State) : exec (.domainEnable d) s = reply (domainEnable d s) := rfl

theorem exec_domainSwitchOff (d : Dom) (s : State) : exec (.domainSwitchOff d) s = reply (domainOff d s) := rfl

section
variable {d : Dom} {k : Nat} {s : State}

theorem domainEnable_on (hk : domKey d = some k) (h : (s.dom k).st = .on) :
    domainEnable d s = (if s.hoopLeaving d then s.setDom k { s.dom k with pendingEnable := true } else s, .ok) := by
  simp [domainEnable, hk, h]

theorem domainEnable_poweringDown (hk : domKey d = some k) (h : (s.dom k).st = .poweringDown) :
    domainEnable d s = (s.setDom k { s.dom k with pendingEnable := true }, .ok) := by
  simp [domainEnable, hk, h]

theorem domainEnable_poweringUp (hk : domKey d = some k) (h : (s.dom k).st = .poweringUp) :
    domainEnable d s = (s.setDom k { s.dom k with pendingOff := false }, .ok) := by
  simp [domainEnable, hk, h]

theorem domainOff_down (hk : domKey d = some k) (h : (s.dom k).st = .off ∨ (s.dom k).st = .poweringDown) :
    domainOff d s = (s.setDom k { s.dom k with pendingEnable := false }, .ok) := by
  rcases h with h | h <;> simp [domainOff, hk, h]

theorem domainOff_poweringUp (hk : domKey d = some k) (h : (s.dom k).st = .poweringUp) :
    domainOff d s = (s.setDom k { s.dom k with pendingOff := true }, .ok) := by
  simp [domainOff, hk, h]

theorem hoopLeaving_iff : s.hoopLeaving d = true ↔
    ∃ n, d = .hoop n ∧ s.hoopSt n = .stopping ∧ (s.hoop n).stopFor = .switchOff := by
  cases d <;> simp [State.hoopLeaving]

theorem domainOff_leaving {n : Fin 192} (hk : domKey (.hoop n) = some k) (h : (s.dom k).st = .on)
    (hst : s.hoopSt n = .stopping) (hwhy : (s.hoop n).stopFor = .switchOff) :
    domainOff (.hoop n) s = ((s.setDom k { s.dom k with pendingEnable := false }).modHoop n
      (fun h => { h with stopFor := .switchOff }), .ok) := by
  simp [domainOff, hk, h, hst, hwhy]

/-! ### A latch that already stands as the request would leave it -/

theorem pendingEnable_self {e : DomSt} {b : Bool} (h : e.pendingEnable = b) : { e with pendingEnable := b } = e := by
  subst h; rfl

theorem pendingOff_self {e : DomSt} {b : Bool} (h : e.pendingOff = b) : { e with pendingOff := b } = e := by
  subst h; rfl

theorem stopFor_self {e : HoopSt} {w : StopFor} (h : e.stopFor = w) : { e with stopFor := w } = e := by
  subst h; rfl

/-- An enable changes nothing where the domain is ON or heading for it. -/
theorem domainEnable_repeated (hk : domKey d = some k) (hd : Tab.wf (fun _ => {}) s.doms = true)
    (h : (s.dom k).st = .on ∧ s.hoopLeaving d = false ∨ (s.dom k).st = .on ∧ (s.dom k).pendingEnable = true ∨
      (s.dom k).st = .poweringUp ∧ (s.dom k).pendingOff = false ∨
      (s.dom k).st = .poweringDown ∧ (s.dom k).pendingEnable = true) :
    domainEnable d s = (s, .ok) := by
  rcases h with ⟨hst, hleave⟩ | ⟨hst, hlatch⟩ | ⟨hst, hlatch⟩ | ⟨hst, hlatch⟩
  · simp [domainEnable_on hk hst, hleave]
  · rw [domainEnable_on hk hst, setDom_self hd (pendingEnable_self hlatch), ite_self]
  · rw [domainEnable_poweringUp hk hst, setDom_self hd (pendingOff_self hlatch)]
  · rw [domainEnable_poweringDown hk hst, setDom_self hd (pendingEnable_self hlatch)]

/-- A switch-off changes nothing where the domain is OFF or heading for it. -/
theorem domainOff_repeated (hk : domKey d = some k) (hd : Tab.wf (fun _ => {}) s.doms = true)
    (hh : Tab.wf (fun _ => {}) s.hoops = true)
    (h : (s.dom k).pendingEnable = false ∧ ((s.dom k).st = .off ∨ (s.dom k).st = .poweringDown) ∨
      (s.dom k).st = .poweringUp ∧ (s.dom k).pendingOff = true ∨
      (s.dom k).st = .on ∧ s.hoopLeaving d = true ∧ (s.dom k).pendingEnable = false) :
    domainOff d s = (s, .ok) := by
  rcases h with ⟨hlatch, hst⟩ | ⟨hst, hlatch⟩ | ⟨hst, hleave, hlatch⟩
  · rw [domainOff_down hk hst, setDom_self hd (pendingEnable_self hlatch)]
  · rw [domainOff_poweringUp hk hst, setDom_self hd (pendingOff_self hlatch)]
  · obtain ⟨n, rfl, hstop, hwhy⟩ := hoopLeaving_iff.mp hleave
    rw [domainOff_leaving hk hst hstop hwhy, setDom_self hd (pendingEnable_self hlatch), modHoop_self hh (stopFor_self hwhy)]

end

/-- Settles O5: each request that is repeated writes back the latch it finds, in a domain's entry and, for a hoop's stop under
R185, in the hoop's. -/
theorem repeatedDomainRequestsHaveNoEffect : Obligations.RepeatedDomainRequestsHaveNoEffect := by
  unfold Obligations.RepeatedDomainRequestsHaveNoEffect
  intro d k s hk hd hh
  refine ⟨fun h => ?_, fun h => ?_⟩
  · rw [exec_domainEnable, domainEnable_repeated hk hd h, reply]
  · rw [exec_domainSwitchOff, domainOff_repeated hk hd hh h, reply]

end Sys2Proof.Machine
end

/-!
The proof of O42 (02 R59). A write by address comes to the same rule as the command: an address of the shadow window to the
write of the half it names (02 R57), the address of MTIME_RT_CTRL to that register's own rule (02 R58).
-/
section
namespace Sys2Proof.Machine

/-! ### Where the register bus leads the writes of the ruling table -/

theorem blockAt_shadowWindow {h : Nat} (hh : h < 32768) : blockAt (0x210000 + 4 * h) = some .mtime := by
  have hblock : (0x210000 + 4 * h) / 0x100000 = 2 := by omega
  simp [blockAt, hblock]

/-- The windows of one access each lie above the shadow window. -/
theorem isWindow_shadowWindow {h : Nat} (hh : h < 32768) : isWindow (0x210000 + 4 * h) = false := by
  have hwx : ¬ 0xB08000 ≤ 0x210000 + 4 * h := by omega
  have heth : ¬ 0xD00100 ≤ 0x210000 + 4 * h := by omega
  simp [isWindow, hwx, heth]

/-- A write to the shadow window by its address is a write of the half it names (02 R57). -/
theorem regWrite_shadowWindow {h : Nat} (hh : h < 32768) (v : Word) (s : State) :
    regWrite (0x210000 + 4 * h) v s = rtShadowWrite h v.toNat s := by
  have haligned : (0x210000 + 4 * h) % 4 = 0 := by omega
  have hin : 0x210000 ≤ 0x210000 + 4 * h ∧ 0x210000 + 4 * h < 0x230000 := by omega
  have hhalf : (0x210000 + 4 * h - 0x210000) / 4 = h := by omega
  simp only [regWrite, haligned, isWindow_shadowWindow hh, blockAt_shadowWindow hh, if_pos hin, hhalf]
  simp

theorem regIn_mtimeRtCtrl : regIn Block.mtime.regs RegName.mtimeRtCtrl.info.base = some (.mtimeRtCtrl, 0, 0) := by decide

/-- A write to MTIME_RT_CTRL by its address follows that register's own rule (02 R58 to R60). -/
theorem regWrite_mtimeRtCtrl (v : Word) (s : State) :
    regWrite RegName.mtimeRtCtrl.info.base v s = rtCtrlWrite v.toNat s := by
  have hblock : blockAt RegName.mtimeRtCtrl.info.base = some .mtime := by decide
  have hplain : ¬ (RegName.mtimeRtCtrl.info.base % 4 ≠ 0 ∨ isWindow RegName.mtimeRtCtrl.info.base = true) := by decide
  have hout : ¬ (0x210000 ≤ RegName.mtimeRtCtrl.info.base ∧ RegName.mtimeRtCtrl.info.base < 0x230000) := by decide
  simp only [regWrite, if_neg hplain, hblock, if_neg hout, regIn_mtimeRtCtrl, writeReg]

/-! ### Out of reset, a write of 4 bytes is answered as the bus answers it -/

theorem exec_regWrite_word {s : State} (hup : s.clk.held = false) (addr : Nat) (v : Word) :
    exec (.regWrite addr 4 v) s = reply (regWrite addr v s) := by
  change execRegWrite addr 4 v s = _
  simp [execRegWrite, hup]

theorem exec_rtShadowWrite (h : Fin 32768) (v : Word) (s : State) :
    exec (.rtShadowWrite h v) s = reply (rtShadowWrite h v.toNat s) := rfl

theorem exec_rtSwapRequest (v : Word) (s : State) : exec (.rtSwapRequest v) s = reply (rtCtrlWrite v.toNat s) := rfl

/-! ### While a swap is pending (02 R59) -/

theorem rtShadowWrite_swapPending {s : State} (hp : s.bit F.mtimeRtStatusSwapPending = true) (half v : Nat) :
    rtShadowWrite half v s = (s, .busy) := if_pos hp

theorem rtCtrlWrite_swapPending {s : State} (hp : s.bit F.mtimeRtStatusSwapPending = true) (v : Nat) :
    rtCtrlWrite v s = (s, .busy) := if_pos hp

/-- Settles O42: the command and the write by address come to one rule, and that rule refuses while a swap is pending. -/
theorem swapPendingRefusesWrites : Obligations.SwapPendingRefusesWrites := by
  unfold Obligations.SwapPendingRefusesWrites
  intro h v s hp
  have hshadow : reply (rtShadowWrite h v.toNat s) = .next (s.answer .busy) := by
    rw [rtShadowWrite_swapPending hp, reply]
  have hctrl : reply (rtCtrlWrite v.toNat s) = .next (s.answer .busy) := by
    rw [rtCtrlWrite_swapPending hp, reply]
  refine ⟨?_, ?_, fun hup => ⟨?_, ?_⟩⟩
  · rw [exec_rtShadowWrite, hshadow]
  · rw [exec_rtSwapRequest, hctrl]
  · rw [exec_regWrite_word hup, regWrite_shadowWindow h.isLt, hshadow]
  · rw [exec_regWrite_word hup, regWrite_mtimeRtCtrl, hctrl]

end Sys2Proof.Machine
end

/-!
The proof of O43 (03 R117, R118). LANE_EYE_CTRL has one rule, and where a scan runs bit 31 of the word written decides it: a
start is refused before anything is written, and without one the scan is aborted first and the point's fields written after.
-/
section
namespace Sys2Proof.Machine

/-! ### One bit of a word, and a field written with bits of a word -/

theorem bitAt_eq_bits (v k : Nat) : bitAt v k = decide (bits v k k = 1) := by
  simp [bitAt, bits, Nat.testBit_eq_decide_div_mod_eq, Nat.shiftRight_eq_div_pow]

/-- A word whose top bit is clear is what the abort command writes of it. -/
theorem mod_eq_self_of_bits_top {v : Word} (h : bits v.toNat 31 31 = 0) : v.toNat % 2 ^ 31 = v.toNat := by
  have hv := v.isLt
  rw [bits, Nat.shiftRight_eq_div_pow] at h
  omega

/-- Bits of a word cut to a field as wide as they are fit it whole. -/
theorem get_put_bits (s : State) (f : Fld) (v i j : Nat) (h : f.lo ≤ f.hi) (h32 : f.hi ≤ 31) :
    (s.put f (bits v f.hi f.lo) i j).get f i j = bits v f.hi f.lo := by
  rw [get_put_same s f _ i j h h32]
  exact Nat.mod_mod _ _

/-! ### What the fields of an eye-scan point read after they are written -/

section
variable (n v : Nat) (s : State)

theorem get_eyeFields_phase : (eyeFields n v s).get F.laneEyeCtrlPhase n = bits v 5 0 :=
  get_put_bits _ F.laneEyeCtrlPhase v n 0 (by decide) (by decide)

theorem get_eyeFields_volt : (eyeFields n v s).get F.laneEyeCtrlVolt n = bits v 13 7 := by
  simp (disch := decide) only [eyeFields, get_put_other_bits]
  exact get_put_bits _ F.laneEyeCtrlVolt v n 0 (by decide) (by decide)

theorem get_eyeFields_lane : (eyeFields n v s).get F.laneEyeCtrlLane n = bits v 23 20 := by
  simp (disch := decide) only [eyeFields, get_put_other_bits]
  exact get_put_bits _ F.laneEyeCtrlLane v n 0 (by decide) (by decide)

theorem get_eyeFields_dwell : (eyeFields n v s).get F.laneEyeCtrlDwell n = bits v 28 24 := by
  simp (disch := decide) only [eyeFields, get_put_other_bits]
  exact get_put_bits _ F.laneEyeCtrlDwell v n 0 (by decide) (by decide)

theorem get_eyeFields_start : (eyeFields n v s).get F.laneEyeCtrlStart n = s.get F.laneEyeCtrlStart n := by
  simp (disch := decide) only [eyeFields, get_put_other_bits]

theorem get_eyeFields_state : (eyeFields n v s).get F.laneEyeStatState n = s.get F.laneEyeStatState n := by
  simp (disch := decide) only [eyeFields, get_put_other_reg]

theorem eyeFields_lanes : (eyeFields n v s).lanes = s.lanes := by simp only [eyeFields, put_lanes]

theorem eyeFields_mem : (eyeFields n v s).mem = s.mem := by simp only [eyeFields, put_mem]

/-! ### A scan aborted (R117) -/

/-- The state of a scanner after its scan is aborted: LANE_EYE_STAT.state 3, start clear. -/
def eyeAborted (n : Nat) (s : State) : State := (s.put F.laneEyeStatState 3 n).clear F.laneEyeCtrlStart n

theorem get_eyeAborted_state : (eyeAborted n s).get F.laneEyeStatState n = 3 := by
  rw [eyeAborted, State.clear, get_put_other_reg _ _ _ _ _ _ _ _ (by decide)]
  exact get_put_same s F.laneEyeStatState 3 n 0 (by decide) (by decide)

theorem get_eyeAborted_start : (eyeAborted n s).get F.laneEyeCtrlStart n = 0 :=
  get_put_same _ F.laneEyeCtrlStart 0 n 0 (by decide) (by decide)

theorem eyeAborted_lanes : (eyeAborted n s).lanes = s.lanes := by rw [eyeAborted, clear_lanes, put_lanes]

theorem eyeAborted_mem : (eyeAborted n s).mem = s.mem := by rw [eyeAborted, clear_mem, put_mem]

end

/-! ### A write of LANE_EYE_CTRL while a scan runs (R118) -/

section
variable {n v : Nat} {s : State}

theorem eyeWrite_running_start (hrun : s.get F.laneEyeStatState n = 1) (hstart : bits v 31 31 = 1) :
    eyeWrite n v s = (s, .busy) := by
  simp [eyeWrite, bitAt_eq_bits, hrun, hstart]

theorem eyeWrite_running_stop (hrun : s.get F.laneEyeStatState n = 1) (hstop : bits v 31 31 = 0) :
    eyeWrite n v s = (eyeFields n v (eyeAborted n s), .ok) := by
  simp [eyeWrite, bitAt_eq_bits, hrun, hstop, eyeAborted]

end

theorem exec_laneEyeStart (n : Fin 48) (v : Word) (s : State) :
    exec (.laneEyeStart n v) s = reply (eyeWrite n v.toNat s) := rfl

theorem exec_eyeScanAbort_write (n : Fin 48) (v : Word) (s : State) :
    exec (.eyeScanAbort n (some v)) s = reply (eyeWrite n (v.toNat % 2 ^ 31) s) := rfl

/-- Settles O43: a start is refused with the state as it was; a write without one comes to the same rule by either command,
and the fields written after the abort leave its marks. -/
theorem eyeScanStartIsRefusedWhileRunning : Obligations.EyeScanStartIsRefusedWhileRunning := by
  unfold Obligations.EyeScanStartIsRefusedWhileRunning
  intro n v s hrun
  refine ⟨fun hstart => ?_, fun hstop => ⟨eyeFields n v.toNat (eyeAborted n s), ?_, ?_, ?_, ?_, ?_, ?_, ?_, ?_, ?_, ?_⟩⟩
  · rw [exec_laneEyeStart, eyeWrite_running_start hrun hstart, reply]
  · rw [exec_laneEyeStart, eyeWrite_running_stop hrun hstop, reply]
  · rw [exec_eyeScanAbort_write, mod_eq_self_of_bits_top hstop, eyeWrite_running_stop hrun hstop, reply]
  · rw [get_eyeFields_state, get_eyeAborted_state]
  · rw [get_eyeFields_start, get_eyeAborted_start]
  · exact get_eyeFields_dwell n v.toNat _
  · exact get_eyeFields_lane n v.toNat _
  · exact get_eyeFields_volt n v.toNat _
  · exact get_eyeFields_phase n v.toNat _
  · rw [eyeFields_lanes, eyeAborted_lanes]
  · rw [eyeFields_mem, eyeAborted_mem]

end Sys2Proof.Machine
end

/-!
The proof of O44 (11 R350). A reconfiguration puts the written division in force and then carries out the next latched drain
and starts the packets that wait; the one fact the third clause needs of all that follows is that it leaves divisions alone.
-/
section
namespace Sys2Proof.Machine

/-! ### A write of NOC_RTR_VCDEPTH -/

/-- The slots that a word of NOC_RTR_VCDEPTH gives a virtual channel. -/
def vcSlots (v : Word) (k : Nat) : Nat := bits v.toNat (8 * k + 7) (8 * k)

theorem byteAt_eq_vcSlots (v : Word) (k : Nat) : v.toNat / 256 ^ k % 256 = vcSlots v k := by
  have hwidth : 8 * k + 7 + 1 - 8 * k = 8 := by omega
  rw [vcSlots, bits, Nat.shiftRight_eq_div_pow, hwidth, Nat.pow_mul]
  rfl

/-- The rule of the register, by the slots of each virtual channel. -/
theorem vcdepthWrite_eq (r : Nat) (v : Word) (s : State) :
    vcdepthWrite r v.toNat s =
      if vcSlots v 0 < 2 ∨ vcSlots v 1 < 2 ∨ vcSlots v 2 < 2 ∨ vcSlots v 3 < 2 ∨
          64 < vcSlots v 0 + vcSlots v 1 + vcSlots v 2 + vcSlots v 3
      then (s, .denied) else (s.setWord .nocRtrVcdepth v r, .ok) := by
  simp only [vcdepthWrite, byteAt_eq_vcSlots, BitVec.ofNat_toNat, BitVec.setWidth_eq]

theorem vcdepthWrite_denied {v : Word} (r : Nat) (s : State)
    (h : (∃ k, k < 4 ∧ vcSlots v k < 2) ∨ 64 < vcSlots v 0 + vcSlots v 1 + vcSlots v 2 + vcSlots v 3) :
    vcdepthWrite r v.toNat s = (s, .denied) := by
  rw [vcdepthWrite_eq, if_pos]
  rcases h with ⟨k, hk, hlow⟩ | hsum
  · interval_cases k <;> simp only [hlow, true_or, or_true]
  · simp only [hsum, or_true]

theorem vcdepthWrite_taken {v : Word} (r : Nat) (s : State) (hlow : ∀ k, k < 4 → 2 ≤ vcSlots v k)
    (hsum : vcSlots v 0 + vcSlots v 1 + vcSlots v 2 + vcSlots v 3 ≤ 64) :
    vcdepthWrite r v.toNat s = (s.setWord .nocRtrVcdepth v r, .ok) := by
  have h0 := hlow 0 (by decide)
  have h1 := hlow 1 (by decide)
  have h2 := hlow 2 (by decide)
  have h3 := hlow 3 (by decide)
  rw [vcdepthWrite_eq, if_neg (by omega)]

theorem exec_vcdepthWrite (r : Fin 144) (v : Word) (s : State) :
    exec (.vcdepthWrite r v) s = reply (vcdepthWrite r v.toNat s) := rfl

/-! ### The divisions in force, left alone by packets that start (R340 to R364) -/

section
variable (s : State)

@[simp] theorem modNi_depth (n : Nat) (f : NiSt → NiSt) : (s.modNi n f).noc.depth = s.noc.depth := rfl

@[simp] theorem modCore_noc (n : Nat) (f : CoreSt → CoreSt) : (s.modCore n f).noc = s.noc := rfl

@[simp] theorem rtrDiscard_noc (r n : Nat) : (rtrDiscard r n s).noc = s.noc := rfl

@[simp] theorem dropReq_depth (n txn : Nat) : (dropReq n txn s).noc.depth = s.noc.depth := rfl

@[simp] theorem tokenArrives_noc (r : NocReq) : (tokenArrives r s).noc = s.noc := rfl

@[simp] theorem niSpend_depth (n vc flits : Nat) : (niSpend n vc flits s).noc.depth = s.noc.depth := by
  unfold niSpend
  split <;> simp

@[simp] theorem coreAnswered_noc (n : Nat) (r : NocReq) (st : Status) (data : Nat) (poison : Bool) :
    (coreAnswered n r st data poison s).noc = s.noc := by
  unfold coreAnswered storeDone
  split
  · split <;> simp
  · simp

@[simp] theorem respond_noc (r : NocReq) (st : Status) (data : Nat) (poison : Bool) :
    (respond r st data poison s).noc = s.noc := by
  unfold respond
  split
  · split <;> rfl
  · simp
  · simp

@[simp] theorem debugStarts_noc (r : NocReq) (txn : Nat) : (debugStarts r txn s).noc = s.noc := by
  unfold debugStarts
  split
  · split <;> rfl
  · rfl

@[simp] theorem sendReq_depth (n : Nat) (r : NocReq) : (sendReq n r s).noc.depth = s.noc.depth := by
  unfold sendReq
  split
  · simp
  · dsimp only
    split
    · simp
    · split <;> simp

@[simp] theorem sendPosted_depth (p : Packet) : (sendPosted p s).2.noc.depth = s.noc.depth := by
  unfold sendPosted
  dsimp only
  split
  · simp
  · split <;> simp

@[simp] theorem niStart_depth (n : Nat) (r : NocReq) : (niStart n r s).noc.depth = s.noc.depth := by
  unfold niStart
  split
  · dsimp only
    split <;> simp
  · split
    · split <;> simp
    · split <;> simp

@[simp] theorem niServe_depth (n : Nat) (rs : List NocReq) : (niServe n rs s).noc.depth = s.noc.depth := by
  induction rs generalizing s with
  | nil => rfl
  | cons r rs ih =>
    rw [niServe, ih]
    split <;> simp

@[simp] theorem niDrain_depth (n : Nat) : (niDrain n s).noc.depth = s.noc.depth := by
  unfold niDrain
  split <;> simp

@[simp] theorem nocDrain_depth : (nocDrain s).noc.depth = s.noc.depth := by
  rw [nocDrain]
  exact foldl_keep _ (fun s => s.noc.depth) (fun t e => niDrain_depth t e.1) s.noc.nis s

/-! ### The end of a reconfiguration (R359, R360) -/

@[simp] theorem nextDrain_depth : (nextDrain s).noc.depth = s.noc.depth := by
  unfold nextDrain
  split <;> simp

@[simp] theorem nocCounts_noc : (nocCounts s).noc = s.noc := rfl

/-- A router back in RUN with the division of its register in force, no drain under way. -/
def routerBack (r : Nat) (s : State) : State :=
  { s.put F.nocRtrStatusState 0 r with
    noc := { s.noc with depth := Tab.put 0x10101010 s.noc.depth r (s.word .nocRtrVcdepth r).toNat
                        active := none, parity := Tab.put [] s.noc.parity r [] } }

theorem routerBack_depth (r : Nat) :
    Tab.get 0x10101010 (routerBack r s).noc.depth r = (s.word .nocRtrVcdepth r).toNat := tab_get_put_same _ _ _ _

end

/-- A drain by command has no fault to find: its reconfiguration always brings the router back. -/
theorem exec_routerReconfDone_command {s : State} {r : Fin 144} (wires : Nat) (x : Fin 3) (hclk : s.nocClocked = true)
    (hactive : s.noc.active = some (r.val, .command)) (hst : s.rtrSt r = 2) :
    exec (.routerReconfDone r wires x) s = .next (nocDrain (nextDrain (nocCounts (routerBack r s)))) := by
  change execRouterReconfDone r wires x s = _
  simp [execRouterReconfDone, hclk, hactive, hst, reconf, routerBack]

/-- Settles O44: the register's rule is `vcdepthWrite_eq`; the division put in force by a reconfiguration outlives the drain
and the packets that start after it. -/
theorem virtualChannelSlots : Obligations.VirtualChannelSlots := by
  unfold Obligations.VirtualChannelSlots
  refine ⟨fun r v s => ⟨fun h => ?_, fun hlow hsum => ⟨s.setWord .nocRtrVcdepth v r, ?_, ?_, ?_, ?_⟩⟩, ⟨rfl, rfl⟩,
    fun r wires x s hclk hactive hst => ⟨_, exec_routerReconfDone_command wires x hclk hactive hst, ?_⟩⟩
  · rw [exec_vcdepthWrite, vcdepthWrite_denied r s h, reply]
  · rw [exec_vcdepthWrite, vcdepthWrite_taken r s hlow hsum, reply]
  · exact word_setWord_same s .nocRtrVcdepth v r 0
  · exact setWord_noc s .nocRtrVcdepth v r 0
  · exact setWord_mem s .nocRtrVcdepth v r 0
  · rw [nocDrain_depth, nextDrain_depth, nocCounts_noc, routerBack_depth]

end Sys2Proof.Machine
end

/-!
The proof of O45 (19 R583). The instruction register keeps IDCODE's code through what the change does to the pins; a register
whose table is empty reads its reset value, and no reset value of CFG_ID has another stepping.
-/
section
namespace Sys2Proof.Machine

/-! ### The instruction that the access port takes (R582, R585) -/

section
variable (s : State)

@[simp] theorem modNear_dbg (c : Nat) (f : NearSt → NearSt) : (s.modNear c f).dbg = s.dbg := rfl

@[simp] theorem modLane_dbg (n m : Nat) (f : LaneSt → LaneSt) : (s.modLane n m f).dbg = s.dbg := rfl

@[simp] theorem setLaneSt_dbg (n m : Nat) (st : LSt) : (s.setLaneSt n m st).dbg = s.dbg := rfl

@[simp] theorem loseChannel_dbg (c : Nat) : (loseChannel c s).dbg = s.dbg := by
  unfold loseChannel
  dsimp only
  split <;> rfl

@[simp] theorem eyeLeave_dbg (n m : Nat) : (eyeLeave n m s).dbg = s.dbg := by
  unfold eyeLeave
  split <;> rfl

@[simp] theorem enterRetrain_dbg (n m : Nat) : (enterRetrain n m s).dbg = s.dbg := by
  unfold enterRetrain
  split <;> simp

/-- The channels lose their contents, and the access port is left alone. -/
@[simp] theorem pinsTaken_dbg : (pinsTaken s).dbg = s.dbg := by
  unfold pinsTaken
  rw [foldl_keep _ State.dbg (fun t c => modNear_dbg t c _)]
  exact foldl_keep _ State.dbg (fun t c => loseChannel_dbg t c) _ s

/-- The lanes retrain, and the access port is left alone. -/
@[simp] theorem pinsBack_dbg : (pinsBack s).dbg = s.dbg :=
  foldl_keep _ State.dbg (fun t n => foldl_keep _ State.dbg (fun u m => enterRetrain_dbg u n m) _ t) _ s

@[simp] theorem takeIr_ir (code : Nat) : (takeIr code s).dbg.ir = code := by
  unfold takeIr
  dsimp only
  split
  · rw [pinsTaken_dbg, State.modDbg]
  · split
    · rw [pinsBack_dbg, State.modDbg]
    · rfl

theorem exec_idcode : exec .idcode s = .next ((takeIr 2 s).emit (.tdo 32 0x10A4956B)) := rfl

end

/-! ### CFG_ID.stepping after a reset (13 R440) -/

section
variable {s : State}

theorem word_of_regs_nil (h : s.regs = []) (r : RegName) (i j : Nat) : s.word r i j = regReset r (i % 65536) := by
  rw [State.word, h]
  rfl

/-- Either speed grade has stepping 1. -/
theorem regReset_cfgId_stepping (i : Nat) : bits (regReset .cfgId i).toNat 19 16 = 1 := by
  unfold regReset
  dsimp only
  split <;> rfl

theorem get_stepping_of_regs_nil (h : s.regs = []) : s.get F.cfgIdStepping = 1 := by
  rw [State.get, word_of_regs_nil h]
  exact regReset_cfgId_stepping _

end

theorem exec_powerOnReset (s : State) : exec .powerOnReset s = .next (powerOnReset s) := rfl

/-- A power-on reset writes the lock-out and the blocks of leaves into registers of their own, so CFG_ID is as at reset. -/
theorem powerOnReset_stepping (s : State) : (powerOnReset s).get F.cfgIdStepping = 1 := by
  change State.get (State.put (State.putBit _ F.dbgStatusLocked _) F.scmLeafBlocks _) F.cfgIdStepping = 1
  rw [get_put_other_reg _ _ _ _ _ _ _ _ (by decide), State.putBit, get_put_other_reg _ _ _ _ _ _ _ _ (by decide)]
  exact get_stepping_of_regs_nil rfl

/-- Settles O45: the code stays selected by `takeIr_ir`, and each reset leaves CFG_ID at a value whose stepping is the version
of the identification. -/
theorem identificationCode : Obligations.IdentificationCode := by
  unfold Obligations.IdentificationCode
  refine ⟨fun s => ⟨takeIr 2 s, exec_idcode s, takeIr_ir s 2⟩, by decide, by decide, by decide, by decide,
    get_stepping_of_regs_nil rfl, fun s => ⟨powerOnReset s, exec_powerOnReset s, powerOnReset_stepping s⟩⟩

end Sys2Proof.Machine
end

/-!
The proof of O53 (03 R76 to R82). The scrambler XORs a stream that depends on the tag alone, so running it twice gives the
bits back; the rest is the place of each field in the frame.
-/
section
namespace Sys2Proof.Machine

/-- Bit `i` of the stream that the scrambler's register `st` puts over the low `n` bits of a number (R80). -/
def scramblerBit (i : Nat) : Nat → Nat → Bool
  | 0, _ => false
  | n + 1, st =>
    let b := st.testBit 30 != st.testBit 27
    if i = n then b else scramblerBit i n ((st * 2) % 2 ^ 31 + b2n b)

theorem testBit_double_add_b2n (a i : Nat) (b : Bool) :
    (a * 2 + b2n b).testBit i = if i = 0 then b else a.testBit (i - 1) := by
  cases i with
  | zero => cases b <;> simp [b2n, Nat.testBit_zero, Nat.add_mod]
  | succ i =>
    have hb : b2n b < 2 := by cases b <;> decide
    have h : (a * 2 + b2n b) / 2 = a := by omega
    simp [Nat.testBit_succ, h]

/-- The scrambler XORs its stream over the bits it passes and pushes them out after those already there. -/
theorem testBit_scrambleBits (v n st acc i : Nat) :
    (scrambleBits v n st acc).testBit i =
      if i < n then v.testBit i != scramblerBit i n st else acc.testBit (i - n) := by
  induction n generalizing st acc with
  | zero => simp [scrambleBits]
  | succ n ih =>
    simp only [scrambleBits, ih, scramblerBit]
    rcases lt_trichotomy i n with h | h | h
    · simp [h, h.ne, Nat.lt_succ_of_lt h]
    · subst h
      rw [if_neg (lt_irrefl _), if_pos (Nat.lt_succ_self _), if_pos rfl, Nat.sub_self, testBit_double_add_b2n, if_pos rfl]
    · simp [Nat.not_lt.mpr h.le, Nat.not_lt.mpr h, testBit_double_add_b2n, Nat.sub_ne_zero_of_lt h, Nat.sub_sub]

theorem testBit_scramble (tag v n i : Nat) :
    (scramble tag v n).testBit i =
      (decide (i < n) && (v.testBit i != scramblerBit i n (tag % 256 * 2 ^ 23 + 0x555555))) := by
  rw [scramble, testBit_scrambleBits]
  split <;> simp [*]

theorem scramble_lt (tag v n : Nat) : scramble tag v n < 2 ^ n :=
  Nat.lt_pow_two_of_testBit _ fun i hi => by simp [testBit_scramble, Nat.not_lt.mpr hi]

/-- Descrambling undoes scrambling: the same stream is XORed twice (R80). -/
theorem scramble_scramble {tag v n : Nat} (hv : v < 2 ^ n) : scramble tag (scramble tag v n) n = v := by
  refine Nat.eq_of_testBit_eq fun i => ?_
  rw [testBit_scramble, testBit_scramble]
  by_cases hi : i < n
  · simp [hi]
  · have hout : v.testBit i = false :=
      Nat.testBit_lt_two_pow (hv.trans_le (Nat.pow_le_pow_right (by decide) (Nat.not_lt.mp hi)))
    simp [hi, hout]

theorem crc32cBits_lt (v n reg : Nat) (h : reg < 2 ^ 32) : crc32cBits v n reg < 2 ^ 32 := by
  induction n generalizing reg with
  | zero => exact h
  | succ n ih =>
    have hsh : reg * 2 % 2 ^ 32 < 2 ^ 32 := Nat.mod_lt _ (by decide)
    refine ih _ ?_
    split
    · exact Nat.xor_lt_two_pow hsh (by decide)
    · exact hsh

theorem crc32c_lt (v n : Nat) : crc32c v n < 2 ^ 32 :=
  Nat.xor_lt_two_pow (by decide) (crc32cBits_lt v n _ (by decide))

theorem syncWord_lt (tag : Nat) : syncWord tag < 2 ^ 16 := by
  unfold syncWord
  split <;> decide

section
variable {m sync tag typ payload crc : Nat}

/-- The bits under the scrambler, taken apart: type, payload and CRC (R76). -/
theorem frame_plain_fields (hm : 64 ≤ m) (htyp : typ < 256) (hpay : payload < 2 ^ (m - 64)) (hcrc : crc < 2 ^ 32) :
    let plain := (typ * 2 ^ (m - 64) + payload) * 2 ^ 32 + crc
    plain < 2 ^ (m - 24) ∧ plain / 2 ^ (m - 32) % 256 = typ ∧ plain / 2 ^ 32 % 2 ^ (m - 64) = payload ∧ plain % 2 ^ 32 = crc := by
  intro plain
  have hlen : 2 ^ (m - 32) = 2 ^ 32 * 2 ^ (m - 64) := by rw [← Nat.pow_add]; congr 1; omega
  have hlen' : 2 ^ (m - 24) = 2 ^ 32 * 2 ^ (m - 64) * 256 := by
    rw [← hlen, show 256 = 2 ^ 8 from rfl, ← Nat.pow_add]; congr 1; omega
  have hbody : plain / 2 ^ 32 = typ * 2 ^ (m - 64) + payload := by
    simp only [plain]; omega
  have htop : plain / 2 ^ (m - 32) = typ := by
    rw [hlen, ← Nat.div_div_eq_div_mul, hbody, Nat.add_comm, Nat.add_mul_div_right _ _ (Nat.two_pow_pos _),
      Nat.div_eq_of_lt hpay, Nat.zero_add]
  refine ⟨?_, ?_, ?_, ?_⟩
  · rw [hlen', ← hlen, Nat.mul_comm]
    exact (Nat.div_lt_iff_lt_mul (Nat.two_pow_pos _)).mp (by rw [htop]; exact htyp)
  · rw [htop, Nat.mod_eq_of_lt htyp]
  · rw [hbody, Nat.add_comm, Nat.add_mul_mod_self_right, Nat.mod_eq_of_lt hpay]
  · simp only [plain]; omega

/-- A frame of `m` bits, taken apart at its scrambled part (R76). -/
theorem frame_head_fields {x : Nat} (hm : 24 ≤ m) (hsync : sync < 2 ^ 16) (htag : tag < 256) (hx : x < 2 ^ (m - 24)) :
    let f := (sync * 256 + tag) * 2 ^ (m - 24) + x
    f / 2 ^ (m - 16) % 2 ^ 16 = sync ∧ f / 2 ^ (m - 24) % 256 = tag ∧ f % 2 ^ (m - 24) = x := by
  intro f
  have hlen : 2 ^ (m - 16) = 2 ^ (m - 24) * 256 := by
    rw [show 256 = 2 ^ 8 from rfl, ← Nat.pow_add]; congr 1; omega
  have hhead : f / 2 ^ (m - 24) = sync * 256 + tag := by
    simp only [f]
    rw [Nat.add_comm, Nat.add_mul_div_right _ _ (Nat.two_pow_pos _), Nat.div_eq_of_lt hx, Nat.zero_add]
  refine ⟨?_, ?_, ?_⟩
  · rw [hlen, ← Nat.div_div_eq_div_mul, hhead]; omega
  · rw [hhead]; omega
  · simp only [f]
    rw [Nat.add_comm, Nat.add_mul_mod_self_right, Nat.mod_eq_of_lt hx]

end

/-- Settles O53: the frame's fields are apart by `frame_head_fields` and `frame_plain_fields`, and the scrambled part comes
back by `scramble_scramble`. -/
theorem framesReadAsSent : Obligations.FramesReadAsSent := by
  unfold Obligations.FramesReadAsSent
  intro m tag typ payload hm htag htyp hpay
  have hcrc := crc32c_lt (frameBody m tag typ payload) (m - 48)
  obtain ⟨hplain, hptyp, hppay, hpcrc⟩ := frame_plain_fields hm htyp hpay hcrc
  obtain ⟨hsync, hftag, hrest⟩ := frame_head_fields (by omega : 24 ≤ m) (syncWord_lt tag) htag
    (scramble_lt tag ((typ * 2 ^ (m - 64) + payload) * 2 ^ 32 + crc32c (frameBody m tag typ payload) (m - 48)) (m - 24))
  simp only [txFrame, buildFrame, Nat.mod_eq_of_lt htag, Nat.mod_eq_of_lt htyp, Nat.mod_eq_of_lt hpay, Nat.mod_eq_of_lt hcrc,
    parseFrame, hsync, hftag, hrest, scramble_scramble hplain, hptyp, hppay, hpcrc, beq_self_eq_true]

end Sys2Proof.Machine
end

/-!
The proof of O54 (10 R320 to R332). A line carries what it was sealed under: its text and its tag are those of its own minor
counter, and a read under the same key and major counter computes both again. What a write does besides (the other lines of the
page, the page's entry, counts) leaves the stored line, the keys and the failed table lines as they were.
-/
section
namespace Sys2Proof.Machine
open Crypto

/-! ### The length of AES-256's result -/

@[simp] theorem beBytes_length (v n : Nat) : (beBytes v n).length = n := by
  induction n with
  | zero => rfl
  | succ n ih => simp [beBytes, ih]

@[simp] theorem xorBytes_length (a b : List Nat) : (xorBytes a b).length = min a.length b.length := List.length_zipWith

theorem pieces_mem_length {k n : Nat} {l p : List Nat} (hl : k * n ≤ l.length) (hp : p ∈ pieces k n l) : p.length = k := by
  induction n generalizing l with
  | zero => simp [pieces] at hp
  | succ n ih =>
    have hk : k * (n + 1) = k * n + k := Nat.mul_succ k n
    rcases List.mem_cons.mp hp with rfl | hp
    · simp; omega
    · exact ih (by simp; omega) hp

theorem pieces_length (k n : Nat) (l : List Nat) : (pieces k n l).length = n := by
  induction n generalizing l with
  | zero => rfl
  | succ n ih => simp [pieces, ih]

/-- The key schedule goes on from words of four bytes with words of four bytes. -/
theorem keyWords_mem_length {n : Nat} (i : Nat) {ws : List (List Nat)} (h8 : 8 ≤ ws.length) (h : ∀ w ∈ ws, w.length = 4) :
    (keyWords i ws n).length = ws.length + n ∧ ∀ w ∈ keyWords i ws n, w.length = 4 := by
  induction n generalizing i ws with
  | zero => exact ⟨rfl, h⟩
  | succ n ih =>
    obtain ⟨w, ws, rfl⟩ : ∃ w ws', ws = w :: ws' := List.exists_cons_of_length_pos (by omega)
    have hw : w.length = 4 := h w (List.mem_cons_self ..)
    have h7 : ((w :: ws).getD 7 []).length = 4 := by
      rw [List.getD_eq_getElem _ _ (by omega)]
      exact h _ (List.getElem_mem _)
    have hnew : ∀ t : List Nat, t.length = 4 →
        (keyWords (i + 1) (xorBytes t ((w :: ws).getD 7 []) :: w :: ws) n).length = (w :: ws).length + (n + 1) ∧
          ∀ u ∈ keyWords (i + 1) (xorBytes t ((w :: ws).getD 7 []) :: w :: ws) n, u.length = 4 := by
      intro t ht
      have hx : ∀ u ∈ xorBytes t ((w :: ws).getD 7 []) :: w :: ws, u.length = 4 := by
        intro u hu
        rcases List.mem_cons.mp hu with rfl | hu
        · rw [xorBytes_length, ht, h7]; rfl
        · exact h u hu
      obtain ⟨hlen, hall⟩ := ih (i + 1) (ws := _ :: w :: ws) (Nat.le_succ_of_le h8) hx
      refine ⟨?_, hall⟩
      rw [hlen, List.length_cons]
      omega
    simp only [keyWords, List.headD_cons]
    split
    · exact hnew _ (by simp [hw])
    · split
      · exact hnew _ (by rw [List.length_map, hw])
      · exact hnew _ hw

/-- Every round key of a 32-byte key has 16 bytes. -/
theorem roundKeys_mem_length {key k : List Nat} (hkey : key.length = 32) (hk : k ∈ roundKeys key) : k.length = 16 := by
  have h8 : ∀ w ∈ (pieces 4 8 key).reverse, w.length = 4 := fun w hw =>
    pieces_mem_length (by omega) (List.mem_reverse.mp hw)
  obtain ⟨hlen, hall⟩ := keyWords_mem_length (n := 52) 8 (by simp [pieces_length]) h8
  rw [List.length_reverse, pieces_length] at hlen
  simp only [roundKeys, List.mem_map, List.mem_range] at hk
  obtain ⟨r, hr, rfl⟩ := hk
  have hfour : (((keyWords 8 (pieces 4 8 key).reverse 52).reverse.drop (4 * r)).take 4).length = 4 := by
    simp [hlen]; omega
  rw [List.length_flatten, List.eq_replicate_of_mem (l := List.map _ _) (a := 4), List.sum_replicate, List.length_map, hfour]
  · rfl
  · intro n hn
    obtain ⟨w, hw, rfl⟩ := List.mem_map.mp hn
    exact hall w (List.mem_reverse.mp (List.mem_of_mem_drop (List.mem_of_mem_take hw)))

theorem encRounds_length {ks : List (List Nat)} (h : ∀ k ∈ ks, k.length = 16) {b : List Nat} (hb : b.length = 16) :
    (encRounds ks b).length = 16 := by
  induction ks generalizing b with
  | nil => exact hb
  | cons k ks ih =>
    have hk : k.length = 16 := h k (List.mem_cons_self ..)
    cases ks with
    | nil => simp [encRounds, shiftRows, hk]
    | cons k' ks =>
      rw [encRounds]
      · exact ih (fun u hu => h u (.tail _ hu)) (by simp [mixWith, hk])
      · simp

theorem aes_length {key b : List Nat} (hkey : key.length = 32) (hb : b.length = 16) : (aes key b).length = 16 := by
  have hks := fun k => roundKeys_mem_length (k := k) hkey
  unfold aes
  split
  · next k ks hr =>
    rw [hr] at hks
    exact encRounds_length (fun u hu => hks u (.tail _ hu)) (by simp [hb, hks k (List.mem_cons_self ..)])
  · exact hb

/-! ### A line sealed (R320 to R323) -/

theorem keystream_length {key : List Nat} (major minor la : Nat) (hkey : key.length = 32) :
    (keystream key major minor la).length = 64 := by
  have h16 : ∀ i, (aes key (xcrBlock 1 major minor la i)).length = 16 := fun i => aes_length hkey (beBytes_length _ _)
  simp [keystream, h16]

theorem zipWith_xor_xor (d : List Byte) (k : List Nat) (h : d.length ≤ k.length) :
    List.zipWith (fun d k => d ^^^ BitVec.ofNat 8 k) (List.zipWith (fun d k => d ^^^ BitVec.ofNat 8 k) d k) k = d := by
  induction d generalizing k with
  | nil => rfl
  | cons x d ih =>
    obtain ⟨y, k, rfl⟩ : ∃ y k', k = y :: k' := List.exists_cons_of_length_pos (by simp at h; omega)
    simp only [List.zipWith_cons_cons, ih k (by simpa using h), BitVec.xor_assoc, BitVec.xor_self, BitVec.xor_zero]

/-- Decryption undoes encryption: both XOR the keystream (R322). -/
theorem lineText_lineText {key : List Nat} {data : List Byte} (major minor la : Nat) (hkey : key.length = 32) (hdata : data.length = 64) :
    lineText key major minor la (lineText key major minor la data) = data :=
  zipWith_xor_xor _ _ (by rw [hdata, keystream_length major minor la hkey])

/-- A line holds `data` under a key and a major counter: its text and tag are those of its own minor counter, which is not 0. -/
structure Line.Seals (l : Line) (key : List Nat) (major la : Nat) (data : List Byte) : Prop where
  ct : l.ct = lineText key major l.minor la data
  tag : l.tag = lineTag key major l.minor la l.ct
  minor : 0 < l.minor

theorem sealFrom_seals (key : List Nat) (major la : Nat) (data : List Byte) (n : Nat) {minor : Nat} (h : 0 < minor) :
    (sealFrom key major la data n minor).Seals key major la data := by
  induction n generalizing minor with
  | zero => exact ⟨rfl, rfl, h⟩
  | succ n ih =>
    unfold sealFrom
    dsimp only
    split
    · exact ih (Nat.succ_pos _)
    · exact ⟨rfl, rfl, h⟩

theorem sealLine_seals (key : List Nat) (major la : Nat) (data : List Byte) {minor : Nat} (h : 0 < minor) :
    (sealLine key major minor la data false).Seals key major la data :=
  sealFrom_seals key major la data 255 h

/-! ### Lines stored, and what leaves them alone -/

/-- What a line and the checks of its read rest on besides counts: the lines of both stores, and what an unwritten line reads. -/
def State.lineSide (s : State) : Tab Line × Tab Line × Tab NearSt × Bool × Nat :=
  (s.cave, s.near, s.nears, s.mirrored, s.get F.xcrKeyValidVal)

section
variable {s t : State}

theorem nearBlank_congr (hnears : t.nears = s.nears) (hmir : t.mirrored = s.mirrored) (la : Nat) : t.nearBlank la = s.nearBlank la := by
  unfold State.nearBlank State.nearCh
  rw [hnears, hmir]

theorem lineAt_of_lineSide (h : t.lineSide = s.lineSide) (la : Nat) : t.lineAt la = s.lineAt la := by
  simp only [State.lineSide, Prod.mk.injEq] at h
  obtain ⟨hcave, hnear, hnears, hmir, -⟩ := h
  simp only [State.lineAt, hcave, hnear, nearBlank_congr hnears hmir]

theorem keyValid_of_lineSide (h : t.lineSide = s.lineSide) (k : Nat) : t.keyValid k = s.keyValid k := by
  simp only [State.lineSide, Prod.mk.injEq] at h
  obtain ⟨-, -, -, -, hvalid⟩ := h
  simp only [State.keyValid, hvalid]

end

section
variable (s : State)

/-- Writes to registers other than NEAR_CTRL and XCR_KEY_VALID leave lines and keys alone. -/
theorem put_lineSide (f : Fld) (v i j : Nat) (h : f.reg ≠ .nearCtrl ∧ f.reg ≠ .xcrKeyValid) :
    (s.put f v i j).lineSide = s.lineSide := by
  simp only [State.lineSide, State.mirrored, State.bit, get_put_other_reg s f F.nearCtrlMirror v i j 0 0 h.1.symm,
    get_put_other_reg s f F.xcrKeyValidVal v i j 0 0 h.2.symm, put_cave, put_near, put_nears]

theorem setWord_lineSide (r : RegName) (v : Word) (i j : Nat) (h : r ≠ .nearCtrl ∧ r ≠ .xcrKeyValid) :
    (s.setWord r v i j).lineSide = s.lineSide := by
  simp only [State.lineSide, State.mirrored, State.bit, State.get,
    word_setWord_other s r F.nearCtrlMirror.reg v i j 0 0 h.1.symm, word_setWord_other s r F.xcrKeyValidVal.reg v i j 0 0 h.2.symm,
    setWord_cave, setWord_near, setWord_nears]

@[simp] theorem cacheNote_lineSide (e : Nat) (f : EngFetch) : (cacheNote e f s).lineSide = s.lineSide := by
  have hmiss (t : State) (fld : Fld) (h : fld.reg = .xcrEngCache) : (t.bump fld e).lineSide = t.lineSide :=
    put_lineSide t fld _ e 0 (by rw [h]; decide)
  unfold cacheNote
  dsimp only
  split <;> split <;> simp only [hmiss _ F.xcrEngCacheCtr rfl, hmiss _ F.xcrEngCacheMeta rfl]

@[simp] theorem cacheNote_xcr (e : Nat) (f : EngFetch) : (cacheNote e f s).xcr = s.xcr := by
  unfold cacheNote
  dsimp only
  split <;> split <;> simp

theorem tableBad_cacheNote (e : Nat) (f : EngFetch) (k : Nat) : (cacheNote e f s).tableBad k = s.tableBad k := by
  rw [State.tableBad, cacheNote_xcr, State.tableBad]

@[simp] theorem hwmNote_lineSide (major : Nat) : (hwmNote major s).lineSide = s.lineSide := by
  unfold hwmNote
  split
  · rw [State.setPair, setWord_lineSide _ _ _ _ _ (by decide), setWord_lineSide _ _ _ _ _ (by decide)]
  · rfl

@[simp] theorem hwmNote_xcr (major : Nat) : (hwmNote major s).xcr = s.xcr := by
  unfold hwmNote
  split <;> simp

@[simp] theorem reencBump_lineSide (e : Nat) : (s.bump F.xcrEngReencVal e).lineSide = s.lineSide :=
  put_lineSide s F.xcrEngReencVal _ e 0 (by decide)

@[simp] theorem setPage_lineSide (k : Nat) (e : PageEnt) : (s.setPage k e).lineSide = s.lineSide := rfl

@[simp] theorem setPage_keys (k : Nat) (e : PageEnt) : (s.setPage k e).xcr.keys = s.xcr.keys := by
  unfold State.setPage
  dsimp only
  split
  · rfl
  · split <;> rfl

@[simp] theorem setPage_tfail (k : Nat) (e : PageEnt) : (s.setPage k e).xcr.tfail = s.xcr.tfail := by
  unfold State.setPage
  dsimp only
  split
  · rfl
  · split <;> rfl

theorem setPage_pages (k : Nat) (e : PageEnt) : (s.setPage k e).xcr.pages = Tab.put {} s.xcr.pages k e := by
  unfold State.setPage
  dsimp only
  split
  · rfl
  · split <;> rfl

@[simp] theorem setLine_xcr (la : Nat) (l : Line) : (s.setLine la l).xcr = s.xcr := by
  unfold State.setLine
  split <;> rfl

@[simp] theorem setLine_regs (la : Nat) (l : Line) : (s.setLine la l).regs = s.regs := by
  unfold State.setLine
  split <;> rfl

@[simp] theorem setLine_nears (la : Nat) (l : Line) : (s.setLine la l).nears = s.nears := by
  unfold State.setLine
  split <;> rfl

/-- A line stored reads back. -/
theorem lineAt_setLine_same (la : Nat) (l : Line) : (s.setLine la l).lineAt la = l := by
  have hmir : (s.setLine la l).mirrored = s.mirrored := by
    simp only [State.mirrored, State.bit, State.get, State.word, setLine_regs]
  have hblank : (s.setLine la l).nearBlank la = s.nearBlank la := nearBlank_congr (setLine_nears s la l) hmir la
  unfold State.lineAt
  rw [hblank]
  unfold State.setLine
  split
  · exact tab_get_put_same ..
  · exact tab_get_put_same ..

theorem keyValid_setLine (la : Nat) (l : Line) (k : Nat) : (s.setLine la l).keyValid k = s.keyValid k := by
  simp only [State.keyValid, State.get, State.word, setLine_regs]

/-- The major counter of a page. -/
theorem page_major (k : Nat) : (s.page k).major = (Tab.get {} s.xcr.pages k).major := by
  unfold State.page
  dsimp only
  split <;> rfl

end

/-! ### A line stored under a page's key, and its read (R326 to R331) -/

/-- The line of `addr` is stored in `t` as its key in `s` seals it, and what its read checks is as in `s`. -/
structure Stored (addr : Nat) (data : List Byte) (s t : State) : Prop where
  seals : (t.lineAt (offsetOf addr / 64)).Seals (s.keyBytes (keyId addr)) (t.page (pageKey (offsetOf addr))).major
    (offsetOf addr / 64) data
  keys : t.xcr.keys = s.xcr.keys
  tfail : t.xcr.tfail = s.xcr.tfail
  valid : ∀ k, t.keyValid k = s.keyValid k

section
variable {s t : State} {addr : Nat} {data : List Byte}

/-- A sealed line put in place, in a state that differs from the first in lines alone, is stored under the page's major counter. -/
theorem stored_of_setLine {l : Line} (hxcr : t.xcr = s.xcr) (hregs : t.regs = s.regs)
    (hl : l.Seals (s.keyBytes (keyId addr)) (s.page (pageKey (offsetOf addr))).major (offsetOf addr / 64) data) :
    Stored addr data s (t.setLine (offsetOf addr / 64) l) where
  seals := by
    rw [lineAt_setLine_same, page_major, setLine_xcr, hxcr, ← page_major]
    exact hl
  keys := by rw [setLine_xcr, hxcr]
  tfail := by rw [setLine_xcr, hxcr]
  valid k := by rw [keyValid_setLine, State.keyValid, State.keyValid, State.get, State.get, State.word, State.word, hregs]

/-- The same with counts and the page's entry written after it; the entry's major counter is the one sealed under. -/
theorem stored_of_setPage {l : Line} {u : State} {e : PageEnt} (hregs : t.regs = s.regs)
    (hside : u.lineSide = (t.setLine (offsetOf addr / 64) l).lineSide) (hxcr : u.xcr = s.xcr)
    (hl : l.Seals (s.keyBytes (keyId addr)) e.major (offsetOf addr / 64) data) :
    Stored addr data s (u.setPage (pageKey (offsetOf addr)) e) where
  seals := by
    rw [lineAt_of_lineSide ((setPage_lineSide ..).trans hside), lineAt_setLine_same, page_major, setPage_pages, tab_get_put_same]
    exact hl
  keys := by rw [setPage_keys, hxcr]
  tfail := by rw [setPage_tfail, hxcr]
  valid k := by
    rw [keyValid_of_lineSide ((setPage_lineSide ..).trans hside), keyValid_setLine, State.keyValid, State.keyValid, State.get,
      State.get, State.word, State.word, hregs]

/-- Lines stored one after another change no registers and no page. -/
theorem foldl_setLine_frame {f : State → Nat → State} (h : ∀ t i, f t i = t ∨ ∃ la l, f t i = t.setLine la l) (is : List Nat)
    (s : State) : (is.foldl f s).xcr = s.xcr ∧ (is.foldl f s).regs = s.regs := by
  have hstep : ∀ t i, (f t i).xcr = t.xcr ∧ (f t i).regs = t.regs := fun t i => by
    rcases h t i with h | ⟨la, l, h⟩ <;> simp [h]
  exact ⟨foldl_keep f State.xcr (fun t i => (hstep t i).1) is s, foldl_keep f State.regs (fun t i => (hstep t i).2) is s⟩

/-- A write that is accepted stores its line, in each of its three ways. -/
theorem lineStore_stored (e : Nat) (h : (lineStore e addr data false s).1 = .ok) :
    Stored addr data s (lineStore e addr data false s).2 := by
  unfold lineStore at h ⊢
  dsimp only at h ⊢
  by_cases hex : (s.page (pageKey (offsetOf addr))).exhausted = true
  · rw [if_pos hex] at h
    cases h
  rw [if_neg hex] at h ⊢
  by_cases hnew : (s.page (pageKey (offsetOf addr))).touched = false
  · rw [if_pos hnew]
    obtain ⟨hxcr, hregs⟩ := foldl_setLine_frame (fun t i => .inr ⟨_, _, rfl⟩) (List.range 64) s
    refine stored_of_setPage hregs rfl ((setLine_xcr ..).trans hxcr) ?_
    dsimp only
    rw [setLine_xcr, hxcr, ← page_major]
    exact sealLine_seals _ _ _ _ Nat.one_pos
  rw [if_neg hnew] at h ⊢
  by_cases hminor : (sealLine (s.keyBytes (keyId addr)) (s.page (pageKey (offsetOf addr))).major
      ((s.lineAt (offsetOf addr / 64)).minor + 1) (offsetOf addr / 64) data false).minor ≤ 255
  · rw [if_pos hminor]
    exact stored_of_setLine rfl rfl (sealLine_seals _ _ _ _ (Nat.succ_pos _))
  rw [if_neg hminor] at h ⊢
  by_cases hmax : (s.page (pageKey (offsetOf addr))).major = 2 ^ 48 - 1
  · rw [if_pos hmax] at h
    cases h
  rw [if_neg hmax]
  refine stored_of_setPage (l := sealLine _ _ 1 _ data false) ?_ ((reencBump_lineSide ..).trans (hwmNote_lineSide ..)) ?_
    (sealLine_seals _ _ _ _ Nat.one_pos)
  · exact (foldl_setLine_frame (fun t i => by split <;> [exact .inl rfl; exact .inr ⟨_, _, rfl⟩]) (List.range 64) s).2
  · rw [bump_xcr, hwmNote_xcr, setLine_xcr]
    exact (foldl_setLine_frame (fun t i => by split <;> [exact .inl rfl; exact .inr ⟨_, _, rfl⟩]) (List.range 64) s).1

/-- Cache misses counted before a write make no difference to what it stores. -/
theorem Stored.of_cacheNote {e : Nat} {f : EngFetch} (h : Stored addr data (cacheNote e f s) t) : Stored addr data s t where
  seals := by
    have hseals := h.seals
    rw [State.keyBytes, cacheNote_xcr] at hseals
    exact hseals
  keys := h.keys.trans (congrArg XcrState.keys (cacheNote_xcr ..))
  tfail := h.tfail.trans (congrArg XcrState.tfail (cacheNote_xcr ..))
  valid k := (h.valid k).trans (keyValid_of_lineSide (cacheNote_lineSide ..) k)

/-- A sealed line passes the checks of a read under its key, and decrypts to what it was sealed of. -/
theorem readKind_of_seals {l : Line} (hl : l.Seals (s.keyBytes (keyId addr)) (s.page (pageKey (offsetOf addr))).major
    (offsetOf addr / 64) data) (hdata : data.length = 64) (htag : l.tag ≠ poisonTag) :
    readKind s addr l false = .clean ∧ readData s addr l .clean = data := by
  have hminor : l.minor ≠ 0 := hl.minor.ne'
  constructor
  · simp [readKind, hminor, htag, ← hl.tag]
  · simp only [readData, hl.ct]
    exact lineText_lineText _ _ _ (beBytes_length _ _) hdata

/-- The read of a line that is stored, under a key that is valid and a table line that is good. -/
theorem lineReadOp_stored (e : Nat) {f : EngFetch} (hf : f.tableFail = false) (hdata : data.length = 64)
    (hst : Stored addr data s t) (hvalid : s.keyValid (keyId addr) = true) (hbad : s.tableBad (pageKey (offsetOf addr)) = false)
    (htag : (t.lineAt (offsetOf addr / 64)).tag ≠ poisonTag) :
    lineReadOp e addr (t.lineAt (offsetOf addr / 64), .clean) f t = { status := .ok, data := data, state := cacheNote e f t } := by
  have hvalid' : (cacheNote e f t).keyValid (keyId addr) = true := by
    rw [keyValid_of_lineSide (cacheNote_lineSide ..), hst.valid, hvalid]
  have hbad' : (cacheNote e f t).tableBad (pageKey (offsetOf addr)) = false := by
    rw [tableBad_cacheNote, State.tableBad, hst.tfail]
    exact hbad
  have hseals : (t.lineAt (offsetOf addr / 64)).Seals ((cacheNote e f t).keyBytes (keyId addr))
      ((cacheNote e f t).page (pageKey (offsetOf addr))).major (offsetOf addr / 64) data := by
    have h := hst.seals
    rw [page_major] at h
    rw [State.keyBytes, page_major, cacheNote_xcr, hst.keys]
    exact h
  obtain ⟨hkind, hread⟩ := readKind_of_seals hseals hdata htag
  have hunc : (RsFound.clean == RsFound.uncorrectable) = false := rfl
  unfold lineReadOp
  dsimp only
  simp only [hf, hvalid', hbad', hunc, hkind, hread, Bool.true_eq_false, Bool.false_eq_true, if_false]

/-- An accepted write of a full line: its key was valid, its table line good, and the line is stored in what the write leaves. -/
theorem lineWriteOp_full (e : Nat) (seen : Line × RsFound) {f : EngFetch} (hf : f.tableFail = false)
    (h : (lineWriteOp e addr data (List.replicate 64 true) false seen f s).status = .ok) :
    s.keyValid (keyId addr) = true ∧ s.tableBad (pageKey (offsetOf addr)) = false ∧
      Stored addr data s (lineWriteOp e addr data (List.replicate 64 true) false seen f s).state := by
  have hfull : ((List.replicate 64 true).take 64).all (fun b => b) = true ∧ 64 ≤ (List.replicate 64 true).length := by decide
  unfold lineWriteOp at h ⊢
  dsimp only at h ⊢
  simp only [hf, Bool.false_eq_true, if_false] at h ⊢
  by_cases hvalid : (cacheNote e f s).keyValid (keyId addr) = false
  · rw [if_pos hvalid] at h
    cases h
  rw [if_neg hvalid] at h ⊢
  by_cases hbad : (cacheNote e f s).tableBad (pageKey (offsetOf addr)) = true
  · rw [if_pos hbad] at h
    cases h
  rw [if_neg hbad] at h ⊢
  refine ⟨?_, ?_, ?_⟩
  · rw [← keyValid_of_lineSide (cacheNote_lineSide s e f)]
    exact eq_true_of_ne_false hvalid
  · rw [← tableBad_cacheNote]
    exact eq_false_of_ne_true hbad
  split at h
  · cases h
  next hkey =>
  rw [if_neg hkey]
  split at h
  · cases h
  next hex =>
  rw [if_neg hex, if_pos hfull]
  exact (lineStore_stored e h).of_cacheNote

/-- Settles O54: the accepted write stores the line by `lineStore_stored`, and its read finds it by `lineReadOp_stored`. -/
theorem linesReadBackAsWritten : Obligations.LinesReadBackAsWritten := by
  unfold Obligations.LinesReadBackAsWritten
  intro e e' addr data seen f f' s _ hdata hf hf' w l hok htag
  obtain ⟨hvalid, hbad, hst⟩ := lineWriteOp_full e seen hf hok
  have hread := lineReadOp_stored e' hf' hdata hst hvalid hbad htag
  exact ⟨congrArg LineResult.status hread, congrArg LineResult.data hread, congrArg LineResult.poison hread⟩

end
end Sys2Proof.Machine
end


/-!
The statements about the step itself and about register space (O1, O2, O3, O46, O47, O49): a step carries out the front
command or lets a nanosecond pass, and the register bus gives each access its width, its codes and its quiet reads
(00 R6 to R8, 14 R462, 19 R589).
-/
section
namespace Sys2Proof.Machine

/-! ### A step -/

/-- Settles O1: a step takes the front command off the queue. -/
theorem stepRunsFrontCommand : Obligations.StepRunsFrontCommand := by
  unfold Obligations.StepRunsFrontCommand
  intro c s
  rfl

theorem step_of_idle {s : State} (h : s.pending = []) : step s = .next (idle s) := by
  simp [step, h]

/-- Settles O2: the three ways of powered time, and the device at work. -/
theorem idleStepCountsPoweredTime : Obligations.IdleStepCountsPoweredTime := by
  unfold Obligations.IdleStepCountsPoweredTime
  refine ⟨fun s hp hheld hruns => ⟨fun hclk => ?_, fun hclk h39 => ?_, fun hclk h39 => ?_⟩, fun s hp hheld hruns => ?_,
    fun s hp hup => ?_⟩ <;> rw [step_of_idle hp]
  · simp [idle, ptTick, hheld, hruns, hclk]
  · simp [idle, ptTick, hheld, hruns, hclk, h39]
  · simp [idle, ptTick, hheld, hruns, hclk, h39]
  · simp [idle, ptTick, hheld, hruns]
  · simp [idle, hup]

/-! ### Register space by command -/

theorem exec_regWrite (a n : Nat) (v : Word) (s : State) : exec (.regWrite a n v) s = execRegWrite a n v s := rfl

theorem exec_rcRead (a n : Nat) (q : Bool) (s : State) : exec (.rcRead a n q) s = execRcRead a n q s := rfl

theorem exec_registerPortAccess (a n : Nat) (w : Option Word) (s : State) :
    exec (.registerPortAccess a n w) s = execRegisterPortAccess a n w s := rfl

/-- A write of another length than 4 bytes is refused (00 R6). -/
theorem exec_regWrite_length {s : State} (hup : s.clk.held = false) (a : Nat) {n : Nat} (v : Word) (hn : n ≠ 4) :
    exec (.regWrite a n v) s = .next (s.answer .denied) := by
  simp [exec_regWrite, execRegWrite, hup, hn, reply]

/-- A read of another length than 4 bytes is refused (00 R6). -/
theorem exec_rcRead_length {s : State} (hup : s.clk.held = false) (a : Nat) {n : Nat} (q : Bool) (hn : n ≠ 4) :
    exec (.rcRead a n q) s = .next (s.answer .denied) := by
  simp [exec_rcRead, execRcRead, hup, hn, reply]

theorem exec_rcRead_word {s : State} (hup : s.clk.held = false) (a : Nat) (q : Bool) :
    exec (.rcRead a 4 q) s = readReply (regRead a q s) := by
  simp [exec_rcRead, execRcRead, hup]

/-! ### The access codes (00 R7) -/

/-- The four kinds of written bits of a register share none. -/
def RegInfo.apart (n : RegInfo) : Bool :=
  n.rw &&& n.rwl == 0 && n.rw &&& n.w1s == 0 && n.rw &&& n.w1c == 0 && n.rwl &&& n.w1s == 0 && n.rwl &&& n.w1c == 0
    && n.w1s &&& n.w1c == 0

theorem regInfo_apart (r : RegName) : r.info.apart = true := by
  cases r <;> decide +kernel

theorem testBit_apart {a b : Nat} (h : (a &&& b == 0) = true) (k : Nat) (ha : a.testBit k = true) : b.testBit k = false := by
  have hk : (a &&& b).testBit k = false := by simp [eq_of_beq h]
  simpa [ha] using hk

/-- One bit of a coded word. -/
theorem codedWord_getLsbD (n : RegInfo) (locked : Bool) (old v : Word) {k : Nat} (hk : k < 32) :
    (codedWord n locked old v).getLsbD k
      = (((old.getLsbD k && !(n.rw.testBit k || (!locked && n.rwl.testBit k))
          || v.getLsbD k && (n.rw.testBit k || (!locked && n.rwl.testBit k)))
          || v.getLsbD k && n.w1s.testBit k) && !(v.getLsbD k && n.w1c.testBit k)) := by
  have hbit (m : Nat) : (BitVec.ofNat 32 m).getLsbD k = m.testBit k := by
    rw [BitVec.getLsbD_ofNat]
    simp [hk]
  cases locked <;>
    simp only [codedWord, BitVec.getLsbD_and, BitVec.getLsbD_or, BitVec.getLsbD_not, hbit, hk, Nat.testBit_or, Nat.zero_testBit,
      Bool.or_false, decide_true, Bool.true_and, Bool.not_true, Bool.not_false, Bool.false_and, if_true, if_false,
      Bool.false_eq_true]

/-- Settles O46: bit by bit, the four kinds being apart in every register. -/
theorem registerFieldAccessCodes : Obligations.RegisterFieldAccessCodes := by
  unfold Obligations.RegisterFieldAccessCodes
  intro r locked old v k hk
  have hapart := regInfo_apart r
  simp only [RegInfo.apart, Bool.and_eq_true] at hapart
  obtain ⟨⟨⟨⟨⟨rw_rwl, rw_w1s⟩, rw_w1c⟩, rwl_w1s⟩, rwl_w1c⟩, w1s_w1c⟩ := hapart
  have e1 := testBit_apart rw_rwl k
  have e2 := testBit_apart rw_w1s k
  have e3 := testBit_apart rw_w1c k
  have e4 := testBit_apart rwl_w1s k
  have e5 := testBit_apart rwl_w1c k
  have e6 := testBit_apart w1s_w1c k
  simp only [codedWord_getLsbD _ _ _ _ hk]
  generalize r.info.rw.testBit k = rw at *
  generalize r.info.rwl.testBit k = rwl at *
  generalize r.info.w1s.testBit k = w1s at *
  generalize r.info.w1c.testBit k = w1c at *
  revert rw rwl w1s w1c
  generalize old.getLsbD k = o
  generalize v.getLsbD k = x
  revert locked o x
  decide

/-! ### Two registers found by their addresses -/

/-- The register that bears an aligned address outside the windows takes a write by its own rule. -/
theorem regWrite_of_regIn {a i j : Nat} {b : Block} {r : RegName} (halign : a % 4 = 0) (hwin : isWindow a = false)
    (hb : blockAt a = some b) (hdbg : b ≠ .dbg) (hrt : ¬ (0x210000 ≤ a ∧ a < 0x230000)) (hr : regIn b.regs a = some (r, i, j))
    (v : Word) (s : State) : regWrite a v s = writeReg r i j v s := by
  cases b <;> simp_all [regWrite]

/-- The register that bears an aligned address outside the windows shows its view. -/
theorem regRead_of_regIn {a i j : Nat} {b : Block} {r : RegName} (halign : a % 4 = 0) (hwin : isWindow a = false)
    (hb : blockAt a = some b) (hdbg : b ≠ .dbg) (hrt : ¬ (0x210000 ≤ a ∧ a < 0x230000)) (hrt' : ¬ (0x240000 ≤ a ∧ a < 0x260000))
    (hr : regIn b.regs a = some (r, i, j)) (q : Bool) (s : State) :
    regRead a q s = (.ok, regView r i j s, if q then s else clearRc r i j s) := by
  simp [regRead, readBlock, halign, hwin, hb, hdbg, hrt, hrt', hr]

theorem codedWord_ethRate (locked : Bool) (old v : Word) : codedWord RegName.ethRate.info locked old v = v := by
  refine BitVec.eq_of_getLsbD_eq fun k hk => (registerFieldAccessCodes .ethRate locked old v k hk).1 ?_
  have hall : RegName.ethRate.info.rw = 2 ^ 32 - 1 := by decide
  rw [hall, Nat.testBit_two_pow_sub_one]
  exact decide_eq_true hk

theorem regWrite_ethRate (v : Word) (s : State) : regWrite 0xD00030 v s = (s.setWord .ethRate v, .ok) := by
  rw [regWrite_of_regIn (b := .eth) (r := .ethRate) (i := 0) (j := 0) (by decide) (by decide) (by decide) (by decide) (by decide)
    (by decide +kernel)]
  simp [writeReg, codedWrite, codedWord_ethRate]

theorem regRead_ethRate (q : Bool) (s : State) : regRead 0xD00030 q s = (.ok, (s.word .ethRate).toNat, s) := by
  rw [regRead_of_regIn (b := .eth) (r := .ethRate) (i := 0) (j := 0) (by decide) (by decide) (by decide) (by decide) (by decide)
    (by decide) (by decide +kernel)]
  have hrc : RegName.ethRate.info.rc = 0 := by decide
  simp [regView, clearRc, hrc]

theorem regRead_laneBadcnt (q : Bool) (s : State) :
    regRead 0x30010C q s = (.ok, (s.word .laneBadcnt).toNat, if q then s else s.setWord .laneBadcnt 0) := by
  rw [regRead_of_regIn (b := .lane) (r := .laneBadcnt) (i := 0) (j := 0) (by decide) (by decide) (by decide) (by decide) (by decide)
    (by decide) (by decide +kernel)]
  have hrc : RegName.laneBadcnt.info.rc = 2 ^ 32 - 1 := by decide
  simp [regView, clearRc, hrc]

/-- Settles O3: width first, then the register found by its address, and what its access code does. -/
theorem registerPortAccesses : Obligations.RegisterPortAccesses := by
  unfold Obligations.RegisterPortAccesses
  refine ⟨fun a n v s hup hn => exec_regWrite_length hup a v hn, fun a n q s hup hn => exec_rcRead_length hup a q hn,
    fun v s hup => ?_, fun q s hup => ?_, fun s hup => ⟨?_, ?_⟩, fun v s hup hclk => ⟨?_, ?_⟩⟩
  · rw [exec_regWrite_word hup, regWrite_ethRate, reply]
  · rw [exec_rcRead_word hup, regRead_ethRate, readReply]
  · rw [exec_rcRead_word hup, regRead_laneBadcnt, readReply, if_pos rfl]
  · rw [exec_rcRead_word hup, regRead_laneBadcnt, readReply, if_neg Bool.false_ne_true]
  · simp [exec_registerPortAccess, execRegisterPortAccess, whenClocked, hup, hclk, regWrite_ethRate, reply]
  · simp [exec_registerPortAccess, execRegisterPortAccess, whenClocked, hup, hclk, regRead_ethRate, readReply]

/-! ### Quiet reads -/

theorem readBlock_quiet (b : Block) (addr : Nat) (s : State) : (readBlock b addr true s).2 = s := by
  unfold readBlock
  split
  · rfl
  · split
    · rfl
    · split <;> rfl

/-- A quiet read changes nothing, whatever the address names (19 R589). -/
theorem regRead_quiet (addr : Nat) (s : State) : (regRead addr true s).2.2 = s := by
  unfold regRead
  split
  · rfl
  · split
    · rfl
    · split
      · rfl
      · exact readBlock_quiet _ addr s

/-- Settles O47. -/
theorem quietReadsChangeNothing : Obligations.QuietReadsChangeNothing := by
  unfold Obligations.QuietReadsChangeNothing
  intro a s hup
  refine ⟨?_, fun n q v hn => ⟨exec_rcRead_length hup a q hn, exec_regWrite_length hup a v hn⟩⟩
  rw [exec_rcRead_word hup, readReply, regRead_quiet]

/-! ### Memory that is not there -/

/-- Above on-chip space and outside near store and cave an access reaches nothing. -/
theorem memServe_nowhere {a : Nat} (hchip : ¬ offsetOf a < 2 ^ 32) (hnear : ¬ (nearStart ≤ offsetOf a ∧ offsetOf a < nearEnd))
    (hcave : ¬ (caveStart ≤ offsetOf a ∧ offsetOf a < caveStart + 2 ^ 41)) (q : Requester) (acc : MemAcc) (s : State) :
    memServe q a acc s = { status := .decode, state := s } := by
  simp only [memServe, if_neg hchip, if_neg hnear, if_neg hcave]

/-- Settles O48: the map's gaps, the foreign key and the group that is not on, each by the branch it falls into. -/
theorem refusedMemoryAccesses : Obligations.RefusedMemoryAccesses := by
  unfold Obligations.RefusedMemoryAccesses
  intro q a acc s
  have hns : nearStart = 0x1000000000 := rfl
  have hne : nearEnd = 0x5000000000 := rfl
  have hcs : caveStart = 0x20000000000 := rfl
  refine ⟨fun hlow hkey => ?_, fun hlow hhigh => ?_, fun hlow hhigh => ?_, fun hlow => ?_, fun hkey hlow hhigh hoff => ?_⟩
  · simp only [memServe, if_pos hlow, if_pos hkey]
  · exact memServe_nowhere (by omega) (by omega) (by omega) q acc s
  · exact memServe_nowhere (by omega) (by omega) (by omega) q acc s
  · exact memServe_nowhere (by omega) (by omega) (by omega) q acc s
  · have hchip : offsetOf a < 2 ^ 32 := by omega
    have hscratch : ¬ (0x10000000 ≤ offsetOf a ∧ offsetOf a < 0x14000000) := by omega
    simp only [memServe, if_pos hchip, if_neg (not_not_intro hkey), if_neg hscratch, if_pos (And.intro hlow hhigh), if_pos hoff]

/-! ### At reset -/

/-- Settles O49: each value is the reset value its register's table entry gives, for every register of an array. -/
theorem resetRegisterValues : Obligations.ResetRegisterValues := by
  unfold Obligations.ResetRegisterValues
  refine ⟨by decide, by decide, by decide, by decide, by decide, by decide, by decide, by decide, by decide, by decide, by decide,
    by decide, by decide, by decide, by decide, fun a => rfl, rfl, rfl⟩

end Sys2Proof.Machine
end


/-!
The events of machine time wherever they are due (O8): what survives the writes before each guard, and what each event
answers then.
-/
section
namespace Sys2Proof.Machine

/-! ### Fields that survive writes elsewhere -/

section
variable (s : State) (f g : Fld) (i j i' j' : Nat)

@[simp] theorem get_with_mt (m : MtState) : ({ s with mt := m } : State).get f i j = s.get f i j := rfl

end

/-! ### The events of chapter 02 (O8) -/

/-- Settles O8: each event's guards hold, and it answers what it does then. -/
theorem timeEventsLeadOn : Obligations.TimeEventsLeadOn := by
  unfold Obligations.TimeEventsLeadOn
  refine ⟨fun measured s hsrc hoff hst => ?_, fun s hpull hsrc hst => ?_, fun s hst hlock hcross hlate => ?_,
    fun s hst hret hcross => ?_, fun begun s hsrc => ?_, fun measured s hsrc hoff => ?_, fun s hsrc => ⟨?_, ?_⟩, fun s hdue => ?_,
    fun n s harm hreach => ?_⟩
  · change execClockQualified measured s = _
    have hst' : (((s.put F.mtimeMeasPeriodVal measured).flag F.mtimeStatusSrcPresent).checkFreq).mtSt = .free := by
      rw [← hst]
      simp (disch := decide) only [State.mtSt, State.checkFreq, State.putBit, State.flag, get_put_other_bits, get_put_other_reg]
    simp only [execClockQualified, hsrc, hoff, Bool.not_true, Bool.or_false, Bool.false_eq_true, if_false, hst']
  · change execPhaseLock s = _
    have hst' (m : MtState) : ({ s.flag F.mtimeStatusSrcPresent with mt := m } : State).mtSt = .acquire := by
      rw [← hst]
      simp (disch := decide) only [State.mtSt, State.flag, get_with_mt, get_put_other_bits]
    simp only [execPhaseLock, hpull, hsrc, Bool.not_true, Bool.or_false, Bool.false_eq_true, if_false, hst']
  · change execMarkerSearchTimeout s = _
    simp [execMarkerSearchTimeout, hst, hlock, hcross, hlate]
  · change execCoastReturnTimeout s = _
    simp [execCoastReturnTimeout, hst, hret, hcross]
  · change execMachineClockLoss begun s = _
    simp [execMachineClockLoss, hsrc]
  · change execFreqWindowEnd measured s = _
    have hnom : (((s.put F.mtimeMeasPeriodVal measured).flag F.mtimeStatusSrcPresent).checkFreq).get F.mtimeNomPeriodVal
        = s.get F.mtimeNomPeriodVal := by
      simp (disch := decide) only [State.checkFreq, State.putBit, State.flag, get_put_other_reg]
    simp only [execFreqWindowEnd, hsrc, hnom, hoff, Bool.not_true, Bool.false_and, Bool.false_eq_true, if_false]
  · change execOrbitMarker false s = _
    simp [execOrbitMarker, hsrc]
  · change execOrbitMarker true s = _
    simp [execOrbitMarker, hsrc]
  · change execRtSwapCommit s = _
    simp only [execRtSwapCommit, rtCommit, hdue, Bool.not_true, Bool.false_eq_true, if_false]
    rfl
  · change execEventComparatorFire n s = _
    rw [execEventComparatorFire, if_pos (by rw [harm, Bool.true_and]; exact decide_eq_true hreach)]

end Sys2Proof.Machine
end


/-!
What leaves memory and queue alone (for O50 to O52 and for the clauses that memory keeps its bytes): `Untouched s t`, how
it composes, and the elementary operations that have it.
-/
section
namespace Sys2Proof.Machine

section
variable (s : State)

@[simp] theorem ite_mem (c : Prop) [Decidable c] (a b : State) : (if c then a else b).mem = if c then a.mem else b.mem :=
  apply_ite State.mem c a b

@[simp] theorem ite_pending (c : Prop) [Decidable c] (a b : State) :
    (if c then a else b).pending = if c then a.pending else b.pending :=
  apply_ite State.pending c a b

/-- On-chip memory and the queue of `t` are those of `s`. -/
def Untouched (s t : State) : Prop := t.mem = s.mem ∧ t.pending = s.pending

theorem bump_untouched (f : Fld) (i j : Nat) : Untouched s (s.bump f i j) := ⟨rfl, rfl⟩

theorem flag_untouched (f : Fld) (i j : Nat) : Untouched s (s.flag f i j) := ⟨rfl, rfl⟩

theorem setPair_untouched (lo hi : RegName) (v i j : Nat) : Untouched s (s.setPair lo hi v i j) := ⟨rfl, rfl⟩

theorem raise_untouched (e : Ev) (o v : Nat) : Untouched s (s.raise e o v) := ⟨raise_mem .., raise_pending ..⟩

/-- What two changes one after the other leave alone. -/
theorem untouched_trans {s t u : State} (h : Untouched s t) (h' : Untouched t u) : Untouched s u := ⟨h'.1.trans h.1, h'.2.trans h.2⟩

theorem foldl_untouched {α : Type} (f : State → α → State) (l : List α)
    (h : ∀ t x, (f t x).mem = t.mem ∧ (f t x).pending = t.pending) : Untouched s (l.foldl f s) :=
  ⟨foldl_keep f State.mem (fun t x => (h t x).1) l s, foldl_keep f State.pending (fun t x => (h t x).2) l s⟩

end
end Sys2Proof.Machine
end


/-!
What no function of the model but those that store touches: on-chip memory and the queue of commands. One lemma for each
function that answers a state, in the order of the model.
-/
section
namespace Sys2Proof.Machine

@[simp] theorem fresh_untouched (s : State) (n : Nat) :
    (State.fresh s n).2.mem = s.mem ∧ (State.fresh s n).2.pending = s.pending := by
  simp [State.fresh]

@[simp] theorem clkRequest_untouched (mux source : Nat) (s : State) :
    (clkRequest mux source s).mem = s.mem ∧ (clkRequest mux source s).pending = s.pending := by
  simp [clkRequest]

@[simp] theorem modSess_untouched (s : State) (k : Nat) (f : Session → Session) :
    (State.modSess s k f).mem = s.mem ∧ (State.modSess s k f).pending = s.pending := by
  simp [State.modSess]

@[simp] theorem drive_untouched (s : State) (o : Output) :
    (State.drive s o).mem = s.mem ∧ (State.drive s o).pending = s.pending := by
  simp [State.drive]

@[simp] theorem sendEth_untouched (s : State) (o : Output) :
    (State.sendEth s o).mem = s.mem ∧ (State.sendEth s o).pending = s.pending := by
  simp [State.sendEth]

@[simp] theorem sendVcp_untouched (s : State) (dest : Peer) (bytes : List Nat) :
    (State.sendVcp s dest bytes).mem = s.mem ∧ (State.sendVcp s dest bytes).pending = s.pending := by
  simp [State.sendVcp]

@[simp] theorem eventTo_untouched (e : EvEntry) (k : Nat) (own dev : Option (Nat × Nat)) (s : State) :
    (eventTo e k own dev s).mem = s.mem ∧ (eventTo e k own dev s).pending = s.pending := by
  unfold eventTo
  split <;> simp

@[simp] theorem sendEvent_untouched (e : EvEntry) (also : Option Nat) (s : State) :
    (sendEvent e also s).mem = s.mem ∧ (sendEvent e also s).pending = s.pending := by
  unfold sendEvent
  exact foldl_untouched _ _ _ fun t x => by simp

@[simp] theorem logEvent_untouched (s : State) (code obj value : Nat) (cmd : optParam (Option (Nat × Nat × Nat × Nat × List Byte)) none) (also : optParam (Option Nat) none) :
    (State.logEvent s code obj value cmd also).mem = s.mem ∧ (State.logEvent s code obj value cmd also).pending = s.pending := by
  simp [State.logEvent]

theorem readWords_untouched {rd : Nat → State → EccRead × State} (h : ∀ w s, Untouched s (rd w s).2) (w n : Nat) (s : State) :
    Untouched s (readWords rd w n s).2.2 := by
  induction n generalizing w s with
  | zero => exact ⟨rfl, rfl⟩
  | succ n ih => exact untouched_trans (h w s) (ih (w + 1) _)

theorem readBytes_untouched {rd : Nat → State → EccRead × State} (h : ∀ w s, Untouched s (rd w s).2) (addr len : Nat) (s : State) :
    Untouched s (readBytes rd addr len s).2.2 := readWords_untouched h _ _ s

@[simp] theorem setFrame_untouched (s : State) (slot v : Nat) :
    (State.setFrame s slot v).mem = s.mem ∧ (State.setFrame s slot v).pending = s.pending := by
  simp [State.setFrame]

@[simp] theorem upsetFrame_untouched (s : State) (slot : Nat) (ups : List (Fin 4128)) :
    (State.upsetFrame s slot ups).mem = s.mem ∧ (State.upsetFrame s slot ups).pending = s.pending := by
  simp [State.upsetFrame]

@[simp] theorem mendFrame_untouched (s : State) (slot : Nat) :
    (State.mendFrame s slot).mem = s.mem ∧ (State.mendFrame s slot).pending = s.pending := by
  simp [State.mendFrame]

@[simp] theorem resetFlops_untouched (region : Nat) (s : State) :
    (resetFlops region s).mem = s.mem ∧ (resetFlops region s).pending = s.pending := by
  simp [resetFlops]

@[simp] theorem showMt_untouched (s : State) (m : MtSt) :
    (State.showMt s m).mem = s.mem ∧ (State.showMt s m).pending = s.pending := by
  simp [State.showMt]

@[simp] theorem beginSearch_untouched (s : State) :
    (State.beginSearch s).mem = s.mem ∧ (State.beginSearch s).pending = s.pending := by
  simp [State.beginSearch]

@[simp] theorem enterFree_untouched (s : State) :
    (State.enterFree s).mem = s.mem ∧ (State.enterFree s).pending = s.pending := by
  simp [State.enterFree]

@[simp] theorem enterAcquire_untouched (s : State) (locked : Bool) :
    (State.enterAcquire s locked).mem = s.mem ∧ (State.enterAcquire s locked).pending = s.pending := by
  simp [State.enterAcquire]

@[simp] theorem enterAligned_untouched (s : State) :
    (State.enterAligned s).mem = s.mem ∧ (State.enterAligned s).pending = s.pending := by
  simp [State.enterAligned]

@[simp] theorem enterSlipped_untouched (s : State) :
    (State.enterSlipped s).mem = s.mem ∧ (State.enterSlipped s).pending = s.pending := by
  simp [State.enterSlipped]

@[simp] theorem mtSource_untouched (src tbundle : Nat) (s : State) :
    (mtSource src tbundle s).mem = s.mem ∧ (mtSource src tbundle s).pending = s.pending := by
  simp [mtSource]

@[simp] theorem mtRealign_untouched (s : State) :
    (mtRealign s).mem = s.mem ∧ (mtRealign s).pending = s.pending := by
  unfold mtRealign
  split <;> simp

@[simp] theorem mtOrbitLoad_untouched (s : State) :
    (mtOrbitLoad s).mem = s.mem ∧ (mtOrbitLoad s).pending = s.pending := by
  simp [mtOrbitLoad]

@[simp] theorem mtCtrlWrite_untouched (v : Nat) (s : State) :
    (mtCtrlWrite v s).1.mem = s.mem ∧ (mtCtrlWrite v s).1.pending = s.pending := by
  simp [mtCtrlWrite]

@[simp] theorem checkFreq_untouched (s : State) :
    (State.checkFreq s).mem = s.mem ∧ (State.checkFreq s).pending = s.pending := by
  simp [State.checkFreq]

@[simp] theorem mtNomPeriod_untouched (v : Nat) (s : State) :
    (mtNomPeriod v s).1.mem = s.mem ∧ (mtNomPeriod v s).1.pending = s.pending := by
  unfold mtNomPeriod
  repeat' split
  all_goals simp

@[simp] theorem mtLoss_untouched (begun : Bool) (s : State) :
    (mtLoss begun s).mem = s.mem ∧ (mtLoss begun s).pending = s.pending := by
  simp [mtLoss]

@[simp] theorem markerAcquire_untouched (s : State) :
    (markerAcquire s).mem = s.mem ∧ (markerAcquire s).pending = s.pending := by
  simp [markerAcquire]

@[simp] theorem markerAligned_untouched (good : Bool) (s : State) :
    (markerAligned good s).mem = s.mem ∧ (markerAligned good s).pending = s.pending := by
  simp [markerAligned]

@[simp] theorem markerSlipped_untouched (good : Bool) (s : State) :
    (markerSlipped good s).mem = s.mem ∧ (markerSlipped good s).pending = s.pending := by
  simp [markerSlipped]

@[simp] theorem markerReturn_untouched (good : Bool) (s : State) :
    (markerReturn good s).mem = s.mem ∧ (markerReturn good s).pending = s.pending := by
  simp [markerReturn]

@[simp] theorem orbitMarker_untouched (s : State) :
    (orbitMarker s).mem = s.mem ∧ (orbitMarker s).pending = s.pending := by
  unfold orbitMarker
  split <;> simp

@[simp] theorem ckPattern_untouched (ck : BitVec 16) (s : State) :
    (ckPattern ck s).mem = s.mem ∧ (ckPattern ck s).pending = s.pending := by
  simp [ckPattern]

@[simp] theorem setRtWord_untouched (s : State) (bank : Bool) (c : Nat) (w : RtWord) :
    (State.setRtWord s bank c w).mem = s.mem ∧ (State.setRtWord s bank c w).pending = s.pending := by
  simp [State.setRtWord]

@[simp] theorem rtFetch_untouched (s : State) (bank : Bool) (c : Nat) :
    (rtFetch s bank c).2.mem = s.mem ∧ (rtFetch s bank c).2.pending = s.pending := by
  unfold rtFetch
  dsimp only
  split <;> simp

@[simp] theorem rtShadowWrite_untouched (half v : Nat) (s : State) :
    (rtShadowWrite half v s).1.mem = s.mem ∧ (rtShadowWrite half v s).1.pending = s.pending := by
  unfold rtShadowWrite
  split <;> simp

@[simp] theorem rtCtrlWrite_untouched (v : Nat) (s : State) :
    (rtCtrlWrite v s).1.mem = s.mem ∧ (rtCtrlWrite v s).1.pending = s.pending := by
  unfold rtCtrlWrite
  repeat' split
  all_goals simp

@[simp] theorem rtCommit_untouched (s : State) :
    (rtCommit s).mem = s.mem ∧ (rtCommit s).pending = s.pending := by
  simp [rtCommit]

@[simp] theorem stealWrite_untouched (i v : Nat) (s : State) :
    (stealWrite i v s).1.mem = s.mem ∧ (stealWrite i v s).1.pending = s.pending := by
  simp [stealWrite]

@[simp] theorem markerStep_untouched (fresh : Bool) (s : State) :
    (markerStep fresh s).mem = s.mem ∧ (markerStep fresh s).pending = s.pending := by
  simp [markerStep]

@[simp] theorem rtExchange_untouched (s : State) :
    (rtExchange s).mem = s.mem ∧ (rtExchange s).pending = s.pending := by
  simp [rtExchange]

@[simp] theorem readAhead_untouched (s : State) :
    (readAhead s).mem = s.mem ∧ (readAhead s).pending = s.pending := by
  simp [readAhead]

@[simp] theorem searchStep_untouched (s : State) :
    (searchStep s).mem = s.mem ∧ (searchStep s).pending = s.pending := by
  simp [searchStep]

@[simp] theorem countStep_untouched (s : State) :
    (countStep s).mem = s.mem ∧ (countStep s).pending = s.pending := by
  simp [countStep]

@[simp] theorem mtBoundary_untouched (ck : BitVec 16) (s : State) :
    (mtBoundary ck s).mem = s.mem ∧ (mtBoundary ck s).pending = s.pending := by
  unfold mtBoundary
  dsimp only
  split <;> simp

@[simp] theorem evtTargetWrite_untouched (n : Nat) (high : Bool) (v : Word) (s : State) :
    (evtTargetWrite n high v s).1.mem = s.mem ∧ (evtTargetWrite n high v s).1.pending = s.pending := by
  simp [evtTargetWrite]

@[simp] theorem irqToCores_untouched (s : State) :
    (irqToCores s).mem = s.mem ∧ (irqToCores s).pending = s.pending := by
  unfold irqToCores
  exact foldl_untouched _ _ _ fun t x => by simp

@[simp] theorem evtFire_untouched (n : Nat) (s : State) :
    (evtFire n s).mem = s.mem ∧ (evtFire n s).pending = s.pending := by
  simp [evtFire]

@[simp] theorem mtSnap_untouched (s : State) :
    (mtSnap s).mem = s.mem ∧ (mtSnap s).pending = s.pending := by
  change Untouched s _
  rw [mtSnap]
  exact untouched_trans (setPair_untouched ..) (setPair_untouched ..)

@[simp] theorem setLaneSt_untouched (s : State) (n m : Nat) (st : LSt) :
    (State.setLaneSt s n m st).mem = s.mem ∧ (State.setLaneSt s n m st).pending = s.pending := by
  simp [State.setLaneSt]

@[simp] theorem setLane_untouched (s : State) (n m : Nat) (l : LaneSt) :
    (State.setLane s n m l).mem = s.mem ∧ (State.setLane s n m l).pending = s.pending := by
  simp [State.setLane]

@[simp] theorem modLane_untouched (s : State) (n m : Nat) (f : LaneSt → LaneSt) :
    (State.modLane s n m f).mem = s.mem ∧ (State.modLane s n m f).pending = s.pending := by
  simp [State.modLane]

@[simp] theorem setBundle_untouched (s : State) (n : Nat) (b : BundleSt) :
    (State.setBundle s n b).mem = s.mem ∧ (State.setBundle s n b).pending = s.pending := by
  simp [State.setBundle]

@[simp] theorem modBundle_untouched (s : State) (n : Nat) (f : BundleSt → BundleSt) :
    (State.modBundle s n f).mem = s.mem ∧ (State.modBundle s n f).pending = s.pending := by
  simp [State.modBundle]

@[simp] theorem steerWithdraw_untouched (n : Nat) (s : State) :
    (steerWithdraw n s).mem = s.mem ∧ (steerWithdraw n s).pending = s.pending := by
  unfold steerWithdraw
  dsimp only
  split <;> simp

@[simp] theorem unspared_untouched (n : Nat) (s : State) :
    (unspared n s).mem = s.mem ∧ (unspared n s).pending = s.pending := by
  simp [unspared]

@[simp] theorem steerRequest_untouched (n x : Nat) (s : State) :
    (steerRequest n x s).mem = s.mem ∧ (steerRequest n x s).pending = s.pending := by
  simp [steerRequest]

@[simp] theorem spareReady_untouched (n : Nat) (s : State) :
    (spareReady n s).mem = s.mem ∧ (spareReady n s).pending = s.pending := by
  unfold spareReady
  repeat' split
  all_goals simp

@[simp] theorem eyeLeave_untouched (n m : Nat) (s : State) :
    (eyeLeave n m s).mem = s.mem ∧ (eyeLeave n m s).pending = s.pending := by
  simp [eyeLeave]

@[simp] theorem retireLane_untouched (n m : Nat) (s : State) :
    (retireLane n m s).mem = s.mem ∧ (retireLane n m s).pending = s.pending := by
  simp [retireLane]

@[simp] theorem attemptFailed_untouched (n m : Nat) (s : State) :
    (attemptFailed n m s).mem = s.mem ∧ (attemptFailed n m s).pending = s.pending := by
  simp [attemptFailed]

@[simp] theorem unclassify_untouched (n : Nat) (s : State) :
    (unclassify n s).mem = s.mem ∧ (unclassify n s).pending = s.pending := by
  unfold unclassify
  dsimp only
  split
  · exact ⟨rfl, rfl⟩
  · exact foldl_untouched _ _ _ fun t b => ⟨rfl, rfl⟩

@[simp] theorem startBringup_untouched (n m : Nat) (s : State) :
    (startBringup n m s).mem = s.mem ∧ (startBringup n m s).pending = s.pending := by
  simp [startBringup]

@[simp] theorem laneEnable_untouched (n m : Nat) (s : State) :
    (laneEnable n m s).mem = s.mem ∧ (laneEnable n m s).pending = s.pending := by
  unfold laneEnable
  split <;> simp

@[simp] theorem laneStop_untouched (n m : Nat) (s : State) :
    (laneStop n m s).mem = s.mem ∧ (laneStop n m s).pending = s.pending := by
  simp [laneStop]

@[simp] theorem laneDisable_untouched (n m : Nat) (s : State) :
    (laneDisable n m s).mem = s.mem ∧ (laneDisable n m s).pending = s.pending := by
  unfold laneDisable
  split <;> simp

@[simp] theorem enterRetrain_untouched (n m : Nat) (s : State) :
    (enterRetrain n m s).mem = s.mem ∧ (enterRetrain n m s).pending = s.pending := by
  unfold enterRetrain
  split <;> simp

@[simp] theorem laneReinstate_untouched (n m : Nat) (s : State) :
    (laneReinstate n m s).mem = s.mem ∧ (laneReinstate n m s).pending = s.pending := by
  simp [laneReinstate]

theorem forLanes_untouched {act : Nat → State → State} (mask : Nat) (s : State)
    (h : ∀ m t, (act m t).mem = t.mem ∧ (act m t).pending = t.pending) :
    (forLanes act mask s).mem = s.mem ∧ (forLanes act mask s).pending = s.pending := by
  unfold forLanes
  refine foldl_untouched _ _ _ fun t m => ?_
  split
  · exact h m t
  · exact ⟨rfl, rfl⟩

@[simp] theorem laneCmdWrite_untouched (n v : Nat) (s : State) :
    (laneCmdWrite n v s).1.mem = s.mem ∧ (laneCmdWrite n v s).1.pending = s.pending := by
  simp [laneCmdWrite, forLanes_untouched]

@[simp] theorem laneReinstateWrite_untouched (n v : Nat) (s : State) :
    (laneReinstateWrite n v s).1.mem = s.mem ∧ (laneReinstateWrite n v s).1.pending = s.pending := by
  simp [laneReinstateWrite, forLanes_untouched]

@[simp] theorem laneCfgWrite_untouched (n v : Nat) (s : State) :
    (laneCfgWrite n v s).1.mem = s.mem ∧ (laneCfgWrite n v s).1.pending = s.pending := by
  change Untouched s _
  have h (t : State) : Untouched t ((List.range 9).foldl (fun s m => if (s.lane n m).wanted then laneEnable n m s else s) t) :=
    foldl_untouched _ _ _ fun _ _ => by split <;> simp
  unfold laneCfgWrite
  dsimp only
  repeat' split
  all_goals simp [Untouched, forLanes_untouched, (h _).1, (h _).2]

@[simp] theorem laneHeldWrite_untouched (r : RegName) (mask n v : Nat) (s : State) :
    (laneHeldWrite r mask n v s).1.mem = s.mem ∧ (laneHeldWrite r mask n v s).1.pending = s.pending := by
  unfold laneHeldWrite
  repeat' split
  all_goals simp

@[simp] theorem enterService_untouched (n m : Nat) (s : State) :
    (enterService n m s).mem = s.mem ∧ (enterService n m s).pending = s.pending := by
  simp [enterService]

@[simp] theorem classifyGang_untouched (n : Nat) (s : State) :
    (classifyGang n s).mem = s.mem ∧ (classifyGang n s).pending = s.pending := by
  unfold classifyGang
  dsimp only
  split
  · exact foldl_untouched _ _ _ fun t b => ⟨rfl, rfl⟩
  · exact ⟨rfl, rfl⟩

@[simp] theorem capsDone_untouched (n m : Nat) (s : State) :
    (capsDone n m s).mem = s.mem ∧ (capsDone n m s).pending = s.pending := by
  simp [capsDone]

@[simp] theorem alignFrame_untouched (n m : Nat) (sync : Bool) (f : RxFrame) (onTime : Bool) (s : State) :
    (alignFrame n m sync f onTime s).mem = s.mem ∧ (alignFrame n m sync f onTime s).pending = s.pending := by
  simp [alignFrame]

@[simp] theorem capsFrame_untouched (n m : Nat) (sync : Bool) (f : RxFrame) (onTime : Bool) (s : State) :
    (capsFrame n m sync f onTime s).mem = s.mem ∧ (capsFrame n m sync f onTime s).pending = s.pending := by
  simp [capsFrame]

@[simp] theorem closeVotes_untouched (n : Nat) (s : State) :
    (closeVotes n s).mem = s.mem ∧ (closeVotes n s).pending = s.pending := by
  simp [closeVotes]

@[simp] theorem steerVote_untouched (n v : Nat) (s : State) :
    (steerVote n v s).mem = s.mem ∧ (steerVote n v s).pending = s.pending := by
  simp [steerVote]

@[simp] theorem spareFrame_untouched (n : Nat) (f : RxFrame) (s : State) :
    (spareFrame n f s).mem = s.mem ∧ (spareFrame n f s).pending = s.pending := by
  simp [spareFrame]

@[simp] theorem serviceFrame_untouched (n m : Nat) (sync : Bool) (f : RxFrame) (margin : Int) (s : State) :
    (serviceFrame n m sync f margin s).mem = s.mem ∧ (serviceFrame n m sync f margin s).pending = s.pending := by
  simp [serviceFrame]

@[simp] theorem countBad_untouched (n m : Nat) (s : State) :
    (countBad n m s).mem = s.mem ∧ (countBad n m s).pending = s.pending := by
  simp [countBad]

@[simp] theorem switchBack_untouched (n m : Nat) (s : State) :
    (switchBack n m s).mem = s.mem ∧ (switchBack n m s).pending = s.pending := by
  simp [switchBack]

@[simp] theorem driveFrame_untouched (n m f : Nat) (s : State) :
    (driveFrame n m f s).mem = s.mem ∧ (driveFrame n m f s).pending = s.pending := by
  simp [driveFrame]

@[simp] theorem launch_untouched (n m typ payload : Nat) (s : State) :
    (launch n m typ payload s).mem = s.mem ∧ (launch n m typ payload s).pending = s.pending := by
  simp [launch]

@[simp] theorem txLaunch_untouched (n m : Nat) (s : State) :
    (txLaunch n m s).mem = s.mem ∧ (txLaunch n m s).pending = s.pending := by
  unfold txLaunch
  dsimp only
  repeat' split
  all_goals simp

@[simp] theorem laneStopDone_untouched (n m : Nat) (s : State) :
    (laneStopDone n m s).mem = s.mem ∧ (laneStopDone n m s).pending = s.pending := by
  simp [laneStopDone]

@[simp] theorem eyeFields_untouched (n v : Nat) (s : State) :
    (eyeFields n v s).mem = s.mem ∧ (eyeFields n v s).pending = s.pending := by
  simp [eyeFields]

@[simp] theorem eyeWrite_untouched (n v : Nat) (s : State) :
    (eyeWrite n v s).1.mem = s.mem ∧ (eyeWrite n v s).1.pending = s.pending := by
  unfold eyeWrite
  dsimp only
  repeat' split
  all_goals simp

@[simp] theorem laneOrbit_untouched (n m : Nat) (s : State) :
    (laneOrbit n m s).mem = s.mem ∧ (laneOrbit n m s).pending = s.pending := by
  unfold laneOrbit
  dsimp only
  repeat' split
  all_goals simp

@[simp] theorem lanesOrbit_untouched (s : State) :
    (lanesOrbit s).mem = s.mem ∧ (lanesOrbit s).pending = s.pending := by
  have h : Untouched s (s.lanes.foldl (fun s e => laneOrbit (e.1 / 16) (e.1 % 16) s) s) :=
    foldl_untouched _ _ _ fun t e => laneOrbit_untouched ..
  unfold lanesOrbit
  dsimp only
  split
  · exact h
  · exact h

@[simp] theorem lanesStart_untouched (s : State) :
    (lanesStart s).mem = s.mem ∧ (lanesStart s).pending = s.pending := by
  unfold lanesStart
  exact foldl_untouched _ _ _ fun t x => by simp

@[simp] theorem modHoop_untouched (s : State) (n : Nat) (f : HoopSt → HoopSt) :
    (State.modHoop s n f).mem = s.mem ∧ (State.modHoop s n f).pending = s.pending := by
  simp [State.modHoop]

@[simp] theorem fclkWrite_untouched (v : Nat) (s : State) :
    (fclkWrite v s).1.mem = s.mem ∧ (fclkWrite v s).1.pending = s.pending := by
  unfold fclkWrite
  dsimp only
  repeat' split
  all_goals simp

@[simp] theorem fclkCheck_untouched (s : State) :
    (fclkCheck s).2.mem = s.mem ∧ (fclkCheck s).2.pending = s.pending := by
  rw [fclkCheck]
  split <;> simp

@[simp] theorem fclkRun_untouched (s : State) :
    (fclkRun s).mem = s.mem ∧ (fclkRun s).pending = s.pending := by
  simp [fclkRun]

@[simp] theorem spanCount_untouched (s : State) :
    (spanCount s).mem = s.mem ∧ (spanCount s).pending = s.pending := by
  simp [spanCount]

@[simp] theorem setSpan_untouched (s : State) (k : Nat) (p : Span) :
    (State.setSpan s k p).mem = s.mem ∧ (State.setSpan s k p).pending = s.pending := by
  simp [State.setSpan]

@[simp] theorem spansMended_untouched (slot : Nat) (s : State) :
    (spansMended slot s).mem = s.mem ∧ (spansMended slot s).pending = s.pending := by
  simp [spansMended]

@[simp] theorem spansHold_untouched (region : Nat → Bool) (s : State) :
    (spansHold region s).mem = s.mem ∧ (spansHold region s).pending = s.pending := by
  simp [spansHold]

@[simp] theorem spansBoundary_untouched (s : State) :
    (spansBoundary s).mem = s.mem ∧ (spansBoundary s).pending = s.pending := by
  simp [spansBoundary]

@[simp] theorem spansReload_untouched (region : Nat → Bool) (s : State) :
    (spansReload region s).mem = s.mem ∧ (spansReload region s).pending = s.pending := by
  simp [spansReload]

@[simp] theorem iobCheck_untouched (n : Nat) (s : State) :
    (iobCheck n s).mem = s.mem ∧ (iobCheck n s).pending = s.pending := by
  simp [iobCheck]

@[simp] theorem iobStart_untouched (n : Nat) (s : State) :
    (iobStart n s).mem = s.mem ∧ (iobStart n s).pending = s.pending := by
  simp [iobStart]

@[simp] theorem iobsStart_untouched (s : State) :
    (iobsStart s).mem = s.mem ∧ (iobsStart s).pending = s.pending := by
  unfold iobsStart
  exact foldl_untouched _ _ _ fun t x => by simp

@[simp] theorem showPin_untouched (p : Nat) (s : State) :
    (showPin p s).mem = s.mem ∧ (showPin p s).pending = s.pending := by
  simp [showPin]

@[simp] theorem releasePins_untouched (bank : Nat → Bool) (s : State) :
    (releasePins bank s).mem = s.mem ∧ (releasePins bank s).pending = s.pending := by
  unfold releasePins
  exact foldl_untouched _ _ _ fun t x => by simp

@[simp] theorem iobFollow_untouched (n : Nat) (s : State) :
    (iobFollow n s).mem = s.mem ∧ (iobFollow n s).pending = s.pending := by
  simp [iobFollow]

@[simp] theorem pinWord_untouched (p : Nat) (tx : Byte) (oe : Bool) (rx : Byte) (s : State) :
    (pinWord p tx oe rx s).mem = s.mem ∧ (pinWord p tx oe rx s).pending = s.pending := by
  simp [pinWord]

@[simp] theorem iodWrite_untouched (p v : Nat) (s : State) :
    (iodWrite p v s).1.mem = s.mem ∧ (iodWrite p v s).1.pending = s.pending := by
  simp [iodWrite]

@[simp] theorem setHeldBit_untouched (s : State) (r : RegName) (i : Nat) (b : Bool) :
    (State.setHeldBit s r i b).mem = s.mem ∧ (State.setHeldBit s r i b).pending = s.pending := by
  simp [State.setHeldBit]

@[simp] theorem holdBlock_untouched (r : RegName) (cnt err : Fld) (i : Nat) (bad : Bool) (s : State) :
    (holdBlock r cnt err i bad s).mem = s.mem ∧ (holdBlock r cnt err i bad s).pending = s.pending := by
  simp [holdBlock]

@[simp] theorem checkSlices_untouched (region : Nat) (s : State) :
    (checkSlices region s).mem = s.mem ∧ (checkSlices region s).pending = s.pending := by
  unfold checkSlices
  exact foldl_untouched _ _ _ fun t x => by simp

@[simp] theorem clearSlices_untouched (region : Nat) (s : State) :
    (clearSlices region s).mem = s.mem ∧ (clearSlices region s).pending = s.pending := by
  simp [clearSlices]

@[simp] theorem setRank_untouched (s : State) (r : Nat) (u : RankSt) :
    (State.setRank s r u).mem = s.mem ∧ (State.setRank s r u).pending = s.pending := by
  simp [State.setRank]

@[simp] theorem checkRanks_untouched (region : Nat) (s : State) :
    (checkRanks region s).mem = s.mem ∧ (checkRanks region s).pending = s.pending := by
  unfold checkRanks
  exact foldl_untouched _ _ _ fun t x => by simp

@[simp] theorem clearRanks_untouched (region : Nat) (s : State) :
    (clearRanks region s).mem = s.mem ∧ (clearRanks region s).pending = s.pending := by
  simp [clearRanks]

@[simp] theorem setPm_untouched (s : State) (x : Nat) (p : PmArr) :
    (State.setPm s x p).mem = s.mem ∧ (State.setPm s x p).pending = s.pending := by
  simp [State.setPm]

@[simp] theorem setPmRow_untouched (s : State) (x row : Nat) (r : PmRow) :
    (State.setPmRow s x row r).mem = s.mem ∧ (State.setPmRow s x row r).pending = s.pending := by
  simp [State.setPmRow]

@[simp] theorem upsetRows_untouched (x : Nat) (upsets : List (Fin 32768 × Fin 148)) (s : State) :
    (upsetRows x upsets s).mem = s.mem ∧ (upsetRows x upsets s).pending = s.pending := by
  unfold upsetRows
  exact foldl_untouched _ _ _ fun t x => by simp

@[simp] theorem checkArrays_untouched (region : Nat) (s : State) :
    (checkArrays region s).mem = s.mem ∧ (checkArrays region s).pending = s.pending := by
  unfold checkArrays
  refine foldl_untouched _ _ _ fun t a => ?_
  split
  · dsimp only
    split <;> simp
  · exact ⟨rfl, rfl⟩

@[simp] theorem clearArrays_untouched (region : Nat) (s : State) :
    (clearArrays region s).mem = s.mem ∧ (clearArrays region s).pending = s.pending := by
  simp [clearArrays]

@[simp] theorem setPmu_untouched (s : State) (c : Nat) (p : PmuSt) :
    (State.setPmu s c p).mem = s.mem ∧ (State.setPmu s c p).pending = s.pending := by
  simp [State.setPmu]

@[simp] theorem pmuAbort_untouched (c : Nat) (s : State) :
    (pmuAbort c s).mem = s.mem ∧ (pmuAbort c s).pending = s.pending := by
  simp [pmuAbort]

@[simp] theorem pmuCtrlWrite_untouched (c v : Nat) (s : State) :
    (pmuCtrlWrite c v s).1.mem = s.mem ∧ (pmuCtrlWrite c v s).1.pending = s.pending := by
  unfold pmuCtrlWrite
  dsimp only
  repeat' split
  all_goals simp

@[simp] theorem pmuRegWrite_untouched (r : RegName) (mask c v : Nat) (s : State) :
    (pmuRegWrite r mask c v s).1.mem = s.mem ∧ (pmuRegWrite r mask c v s).1.pending = s.pending := by
  unfold pmuRegWrite
  split <;> simp

@[simp] theorem pmuIdleWrite_untouched (c : Nat) (s : State) :
    (pmuIdleWrite c s).1.mem = s.mem ∧ (pmuIdleWrite c s).1.pending = s.pending := by
  unfold pmuIdleWrite
  split <;> simp

@[simp] theorem postToken_untouched (s : State) (queue v : Nat) :
    (State.postToken s queue v).mem = s.mem ∧ (State.postToken s queue v).pending = s.pending := by
  simp [State.postToken]

@[simp] theorem modBank_untouched (s : State) (id : BankId) (f : BankSt → BankSt) :
    (State.modBank s id f).mem = s.mem ∧ (State.modBank s id f).pending = s.pending := by
  simp [State.modBank]

@[simp] theorem setPower_untouched (s : State) (id : BankId) (p : PowerSt) :
    (State.setPower s id p).mem = s.mem ∧ (State.setPower s id p).pending = s.pending := by
  simp [State.setPower]

@[simp] theorem banksBoundary_untouched (s : State) :
    (banksBoundary s).mem = s.mem ∧ (banksBoundary s).pending = s.pending := by
  simp [banksBoundary]

@[simp] theorem setSpare_untouched (s : State) (id : BankId) (st : Nat) :
    (State.setSpare s id st).mem = s.mem ∧ (State.setSpare s id st).pending = s.pending := by
  simp [State.setSpare]

@[simp] theorem setRetired_untouched (s : State) (id : BankId) (b : Bool) :
    (State.setRetired s id b).mem = s.mem ∧ (State.setRetired s id b).pending = s.pending := by
  simp [State.setRetired]

@[simp] theorem startPower_untouched (id : BankId) (t : Nat) (s : State) :
    (startPower id t s).mem = s.mem ∧ (startPower id t s).pending = s.pending := by
  unfold startPower
  split <;> simp

@[simp] theorem applyLatched_untouched (id : BankId) (s : State) :
    (applyLatched id s).mem = s.mem ∧ (applyLatched id s).pending = s.pending := by
  unfold applyLatched
  split <;> simp

@[simp] theorem latchPower_untouched (id : BankId) (t : Nat) (s : State) :
    (latchPower id t s).mem = s.mem ∧ (latchPower id t s).pending = s.pending := by
  simp [latchPower]

@[simp] theorem startMarch_untouched (id : BankId) (s : State) :
    (startMarch id s).mem = s.mem ∧ (startMarch id s).pending = s.pending := by
  simp [startMarch]

@[simp] theorem bankReinstate_untouched (id : BankId) (s : State) :
    (bankReinstate id s).2.mem = s.mem ∧ (bankReinstate id s).2.pending = s.pending := by
  unfold bankReinstate
  repeat' split
  all_goals simp

@[simp] theorem objectEnded_untouched (s : State) (obj status : Nat) :
    (State.objectEnded s obj status).mem = s.mem ∧ (State.objectEnded s obj status).pending = s.pending := by
  simp [State.objectEnded]

@[simp] theorem bankBack_untouched (id : BankId) (s : State) :
    (bankBack id s).mem = s.mem ∧ (bankBack id s).pending = s.pending := by
  simp [bankBack]

@[simp] theorem powerRequest_untouched (id : BankId) (t : Nat) (s : State) :
    (powerRequest id t s).1.mem = s.mem ∧ (powerRequest id t s).1.pending = s.pending := by
  unfold powerRequest
  dsimp only
  repeat' split
  all_goals simp

@[simp] theorem ulolWrite_untouched (id : BankId) (v : Nat) (s : State) :
    (ulolWrite id v s).mem = s.mem ∧ (ulolWrite id v s).pending = s.pending := by
  simp [ulolWrite]

@[simp] theorem powerWrite_untouched (id : BankId) (v : Nat) (s : State) :
    (powerWrite id v s).1.mem = s.mem ∧ (powerWrite id v s).1.pending = s.pending := by
  have h : Untouched s (powerRequest id (bits v 1 0) s).1 := powerRequest_untouched ..
  unfold powerWrite
  split <;> rename_i hr <;> rw [hr] at h
  · exact untouched_trans h (ulolWrite_untouched ..)
  · exact h

@[simp] theorem modPort_untouched (s : State) (n : Nat) (p : BankPort) (f : PortSt → PortSt) :
    (State.modPort s n p f).mem = s.mem ∧ (State.modPort s n p f).pending = s.pending := by
  simp [State.modPort]

@[simp] theorem checkBanks_untouched (starts : Nat → Bool) (s : State) :
    (checkBanks starts s).mem = s.mem ∧ (checkBanks starts s).pending = s.pending := by
  unfold checkBanks
  exact foldl_untouched _ _ _ fun t x => by simp

@[simp] theorem pushResult_untouched (n : Nat) (p : BankPort) (region data : Nat) (poison : Bool) (s : State) :
    (pushResult n p region data poison s).mem = s.mem ∧ (pushResult n p region data poison s).pending = s.pending := by
  simp [pushResult]

@[simp] theorem portEnabled_untouched (n : Nat) (p : BankPort) (edge : Nat × Nat × Nat) (s : State) :
    (portEnabled n p edge s).mem = s.mem ∧ (portEnabled n p edge s).pending = s.pending := by
  simp [portEnabled]

@[simp] theorem handoverWrite_untouched (n v : Nat) (s : State) :
    (handoverWrite n v s).1.mem = s.mem ∧ (handoverWrite n v s).1.pending = s.pending := by
  unfold handoverWrite
  dsimp only
  repeat' split
  all_goals simp

@[simp] theorem portAnew_untouched (n : Nat) (p : BankPort) (s : State) :
    (portAnew n p s).mem = s.mem ∧ (portAnew n p s).pending = s.pending := by
  simp [portAnew]

theorem bankRefusal_untouched {id : BankId} {s t : State} {st : Status} (h : bankRefusal id s = some (t, st)) : Untouched s t := by
  unfold bankRefusal at h
  split at h
  · cases h
    exact ⟨rfl, rfl⟩
  split at h
  · cases h
    exact untouched_trans (bump_untouched ..) (flag_untouched ..)
  · cases h

@[simp] theorem coreMemRead_untouched (w : Nat) (s : State) :
    (coreMemRead w s).2.mem = s.mem ∧ (coreMemRead w s).2.pending = s.pending := by
  unfold coreMemRead
  dsimp only
  split <;> simp

@[simp] theorem setScrub_untouched (s : State) (e : Nat) (p : ScrubSt) :
    (State.setScrub s e p).mem = s.mem ∧ (State.setScrub s e p).pending = s.pending := by
  simp [State.setScrub]

@[simp] theorem scrubAbort_untouched (e : Nat) (s : State) :
    (scrubAbort e s).mem = s.mem ∧ (scrubAbort e s).pending = s.pending := by
  simp [scrubAbort]

@[simp] theorem scrubCtrlWrite_untouched (e v : Nat) (s : State) :
    (scrubCtrlWrite e v s).1.mem = s.mem ∧ (scrubCtrlWrite e v s).1.pending = s.pending := by
  unfold scrubCtrlWrite
  repeat' split
  all_goals simp

@[simp] theorem scrubRegWrite_untouched (r : RegName) (mask e v : Nat) (s : State) :
    (scrubRegWrite r mask e v s).1.mem = s.mem ∧ (scrubRegWrite r mask e v s).1.pending = s.pending := by
  unfold scrubRegWrite
  split <;> simp

@[simp] theorem scrubIdleWrite_untouched (e : Nat) (s : State) :
    (scrubIdleWrite e s).1.mem = s.mem ∧ (scrubIdleWrite e s).1.pending = s.pending := by
  unfold scrubIdleWrite
  split <;> simp

@[simp] theorem setHoopSt_untouched (s : State) (n : Nat) (h : HState) :
    (State.setHoopSt s n h).mem = s.mem ∧ (State.setHoopSt s n h).pending = s.pending := by
  simp [State.setHoopSt]

@[simp] theorem hoopFollow_untouched (n : Nat) (s : State) :
    (hoopFollow n s).mem = s.mem ∧ (hoopFollow n s).pending = s.pending := by
  simp [hoopFollow]

@[simp] theorem applySwitch_untouched (g ctx : Nat) (s : State) :
    (applySwitch g ctx s).mem = s.mem ∧ (applySwitch g ctx s).pending = s.pending := by
  unfold applySwitch
  exact foldl_untouched _ _ _ fun t x => by simp

@[simp] theorem fabricBoundary_untouched (s : State) :
    (fabricBoundary s).mem = s.mem ∧ (fabricBoundary s).pending = s.pending := by
  unfold fabricBoundary
  refine untouched_trans (foldl_untouched _ _ _ fun t g => ?_) (foldl_untouched _ _ _ fun t e => ?_)
  · split
    · split <;> simp
    · exact ⟨rfl, rfl⟩
  · split
    · exact ⟨rfl, rfl⟩
    · exact ⟨rfl, rfl⟩

@[simp] theorem grpWrite_untouched (g v : Nat) (s : State) :
    (grpWrite g v s).1.mem = s.mem ∧ (grpWrite g v s).1.pending = s.pending := by
  unfold grpWrite
  dsimp only
  repeat' split
  all_goals simp

@[simp] theorem grpClear_untouched (g : Nat) (s : State) :
    (grpClear g s).mem = s.mem ∧ (grpClear g s).pending = s.pending := by
  simp [grpClear]

@[simp] theorem hoopCfgWrite_untouched (n v : Nat) (s : State) :
    (hoopCfgWrite n v s).1.mem = s.mem ∧ (hoopCfgWrite n v s).1.pending = s.pending := by
  unfold hoopCfgWrite
  dsimp only
  split <;> simp

@[simp] theorem fixGrpWrite_untouched (v : Nat) (s : State) :
    (fixGrpWrite v s).1.mem = s.mem ∧ (fixGrpWrite v s).1.pending = s.pending := by
  unfold fixGrpWrite
  repeat' split
  all_goals simp

@[simp] theorem cmdRefused_untouched (st : Status) (s : State) :
    (cmdRefused st s).1.mem = s.mem ∧ (cmdRefused st s).1.pending = s.pending := by
  simp [cmdRefused]

@[simp] theorem hoopRelease_untouched (n : Nat) (s : State) :
    (hoopRelease n s).1.mem = s.mem ∧ (hoopRelease n s).1.pending = s.pending := by
  unfold hoopRelease
  repeat' split
  all_goals simp

@[simp] theorem dropRewrites_untouched (n : Nat) (s : State) :
    (dropRewrites n s).mem = s.mem ∧ (dropRewrites n s).pending = s.pending := by
  simp [dropRewrites]

@[simp] theorem beginStop_untouched (n : Nat) (why : StopFor) (s : State) :
    (beginStop n why s).mem = s.mem ∧ (beginStop n why s).pending = s.pending := by
  simp [beginStop]

@[simp] theorem enterLoading_untouched (n : Nat) (s : State) :
    (enterLoading n s).mem = s.mem ∧ (enterLoading n s).pending = s.pending := by
  simp [enterLoading]

@[simp] theorem hoopStop_untouched (n : Nat) (s : State) :
    (hoopStop n s).1.mem = s.mem ∧ (hoopStop n s).1.pending = s.pending := by
  unfold hoopStop
  split <;> simp

@[simp] theorem hoopCmdWrite_untouched (n v : Nat) (s : State) :
    (hoopCmdWrite n v s).1.mem = s.mem ∧ (hoopCmdWrite n v s).1.pending = s.pending := by
  unfold hoopCmdWrite
  split <;> simp

@[simp] theorem resetHoop_untouched (n : Nat) (s : State) :
    (resetHoop n s).mem = s.mem ∧ (resetHoop n s).pending = s.pending := by
  simp [resetHoop]

@[simp] theorem heldNext_untouched (n : Nat) (wanted : Bool) (s : State) :
    (heldNext n wanted s).mem = s.mem ∧ (heldNext n wanted s).pending = s.pending := by
  simp [heldNext]

@[simp] theorem hoopPowerDown_untouched (n : Nat) (s : State) :
    (hoopPowerDown n s).mem = s.mem ∧ (hoopPowerDown n s).pending = s.pending := by
  simp [hoopPowerDown]

@[simp] theorem enterIncomplete_untouched (n : Nat) (s : State) :
    (enterIncomplete n s).mem = s.mem ∧ (enterIncomplete n s).pending = s.pending := by
  simp [enterIncomplete]

@[simp] theorem checkRegion_untouched (r : Nat) (s : State) :
    (checkRegion r s).mem = s.mem ∧ (checkRegion r s).pending = s.pending := by
  simp [checkRegion]

@[simp] theorem enterRun_untouched (n : Nat) (s : State) :
    (enterRun n s).mem = s.mem ∧ (enterRun n s).pending = s.pending := by
  simp [enterRun]

@[simp] theorem enterRepair_untouched (n : Nat) (s : State) :
    (enterRepair n s).mem = s.mem ∧ (enterRepair n s).pending = s.pending := by
  unfold enterRepair
  split <;> simp

@[simp] theorem groupsStart_untouched (s : State) :
    (groupsStart s).mem = s.mem ∧ (groupsStart s).pending = s.pending := by
  unfold groupsStart
  refine foldl_untouched _ _ _ fun t g => ?_
  dsimp only
  split
  · split <;> simp
  · simp

@[simp] theorem hoopsStart_untouched (s : State) :
    (hoopsStart s).mem = s.mem ∧ (hoopsStart s).pending = s.pending := by
  unfold hoopsStart
  exact foldl_untouched _ _ _ fun t x => by simp

@[simp] theorem checkStarted_untouched (s : State) :
    (checkStarted s).mem = s.mem ∧ (checkStarted s).pending = s.pending := by
  change Untouched s _
  have slices (l : List Nat) (t : State) : Untouched t (l.foldl (fun s r => checkSlices r s) t) :=
    foldl_untouched _ _ _ fun _ _ => checkSlices_untouched ..
  have arrays (l : List Nat) (t : State) : Untouched t (l.foldl (fun s r => checkArrays r (checkRanks r s)) t) :=
    foldl_untouched _ _ _ fun _ _ => untouched_trans (checkRanks_untouched ..) (checkArrays_untouched ..)
  rw [checkStarted]
  generalize List.range 194 = all
  generalize (192 :: 193 :: _) = regions
  exact untouched_trans (slices _ _) (untouched_trans (arrays _ _) (checkBanks_untouched ..))

@[simp] theorem startFabric_untouched (s : State) :
    (startFabric s).mem = s.mem ∧ (startFabric s).pending = s.pending := by
  have h (t : State) : Untouched t ((List.range 48).foldl (fun s n => s.modBundle n (fun b => { b with live := true })) t) :=
    foldl_untouched _ _ _ fun t n => ⟨rfl, rfl⟩
  rw [startFabric]
  simp [(h _).1, (h _).2]

@[simp] theorem stopFabric_untouched (s : State) :
    (stopFabric s).mem = s.mem ∧ (stopFabric s).pending = s.pending := by
  unfold stopFabric
  refine untouched_trans ?_ (foldl_untouched _ _ _ fun t n => ?_)
  · have h : Untouched _ _ := foldl_untouched ((s.clear F.fabCtrlStarted).put F.fabFclkStatusRun 0)
      (fun s n => s.clear F.fabIobStatusActive n) (List.range 13) fun t n => ⟨rfl, rfl⟩
    simp [Untouched, h.1, h.2]
  · dsimp only
    repeat' split
    all_goals simp

@[simp] theorem setPage_untouched (s : State) (k : Nat) (e : PageEnt) :
    (State.setPage s k e).mem = s.mem ∧ (State.setPage s k e).pending = s.pending := by
  simp [State.setPage]

@[simp] theorem loadKey_untouched (k : Nat) (key : List Nat) (s : State) :
    (loadKey k key s).mem = s.mem ∧ (loadKey k key s).pending = s.pending := by
  simp [loadKey]

@[simp] theorem drawK0_untouched (s : State) :
    (drawK0 s).mem = s.mem ∧ (drawK0 s).pending = s.pending := by
  simp [drawK0]

@[simp] theorem keyErase_untouched (v : Nat) (s : State) :
    (keyErase v s).mem = s.mem ∧ (keyErase v s).pending = s.pending := by
  unfold keyErase
  exact foldl_untouched _ _ _ fun t x => by simp

@[simp] theorem integrityNote_untouched (e addr : Nat) (s : State) :
    (integrityNote e addr s).mem = s.mem ∧ (integrityNote e addr s).pending = s.pending := by
  simp [integrityNote]

@[simp] theorem integrityBlot_untouched (e code sev detail : Nat) (s : State) :
    (integrityBlot e code sev detail s).mem = s.mem ∧ (integrityBlot e code sev detail s).pending = s.pending := by
  simp [integrityBlot]

@[simp] theorem integrityFail_untouched (e addr : Nat) (s : State) :
    (integrityFail e addr s).mem = s.mem ∧ (integrityFail e addr s).pending = s.pending := by
  simp [integrityFail]

@[simp] theorem cacheNote_untouched (e : Nat) (f : EngFetch) (s : State) :
    (cacheNote e f s).mem = s.mem ∧ (cacheNote e f s).pending = s.pending := by
  simp [cacheNote]

@[simp] theorem tableFail_untouched (k : Nat) (s : State) :
    (tableFail k s).mem = s.mem ∧ (tableFail k s).pending = s.pending := by
  simp [tableFail]

@[simp] theorem lineReadOp_untouched (e addr : Nat) (seen : Line × RsFound) (f : EngFetch) (s : State) :
    (lineReadOp e addr seen f s).state.mem = s.mem ∧ (lineReadOp e addr seen f s).state.pending = s.pending := by
  unfold lineReadOp
  dsimp only
  repeat' split
  all_goals simp

@[simp] theorem modNear_untouched (s : State) (c : Nat) (f : NearSt → NearSt) :
    (State.modNear s c f).mem = s.mem ∧ (State.modNear s c f).pending = s.pending := by
  simp [State.modNear]

@[simp] theorem setLine_untouched (s : State) (la : Nat) (l : Line) :
    (State.setLine s la l).mem = s.mem ∧ (State.setLine s la l).pending = s.pending := by
  simp [State.setLine]

@[simp] theorem hwmNote_untouched (major : Nat) (s : State) :
    (hwmNote major s).mem = s.mem ∧ (hwmNote major s).pending = s.pending := by
  simp [hwmNote]

@[simp] theorem pageExhausted_untouched (k : Nat) (s : State) :
    (pageExhausted k s).mem = s.mem ∧ (pageExhausted k s).pending = s.pending := by
  simp [pageExhausted]

@[simp] theorem upsetLine_untouched (s : State) (la : Nat) (ups : List (Fin 72 × Byte)) :
    (State.upsetLine s la ups).mem = s.mem ∧ (State.upsetLine s la ups).pending = s.pending := by
  simp [State.upsetLine]

@[simp] theorem lineStore_untouched (e addr : Nat) (data : List Byte) (poison : Bool) (s : State) :
    (lineStore e addr data poison s).2.mem = s.mem ∧ (lineStore e addr data poison s).2.pending = s.pending := by
  change Untouched s _
  rw [lineStore]
  extract_lets s1 s2 e1 l major t t' t'' e2
  have h1 : Untouched s s1 := foldl_untouched _ _ _ fun t i => setLine_untouched ..
  have h2 : Untouched s1 s2 := setLine_untouched ..
  have h3 : Untouched s t := foldl_untouched _ _ _ fun t i => by split <;> simp
  have h4 : Untouched t t' := setLine_untouched ..
  have h5 : Untouched t' t'' := untouched_trans (hwmNote_untouched ..) (bump_untouched ..)
  clear_value s1 s2 t t' t''
  split
  · exact flag_untouched ..
  split
  · exact untouched_trans h1 (untouched_trans h2 (setPage_untouched ..))
  split
  · exact setLine_untouched ..
  split
  · exact pageExhausted_untouched ..
  · exact untouched_trans h3 (untouched_trans h4 (untouched_trans h5 (setPage_untouched ..)))

@[simp] theorem partialNote_untouched (e : Nat) (s : State) :
    (partialNote e s).mem = s.mem ∧ (partialNote e s).pending = s.pending := by
  simp [partialNote]

@[simp] theorem lineWriteOp_untouched (e addr : Nat) (data : List Byte) (be : List Bool) (poison : Bool) (seen : Line × RsFound) (f : EngFetch) (s : State) :
    (lineWriteOp e addr data be poison seen f s).state.mem = s.mem ∧ (lineWriteOp e addr data be poison seen f s).state.pending = s.pending := by
  unfold lineWriteOp
  dsimp only
  repeat' split
  all_goals simp

theorem dropLines_untouched (f : Nat → Nat) (s : State) :
    Untouched s ((List.range 64).foldl (fun s i => s.setLine (f i) {}) s) :=
  foldl_untouched _ _ _ fun _ _ => setLine_untouched ..

@[simp] theorem releasePage_untouched (k : Nat) (s : State) :
    (releasePage k s).mem = s.mem ∧ (releasePage k s).pending = s.pending := by
  change Untouched s _
  rw [releasePage]
  extract_lets major s1 e1 s2
  have h1 : Untouched s s1 := foldl_untouched _ _ _ fun t i => untouched_trans (dropLines_untouched _ _) (setPage_untouched ..)
  clear_value s1
  have h2 : Untouched s1 s2 := ⟨rfl, rfl⟩
  clear_value s2
  split
  · exact untouched_trans h1 (untouched_trans h2 (hwmNote_untouched ..))
  split
  · exact flag_untouched ..
  split
  · exact pageExhausted_untouched ..
  · exact untouched_trans (dropLines_untouched _ _) (untouched_trans (setPage_untouched ..) (hwmNote_untouched ..))

@[simp] theorem releaseRegWrite_untouched (r : RegName) (mask v : Nat) (s : State) :
    (releaseRegWrite r mask v s).1.mem = s.mem ∧ (releaseRegWrite r mask v s).1.pending = s.pending := by
  unfold releaseRegWrite
  split <;> simp

@[simp] theorem setDom_untouched (s : State) (k : Nat) (d : DomSt) :
    (State.setDom s k d).mem = s.mem ∧ (State.setDom s k d).pending = s.pending := by
  simp [State.setDom]

@[simp] theorem nearCtrlWrite_untouched (v : Nat) (s : State) :
    (nearCtrlWrite v s).1.mem = s.mem ∧ (nearCtrlWrite v s).1.pending = s.pending := by
  simp [nearCtrlWrite]

@[simp] theorem nearFilled_untouched (s : State) :
    (nearFilled s).mem = s.mem ∧ (nearFilled s).pending = s.pending := by
  simp [nearFilled]

@[simp] theorem nearDegraded_untouched (s : State) :
    (nearDegraded s).mem = s.mem ∧ (nearDegraded s).pending = s.pending := by
  simp [nearDegraded]

@[simp] theorem loseChannel_untouched (c : Nat) (s : State) :
    (loseChannel c s).mem = s.mem ∧ (loseChannel c s).pending = s.pending := by
  simp [loseChannel]

@[simp] theorem nearTrain_untouched (c : Nat) (s : State) :
    (nearTrain c s).mem = s.mem ∧ (nearTrain c s).pending = s.pending := by
  simp [nearTrain]

@[simp] theorem nearOut_untouched (c : Nat) (st : NearState) (err : Fld) (s : State) :
    (nearOut c st err s).mem = s.mem ∧ (nearOut c st err s).pending = s.pending := by
  simp [nearOut]

@[simp] theorem nearRetire_untouched (c : Nat) (s : State) :
    (nearRetire c s).mem = s.mem ∧ (nearRetire c s).pending = s.pending := by
  unfold nearRetire
  split <;> simp

@[simp] theorem nearOn_untouched (c : Nat) (s : State) :
    (nearOn c s).mem = s.mem ∧ (nearOn c s).pending = s.pending := by
  simp [nearOn]

@[simp] theorem nearReinstate_untouched (c : Nat) (s : State) :
    (nearReinstate c s).2.mem = s.mem ∧ (nearReinstate c s).2.pending = s.pending := by
  unfold nearReinstate
  split <;> simp

@[simp] theorem nearPowerDown_untouched (c : Nat) (s : State) :
    (nearPowerDown c s).mem = s.mem ∧ (nearPowerDown c s).pending = s.pending := by
  unfold nearPowerDown
  split <;> simp

@[simp] theorem nearPowerUp_untouched (c : Nat) (s : State) :
    (nearPowerUp c s).mem = s.mem ∧ (nearPowerUp c s).pending = s.pending := by
  simp [nearPowerUp]

@[simp] theorem nearNote_untouched (c page : Nat) (found : RsFound) (s : State) :
    (nearNote c page found s).mem = s.mem ∧ (nearNote c page found s).pending = s.pending := by
  unfold nearNote
  split <;> simp

@[simp] theorem countDenied_untouched (s : State) (addr : Nat) (st : Status) :
    (State.countDenied s addr st).mem = s.mem ∧ (State.countDenied s addr st).pending = s.pending := by
  simp [State.countDenied]

@[simp] theorem nearLineRead_untouched (e addr : Nat) (f : EngFetch) (s : State) :
    (nearLineRead e addr f s).state.mem = s.mem ∧ (nearLineRead e addr f s).state.pending = s.pending := by
  simp [nearLineRead]

@[simp] theorem nearLineWrite_untouched (e addr : Nat) (data : List Byte) (be : List Bool) (poison : Bool) (f : EngFetch) (s : State) :
    (nearLineWrite e addr data be poison f s).state.mem = s.mem ∧ (nearLineWrite e addr data be poison f s).state.pending = s.pending := by
  simp [nearLineWrite]

@[simp] theorem tableRead_untouched (k : Nat) (f : EngFetch) (s : State) :
    (tableRead k f s).state.mem = s.mem ∧ (tableRead k f s).state.pending = s.pending := by
  unfold tableRead
  dsimp only
  repeat' split
  all_goals simp

@[simp] theorem tableWrite_untouched (k : Nat) (data : List Byte) (be : List Bool) (poison : Bool) (s : State) :
    (tableWrite k data be poison s).state.mem = s.mem ∧ (tableWrite k data be poison s).state.pending = s.pending := by
  change Untouched s _
  rw [tableWrite]
  extract_lets new put t
  have h : Untouched s t := foldl_untouched _ _ _ fun u i => by
    simp only [put]
    split <;> simp
  clear_value t
  split
  · exact ⟨rfl, rfl⟩
  · dsimp only
    split
    · exact untouched_trans h (tableFail_untouched ..)
    · exact h

@[simp] theorem nearReadLine_untouched (req : Requester) (addr : Nat) (f : EngFetch) (s : State) :
    (nearReadLine req addr f s).state.mem = s.mem ∧ (nearReadLine req addr f s).state.pending = s.pending := by
  unfold nearReadLine
  dsimp only
  repeat' split
  all_goals simp

@[simp] theorem nearWriteLine_untouched (req : Requester) (addr : Nat) (data : List Byte) (be : List Bool) (poison : Bool) (f : EngFetch) (s : State) :
    (nearWriteLine req addr data be poison f s).state.mem = s.mem ∧ (nearWriteLine req addr data be poison f s).state.pending = s.pending := by
  unfold nearWriteLine
  dsimp only
  repeat' split
  all_goals simp

theorem linesRead_untouched {rd : Nat → EngFetch → State → LineResult} (h : ∀ a f s, Untouched s (rd a f s).state) (addr n : Nat)
    (fetch : List EngFetch) (s : State) : Untouched s (linesRead rd addr n fetch s).state := by
  induction n generalizing addr fetch s with
  | zero => exact ⟨rfl, rfl⟩
  | succ n ih => exact untouched_trans (h _ _ s) (ih ..)

theorem linesWrite_untouched {wr : Nat → List Byte → List Bool → EngFetch → State → LineResult}
    (h : ∀ a d m f s, Untouched s (wr a d m f s).state) (addr off n : Nat) (data : List Byte) (be : List Bool) (fetch : List EngFetch)
    (s : State) : Untouched s (linesWrite wr addr off n data be fetch s).state := by
  induction n generalizing addr off data be fetch s with
  | zero => exact ⟨rfl, rfl⟩
  | succ n ih =>
    refine untouched_trans ?_ (ih ..)
    split
    · exact h ..
    · exact ⟨rfl, rfl⟩

@[simp] theorem nearServe_untouched (req : Requester) (addr : Nat) (acc : MemAcc) (fetch : List EngFetch) (s : State) :
    (nearServe req addr acc fetch s).state.mem = s.mem ∧ (nearServe req addr acc fetch s).state.pending = s.pending := by
  change Untouched s _
  unfold nearServe
  extract_lets t base
  have h : Untouched s t := countDenied_untouched ..
  clear_value t
  refine untouched_trans h ?_
  split
  · have h (n : Nat) (t : State) : Untouched t (linesRead (nearReadLine req) base n fetch t).state :=
      linesRead_untouched (fun a f s => nearReadLine_untouched ..) ..
    dsimp only
    split
    · exact h ..
    · exact h ..
    · exact h ..
  · exact linesWrite_untouched (fun a d m f s => nearWriteLine_untouched ..) ..
  · exact ⟨rfl, rfl⟩

@[simp] theorem releaseCtrlWrite_untouched (v : Nat) (s : State) :
    (releaseCtrlWrite v s).1.mem = s.mem ∧ (releaseCtrlWrite v s).1.pending = s.pending := by
  unfold releaseCtrlWrite
  dsimp only
  repeat' split
  all_goals simp

@[simp] theorem ringDrop_untouched (f : Fld) (s : State) :
    (ringDrop f s).mem = s.mem ∧ (ringDrop f s).pending = s.pending := by
  simp [ringDrop]

@[simp] theorem setSkip_untouched (g : Nat) (b : Bool) (s : State) :
    (setSkip g b s).mem = s.mem ∧ (setSkip g b s).pending = s.pending := by
  unfold setSkip
  split <;> simp

@[simp] theorem ringPortRetired_untouched (p : Nat) (s : State) :
    (ringPortRetired p s).mem = s.mem ∧ (ringPortRetired p s).pending = s.pending := by
  unfold ringPortRetired
  dsimp only
  split <;> simp

@[simp] theorem setCvSt_untouched (s : State) (p : Nat) (c : CState) :
    (State.setCvSt s p c).mem = s.mem ∧ (State.setCvSt s p c).pending = s.pending := by
  simp [State.setCvSt]

@[simp] theorem modCv_untouched (s : State) (p : Nat) (f : CaveSt → CaveSt) :
    (State.modCv s p f).mem = s.mem ∧ (State.modCv s p f).pending = s.pending := by
  simp [State.modCv]

@[simp] theorem caveFlush_untouched (p : Nat) (x : List (Nat × Nat × List Byte)) (s : State) :
    (caveFlush p x s).mem = s.mem ∧ (caveFlush p x s).pending = s.pending := by
  induction x generalizing s with
  | nil => exact ⟨rfl, rfl⟩
  | cons m rest ih =>
    unfold caveFlush
    dsimp only
    split
    · exact untouched_trans ⟨rfl, rfl⟩ (ih _)
    · exact ⟨rfl, rfl⟩

@[simp] theorem caveSend_untouched (p w r : Nat) (msg : List Byte) (s : State) :
    (caveSend p w r msg s).mem = s.mem ∧ (caveSend p w r msg s).pending = s.pending := by
  simp [caveSend]

@[simp] theorem cregRead_untouched (p index : Nat) (s : State) :
    (cregRead p index s).mem = s.mem ∧ (cregRead p index s).pending = s.pending := by
  simp [cregRead]

@[simp] theorem fillSend_untouched (p page n : Nat) (s : State) :
    (fillSend p page n s).mem = s.mem ∧ (fillSend p page n s).pending = s.pending := by
  simp [fillSend]

@[simp] theorem readSend_untouched (p line count : Nat) (pend : CavePend) (s : State) :
    (readSend p line count pend s).mem = s.mem ∧ (readSend p line count pend s).pending = s.pending := by
  simp [readSend]

@[simp] theorem writeSend_untouched (p la count : Nat) (req : Option Nat) (s : State) :
    (writeSend p la count req s).mem = s.mem ∧ (writeSend p la count req s).pending = s.pending := by
  simp [writeSend]

@[simp] theorem resetLink_untouched (p : Nat) (s : State) :
    (resetLink p s).mem = s.mem ∧ (resetLink p s).pending = s.pending := by
  simp [resetLink]

@[simp] theorem discardRequests_untouched (p : Nat) (s : State) :
    (discardRequests p s).mem = s.mem ∧ (discardRequests p s).pending = s.pending := by
  have h (t : State) (α : Type) (l : List α) : Untouched t (l.foldl (fun s _ => s.answer .fault) t) :=
    foldl_untouched _ _ _ fun u e => ⟨rfl, rfl⟩
  exact untouched_trans (h s _ _) (untouched_trans (h _ _ _) (resetLink_untouched ..))

@[simp] theorem loseCave_untouched (p : Nat) (s : State) :
    (loseCave p s).mem = s.mem ∧ (loseCave p s).pending = s.pending := by
  simp [loseCave]

@[simp] theorem enterLinking_untouched (p : Nat) (s : State) :
    (enterLinking p s).mem = s.mem ∧ (enterLinking p s).pending = s.pending := by
  simp [enterLinking]

@[simp] theorem caveEnable_untouched (p : Nat) (s : State) :
    (caveEnable p s).1.mem = s.mem ∧ (caveEnable p s).1.pending = s.pending := by
  unfold caveEnable
  dsimp only
  repeat' split
  all_goals simp

@[simp] theorem caveDisable_untouched (p : Nat) (s : State) :
    (caveDisable p s).mem = s.mem ∧ (caveDisable p s).pending = s.pending := by
  simp [caveDisable]

@[simp] theorem caveReinstate_untouched (p : Nat) (s : State) :
    (caveReinstate p s).2.mem = s.mem ∧ (caveReinstate p s).2.pending = s.pending := by
  unfold caveReinstate
  split <;> simp

@[simp] theorem cavePower_untouched (p v : Nat) (s : State) :
    (cavePower p v s).mem = s.mem ∧ (cavePower p v s).pending = s.pending := by
  simp [cavePower]

@[simp] theorem cavePcfgWrite_untouched (p v : Nat) (s : State) :
    (cavePcfgWrite p v s).1.mem = s.mem ∧ (cavePcfgWrite p v s).1.pending = s.pending := by
  unfold cavePcfgWrite
  dsimp only
  repeat' split
  all_goals simp

@[simp] theorem caveDown_untouched (p : Nat) (s : State) :
    (caveDown p s).mem = s.mem ∧ (caveDown p s).pending = s.pending := by
  simp [caveDown]

@[simp] theorem caveRetire_untouched (p : Nat) (s : State) :
    (caveRetire p s).mem = s.mem ∧ (caveRetire p s).pending = s.pending := by
  simp [caveRetire]

@[simp] theorem nextBlock_untouched (p : Nat) (s : State) :
    (nextBlock p s).2.mem = s.mem ∧ (nextBlock p s).2.pending = s.pending := by
  unfold nextBlock
  dsimp only
  repeat' split
  all_goals simp

@[simp] theorem blockToLanes_untouched (b : Nat) (block : List Byte) (s : State) :
    (blockToLanes b block s).mem = s.mem ∧ (blockToLanes b block s).pending = s.pending := by
  unfold blockToLanes
  exact foldl_untouched _ _ _ fun t x => ⟨rfl, rfl⟩

@[simp] theorem caveBoundary_untouched (s : State) :
    (caveBoundary s).mem = s.mem ∧ (caveBoundary s).pending = s.pending := by
  unfold caveBoundary
  exact foldl_untouched _ _ _ fun t x => by simp

@[simp] theorem caveReplay_untouched (p : Nat) (s : State) :
    (caveReplay p s).mem = s.mem ∧ (caveReplay p s).pending = s.pending := by
  simp [caveReplay]

@[simp] theorem ackBlocks_untouched (p ack : Nat) (s : State) :
    (ackBlocks p ack s).mem = s.mem ∧ (ackBlocks p ack s).pending = s.pending := by
  simp [ackBlocks]

@[simp] theorem takeBlock_untouched (p : Nat) (body : List Byte) (s : State) :
    (takeBlock p body s).mem = s.mem ∧ (takeBlock p body s).pending = s.pending := by
  simp [takeBlock]

@[simp] theorem reqDone_untouched (p id : Nat) (st : Status) (s : State) :
    (reqDone p id st s).mem = s.mem ∧ (reqDone p id st s).pending = s.pending := by
  unfold reqDone
  split <;> simp

@[simp] theorem cavePut_untouched (e addr : Nat) (data : List Byte) (be : List Bool) (poison : Bool) (seen : Line × RsFound) (f : EngFetch) (req : Option Nat) (s : State) :
    (cavePut e addr data be poison seen f req s).2.2.mem = s.mem ∧ (cavePut e addr data be poison seen f req s).2.2.pending = s.pending := by
  unfold cavePut
  dsimp only
  repeat' split
  all_goals simp

@[simp] theorem cavePutLines_untouched (e addr off : Nat) (poison : Bool) (n : Nat) (data : List Byte) (be : List Bool) (id : Nat) (s : State) :
    (cavePutLines e addr off poison n data be id s).mem = s.mem ∧ (cavePutLines e addr off poison n data be id s).pending = s.pending := by
  change Untouched s _
  induction n generalizing addr off data be s with
  | zero => exact ⟨rfl, rfl⟩
  | succ n ih =>
    refine untouched_trans ?_ (ih ..)
    split
    · extract_lets r
      have h : Untouched s r.2.2 := cavePut_untouched ..
      clear_value r
      split
      · exact h
      · exact untouched_trans h (reqDone_untouched ..)
    split
    · extract_lets pend gate
      have h : Untouched s gate.state := lineWriteOp_untouched ..
      clear_value gate
      split
      · exact readSend_untouched ..
      · exact untouched_trans h (reqDone_untouched ..)
    · exact reqDone_untouched ..

@[simp] theorem caveAccess_untouched (req : Requester) (addr : Nat) (acc : MemAcc) (s : State) :
    (caveAccess req addr acc s).mem = s.mem ∧ (caveAccess req addr acc s).pending = s.pending := by
  unfold caveAccess
  repeat' split
  all_goals simp

theorem takeCaveMsg_untouched {p typ : Nat} {s t : State} {m : List Byte} (h : takeCaveMsg p typ s = some (m, t)) : Untouched s t := by
  unfold takeCaveMsg at h
  split at h
  · cases h
  · cases h
    exact ⟨rfl, rfl⟩

@[simp] theorem caveUnc_untouched (p line : Nat) (s : State) :
    (caveUnc p line s).mem = s.mem ∧ (caveUnc p line s).pending = s.pending := by
  simp [caveUnc]

@[simp] theorem caveLineRead_untouched (e addr : Nat) (f : EngFetch) (s : State) :
    (caveLineRead e addr f s).state.mem = s.mem ∧ (caveLineRead e addr f s).state.pending = s.pending := by
  unfold caveLineRead
  dsimp only
  split <;> simp

@[simp] theorem caveLineWrite_untouched (e addr : Nat) (data : List Byte) (be : List Bool) (poison : Bool) (f : EngFetch) (s : State) :
    (caveLineWrite e addr data be poison f s).state.mem = s.mem ∧ (caveLineWrite e addr data be poison f s).state.pending = s.pending := by
  simp [caveLineWrite]

@[simp] theorem rdataLines_untouched (e addr : Nat) (x : List CaveLine) (s : State) :
    (rdataLines e addr x s).state.mem = s.mem ∧ (rdataLines e addr x s).state.pending = s.pending := by
  induction x generalizing addr s with
  | nil => exact ⟨rfl, rfl⟩
  | cons l rest ih => exact untouched_trans (lineReadOp_untouched ..) (ih ..)

@[simp] theorem rdataUnc_untouched (p line : Nat) (x : List CaveLine) (s : State) :
    (rdataUnc p line x s).mem = s.mem ∧ (rdataUnc p line x s).pending = s.pending := by
  fun_induction rdataUnc p line x s <;> simp_all

@[simp] theorem rdataRead_untouched (p addr len : Nat) (lines : List CaveLine) (s : State) :
    (rdataRead p addr len lines s).mem = s.mem ∧ (rdataRead p addr len lines s).pending = s.pending := by
  unfold rdataRead
  dsimp only
  split <;> simp

@[simp] theorem rdataMerge_untouched (p req addr : Nat) (data : List Byte) (be : List Bool) (poison : Bool) (lines : List CaveLine) (s : State) :
    (rdataMerge p req addr data be poison lines s).mem = s.mem ∧ (rdataMerge p req addr data be poison lines s).pending = s.pending := by
  unfold rdataMerge
  split <;> simp

@[simp] theorem cavePowerDown_untouched (p : Nat) (s : State) :
    (cavePowerDown p s).mem = s.mem ∧ (cavePowerDown p s).pending = s.pending := by
  unfold cavePowerDown
  split <;> simp

@[simp] theorem caveServe_untouched (req : Requester) (addr : Nat) (acc : MemAcc) (s : State) :
    (caveServe req addr acc s).state.mem = s.mem ∧ (caveServe req addr acc s).state.pending = s.pending := by
  change Untouched s _
  rw [caveServe]
  split
  · exact countDenied_untouched ..
  extract_lets e base rd wr
  have hrd (n : Nat) : Untouched s (linesRead rd base n [] s).state := linesRead_untouched (fun a f t => by
    simp only [rd]
    split
    · exact ⟨rfl, rfl⟩
    · exact caveLineRead_untouched ..) ..
  have hwr (p : Bool) (n : Nat) (data : List Byte) (be : List Bool) : Untouched s (linesWrite (wr p) base (addr % 64) n data be [] s).state :=
    linesWrite_untouched (fun a d m f t => caveLineWrite_untouched ..) ..
  clear_value rd wr
  split
  · dsimp only
    split
    · exact hrd _
    · exact hrd _
    · exact hrd _
  · exact hwr ..
  · exact ⟨rfl, rfl⟩

@[simp] theorem pmuAdvance_untouched (c : Nat) (s : State) :
    (pmuAdvance c s).mem = s.mem ∧ (pmuAdvance c s).pending = s.pending := by
  simp [pmuAdvance]

@[simp] theorem pmuError_untouched (c : Nat) (s : State) :
    (pmuError c s).mem = s.mem ∧ (pmuError c s).pending = s.pending := by
  simp [pmuError]

@[simp] theorem pmuCheckRow_untouched (c x row : Nat) (s : State) :
    (pmuCheckRow c x row s).mem = s.mem ∧ (pmuCheckRow c x row s).pending = s.pending := by
  unfold pmuCheckRow
  dsimp only
  split <;> simp

@[simp] theorem repairMap_untouched (s : State) :
    (repairMap s).2.mem = s.mem ∧ (repairMap s).2.pending = s.pending := by
  unfold repairMap
  dsimp only
  repeat' split
  all_goals simp

@[simp] theorem takeSpareWires_untouched (s : State) :
    (takeSpareWires s).mem = s.mem ∧ (takeSpareWires s).pending = s.pending := by
  simp [takeSpareWires]

@[simp] theorem setHw_untouched (s : State) (i : Nat) (h : HwSt) :
    (State.setHw s i h).mem = s.mem ∧ (State.setHw s i h).pending = s.pending := by
  simp [State.setHw]

@[simp] theorem hwClose_untouched (i : Nat) (s : State) :
    (hwClose i s).mem = s.mem ∧ (hwClose i s).pending = s.pending := by
  unfold hwClose
  dsimp only
  split <;> simp

@[simp] theorem hwTake_untouched (i : Nat) (data : List Byte) (last poison : Bool) (s : State) :
    (hwTake i data last poison s).mem = s.mem ∧ (hwTake i data last poison s).pending = s.pending := by
  unfold hwTake
  dsimp only
  split <;> simp

@[simp] theorem enterPage_untouched (g : Nat) (s : State) :
    (enterPage g s).mem = s.mem ∧ (enterPage g s).pending = s.pending := by
  simp [enterPage]

@[simp] theorem placeRecord_untouched (len n pos : Nat) (s : State) :
    (placeRecord len n pos s).2.mem = s.mem ∧ (placeRecord len n pos s).2.pending = s.pending := by
  change Untouched s _
  induction n generalizing pos s with
  | zero => exact ⟨rfl, rfl⟩
  | succ n ih =>
    rw [placeRecord]
    have hs : Untouched s (if pos % 64 = 0 then enterPage (pos / 64) s else s) := by
      split
      · exact enterPage_untouched ..
      · exact ⟨rfl, rfl⟩
    generalize (if pos % 64 = 0 then enterPage (pos / 64) s else s) = t at hs
    extract_lets u e1 v
    have hu : Untouched t u := setSkip_untouched ..
    clear_value u
    have hv : Untouched u v := by
      simp only [v]
      split
      · exact ⟨rfl, rfl⟩
      · exact ⟨rfl, rfl⟩
    clear_value v
    split
    · exact untouched_trans hs (untouched_trans hu (untouched_trans hv (ih ..)))
    split
    · exact hs
    · exact untouched_trans hs (ih ..)

@[simp] theorem epochStep_untouched (s : State) :
    (epochStep s).mem = s.mem ∧ (epochStep s).pending = s.pending := by
  simp [epochStep]

@[simp] theorem setRingSt_untouched (s : State) (n : Nat) :
    (State.setRingSt s n).mem = s.mem ∧ (State.setRingSt s n).pending = s.pending := by
  simp [State.setRingSt]

@[simp] theorem ringEnable_untouched (s : State) :
    (ringEnable s).mem = s.mem ∧ (ringEnable s).pending = s.pending := by
  simp [ringEnable]

@[simp] theorem ringEn_untouched (en : Bool) (s : State) :
    (ringEn en s).mem = s.mem ∧ (ringEn en s).pending = s.pending := by
  unfold ringEn
  dsimp only
  split <;> simp

@[simp] theorem ringCtrlWrite_untouched (v : Nat) (s : State) :
    (ringCtrlWrite v s).1.mem = s.mem ∧ (ringCtrlWrite v s).1.pending = s.pending := by
  unfold ringCtrlWrite
  dsimp only
  repeat' split
  all_goals simp

@[simp] theorem ringRegWrite_untouched (r : RegName) (v : Nat) (s : State) :
    (ringRegWrite r v s).1.mem = s.mem ∧ (ringRegWrite r v s).1.pending = s.pending := by
  unfold ringRegWrite
  dsimp only
  repeat' split
  all_goals simp

@[simp] theorem lookbackPush_untouched (ws : List Nat) (s : State) :
    (lookbackPush ws s).1.mem = s.mem ∧ (lookbackPush ws s).1.pending = s.pending := by
  unfold lookbackPush
  dsimp only
  repeat' split
  all_goals simp

@[simp] theorem lbD7Write_untouched (v : Nat) (s : State) :
    (lbD7Write v s).1.mem = s.mem ∧ (lbD7Write v s).1.pending = s.pending := by
  simp [lbD7Write]

@[simp] theorem lbShow_untouched (s : State) :
    (lbShow s).mem = s.mem ∧ (lbShow s).pending = s.pending := by
  simp [lbShow]

@[simp] theorem freeBytes_untouched (n : Nat) (s : State) :
    (freeBytes n s).2.mem = s.mem ∧ (freeBytes n s).2.pending = s.pending := by
  simp [freeBytes]

@[simp] theorem lbtxFill_untouched (t : Nat) (s : State) :
    (lbtxFill t s).mem = s.mem ∧ (lbtxFill t s).pending = s.pending := by
  unfold lbtxFill
  dsimp only
  split
  · refine foldl_untouched _ _ _ fun t i => ?_
    split
    · exact ⟨rfl, rfl⟩
    · exact ⟨rfl, rfl⟩
  · exact ⟨rfl, rfl⟩

@[simp] theorem lbtxBoundary_untouched (s : State) :
    (lbtxBoundary s).mem = s.mem ∧ (lbtxBoundary s).pending = s.pending := by
  simp [lbtxBoundary]

@[simp] theorem rtrDiscard_untouched (r n : Nat) (s : State) :
    (rtrDiscard r n s).mem = s.mem ∧ (rtrDiscard r n s).pending = s.pending := by
  simp [rtrDiscard]

@[simp] theorem modNi_untouched (s : State) (n : Nat) (f : NiSt → NiSt) :
    (State.modNi s n f).mem = s.mem ∧ (State.modNi s n f).pending = s.pending := by
  simp [State.modNi]

@[simp] theorem niSpend_untouched (n vc flits : Nat) (s : State) :
    (niSpend n vc flits s).mem = s.mem ∧ (niSpend n vc flits s).pending = s.pending := by
  simp [niSpend]

@[simp] theorem niRegWrite_untouched (mask n v : Nat) (s : State) :
    (niRegWrite mask n v s).1.mem = s.mem ∧ (niRegWrite mask n v s).1.pending = s.pending := by
  simp [niRegWrite]

@[simp] theorem dropReq_untouched (n txn : Nat) (s : State) :
    (dropReq n txn s).mem = s.mem ∧ (dropReq n txn s).pending = s.pending := by
  simp [dropReq]

@[simp] theorem modCore_untouched (s : State) (n : Nat) (f : CoreSt → CoreSt) :
    (State.modCore s n f).mem = s.mem ∧ (State.modCore s n f).pending = s.pending := by
  simp [State.modCore]

@[simp] theorem storeDone_untouched (n addr : Nat) (s : State) :
    (storeDone n addr s).mem = s.mem ∧ (storeDone n addr s).pending = s.pending := by
  simp [storeDone]

@[simp] theorem coreAnswered_untouched (n : Nat) (r : NocReq) (st : Status) (data : Nat) (poison : Bool) (s : State) :
    (coreAnswered n r st data poison s).mem = s.mem ∧ (coreAnswered n r st data poison s).pending = s.pending := by
  simp [coreAnswered]

@[simp] theorem respond_untouched (r : NocReq) (st : Status) (data : Nat) (poison : Bool) (s : State) :
    (respond r st data poison s).mem = s.mem ∧ (respond r st data poison s).pending = s.pending := by
  unfold respond
  split <;> simp

@[simp] theorem debugStarts_untouched (r : NocReq) (txn : Nat) (s : State) :
    (debugStarts r txn s).mem = s.mem ∧ (debugStarts r txn s).pending = s.pending := by
  unfold debugStarts
  split <;> simp

@[simp] theorem sendReq_untouched (n : Nat) (r : NocReq) (s : State) :
    (sendReq n r s).mem = s.mem ∧ (sendReq n r s).pending = s.pending := by
  unfold sendReq
  dsimp only
  repeat' split
  all_goals simp

@[simp] theorem sendPosted_untouched (p : Packet) (s : State) :
    (sendPosted p s).2.mem = s.mem ∧ (sendPosted p s).2.pending = s.pending := by
  unfold sendPosted
  dsimp only
  repeat' split
  all_goals simp

@[simp] theorem tokenArrives_untouched (r : NocReq) (s : State) :
    (tokenArrives r s).mem = s.mem ∧ (tokenArrives r s).pending = s.pending := by
  simp [tokenArrives]

@[simp] theorem niStart_untouched (n : Nat) (r : NocReq) (s : State) :
    (niStart n r s).mem = s.mem ∧ (niStart n r s).pending = s.pending := by
  unfold niStart
  repeat' split
  all_goals simp

@[simp] theorem niServe_untouched (n : Nat) (x : List NocReq) (s : State) :
    (niServe n x s).mem = s.mem ∧ (niServe n x s).pending = s.pending := by
  fun_induction niServe n x s <;> simp_all

@[simp] theorem niDrain_untouched (n : Nat) (s : State) :
    (niDrain n s).mem = s.mem ∧ (niDrain n s).pending = s.pending := by
  unfold niDrain
  split <;> simp

@[simp] theorem nocDrain_untouched (s : State) :
    (nocDrain s).mem = s.mem ∧ (nocDrain s).pending = s.pending := by
  unfold nocDrain
  exact foldl_untouched _ _ _ fun t x => by simp

@[simp] theorem nocRequest_untouched (n : Nat) (r : NocReq) (s : State) :
    (nocRequest n r s).mem = s.mem ∧ (nocRequest n r s).pending = s.pending := by
  simp [nocRequest]

@[simp] theorem blockRequest_untouched (n : Nat) (r : NocReq) (s : State) :
    (blockRequest n r s).mem = s.mem ∧ (blockRequest n r s).pending = s.pending := by
  simp [blockRequest]

@[simp] theorem retryOrReturn_untouched (n : Nat) (r : NocReq) (s : State) :
    (retryOrReturn n r s).mem = s.mem ∧ (retryOrReturn n r s).pending = s.pending := by
  simp [retryOrReturn]

@[simp] theorem reqTimeout_untouched (n txn : Nat) (s : State) :
    (reqTimeout n txn s).mem = s.mem ∧ (reqTimeout n txn s).pending = s.pending := by
  unfold reqTimeout
  split <;> simp

theorem packetLost_untouched {answer : Nat → Nat → State → State} (h : ∀ n t s, Untouched s (answer n t s))
    (req : Option (Fin 288 × Nat)) (s : State) : Untouched s (packetLost answer req s) := by
  unfold packetLost
  split
  · exact h ..
  · exact ⟨rfl, rfl⟩

@[simp] theorem reqFault_untouched (n txn : Nat) (s : State) :
    (reqFault n txn s).mem = s.mem ∧ (reqFault n txn s).pending = s.pending := by
  unfold reqFault
  split <;> simp

@[simp] theorem niStall_untouched (n : Nat) (s : State) :
    (niStall n s).mem = s.mem ∧ (niStall n s).pending = s.pending := by
  unfold niStall
  split <;> simp

@[simp] theorem nextDrain_untouched (s : State) :
    (nextDrain s).mem = s.mem ∧ (nextDrain s).pending = s.pending := by
  unfold nextDrain
  split <;> simp

@[simp] theorem latchDrain_untouched (r : Nat) (why : DrainFor) (s : State) :
    (latchDrain r why s).mem = s.mem ∧ (latchDrain r why s).pending = s.pending := by
  simp [latchDrain]

@[simp] theorem routerDrain_untouched (r : Nat) (s : State) :
    (routerDrain r s).mem = s.mem ∧ (routerDrain r s).pending = s.pending := by
  simp [routerDrain]

@[simp] theorem routerReinstate_untouched (r : Nat) (s : State) :
    (routerReinstate r s).2.mem = s.mem ∧ (routerReinstate r s).2.pending = s.pending := by
  unfold routerReinstate
  split <;> simp

@[simp] theorem rtrCmdWrite_untouched (r v : Nat) (s : State) :
    (rtrCmdWrite r v s).1.mem = s.mem ∧ (rtrCmdWrite r v s).1.pending = s.pending := by
  simp [rtrCmdWrite]

@[simp] theorem nocCounts_untouched (s : State) :
    (nocCounts s).mem = s.mem ∧ (nocCounts s).pending = s.pending := by
  simp [nocCounts]

@[simp] theorem routerDead_untouched (r : Nat) (s : State) :
    (routerDead r s).mem = s.mem ∧ (routerDead r s).pending = s.pending := by
  simp [routerDead]

@[simp] theorem nocRetired_untouched (r : Nat) (s : State) :
    (nocRetired r s).mem = s.mem ∧ (nocRetired r s).pending = s.pending := by
  simp [nocRetired]

@[simp] theorem reconf_untouched (r : Nat) (why : DrainFor) (wires xbar : Nat) (s : State) :
    (reconf r why wires xbar s).2.mem = s.mem ∧ (reconf r why wires xbar s).2.pending = s.pending := by
  unfold reconf
  repeat' split
  all_goals simp

@[simp] theorem vcdepthWrite_untouched (r v : Nat) (s : State) :
    (vcdepthWrite r v s).1.mem = s.mem ∧ (vcdepthWrite r v s).1.pending = s.pending := by
  unfold vcdepthWrite
  dsimp only
  split <;> simp

@[simp] theorem setQSt_untouched (s : State) (n : Nat) (q : QSt) :
    (State.setQSt s n q).mem = s.mem ∧ (State.setQSt s n q).pending = s.pending := by
  simp [State.setQSt]

@[simp] theorem setItem_untouched (s : State) (slot : Nat) (i : Item) :
    (State.setItem s slot i).mem = s.mem ∧ (State.setItem s slot i).pending = s.pending := by
  simp [State.setItem]

@[simp] theorem makeReady_untouched (slot : Nat) (s : State) :
    (makeReady slot s).mem = s.mem ∧ (makeReady slot s).pending = s.pending := by
  simp [makeReady]

@[simp] theorem giveToken_untouched (slot v : Nat) (s : State) :
    (giveToken slot v s).mem = s.mem ∧ (giveToken slot v s).pending = s.pending := by
  simp [giveToken]

@[simp] theorem enterQueue_untouched (slot : Nat) (s : State) :
    (enterQueue slot s).mem = s.mem ∧ (enterQueue slot s).pending = s.pending := by
  unfold enterQueue
  dsimp only
  split
  · exact makeReady_untouched ..
  · exact untouched_trans ⟨rfl, rfl⟩ (foldl_untouched _ _ _ fun t v => giveToken_untouched ..)

@[simp] theorem dropToken_untouched (s : State) :
    (dropToken s).mem = s.mem ∧ (dropToken s).pending = s.pending := by
  simp [dropToken]

@[simp] theorem tokenEnter_untouched (q v : Nat) (s : State) :
    (tokenEnter q v s).mem = s.mem ∧ (tokenEnter q v s).pending = s.pending := by
  unfold tokenEnter
  repeat' split
  all_goals simp

@[simp] theorem postItem_untouched (bs : List Byte) (s : State) :
    (postItem bs s).2.mem = s.mem ∧ (postItem bs s).2.pending = s.pending := by
  unfold postItem
  dsimp only
  repeat' split
  all_goals simp

@[simp] theorem wxPostWindow_untouched (addr : Nat) (item : List Byte) (s : State) :
    (wxPostWindow addr item s).1.mem = s.mem ∧ (wxPostWindow addr item s).1.pending = s.pending := by
  have h : Untouched s (postItem item s).2 := postItem_untouched ..
  unfold wxPostWindow
  split
  · exact ⟨rfl, rfl⟩
  split <;> rename_i hr <;> rw [hr] at h <;> exact h

@[simp] theorem completeItem_untouched (slot status result : Nat) (s : State) :
    (completeItem slot status result s).mem = s.mem ∧ (completeItem slot status result s).pending = s.pending := by
  unfold completeItem
  dsimp only
  repeat' split
  all_goals simp

@[simp] theorem cancelItem_untouched (handle : Nat) (s : State) :
    (cancelItem handle s).2.mem = s.mem ∧ (cancelItem handle s).2.pending = s.pending := by
  unfold cancelItem
  dsimp only
  repeat' split
  all_goals simp

@[simp] theorem cancelWrite_untouched (v : Nat) (s : State) :
    (cancelWrite v s).1.mem = s.mem ∧ (cancelWrite v s).1.pending = s.pending := by
  simp [cancelWrite]

@[simp] theorem pinnedFaults_untouched (s : State) :
    (pinnedFaults s).mem = s.mem ∧ (pinnedFaults s).pending = s.pending := by
  unfold pinnedFaults
  exact foldl_untouched _ _ _ fun t x => by simp

@[simp] theorem returnItem_untouched (slot : Nat) (s : State) :
    (returnItem slot s).mem = s.mem ∧ (returnItem slot s).pending = s.pending := by
  simp [returnItem]

@[simp] theorem rememberCore_untouched (q n : Nat) (s : State) :
    (rememberCore q n s).mem = s.mem ∧ (rememberCore q n s).pending = s.pending := by
  simp [rememberCore]

@[simp] theorem showItem_untouched (n : Nat) (i : Item) (s : State) :
    (showItem n i s).mem = s.mem ∧ (showItem n i s).pending = s.pending := by
  simp [showItem]

@[simp] theorem showNoItem_untouched (n : Nat) (s : State) :
    (showNoItem n s).mem = s.mem ∧ (showNoItem n s).pending = s.pending := by
  simp [showNoItem]

@[simp] theorem modShadow_untouched (s : State) (g : Nat) (f : ShadowSt → ShadowSt) :
    (State.modShadow s g f).mem = s.mem ∧ (State.modShadow s g f).pending = s.pending := by
  simp [State.modShadow]

@[simp] theorem nextTarget_untouched (g : Nat) (s : State) :
    (nextTarget g s).mem = s.mem ∧ (nextTarget g s).pending = s.pending := by
  unfold nextTarget
  dsimp only
  split <;> simp

@[simp] theorem settleTarget_untouched (g : Nat) (s : State) :
    (settleTarget g s).mem = s.mem ∧ (settleTarget g s).pending = s.pending := by
  simp [settleTarget]

@[simp] theorem windowCut_untouched (n : Nat) (s : State) :
    (windowCut n s).mem = s.mem ∧ (windowCut n s).pending = s.pending := by
  simp [windowCut]

@[simp] theorem windowStart_untouched (n : Nat) (s : State) :
    (windowStart n s).mem = s.mem ∧ (windowStart n s).pending = s.pending := by
  simp [windowStart]

@[simp] theorem windowItem_untouched (n : Nat) (s : State) :
    (windowItem n s).mem = s.mem ∧ (windowItem n s).pending = s.pending := by
  simp [windowItem]

@[simp] theorem haltCore_untouched (n cause : Nat) (s : State) :
    (haltCore n cause s).mem = s.mem ∧ (haltCore n cause s).pending = s.pending := by
  simp [haltCore]

@[simp] theorem retire_untouched (n pc : Nat) (s : State) :
    (retire n pc s).mem = s.mem ∧ (retire n pc s).pending = s.pending := by
  simp [retire]

@[simp] theorem setNormX_untouched (n rd v : Nat) (s : State) :
    (setNormX n rd v s).mem = s.mem ∧ (setNormX n rd v s).pending = s.pending := by
  simp [setNormX]

@[simp] theorem discardWork_untouched (n running preempted : Nat) (s : State) :
    (discardWork n running preempted s).mem = s.mem ∧ (discardWork n running preempted s).pending = s.pending := by
  unfold discardWork
  dsimp only
  repeat' split
  all_goals simp

@[simp] theorem dropLoads_untouched (n : Nat) (s : State) :
    (dropLoads n s).mem = s.mem ∧ (dropLoads n s).pending = s.pending := by
  simp [dropLoads]

@[simp] theorem resetCore_untouched (n : Nat) (s : State) :
    (resetCore n s).mem = s.mem ∧ (resetCore n s).pending = s.pending := by
  simp [resetCore]

@[simp] theorem bootCore_untouched (n : Nat) (fromHeld : Bool) (s : State) :
    (bootCore n fromHeld s).mem = s.mem ∧ (bootCore n fromHeld s).pending = s.pending := by
  simp [bootCore]

@[simp] theorem forceEnd_untouched (n running preempted : Nat) (s : State) :
    (forceEnd n running preempted s).mem = s.mem ∧ (forceEnd n running preempted s).pending = s.pending := by
  simp [forceEnd]

@[simp] theorem retireCore_untouched (n : Nat) (s : State) :
    (retireCore n s).mem = s.mem ∧ (retireCore n s).pending = s.pending := by
  simp [retireCore]

@[simp] theorem shadowReinstate_untouched (g : Nat) (s : State) :
    (shadowReinstate g s).2.mem = s.mem ∧ (shadowReinstate g s).2.pending = s.pending := by
  unfold shadowReinstate
  split <;> simp

@[simp] theorem shadowWrite_untouched (g v : Nat) (s : State) :
    (shadowWrite g v s).1.mem = s.mem ∧ (shadowWrite g v s).1.pending = s.pending := by
  simp [shadowWrite]

@[simp] theorem coreRelease_untouched (n : Nat) (s : State) :
    (coreRelease n s).mem = s.mem ∧ (coreRelease n s).pending = s.pending := by
  simp [coreRelease]

@[simp] theorem coreReinstate_untouched (n : Nat) (s : State) :
    (coreReinstate n s).2.mem = s.mem ∧ (coreReinstate n s).2.pending = s.pending := by
  unfold coreReinstate
  split <;> simp

@[simp] theorem qcCmdWrite_untouched (n v : Nat) (s : State) :
    (qcCmdWrite n v s).1.mem = s.mem ∧ (qcCmdWrite n v s).1.pending = s.pending := by
  simp [qcCmdWrite]

@[simp] theorem quillPowerDown_untouched (g : Nat) (s : State) :
    (quillPowerDown g s).mem = s.mem ∧ (quillPowerDown g s).pending = s.pending := by
  unfold quillPowerDown
  exact foldl_untouched _ _ _ fun t x => by simp

@[simp] theorem quillPowerUp_untouched (g : Nat) (s : State) :
    (quillPowerUp g s).mem = s.mem ∧ (quillPowerUp g s).pending = s.pending := by
  unfold quillPowerUp
  exact foldl_untouched _ _ _ fun t x => by simp

@[simp] theorem modLoader_untouched (s : State) (f : LoaderSt → LoaderSt) :
    (State.modLoader s f).mem = s.mem ∧ (State.modLoader s f).pending = s.pending := by
  simp [State.modLoader]

@[simp] theorem startLoad_untouched (src kind hoop : Nat) (powerOn fallback host : Bool) (s : State) :
    (startLoad src kind hoop powerOn fallback host s).mem = s.mem ∧ (startLoad src kind hoop powerOn fallback host s).pending = s.pending := by
  simp [startLoad]

@[simp] theorem loadEnded_untouched (code : Nat) (s : State) :
    (loadEnded code s).mem = s.mem ∧ (loadEnded code s).pending = s.pending := by
  simp [loadEnded]

@[simp] theorem hoopIncomplete_untouched (n : Nat) (s : State) :
    (hoopIncomplete n s).mem = s.mem ∧ (hoopIncomplete n s).pending = s.pending := by
  simp [hoopIncomplete]

@[simp] theorem bootDone_untouched (s : State) :
    (bootDone s).mem = s.mem ∧ (bootDone s).pending = s.pending := by
  simp [bootDone]

@[simp] theorem loadFail_untouched (code ofs frame : Nat) (s : State) :
    (loadFail code ofs frame s).mem = s.mem ∧ (loadFail code ofs frame s).pending = s.pending := by
  simp [loadFail]

@[simp] theorem loadFailAt_untouched (code ofs : Nat) (s : State) :
    (loadFailAt code ofs s).mem = s.mem ∧ (loadFailAt code ofs s).pending = s.pending := by
  simp [loadFailAt]

@[simp] theorem loadFull_untouched (src : Nat) (s : State) :
    (loadFull src s).1.mem = s.mem ∧ (loadFull src s).1.pending = s.pending := by
  unfold loadFull
  repeat' split
  all_goals simp

@[simp] theorem loadHoop_untouched (src hoop : Nat) (s : State) :
    (loadHoop src hoop s).1.mem = s.mem ∧ (loadHoop src hoop s).1.pending = s.pending := by
  unfold loadHoop
  repeat' split
  all_goals simp

@[simp] theorem loadCancel_untouched (s : State) :
    (loadCancel s).mem = s.mem ∧ (loadCancel s).pending = s.pending := by
  simp [loadCancel]

@[simp] theorem loadCmdWrite_untouched (v : Nat) (s : State) :
    (loadCmdWrite v s).1.mem = s.mem ∧ (loadCmdWrite v s).1.pending = s.pending := by
  unfold loadCmdWrite
  repeat' split
  all_goals simp

@[simp] theorem prepareHoop_untouched (n : Nat) (s : State) :
    (prepareHoop n s).mem = s.mem ∧ (prepareHoop n s).pending = s.pending := by
  unfold prepareHoop
  split <;> simp

@[simp] theorem discardReleases_untouched (s : State) :
    (discardReleases s).mem = s.mem ∧ (discardReleases s).pending = s.pending := by
  unfold discardReleases
  split
  · exact ⟨rfl, rfl⟩
  · refine foldl_untouched _ _ _ fun t n => ?_
    split <;> exact ⟨rfl, rfl⟩

@[simp] theorem headerPass_untouched (key : List Nat) (s : State) :
    (headerPass key s).mem = s.mem ∧ (headerPass key s).pending = s.pending := by
  simp [headerPass]

@[simp] theorem imageLost_untouched (h : Nat) (s : State) :
    (imageLost h s).mem = s.mem ∧ (imageLost h s).pending = s.pending := by
  simp [imageLost]

@[simp] theorem stopBundles_untouched (s : State) :
    (stopBundles s).mem = s.mem ∧ (stopBundles s).pending = s.pending := by
  refine foldl_untouched _ _ _ fun t n => ?_
  split
  · exact ⟨rfl, rfl⟩
  · exact untouched_trans (foldl_untouched _ _ _ fun u m => laneDisable_untouched ..) ⟨rfl, rfl⟩

@[simp] theorem mblockBank_untouched (i owner x : Nat) (s : State) :
    (mblockBank i owner x s).mem = s.mem ∧ (mblockBank i owner x s).pending = s.pending := by
  simp [mblockBank]

@[simp] theorem mblockRank_untouched (i owner x b : Nat) (s : State) :
    (mblockRank i owner x b s).mem = s.mem ∧ (mblockRank i owner x b s).pending = s.pending := by
  simp [mblockRank]

@[simp] theorem mblockArray_untouched (i owner x b mask : Nat) (s : State) :
    (mblockArray i owner x b mask s).mem = s.mem ∧ (mblockArray i owner x b mask s).pending = s.pending := by
  simp [mblockArray]

@[simp] theorem rewriteDone_untouched (fa v : Nat) (s : State) :
    (rewriteDone fa v s).mem = s.mem ∧ (rewriteDone fa v s).pending = s.pending := by
  simp [rewriteDone]

@[simp] theorem rewriteLost_untouched (fa : Nat) (s : State) :
    (rewriteLost fa s).mem = s.mem ∧ (rewriteLost fa s).pending = s.pending := by
  simp [rewriteLost]

@[simp] theorem modClk_untouched (s : State) (f : ClkSt → ClkSt) :
    (State.modClk s f).mem = s.mem ∧ (State.modClk s f).pending = s.pending := by
  simp [State.modClk]

@[simp] theorem switchTo_untouched (mux source : Nat) (s : State) :
    (switchTo mux source s).mem = s.mem ∧ (switchTo mux source s).pending = s.pending := by
  unfold switchTo
  split <;> simp

@[simp] theorem switchDone_untouched (mux : Nat) (forced : Bool) (s : State) :
    (switchDone mux forced s).mem = s.mem ∧ (switchDone mux forced s).pending = s.pending := by
  unfold switchDone
  dsimp only
  repeat' split
  all_goals simp

@[simp] theorem badFreq_untouched (s : State) :
    (badFreq s).1.mem = s.mem ∧ (badFreq s).1.pending = s.pending := by
  simp [badFreq]

@[simp] theorem clkNocWrite_untouched (v : Nat) (s : State) :
    (clkNocWrite v s).1.mem = s.mem ∧ (clkNocWrite v s).1.pending = s.pending := by
  unfold clkNocWrite
  dsimp only
  repeat' split
  all_goals simp

@[simp] theorem putNth_untouched (s : State) (f : Fld) (i : Nat) (b : Bool) :
    (State.putNth s f i b).mem = s.mem ∧ (State.putNth s f i b).pending = s.pending := by
  simp [State.putNth]

@[simp] theorem clkQpllWrite_untouched (q v : Nat) (s : State) :
    (clkQpllWrite q v s).1.mem = s.mem ∧ (clkQpllWrite q v s).1.pending = s.pending := by
  unfold clkQpllWrite
  dsimp only
  repeat' split
  all_goals simp

@[simp] theorem clkGrpWrite_untouched (g v : Nat) (s : State) :
    (clkGrpWrite g v s).1.mem = s.mem ∧ (clkGrpWrite g v s).1.pending = s.pending := by
  unfold clkGrpWrite
  dsimp only
  repeat' split
  all_goals simp

@[simp] theorem clkNctlWrite_untouched (v : Nat) (s : State) :
    (clkNctlWrite v s).1.mem = s.mem ∧ (clkNctlWrite v s).1.pending = s.pending := by
  unfold clkNctlWrite
  dsimp only
  split <;> simp

@[simp] theorem clkCtrlWrite_untouched (v : Nat) (s : State) :
    (clkCtrlWrite v s).1.mem = s.mem ∧ (clkCtrlWrite v s).1.pending = s.pending := by
  simp [clkCtrlWrite]

@[simp] theorem pllShow_untouched (p : Nat) (lock : Bool) (s : State) :
    (pllShow p lock s).mem = s.mem ∧ (pllShow p lock s).pending = s.pending := by
  unfold pllShow
  split <;> simp

@[simp] theorem pllFailed_untouched (p : Nat) (fail : Bool) (s : State) :
    (pllFailed p fail s).mem = s.mem ∧ (pllFailed p fail s).pending = s.pending := by
  simp [pllFailed]

@[simp] theorem pllFail_untouched (p : Nat) (s : State) :
    (pllFail p s).mem = s.mem ∧ (pllFail p s).pending = s.pending := by
  simp [pllFail]

@[simp] theorem resetFor_untouched (cause : Nat) (s : State) :
    (resetFor cause s).mem = s.mem ∧ (resetFor cause s).pending = s.pending := by
  simp [resetFor]

@[simp] theorem sysRstWrite_untouched (v : Nat) (s : State) :
    (sysRstWrite v s).1.mem = s.mem ∧ (sysRstWrite v s).1.pending = s.pending := by
  unfold sysRstWrite
  split <;> simp

@[simp] theorem bootChannel_untouched (c : Nat) (s : State) :
    (bootChannel c s).mem = s.mem ∧ (bootChannel c s).pending = s.pending := by
  unfold bootChannel
  split <;> simp

@[simp] theorem bankFilled_untouched (id : BankId) (s : State) :
    (bankFilled id s).mem = s.mem ∧ (bankFilled id s).pending = s.pending := by
  simp [bankFilled]

@[simp] theorem bundlePowerDown_untouched (n : Nat) (s : State) :
    (bundlePowerDown n s).mem = s.mem ∧ (bundlePowerDown n s).pending = s.pending := by
  unfold bundlePowerDown
  exact foldl_untouched _ _ _ fun t x => by simp

@[simp] theorem bundleGated_untouched (n : Nat) (s : State) :
    (bundleGated n s).mem = s.mem ∧ (bundleGated n s).pending = s.pending := by
  unfold bundleGated
  exact foldl_untouched _ _ _ fun t x => by simp

@[simp] theorem bundleWake_untouched (n : Nat) (s : State) :
    (bundleWake n s).mem = s.mem ∧ (bundleWake n s).pending = s.pending := by
  unfold bundleWake
  exact foldl_untouched _ _ _ fun t x => by simp

@[simp] theorem iobPowerDown_untouched (n : Nat) (s : State) :
    (iobPowerDown n s).mem = s.mem ∧ (iobPowerDown n s).pending = s.pending := by
  simp [iobPowerDown]

@[simp] theorem iobWake_untouched (n : Nat) (s : State) :
    (iobWake n s).mem = s.mem ∧ (iobWake n s).pending = s.pending := by
  unfold iobWake
  exact foldl_untouched _ _ _ fun t x => ⟨rfl, rfl⟩

@[simp] theorem domainDown_untouched (d : Dom) (k : Nat) (s : State) :
    (domainDown d k s).mem = s.mem ∧ (domainDown d k s).pending = s.pending := by
  unfold domainDown
  split <;> simp

@[simp] theorem domainOff_untouched (d : Dom) (s : State) :
    (domainOff d s).1.mem = s.mem ∧ (domainOff d s).1.pending = s.pending := by
  unfold domainOff
  dsimp only
  repeat' split
  all_goals simp

@[simp] theorem domainUp_untouched (d : Dom) (k : Nat) (s : State) :
    (domainUp d k s).mem = s.mem ∧ (domainUp d k s).pending = s.pending := by
  unfold domainUp
  split <;> simp

@[simp] theorem domainEnable_untouched (d : Dom) (s : State) :
    (domainEnable d s).1.mem = s.mem ∧ (domainEnable d s).1.pending = s.pending := by
  unfold domainEnable
  dsimp only
  repeat' split
  all_goals simp

@[simp] theorem domainWake_untouched (d : Dom) (s : State) :
    (domainWake d s).mem = s.mem ∧ (domainWake d s).pending = s.pending := by
  unfold domainWake
  split <;> simp

@[simp] theorem modClink_untouched (s : State) (l : Nat) (f : CLink → CLink) :
    (State.modClink s l f).mem = s.mem ∧ (State.modClink s l f).pending = s.pending := by
  simp [State.modClink]

@[simp] theorem cascForward_untouched (via dst : Nat) (msg : List Byte) (s : State) :
    (cascForward via dst msg s).mem = s.mem ∧ (cascForward via dst msg s).pending = s.pending := by
  unfold cascForward
  split <;> simp

@[simp] theorem cascSend_untouched (typ dst tag : Nat) (body : List Nat) (s : State) :
    (cascSend typ dst tag body s).mem = s.mem ∧ (cascSend typ dst tag body s).pending = s.pending := by
  unfold cascSend
  split <;> simp

@[simp] theorem sendAll_untouched (dest : Peer) (ps : List (List Nat)) (s : State) :
    (sendAll dest ps s).mem = s.mem ∧ (sendAll dest ps s).pending = s.pending := by
  unfold sendAll
  exact foldl_untouched _ _ _ fun t x => by simp

@[simp] theorem replyUnstored_untouched (k seq code status relay : Nat) (s : State) :
    (replyUnstored k seq code status relay s).mem = s.mem ∧ (replyUnstored k seq code status relay s).pending = s.pending := by
  simp [replyUnstored]

@[simp] theorem streamOver_untouched (x : Stream) (status : Nat) (s : State) :
    (streamOver x status s).mem = s.mem ∧ (streamOver x status s).pending = s.pending := by
  unfold streamOver
  split <;> simp

@[simp] theorem dropStreams_untouched (id : Nat) (s : State) :
    (dropStreams id s).mem = s.mem ∧ (dropStreams id s).pending = s.pending := by
  unfold dropStreams
  exact foldl_untouched _ _ _ fun t x => by simp

@[simp] theorem endSession_untouched (k : Nat) (s : State) :
    (endSession k s).mem = s.mem ∧ (endSession k s).pending = s.pending := by
  simp [endSession]

@[simp] theorem storeReply_untouched (k status : Nat) (result : List Nat) (s : State) :
    (storeReply k status result s).mem = s.mem ∧ (storeReply k status result s).pending = s.pending := by
  simp [storeReply]

@[simp] theorem jobOver_untouched (j : Job) (status : Nat) (result : List Nat) (s : State) :
    (jobOver j status result s).mem = s.mem ∧ (jobOver j status result s).pending = s.pending := by
  unfold jobOver
  split <;> simp

@[simp] theorem takeEnded_untouched (obj : Nat) (s : State) :
    (takeEnded obj s).2.mem = s.mem ∧ (takeEnded obj s).2.pending = s.pending := by
  unfold takeEnded
  split <;> simp

@[simp] theorem eraseSector_untouched (k : Nat) (s : State) :
    (eraseSector k s).mem = s.mem ∧ (eraseSector k s).pending = s.pending := by
  simp [eraseSector]

@[simp] theorem spoilSector_untouched (k : Nat) (s : State) :
    (spoilSector k s).mem = s.mem ∧ (spoilSector k s).pending = s.pending := by
  simp [spoilSector]

@[simp] theorem eraseSectors_untouched (first n : Nat) (s : State) :
    (eraseSectors first n s).mem = s.mem ∧ (eraseSectors first n s).pending = s.pending := by
  unfold eraseSectors
  exact foldl_untouched _ _ _ fun t x => ⟨rfl, rfl⟩

@[simp] theorem abortJob_untouched (s : State) (j : Job) :
    (abortJob s j).mem = s.mem ∧ (abortJob s j).pending = s.pending := by
  simp [abortJob]

@[simp] theorem abortCommands_untouched (s : State) :
    (abortCommands s).mem = s.mem ∧ (abortCommands s).pending = s.pending := by
  exact untouched_trans (foldl_untouched _ _ _ fun t k => storeReply_untouched ..) (foldl_untouched _ _ _ fun t j => abortJob_untouched ..)

@[simp] theorem modScm_untouched (s : State) (f : ScmSt → ScmSt) :
    (State.modScm s f).mem = s.mem ∧ (State.modScm s f).pending = s.pending := by
  simp [State.modScm]

@[simp] theorem setBroken_untouched (s : State) (c : Nat) (b : Bool) :
    (State.setBroken s c b).mem = s.mem ∧ (State.setBroken s c b).pending = s.pending := by
  simp [State.setBroken]

@[simp] theorem halve_untouched (v : Int) (s : State) :
    (halve v s).2.mem = s.mem ∧ (halve v s).2.pending = s.pending := by
  unfold halve
  split <;> simp

@[simp] theorem takeValue_untouched (c : Nat) (s : State) :
    (takeValue c s).mem = s.mem ∧ (takeValue c s).pending = s.pending := by
  unfold takeValue
  repeat' split
  all_goals simp

@[simp] theorem takeVccio_untouched (s : State) :
    (takeVccio s).mem = s.mem ∧ (takeVccio s).pending = s.pending := by
  exact foldl_untouched _ _ _ fun t n => ⟨rfl, rfl⟩

@[simp] theorem takeRound_untouched (s : State) :
    (takeRound s).mem = s.mem ∧ (takeRound s).pending = s.pending := by
  change Untouched s _
  have h (t : State) : Untouched t ((List.range 128).foldl (fun s c => takeValue c s) t) := foldl_untouched _ _ _ fun t c => takeValue_untouched ..
  have h' (t : State) : Untouched t ((List.range 13).foldl (fun s c => iobFollow c s) t) := foldl_untouched _ _ _ fun t c => iobFollow_untouched ..
  rw [takeRound]
  exact untouched_trans ⟨clear_mem .., clear_pending ..⟩ (untouched_trans (h _) (untouched_trans (takeVccio_untouched _) (h' _)))

@[simp] theorem takeHistory_untouched (s : State) :
    (takeHistory s).mem = s.mem ∧ (takeHistory s).pending = s.pending := by
  simp [takeHistory]

@[simp] theorem hkCheck_untouched (i rounds : Nat) (cond : Option Nat) (clear : Bool) (s : State) :
    (hkCheck i rounds cond clear s).2.mem = s.mem ∧ (hkCheck i rounds cond clear s).2.pending = s.pending := by
  unfold hkCheck
  dsimp only
  repeat' split
  all_goals simp

@[simp] theorem alarmResponse_untouched (s : State) :
    (alarmResponse s).mem = s.mem ∧ (alarmResponse s).pending = s.pending := by
  unfold alarmResponse
  split
  · exact ⟨rfl, rfl⟩
  · exact untouched_trans (foldl_untouched _ _ _ fun t n => by split <;> simp) (foldl_untouched _ _ _ fun t g => by split <;> simp)

theorem hkEnter_untouched (r : Bool × State) (err : Fld) (e : Ev) (ch : Option Nat) (alarm : Bool) : Untouched r.2 (hkEnter r err e ch alarm) := by
  unfold hkEnter
  split
  · dsimp only
    split
    · exact untouched_trans (flag_untouched ..) (untouched_trans (raise_untouched ..) (alarmResponse_untouched _))
    · exact untouched_trans (flag_untouched ..) (raise_untouched ..)
  · exact ⟨rfl, rfl⟩

@[simp] theorem limitChecks_untouched (s : State) :
    (limitChecks s).mem = s.mem ∧ (limitChecks s).pending = s.pending := by
  change Untouched s _
  have check (i n : Nat) (c : Option Nat) (q : Bool) (err : Fld) (e : Ev) (ch : Option Nat) (a : Bool) (t : State) :
      Untouched t (hkEnter (hkCheck i n c q t) err e ch a) := untouched_trans (hkCheck_untouched ..) (hkEnter_untouched ..)
  rw [limitChecks]
  exact untouched_trans (check ..) (untouched_trans (check ..) (untouched_trans (check ..) (untouched_trans (check ..)
    (untouched_trans (check ..) ⟨rfl, rfl⟩))))

@[simp] theorem tripCheck_untouched (s : State) :
    (tripCheck s).mem = s.mem ∧ (tripCheck s).pending = s.pending := by
  unfold tripCheck
  split <;> simp

@[simp] theorem crossCheck_untouched (s : State) :
    (crossCheck s).mem = s.mem ∧ (crossCheck s).pending = s.pending := by
  change Untouched s _
  have h (t : State) (l : List Nat) : Untouched t (l.foldl (fun s k => s.setBroken k true) t) := foldl_untouched _ _ _ fun t l => by simp
  rw [crossCheck]
  dsimp only
  split
  · exact modScm_untouched ..
  · exact untouched_trans (modScm_untouched ..) (untouched_trans (h _ _) (untouched_trans (flag_untouched ..) (raise_untouched ..)))

@[simp] theorem compensate_untouched (s : State) :
    (compensate s).mem = s.mem ∧ (compensate s).pending = s.pending := by
  simp [compensate]

@[simp] theorem sensorReinstate_untouched (c : Nat) (s : State) :
    (sensorReinstate c s).mem = s.mem ∧ (sensorReinstate c s).pending = s.pending := by
  simp [sensorReinstate]

@[simp] theorem modCal_untouched (s : State) (i : CalItem) (f : CalSt → CalSt) :
    (State.modCal s i f).mem = s.mem ∧ (State.modCal s i f).pending = s.pending := by
  simp [State.modCal]

@[simp] theorem calDiscard_untouched (i : CalItem) (s : State) :
    (calDiscard i s).mem = s.mem ∧ (calDiscard i s).pending = s.pending := by
  simp [calDiscard]

@[simp] theorem scmBoundary_untouched (s : State) :
    (scmBoundary s).mem = s.mem ∧ (scmBoundary s).pending = s.pending := by
  simp [scmBoundary]

@[simp] theorem repairAtStart_untouched (s : State) (e : RepairEntry) :
    (repairAtStart s e).mem = s.mem ∧ (repairAtStart s e).pending = s.pending := by
  simp [repairAtStart]

@[simp] theorem recordFail_untouched (s : State) (f : SelfFail) :
    (recordFail s f).mem = s.mem ∧ (recordFail s f).pending = s.pending := by
  simp [recordFail]

@[simp] theorem programRecord_untouched (s : State) (r : List Byte) :
    (programRecord s r).mem = s.mem ∧ (programRecord s r).pending = s.pending := by
  simp [programRecord]

@[simp] theorem scanRing_untouched (s : State) :
    (scanRing s).mem = s.mem ∧ (scanRing s).pending = s.pending := by
  simp [scanRing]

@[simp] theorem applyNetwork_untouched (s : State) :
    (applyNetwork s).mem = s.mem ∧ (applyNetwork s).pending = s.pending := by
  change Untouched s _
  have hput (t : State) (f : Fld) (v i : Nat) : Untouched t (t.put f v i) := ⟨put_mem .., put_pending ..⟩
  have hfold (t : State) (w : Nat → Nat) : Untouched t ((List.range 4).foldl (fun s i => s.put F.ethIp6Val (w i) i) t) :=
    foldl_untouched _ _ _ fun _ _ => ⟨rfl, rfl⟩
  have lock (t : State) (b : Bool) : Untouched t (if b then t.flag F.ethCtrlLock else t) := by
    split
    · exact flag_untouched ..
    · exact ⟨rfl, rfl⟩
  unfold applyNetwork
  dsimp only
  split
  · exact ⟨rfl, rfl⟩
  split
  · exact ⟨rfl, rfl⟩
  · refine untouched_trans ?_ (lock _ _)
    exact untouched_trans (hput ..) (untouched_trans (hfold _ _) (untouched_trans (hput ..) (untouched_trans (hput ..)
      (untouched_trans (hput ..) (untouched_trans (hput ..) (untouched_trans (hput ..) (untouched_trans (hput ..)
      (untouched_trans (hput ..) (hput ..)))))))))

@[simp] theorem appendState_untouched (slot : Nat) (r : Nat × Nat × Nat) (s : State) :
    (appendState slot r s).mem = s.mem ∧ (appendState slot r s).pending = s.pending := by
  simp [appendState]

@[simp] theorem trialBad_untouched (slot : Nat) (s : State) :
    (trialBad slot s).mem = s.mem ∧ (trialBad slot s).pending = s.pending := by
  unfold trialBad
  split <;> simp

@[simp] theorem trialSpent_untouched (s : State) (slot : Nat) :
    (trialSpent s slot).mem = s.mem ∧ (trialSpent s slot).pending = s.pending := by
  unfold trialSpent
  split <;> simp

@[simp] theorem activationEnd_untouched (running : Option Nat) (s : State) :
    (activationEnd running s).mem = s.mem ∧ (activationEnd running s).pending = s.pending := by
  unfold activationEnd
  split <;> simp

@[simp] theorem firstBoot_untouched (s : State) :
    (firstBoot s).mem = s.mem ∧ (firstBoot s).pending = s.pending := by
  simp [firstBoot]

@[simp] theorem startFirmware_untouched (slot : Nat) (s : State) :
    (startFirmware slot s).mem = s.mem ∧ (startFirmware slot s).pending = s.pending := by
  unfold startFirmware
  split <;> simp

@[simp] theorem restartSceum_untouched (cause : Nat) (s : State) :
    (restartSceum cause s).mem = s.mem ∧ (restartSceum cause s).pending = s.pending := by
  simp [restartSceum]

@[simp] theorem modCasc_untouched (s : State) (f : CascSt → CascSt) :
    (State.modCasc s f).mem = s.mem ∧ (State.modCasc s f).pending = s.pending := by
  simp [State.modCasc]

@[simp] theorem setCasc_untouched (s : State) (c : CascState) :
    (State.setCasc s c).mem = s.mem ∧ (State.setCasc s c).pending = s.pending := by
  simp [State.setCasc]

@[simp] theorem enterJoining_untouched (s : State) :
    (enterJoining s).mem = s.mem ∧ (enterJoining s).pending = s.pending := by
  simp [enterJoining]

@[simp] theorem cascStart_untouched (s : State) :
    (cascStart s).mem = s.mem ∧ (cascStart s).pending = s.pending := by
  simp [cascStart]

@[simp] theorem cascOff_untouched (s : State) :
    (cascOff s).mem = s.mem ∧ (cascOff s).pending = s.pending := by
  change Untouched s _
  have h (t : State) : Untouched t ((List.range 15).foldl (fun s l => s.setWord .cascLstat 0 l) t) := foldl_untouched _ _ _ fun t l => ⟨rfl, rfl⟩
  rw [cascOff]
  split
  · exact ⟨rfl, rfl⟩
  · exact untouched_trans (setCasc_untouched ..) (untouched_trans ⟨put_mem .., put_pending ..⟩ (untouched_trans ⟨put_mem .., put_pending ..⟩
      (untouched_trans ⟨put_mem .., put_pending ..⟩ (untouched_trans (h _) (modCasc_untouched ..)))))

@[simp] theorem cascRejoin_untouched (s : State) :
    (cascRejoin s).mem = s.mem ∧ (cascRejoin s).pending = s.pending := by
  unfold cascRejoin
  split <;> simp

@[simp] theorem cascCtrlWrite_untouched (v : Nat) (s : State) :
    (cascCtrlWrite v s).1.mem = s.mem ∧ (cascCtrlWrite v s).1.pending = s.pending := by
  simp [cascCtrlWrite]

@[simp] theorem cascLinkWrite_untouched (l v : Nat) (s : State) :
    (cascLinkWrite l v s).1.mem = s.mem ∧ (cascLinkWrite l v s).1.pending = s.pending := by
  unfold cascLinkWrite
  dsimp only
  repeat' split
  all_goals simp

@[simp] theorem nextService_untouched (l : Nat) (s : State) :
    (nextService l s).2.mem = s.mem ∧ (nextService l s).2.pending = s.pending := by
  unfold nextService
  dsimp only
  repeat' split
  all_goals simp

@[simp] theorem cascSignals_untouched (s : State) :
    (cascSignals s).mem = s.mem ∧ (cascSignals s).pending = s.pending := by
  simp [cascSignals]

@[simp] theorem cascBoundary_untouched (s : State) :
    (cascBoundary s).mem = s.mem ∧ (cascBoundary s).pending = s.pending := by
  change Untouched s _
  have h : Untouched s (cascSignals s) := cascSignals_untouched ..
  rw [cascBoundary]
  split
  · exact h
  · refine untouched_trans h (foldl_untouched _ _ _ fun t l => ?_)
    split
    · exact untouched_trans (nextService_untouched ..) (modLane_untouched ..)
    · exact ⟨rfl, rfl⟩

@[simp] theorem serviceReplay_untouched (l : Nat) (s : State) :
    (serviceReplay l s).mem = s.mem ∧ (serviceReplay l s).pending = s.pending := by
  simp [serviceReplay]

@[simp] theorem ackService_untouched (l ack : Nat) (s : State) :
    (ackService l ack s).mem = s.mem ∧ (ackService l ack s).pending = s.pending := by
  simp [ackService]

@[simp] theorem msgDiscard_untouched (l : Nat) (s : State) :
    (msgDiscard l s).mem = s.mem ∧ (msgDiscard l s).pending = s.pending := by
  simp [msgDiscard]

@[simp] theorem takeData_untouched (l : Nat) (body : List Byte) (s : State) :
    (takeData l body s).mem = s.mem ∧ (takeData l body s).pending = s.pending := by
  simp [takeData]

@[simp] theorem enterMismatch_untouched (l : Nat) (c : Compared) (s : State) :
    (enterMismatch l c s).mem = s.mem ∧ (enterMismatch l c s).pending = s.pending := by
  simp [enterMismatch]

@[simp] theorem cascLoad_untouched (theirs slot : Nat) (s : State) :
    (cascLoad theirs slot s).mem = s.mem ∧ (cascLoad theirs slot s).pending = s.pending := by
  change Untouched s _
  simp only [cascLoad]
  exact untouched_trans (setPair_untouched ..) (untouched_trans (mtOrbitLoad_untouched _)
    (untouched_trans (modCasc_untouched _ _) (raise_untouched ..)))

@[simp] theorem countMatch_untouched (s : State) :
    (countMatch s).mem = s.mem ∧ (countMatch s).pending = s.pending := by
  simp [countMatch]

@[simp] theorem upBlock_untouched (l : Nat) (c : Compared) (theirs slot : Nat) (s : State) :
    (upBlock l c theirs slot s).mem = s.mem ∧ (upBlock l c theirs slot s).pending = s.pending := by
  unfold upBlock
  split <;> simp

@[simp] theorem masterSeen_untouched (l : Nat) (upOk : Bool) (s : State) :
    (masterSeen l upOk s).mem = s.mem ∧ (masterSeen l upOk s).pending = s.pending := by
  simp [masterSeen]

@[simp] theorem compareBlock_untouched (l orbit cross : Nat) (s : State) :
    (compareBlock l orbit cross s).mem = s.mem ∧ (compareBlock l orbit cross s).pending = s.pending := by
  simp [compareBlock]

@[simp] theorem takeMessage_untouched (l typ : Nat) (s : State) :
    (takeMessage l typ s).2.mem = s.mem ∧ (takeMessage l typ s).2.pending = s.pending := by
  unfold takeMessage
  repeat' split
  all_goals simp

@[simp] theorem rollSeen_untouched (l : Nat) (m : List Byte) (s : State) :
    (rollSeen l m s).mem = s.mem ∧ (rollSeen l m s).pending = s.pending := by
  simp [rollSeen]

@[simp] theorem relayAborted_untouched (s : State) (r : Relay) :
    (relayAborted s r).mem = s.mem ∧ (relayAborted s r).pending = s.pending := by
  simp [relayAborted]

@[simp] theorem fabEdge_untouched (hits : Nat → Bool) (s : State) :
    (fabEdge hits s).mem = s.mem ∧ (fabEdge hits s).pending = s.pending := by
  simp [fabEdge]

@[simp] theorem spansTo_untouched (t : Nat) (s : State) :
    (spansTo t s).mem = s.mem ∧ (spansTo t s).pending = s.pending := by
  simp [spansTo]

@[simp] theorem fabRun_untouched (limit n : Nat) (s : State) :
    (fabRun limit n s).mem = s.mem ∧ (fabRun limit n s).pending = s.pending := by
  exact ⟨fabFrame_mem.fabRun .., fabFrame_pending.fabRun ..⟩

@[simp] theorem fabTo_untouched (limit : Nat) (s : State) :
    (fabTo limit s).mem = s.mem ∧ (fabTo limit s).pending = s.pending := by
  simp [fabTo]

@[simp] theorem keepCarried_untouched (s : State) :
    (keepCarried s).mem = s.mem ∧ (keepCarried s).pending = s.pending := by
  simp [keepCarried]

@[simp] theorem fabCross_untouched (s : State) :
    (fabCross s).mem = s.mem ∧ (fabCross s).pending = s.pending := by
  simp [fabCross]

@[simp] theorem fabIdle_untouched (s : State) :
    (fabIdle s).mem = s.mem ∧ (fabIdle s).pending = s.pending := by
  simp [fabIdle]

@[simp] theorem codedWrite_untouched (r : RegName) (i j : Nat) (v : Word) (s : State) :
    (codedWrite r i j v s).1.mem = s.mem ∧ (codedWrite r i j v s).1.pending = s.pending := by
  simp [codedWrite]

@[simp] theorem sendCtl_untouched (k : CtlKind) (answer : Bool) (dest : Peer) (s : State) :
    (sendCtl k answer dest s).mem = s.mem ∧ (sendCtl k answer dest s).pending = s.pending := by
  simp [sendCtl]

@[simp] theorem ethSwitch_untouched (port : Bool) (s : State) :
    (ethSwitch port s).mem = s.mem ∧ (ethSwitch port s).pending = s.pending := by
  change Untouched s _
  rw [ethSwitch]
  refine untouched_trans ⟨putBit_mem .., putBit_pending ..⟩ (untouched_trans ⟨putBit_mem .., putBit_pending ..⟩ (untouched_trans 
    (foldl_untouched _ _ _ fun t a => sendCtl_untouched ..) (untouched_trans (foldl_untouched _ _ _ fun t a => sendCtl_untouched ..)
    (untouched_trans (flag_untouched ..) (raise_untouched ..)))))

@[simp] theorem ethActiveWrite_untouched (port : Bool) (s : State) :
    (ethActiveWrite port s).mem = s.mem ∧ (ethActiveWrite port s).pending = s.pending := by
  simp [ethActiveWrite]

@[simp] theorem ethCtrlWrite_untouched (v : Word) (s : State) :
    (ethCtrlWrite v s).1.mem = s.mem ∧ (ethCtrlWrite v s).1.pending = s.pending := by
  simp [ethCtrlWrite]

@[simp] theorem clearRc_untouched (r : RegName) (i j : Nat) (s : State) :
    (clearRc r i j s).mem = s.mem ∧ (clearRc r i j s).pending = s.pending := by
  simp [clearRc]

@[simp] theorem readBlock_untouched (b : Block) (addr : Nat) (quiet : Bool) (s : State) :
    (readBlock b addr quiet s).2.mem = s.mem ∧ (readBlock b addr quiet s).2.pending = s.pending := by
  unfold readBlock
  repeat' split
  all_goals simp

@[simp] theorem regRead_untouched (addr : Nat) (quiet : Bool) (s : State) :
    (regRead addr quiet s).2.2.mem = s.mem ∧ (regRead addr quiet s).2.2.pending = s.pending := by
  unfold regRead
  repeat' split
  all_goals simp

@[simp] theorem takeSlice_untouched (i : Nat) (s : State) :
    (takeSlice i s).mem = s.mem ∧ (takeSlice i s).pending = s.pending := by
  unfold takeSlice
  exact foldl_untouched _ _ _ fun t x => ⟨rfl, rfl⟩

@[simp] theorem takeSlices_untouched (s : State) :
    (takeSlices s).mem = s.mem ∧ (takeSlices s).pending = s.pending := by
  exact foldl_untouched _ _ _ fun _ _ => foldl_untouched _ _ _ fun _ _ => takeSlice_untouched ..

@[simp] theorem loadFailSomewhere_untouched (code frame : Nat) (s : State) :
    (loadFailSomewhere code frame s).mem = s.mem ∧ (loadFailSomewhere code frame s).pending = s.pending := by
  simp [loadFailSomewhere]

@[simp] theorem takeContexts_untouched (s : State) :
    (takeContexts s).mem = s.mem ∧ (takeContexts s).pending = s.pending := by
  change Untouched s _
  have h : Untouched s ((List.range 192).foldl (fun t n => t.put F.fabHoopCfgCtxValid (s.filled n) n) s) :=
    foldl_untouched _ _ _ fun _ _ => ⟨rfl, rfl⟩
  rw [takeContexts]
  generalize List.foldl _ s _ = t at h
  split
  · exact ⟨rfl, rfl⟩
  · exact ⟨h.1, h.2⟩

@[simp] theorem takeGroup_untouched (n : Nat) (s : State) :
    (takeGroup n s).mem = s.mem ∧ (takeGroup n s).pending = s.pending := by
  simp [takeGroup]

@[simp] theorem loadOk_untouched (s : State) :
    (loadOk s).mem = s.mem ∧ (loadOk s).pending = s.pending := by
  unfold loadOk
  dsimp only
  split <;> simp

@[simp] theorem fullDone_untouched (s : State) :
    (fullDone s).mem = s.mem ∧ (fullDone s).pending = s.pending := by
  change Untouched s _
  have h (b : Nat) (t : State) : Untouched t ((List.range 192).foldl (fun s n => s.setPair .cfgHbuildLo .cfgHbuildHi b n) t) :=
    foldl_untouched _ _ _ fun _ _ => setPair_untouched ..
  rw [fullDone]
  generalize s.folioBuild = b
  generalize hl : List.range 192 = l at h
  have h0 : Untouched s (s.setPair .cfgBuildLo .cfgBuildHi b) := setPair_untouched ..
  generalize s.setPair .cfgBuildLo .cfgBuildHi b = t at h0
  exact untouched_trans h0 (untouched_trans (h b t) (loadOk_untouched _))

@[simp] theorem hoopDone_untouched (s : State) :
    (hoopDone s).mem = s.mem ∧ (hoopDone s).pending = s.pending := by
  simp [hoopDone]

@[simp] theorem modCbank_untouched (s : State) (n : Nat) (f : CoreBank → CoreBank) :
    (State.modCbank s n f).mem = s.mem ∧ (State.modCbank s n f).pending = s.pending := by
  simp [State.modCbank]

@[simp] theorem setX_untouched (n rd : Nat) (v : Word) (s : State) :
    (setX n rd v s).mem = s.mem ∧ (setX n rd v s).pending = s.pending := by
  simp [setX]

@[simp] theorem finish_untouched (n rd : Nat) (v : Word) (next : Nat) (s : State) :
    (finish n rd v next s).mem = s.mem ∧ (finish n rd v next s).pending = s.pending := by
  simp [finish]

@[simp] theorem csrStore_untouched (n num v : Nat) (s : State) :
    (csrStore n num v s).mem = s.mem ∧ (csrStore n num v s).pending = s.pending := by
  simp [csrStore]

@[simp] theorem cycleSync_untouched (n : Nat) (s : State) :
    (cycleSync n s).mem = s.mem ∧ (cycleSync n s).pending = s.pending := by
  simp [cycleSync]

@[simp] theorem csrRead_untouched (n num : Nat) (s : State) :
    (csrRead n num s).2.mem = s.mem ∧ (csrRead n num s).2.pending = s.pending := by
  unfold csrRead
  repeat' split
  all_goals simp

@[simp] theorem csrWrite_untouched (n num v : Nat) (s : State) :
    (csrWrite n num v s).mem = s.mem ∧ (csrWrite n num v s).pending = s.pending := by
  unfold csrWrite
  split <;> simp

@[simp] theorem coreTrap_untouched (n cause tval : Nat) (s : State) :
    (coreTrap n cause tval s).mem = s.mem ∧ (coreTrap n cause tval s).pending = s.pending := by
  simp [coreTrap]

@[simp] theorem recordLd_untouched (n : Nat) (st : Status) (s : State) :
    (recordLd n st s).mem = s.mem ∧ (recordLd n st s).pending = s.pending := by
  simp [recordLd]

@[simp] theorem coreCsr_untouched (n : Nat) (op : CsrOp) (imm : Bool) (rd rs1 num next : Nat) (s : State) :
    (coreCsr n op imm rd rs1 num next s).mem = s.mem ∧ (coreCsr n op imm rd rs1 num next s).pending = s.pending := by
  change Untouched s _
  rw [coreCsr]
  extract_lets x r new s' counts s''
  have hr : Untouched s r.2 := by
    dsimp only [r]
    split
    · exact ⟨rfl, rfl⟩
    · exact csrRead_untouched ..
  have hs' : Untouched s s' := by
    dsimp only [s']
    split
    · exact untouched_trans hr (csrWrite_untouched ..)
    · exact hr
  have hs'' : Untouched s s'' := by
    dsimp only [s'']
    split
    · exact untouched_trans hs' (modCore_untouched ..)
    · exact hs'
  clear_value r s' s''
  split
  · exact coreTrap_untouched ..
  · exact untouched_trans hs'' (finish_untouched ..)

@[simp] theorem coreMret_untouched (n : Nat) (s : State) :
    (coreMret n s).mem = s.mem ∧ (coreMret n s).pending = s.pending := by
  simp [coreMret]

@[simp] theorem coreWait_untouched (n : Nat) (s : State) :
    (coreWait n s).mem = s.mem ∧ (coreWait n s).pending = s.pending := by
  simp [coreWait]

@[simp] theorem wxNext_untouched (n rs1 next : Nat) (s : State) :
    (wxNext n rs1 next s).mem = s.mem ∧ (wxNext n rs1 next s).pending = s.pending := by
  unfold wxNext
  dsimp only
  repeat' split
  all_goals simp

@[simp] theorem wxTokenInstr_untouched (n rd rs1 rs2 next : Nat) (s : State) :
    (wxTokenInstr n rd rs1 rs2 next s).mem = s.mem ∧ (wxTokenInstr n rd rs1 rs2 next s).pending = s.pending := by
  simp [wxTokenInstr]

@[simp] theorem modDbg_untouched (s : State) (f : DbgSt → DbgSt) :
    (State.modDbg s f).mem = s.mem ∧ (State.modDbg s f).pending = s.pending := by
  simp [State.modDbg]

@[simp] theorem pinsTaken_untouched (s : State) :
    (pinsTaken s).mem = s.mem ∧ (pinsTaken s).pending = s.pending := by
  change Untouched s _
  rw [pinsTaken]
  refine untouched_trans (s := s) ?_ (foldl_untouched _ _ _ fun _ _ => modNear_untouched ..)
  have h : Untouched s ((List.range 36).foldl (fun s c => loseChannel c s) s) := foldl_untouched _ _ _ fun _ _ => loseChannel_untouched ..
  exact h

@[simp] theorem pinsBack_untouched (s : State) :
    (pinsBack s).mem = s.mem ∧ (pinsBack s).pending = s.pending := by
  exact foldl_untouched _ _ _ fun _ _ => foldl_untouched _ _ _ fun _ _ => enterRetrain_untouched ..

@[simp] theorem takeIr_untouched (code : Nat) (s : State) :
    (takeIr code s).mem = s.mem ∧ (takeIr code s).pending = s.pending := by
  simp [takeIr]

@[simp] theorem bsScan_untouched (pins shift : List (BsCell × Bool)) (s : State) :
    (bsScan pins shift s).mem = s.mem ∧ (bsScan pins shift s).pending = s.pending := by
  simp [bsScan]

@[simp] theorem bsDrive_untouched (code : Nat) (pins shift : List (BsCell × Bool)) (s : State) :
    (bsDrive code pins shift s).mem = s.mem ∧ (bsDrive code pins shift s).pending = s.pending := by
  simp [bsDrive]

@[simp] theorem haltRequest_untouched (n : Nat) (s : State) :
    (haltRequest n s).mem = s.mem ∧ (haltRequest n s).pending = s.pending := by
  simp [haltRequest]

@[simp] theorem coreResume_untouched (n : Nat) (s : State) :
    (coreResume n s).mem = s.mem ∧ (coreResume n s).pending = s.pending := by
  simp [coreResume]

@[simp] theorem coreStepStart_untouched (n : Nat) (s : State) :
    (coreStepStart n s).2.mem = s.mem ∧ (coreStepStart n s).2.pending = s.pending := by
  unfold coreStepStart
  repeat' split
  all_goals simp

theorem inBank_untouched {α : Type} {f : State → α × State} (h : ∀ s, Untouched s (f s).2) (n : Nat) (urgent : Bool) (s : State) :
    Untouched s (inBank n urgent f s).2 :=
  untouched_trans (setQSt_untouched ..) (untouched_trans (h _) (setQSt_untouched ..))

@[simp] theorem dbgRegGet_untouched (n no : Nat) (s : State) :
    (dbgRegGet n no s).2.mem = s.mem ∧ (dbgRegGet n no s).2.pending = s.pending := by
  unfold dbgRegGet
  repeat' split
  all_goals simp

@[simp] theorem dbgRegPut_untouched (n no v : Nat) (s : State) :
    (dbgRegPut n no v s).2.mem = s.mem ∧ (dbgRegPut n no v s).2.pending = s.pending := by
  unfold dbgRegPut
  repeat' split
  all_goals simp

@[simp] theorem qcRegRead_untouched (n : Nat) (s : State) :
    (qcRegRead n s).2.mem = s.mem ∧ (qcRegRead n s).2.pending = s.pending := by
  change Untouched s _
  rw [qcRegRead]
  split
  · exact ⟨rfl, rfl⟩
  split
  · exact untouched_trans (fresh_untouched ..) ⟨put_mem .., put_pending ..⟩
  have h := inBank_untouched (f := dbgRegGet n (s.get F.dbgQcRegnoVal)) (fun t => dbgRegGet_untouched ..) n (s.bit F.dbgQcSelBank) s
  split <;> rename_i hr <;> rw [hr] at h
  · exact untouched_trans h ⟨put_mem .., put_pending ..⟩
  · exact h

@[simp] theorem qcRegWrite_untouched (n : Nat) (s : State) :
    (qcRegWrite n s).2.mem = s.mem ∧ (qcRegWrite n s).2.pending = s.pending := by
  change Untouched s _
  rw [qcRegWrite]
  split
  · exact ⟨rfl, rfl⟩
  split
  · exact ⟨rfl, rfl⟩
  have h := inBank_untouched (f := dbgRegPut n (s.get F.dbgQcRegnoVal) (s.get F.dbgQcDataVal)) (fun t => dbgRegPut_untouched ..) n (s.bit F.dbgQcSelBank) s
  generalize inBank _ _ _ s = r at h
  dsimp only
  split
  · exact h
  · exact ⟨rfl, rfl⟩

@[simp] theorem qcAll_untouched (halt : Bool) (cores : List Nat) (s : State) :
    (qcAll halt cores s).2.mem = s.mem ∧ (qcAll halt cores s).2.pending = s.pending := by
  change Untouched s _
  rw [qcAll]
  split
  · exact ⟨rfl, rfl⟩
  split
  · exact foldl_untouched _ _ _ fun _ _ => haltRequest_untouched ..
  split
  · exact foldl_untouched _ _ _ fun _ _ => coreResume_untouched ..
  · exact foldl_untouched _ _ _ fun _ _ => coreResume_untouched ..

@[simp] theorem qcCommand_untouched (v : Nat) (s : State) :
    (qcCommand v s).2.mem = s.mem ∧ (qcCommand v s).2.pending = s.pending := by
  unfold qcCommand
  dsimp only
  repeat' split
  all_goals simp

@[simp] theorem qcWrite_untouched (v : Nat) (s : State) :
    (qcWrite v s).mem = s.mem ∧ (qcWrite v s).pending = s.pending := by
  simp [qcWrite]

@[simp] theorem dbgCtrlWrite_untouched (v : Word) (s : State) :
    (dbgCtrlWrite v s).mem = s.mem ∧ (dbgCtrlWrite v s).pending = s.pending := by
  simp [dbgCtrlWrite]

@[simp] theorem dbgConnectWrite_untouched (v : Nat) (s : State) :
    (dbgConnectWrite v s).mem = s.mem ∧ (dbgConnectWrite v s).pending = s.pending := by
  simp [dbgConnectWrite]

@[simp] theorem dbgBlockWrite_untouched (addr : Nat) (v : Word) (s : State) :
    (dbgBlockWrite addr v s).mem = s.mem ∧ (dbgBlockWrite addr v s).pending = s.pending := by
  unfold dbgBlockWrite
  split <;> simp

@[simp] theorem dbgResult_untouched (st data : Nat) (poison : Bool) (s : State) :
    (dbgResult st data poison s).mem = s.mem ∧ (dbgResult st data poison s).pending = s.pending := by
  simp [dbgResult]

@[simp] theorem dbgCapture_untouched (s : State) :
    (dbgCapture s).mem = s.mem ∧ (dbgCapture s).pending = s.pending := by
  simp [dbgCapture]

@[simp] theorem dbgMemory_untouched (c : DbgCmd) (addr : Nat) (s : State) :
    (dbgMemory c addr s).mem = s.mem ∧ (dbgMemory c addr s).pending = s.pending := by
  unfold dbgMemory
  repeat' split
  all_goals simp

@[simp] theorem unlockCheck_untouched (s : State) :
    (unlockCheck s).mem = s.mem ∧ (unlockCheck s).pending = s.pending := by
  simp [unlockCheck]

@[simp] theorem monAnswer_untouched (st : Nat) (vals : List Nat) (s : State) :
    (monAnswer st vals s).mem = s.mem ∧ (monAnswer st vals s).pending = s.pending := by
  simp [monAnswer]

@[simp] theorem refuse_untouched (status : Nat) (s : State) :
    (refuse status s).state.mem = s.mem ∧ (refuse status s).state.pending = s.pending := by
  simp [refuse]

@[simp] theorem hostAccepted_untouched (c : HostCtx) (op obj first count : Nat) (s : State) :
    (hostAccepted c op obj first count s).state.mem = s.mem ∧ (hostAccepted c op obj first count s).state.pending = s.pending := by
  simp [hostAccepted]

theorem guarded_untouched {f : HostFn} (h : ∀ c s, Untouched s (f c s).state) (op : Nat) (c : HostCtx) (s : State) : Untouched s (guarded op f c s).state := by
  rw [guarded]
  split
  · exact refuse_untouched ..
  · exact h c s

@[simp] theorem hostClose_untouched (x : HostCtx) (s : State) :
    (hostClose x s).state.mem = s.mem ∧ (hostClose x s).state.pending = s.pending := by
  unfold hostClose
  split <;> simp

@[simp] theorem hostPing_untouched (x : HostCtx) (s : State) :
    (hostPing x s).state.mem = s.mem ∧ (hostPing x s).state.pending = s.pending := by
  simp [hostPing]

@[simp] theorem hostList_untouched (x : HostCtx) (s : State) :
    (hostList x s).state.mem = s.mem ∧ (hostList x s).state.pending = s.pending := by
  simp [hostList]

@[simp] theorem hostSubscribe_untouched (x : HostCtx) (s : State) :
    (hostSubscribe x s).state.mem = s.mem ∧ (hostSubscribe x s).state.pending = s.pending := by
  unfold hostSubscribe
  split <;> simp

@[simp] theorem hostEvents_untouched (x : HostCtx) (s : State) :
    (hostEvents x s).state.mem = s.mem ∧ (hostEvents x s).state.pending = s.pending := by
  unfold hostEvents
  dsimp only
  split <;> simp

@[simp] theorem hostInfo_untouched (x : HostCtx) (s : State) :
    (hostInfo x s).state.mem = s.mem ∧ (hostInfo x s).state.pending = s.pending := by
  simp [hostInfo]

@[simp] theorem hostSnap_untouched (x : HostCtx) (s : State) :
    (hostSnap x s).state.mem = s.mem ∧ (hostSnap x s).state.pending = s.pending := by
  simp [hostSnap]

@[simp] theorem accessReply_untouched (done : Nat) (st : Status) (data : List Nat) (s : State) :
    (accessReply done st data s).state.mem = s.mem ∧ (accessReply done st data s).state.pending = s.pending := by
  simp [accessReply]

@[simp] theorem regsRead_untouched (done : Nat) (data : List Nat) (s : State) (x : List Nat) :
    (regsRead done data s x).state.mem = s.mem ∧ (regsRead done data s x).state.pending = s.pending := by
  change Untouched s _
  induction x generalizing done data s with
  | nil => exact accessReply_untouched ..
  | cons a rest ih =>
    rw [regsRead]
    have h : Untouched s (regRead a false s).2.2 := regRead_untouched ..
    split <;> rename_i hr <;> rw [hr] at h
    · exact untouched_trans h (ih ..)
    · exact untouched_trans h (accessReply_untouched ..)

@[simp] theorem hostRegRead_untouched (x : HostCtx) (s : State) :
    (hostRegRead x s).state.mem = s.mem ∧ (hostRegRead x s).state.pending = s.pending := by
  simp [hostRegRead]

@[simp] theorem refuseAddr_untouched (addr st : Nat) (s : State) :
    (refuseAddr addr st s).state.mem = s.mem ∧ (refuseAddr addr st s).state.pending = s.pending := by
  simp [refuseAddr]

theorem hostLoad_untouched {start : State → State × Status} (h : ∀ s, Untouched s (start s).1) (c : HostCtx) (op addr len : Nat) (memory : Bool)
    (s : State) : Untouched s (hostLoad c op addr len memory start s).state := by
  unfold hostLoad
  split
  · exact refuse_untouched ..
  extract_lets t r
  have ht : Untouched s t := by
    simp only [t]
    split
    · exact untouched_trans (setPair_untouched ..) ⟨put_mem .., put_pending ..⟩
    · exact ⟨rfl, rfl⟩
  clear_value t
  have hr : Untouched t r.1 := h t
  clear_value r
  split
  · exact untouched_trans ht (untouched_trans hr (untouched_trans (modLoader_untouched ..) (hostAccepted_untouched ..)))
  · exact refuse_untouched ..

@[simp] theorem hostFolioLoad_untouched (c : HostCtx) (s : State) :
    (hostFolioLoad c s).state.mem = s.mem ∧ (hostFolioLoad c s).state.pending = s.pending := by
  change Untouched s _
  unfold hostFolioLoad
  dsimp only
  split
  · exact refuse_untouched ..
  · exact hostLoad_untouched (fun t => loadFull_untouched ..) ..

@[simp] theorem hostHoopLoad_untouched (c : HostCtx) (s : State) :
    (hostHoopLoad c s).state.mem = s.mem ∧ (hostHoopLoad c s).state.pending = s.pending := by
  change Untouched s _
  unfold hostHoopLoad
  dsimp only
  split
  · exact refuse_untouched ..
  · exact hostLoad_untouched (fun t => loadHoop_untouched ..) ..

@[simp] theorem hostHoopCmd_untouched (x : HostCtx) (s : State) :
    (hostHoopCmd x s).state.mem = s.mem ∧ (hostHoopCmd x s).state.pending = s.pending := by
  unfold hostHoopCmd
  dsimp only
  repeat' split
  all_goals simp

@[simp] theorem hostDomain_untouched (x : HostCtx) (s : State) :
    (hostDomain x s).state.mem = s.mem ∧ (hostDomain x s).state.pending = s.pending := by
  unfold hostDomain
  dsimp only
  repeat' split
  all_goals simp

@[simp] theorem reinstated_untouched (r : RegName) (i j : Nat) (s : State) :
    (reinstated r i j s).state.mem = s.mem ∧ (reinstated r i j s).state.pending = s.pending := by
  simp [reinstated]

@[simp] theorem reinstateBank_untouched (c : HostCtx) (id : BankId) (r : RegName) (s : State) :
    (reinstateBank c id r s).state.mem = s.mem ∧ (reinstateBank c id r s).state.pending = s.pending := by
  change Untouched s _
  have h : Untouched s (bankReinstate id s).2 := bankReinstate_untouched ..
  rw [reinstateBank]
  split <;> rename_i hr <;> rw [hr] at h
  · exact untouched_trans h (reinstated_untouched ..)
  · exact untouched_trans h (hostAccepted_untouched ..)
  · exact untouched_trans h (refuse_untouched ..)

@[simp] theorem hostReinstate_untouched (x : HostCtx) (s : State) :
    (hostReinstate x s).state.mem = s.mem ∧ (hostReinstate x s).state.pending = s.pending := by
  unfold hostReinstate
  dsimp only
  repeat' split
  all_goals simp

@[simp] theorem hostLookback_untouched (x : HostCtx) (s : State) :
    (hostLookback x s).state.mem = s.mem ∧ (hostLookback x s).state.pending = s.pending := by
  simp [hostLookback]

@[simp] theorem hostFlashRead_untouched (x : HostCtx) (s : State) :
    (hostFlashRead x s).state.mem = s.mem ∧ (hostFlashRead x s).state.pending = s.pending := by
  unfold hostFlashRead
  dsimp only
  split <;> simp

@[simp] theorem flashProgram_untouched (ofs : Nat) (data : List Byte) (s : State) :
    (flashProgram ofs data s).2.mem = s.mem ∧ (flashProgram ofs data s).2.pending = s.pending := by
  simp [flashProgram]

@[simp] theorem hostFlashWrite_untouched (x : HostCtx) (s : State) :
    (hostFlashWrite x s).state.mem = s.mem ∧ (hostFlashWrite x s).state.pending = s.pending := by
  unfold hostFlashWrite
  dsimp only
  split <;> simp

@[simp] theorem hostFlashErase_untouched (x : HostCtx) (s : State) :
    (hostFlashErase x s).state.mem = s.mem ∧ (hostFlashErase x s).state.pending = s.pending := by
  unfold hostFlashErase
  dsimp only
  repeat' split
  all_goals simp

@[simp] theorem hostKeyLoad_untouched (x : HostCtx) (s : State) :
    (hostKeyLoad x s).state.mem = s.mem ∧ (hostKeyLoad x s).state.pending = s.pending := by
  unfold hostKeyLoad
  dsimp only
  repeat' split
  all_goals simp

@[simp] theorem hostKeyErase_untouched (x : HostCtx) (s : State) :
    (hostKeyErase x s).state.mem = s.mem ∧ (hostKeyErase x s).state.pending = s.pending := by
  simp [hostKeyErase]

@[simp] theorem setOpKey_untouched (s : State) (n : Nat) (k : OpKey) :
    (State.setOpKey s n k).mem = s.mem ∧ (State.setOpKey s n k).pending = s.pending := by
  simp [State.setOpKey]

@[simp] theorem hostOpkeyAdd_untouched (ok : Bool) (x : HostCtx) (s : State) :
    (hostOpkeyAdd ok x s).state.mem = s.mem ∧ (hostOpkeyAdd ok x s).state.pending = s.pending := by
  unfold hostOpkeyAdd
  dsimp only
  repeat' split
  all_goals simp

@[simp] theorem keyGone_untouched (n : Nat) (s : State) :
    (keyGone n s).mem = s.mem ∧ (keyGone n s).pending = s.pending := by
  unfold keyGone
  exact foldl_untouched _ _ _ fun t x => by simp

@[simp] theorem hostOpkeyRevoke_untouched (x : HostCtx) (s : State) :
    (hostOpkeyRevoke x s).state.mem = s.mem ∧ (hostOpkeyRevoke x s).state.pending = s.pending := by
  unfold hostOpkeyRevoke
  dsimp only
  repeat' split
  all_goals simp

@[simp] theorem setPolicy_untouched (s : State) (k : Nat) :
    (State.setPolicy s k).mem = s.mem ∧ (State.setPolicy s k).pending = s.pending := by
  simp [State.setPolicy]

@[simp] theorem otpFailed_untouched (s : State) (k : Nat) :
    (State.otpFailed s k).mem = s.mem ∧ (State.otpFailed s k).pending = s.pending := by
  simp [State.otpFailed]

@[simp] theorem policyReply_untouched (s : State) :
    (policyReply s).state.mem = s.mem ∧ (policyReply s).state.pending = s.pending := by
  simp [policyReply]

@[simp] theorem hostVkeyWrite_untouched (ok : Bool) (x : HostCtx) (s : State) :
    (hostVkeyWrite ok x s).state.mem = s.mem ∧ (hostVkeyWrite ok x s).state.pending = s.pending := by
  unfold hostVkeyWrite
  dsimp only
  repeat' split
  all_goals simp

@[simp] theorem hostVkeyRevoke_untouched (x : HostCtx) (s : State) :
    (hostVkeyRevoke x s).state.mem = s.mem ∧ (hostVkeyRevoke x s).state.pending = s.pending := by
  unfold hostVkeyRevoke
  dsimp only
  repeat' split
  all_goals simp

@[simp] theorem hostFkeyWrite_untouched (ok : Bool) (x : HostCtx) (s : State) :
    (hostFkeyWrite ok x s).state.mem = s.mem ∧ (hostFkeyWrite ok x s).state.pending = s.pending := by
  unfold hostFkeyWrite
  dsimp only
  repeat' split
  all_goals simp

@[simp] theorem hostPolicySet_untouched (ok : Bool) (x : HostCtx) (s : State) :
    (hostPolicySet ok x s).state.mem = s.mem ∧ (hostPolicySet ok x s).state.pending = s.pending := by
  unfold hostPolicySet
  dsimp only
  repeat' split
  all_goals simp

@[simp] theorem hostSensorRead_untouched (x : HostCtx) (s : State) :
    (hostSensorRead x s).state.mem = s.mem ∧ (hostSensorRead x s).state.pending = s.pending := by
  simp [hostSensorRead]

@[simp] theorem scmReply_untouched (s : State) :
    (scmReply s).state.mem = s.mem ∧ (scmReply s).state.pending = s.pending := by
  simp [scmReply]

@[simp] theorem hostSensorReinstate_untouched (x : HostCtx) (s : State) :
    (hostSensorReinstate x s).state.mem = s.mem ∧ (hostSensorReinstate x s).state.pending = s.pending := by
  unfold hostSensorReinstate
  dsimp only
  split <;> simp

@[simp] theorem hostTripClear_untouched (x : HostCtx) (s : State) :
    (hostTripClear x s).state.mem = s.mem ∧ (hostTripClear x s).state.pending = s.pending := by
  unfold hostTripClear
  repeat' split
  all_goals simp

@[simp] theorem hostCalRead_untouched (x : HostCtx) (s : State) :
    (hostCalRead x s).state.mem = s.mem ∧ (hostCalRead x s).state.pending = s.pending := by
  simp [hostCalRead]

@[simp] theorem hostSelftestRead_untouched (x : HostCtx) (s : State) :
    (hostSelftestRead x s).state.mem = s.mem ∧ (hostSelftestRead x s).state.pending = s.pending := by
  unfold hostSelftestRead
  dsimp only
  split <;> simp

@[simp] theorem repairNow_untouched (s : State) (e : RepairEntry) :
    (repairNow s e).mem = s.mem ∧ (repairNow s e).pending = s.pending := by
  simp [repairNow]

@[simp] theorem hostRepair_untouched (c : HostCtx) (s : State) :
    (hostRepair c s).state.mem = s.mem ∧ (hostRepair c s).state.pending = s.pending := by
  change Untouched s _
  unfold hostRepair
  exact untouched_trans (repairMap_untouched s) (untouched_trans (foldl_untouched _ _ _ fun _ _ => repairNow_untouched ..) (hostAccepted_untouched ..))

@[simp] theorem hostBlotter_untouched (x : HostCtx) (s : State) :
    (hostBlotter x s).state.mem = s.mem ∧ (hostBlotter x s).state.pending = s.pending := by
  unfold hostBlotter
  dsimp only
  split <;> simp

@[simp] theorem hostFwActivate_untouched (x : HostCtx) (s : State) :
    (hostFwActivate x s).state.mem = s.mem ∧ (hostFwActivate x s).state.pending = s.pending := by
  unfold hostFwActivate
  dsimp only
  repeat' split
  all_goals simp

@[simp] theorem hostFwConfirm_untouched (x : HostCtx) (s : State) :
    (hostFwConfirm x s).state.mem = s.mem ∧ (hostFwConfirm x s).state.pending = s.pending := by
  unfold hostFwConfirm
  dsimp only
  repeat' split
  all_goals simp

@[simp] theorem hostFwStatus_untouched (x : HostCtx) (s : State) :
    (hostFwStatus x s).state.mem = s.mem ∧ (hostFwStatus x s).state.pending = s.pending := by
  simp [hostFwStatus]

@[simp] theorem openBlock_untouched (s : State) (n : Nat) :
    (openBlock s n).2.mem = s.mem ∧ (openBlock s n).2.pending = s.pending := by
  change Untouched s _
  induction n generalizing s with
  | zero => exact ⟨rfl, rfl⟩
  | succ n ih =>
    rw [openBlock]
    extract_lets left t o u v
    have hu : Untouched s u := ⟨rfl, rfl⟩
    clear_value t o u
    have hv : Untouched u v := by
      simp only [v]
      split
      · exact raise_untouched ..
      · exact ⟨rfl, rfl⟩
    clear_value v
    split
    · exact ⟨rfl, rfl⟩
    split
    · exact untouched_trans hu (untouched_trans hv (ih v))
    · exact untouched_trans hu (untouched_trans hv (modScm_untouched ..))

@[simp] theorem takeLeaf_untouched (s : State) :
    (takeLeaf s).2.mem = s.mem ∧ (takeLeaf s).2.pending = s.pending := by
  unfold takeLeaf
  dsimp only
  repeat' split
  all_goals simp

@[simp] theorem hostAttest_untouched (c : HostCtx) (s : State) :
    (hostAttest c s).state.mem = s.mem ∧ (hostAttest c s).state.pending = s.pending := by
  change Untouched s _
  have h : Untouched s (takeLeaf s).2 := takeLeaf_untouched ..
  suffices key : ∀ g, g = hostAttest → Untouched s (g c s).state from key _ rfl
  intro g hg
  delta hostAttest at hg
  have e := congrFun (congrFun hg c) s
  beta_reduce at e
  rw [e]
  clear e hg
  generalize takeLeaf s = r at h
  obtain ⟨leaf, t⟩ := r
  split
  · exact refuse_untouched ..
  split
  · exact refuse_untouched ..
  cases leaf with
  | none => exact untouched_trans h (refuse_untouched ..)
  | some leaf => exact ⟨h.1, h.2⟩

@[simp] theorem hostIdentity_untouched (x : HostCtx) (s : State) :
    (hostIdentity x s).state.mem = s.mem ∧ (hostIdentity x s).state.pending = s.pending := by
  simp [hostIdentity]

@[simp] theorem ethDropped_untouched (s : State) :
    (ethDropped s).mem = s.mem ∧ (ethDropped s).pending = s.pending := by
  simp [ethDropped]

@[simp] theorem ethUnsupported_untouched (s : State) :
    (ethUnsupported s).mem = s.mem ∧ (ethUnsupported s).pending = s.pending := by
  simp [ethUnsupported]

@[simp] theorem ethLimited_untouched (s : State) :
    (ethLimited s).mem = s.mem ∧ (ethLimited s).pending = s.pending := by
  simp [ethLimited]

@[simp] theorem ethAuthFail_untouched (s : State) :
    (ethAuthFail s).mem = s.mem ∧ (ethAuthFail s).pending = s.pending := by
  simp [ethAuthFail]

@[simp] theorem openReceived_untouched (h : ReqHead) (b : List Nat) (from_ : Peer) (s : State) :
    (openReceived h b from_ s).mem = s.mem ∧ (openReceived h b from_ s).pending = s.pending := by
  unfold openReceived
  split <;> simp

@[simp] theorem acceptRequest_untouched (k : Nat) (h : ReqHead) (s : State) :
    (acceptRequest k h s).mem = s.mem ∧ (acceptRequest k h s).pending = s.pending := by
  simp [acceptRequest]

@[simp] theorem resendReceived_untouched (k : Nat) (h : ReqHead) (s : State) :
    (resendReceived k h s).mem = s.mem ∧ (resendReceived k h s).pending = s.pending := by
  simp [resendReceived]

@[simp] theorem sequenced_untouched (k : Nat) (h : ReqHead) (s : State) :
    (sequenced k h s).mem = s.mem ∧ (sequenced k h s).pending = s.pending := by
  simp [sequenced]

@[simp] theorem sessionReceived_untouched (k : Nat) (h : ReqHead) (from_ : Peer) (s : State) :
    (sessionReceived k h from_ s).mem = s.mem ∧ (sessionReceived k h from_ s).pending = s.pending := by
  change Untouched s _
  suffices key : ∀ g, g = sessionReceived → Untouched s (g k h from_ s) from key _ rfl
  intro g hg
  delta sessionReceived at hg
  have e := congrFun (congrFun (congrFun (congrFun hg k) h) from_) s
  beta_reduce at e
  extract_lets s' sess dev at e
  have hs' : Untouched s s' := modSess_untouched ..
  clear_value s' sess dev
  rw [e]
  refine untouched_trans hs' ?_
  split
  · exact untouched_trans ⟨rfl, rfl⟩ (sequenced_untouched ..)
  · exact untouched_trans (bump_untouched ..) (untouched_trans (flag_untouched ..) (replyUnstored_untouched ..))

@[simp] theorem vcpReceived_untouched (b : List Nat) (from_ : Peer) (s : State) :
    (vcpReceived b from_ s).mem = s.mem ∧ (vcpReceived b from_ s).pending = s.pending := by
  unfold vcpReceived
  split <;> simp

@[simp] theorem openRefused_untouched (r : OpenReq) (status : Nat) (s : State) :
    (openRefused r status s).mem = s.mem ∧ (openRefused r status s).pending = s.pending := by
  simp [openRefused]

@[simp] theorem randomBytes_untouched (s : State) (n : Nat) :
    (randomBytes s n).2.mem = s.mem ∧ (randomBytes s n).2.pending = s.pending := by
  change Untouched s _
  induction n generalizing s with
  | zero => exact ⟨rfl, rfl⟩
  | succ n ih => exact untouched_trans (fresh_untouched ..) (ih _)

@[simp] theorem openSession_untouched (k : Nat) (r : OpenReq) (s : State) :
    (openSession k r s).mem = s.mem ∧ (openSession k r s).pending = s.pending := by
  simp [openSession]

@[simp] theorem relayRequest_untouched (k m : Nat) (s : State) :
    (relayRequest k m s).mem = s.mem ∧ (relayRequest k m s).pending = s.pending := by
  simp [relayRequest]

@[simp] theorem jobEnd_untouched (j : Job) (s : State) :
    (jobEnd j s).2.mem = s.mem ∧ (jobEnd j s).2.pending = s.pending := by
  change Untouched s _
  have h : Untouched s (takeEnded j.obj s).2 := takeEnded_untouched ..
  rw [jobEnd]
  split
  · exact eraseSectors_untouched ..
  split
  · exact ⟨rfl, rfl⟩
  split <;> rename_i hr <;> rw [hr] at h
  · exact h
  · exact h
  split
  · exact h
  split
  · exact h
  · exact h

@[simp] theorem relayReplied_untouched (l : Nat) (m : List Byte) (s : State) :
    (relayReplied l m s).mem = s.mem ∧ (relayReplied l m s).pending = s.pending := by
  unfold relayReplied
  split <;> simp

@[simp] theorem relayEnded_untouched (l : Nat) (m : List Byte) (s : State) :
    (relayEnded l m s).mem = s.mem ∧ (relayEnded l m s).pending = s.pending := by
  unfold relayEnded
  split <;> simp

@[simp] theorem streamQueue_untouched (offset : Nat) (desc : List Byte) (s : State) :
    (streamQueue offset desc s).1.mem = s.mem ∧ (streamQueue offset desc s).1.pending = s.pending := by
  unfold streamQueue
  dsimp only
  repeat' split
  all_goals simp

@[simp] theorem ptTick_untouched (s : State) :
    (ptTick s).mem = s.mem ∧ (ptTick s).pending = s.pending := by
  simp [ptTick]

@[simp] theorem idle_untouched (s : State) :
    (idle s).mem = s.mem ∧ (idle s).pending = s.pending := by
  simp [idle]

end Sys2Proof.Machine
end


/-!
What the functions that store keep: the queue, and the canonical form of memory (log entry 3).
-/
section
namespace Sys2Proof.Machine

/-- The queue of `t` is that of `s`, and the memory of `t` is in canonical form where that of `s` is. -/
def Keeps (s t : State) : Prop := t.pending = s.pending ∧ (memWf s.mem = true → memWf t.mem = true)

theorem keeps_refl (s : State) : Keeps s s := ⟨rfl, id⟩

theorem keeps_trans {s t u : State} (h : Keeps s t) (h' : Keeps t u) : Keeps s u := ⟨h'.1.trans h.1, h'.2 ∘ h.2⟩

theorem keeps_of_untouched {s t : State} (h : Untouched s t) : Keeps s t := ⟨h.2, fun hwf => by rw [h.1]; exact hwf⟩

theorem foldl_keeps {α : Type} (f : State → α → State) (l : List α)
    (h : ∀ t x, (f t x).pending = t.pending ∧ (memWf t.mem = true → memWf (f t x).mem = true)) (s : State) : Keeps s (l.foldl f s) := by
  induction l generalizing s with
  | nil => exact keeps_refl s
  | cons x l ih => exact keeps_trans (h s x) (ih _)

theorem keeps_then {s t u : State} (h : Keeps s t) (h' : Untouched t u) : Keeps s u := keeps_trans h (keeps_of_untouched h')

theorem keeps_of_eq {s t : State} (hp : t.pending = s.pending) (hm : t.mem = s.mem) : Keeps s t := keeps_of_untouched ⟨hm, hp⟩

@[simp] theorem keepRetired_untouched (old s : State) :
    (keepRetired old s).mem = s.mem ∧ (keepRetired old s).pending = s.pending := by
  change Untouched s _
  unfold keepRetired
  extract_lets s1 s2 s3 s4 s5 s6 s7
  have h1 : Untouched s s1 := foldl_untouched _ _ _ fun _ _ => by
    dsimp only
    split <;> simp
  clear_value s1
  have h2 : Untouched s1 s2 := foldl_untouched _ _ _ fun _ _ => by split <;> simp
  clear_value s2
  have h3 : Untouched s2 s3 := foldl_untouched _ _ _ fun _ _ => by split <;> simp
  clear_value s3
  have h4 : Untouched s3 s4 := foldl_untouched _ _ _ fun _ _ => by split <;> simp
  clear_value s4
  have h5 : Untouched s4 s5 := foldl_untouched _ _ _ fun _ _ => by
    dsimp only
    split <;> simp
  clear_value s5
  have h6 : Untouched s5 s6 := foldl_untouched _ _ _ fun _ _ => by split <;> simp
  clear_value s6
  have h7 : Untouched s6 s7 := foldl_untouched _ _ _ fun _ _ => by split <;> simp
  clear_value s7
  exact untouched_trans h1 (untouched_trans h2 (untouched_trans h3 (untouched_trans h4 (untouched_trans h5 (untouched_trans h6
    (untouched_trans h7 (nocCounts_untouched _)))))))

@[simp] theorem keepTested_untouched (old s : State) :
    (keepTested old s).mem = s.mem ∧ (keepTested old s).pending = s.pending := by
  have h (l : List Nat) (t : State) : Untouched t (l.foldl (fun s n => (s.setHoopSt n .off).setDom (hoopDom n) { st := .off }) t) :=
    foldl_untouched _ _ _ fun _ _ => by simp
  exact untouched_trans (s := s) ⟨rfl, rfl⟩ (h _ _)

@[simp] theorem keepRowMarks_untouched (old s : State) :
    (keepRowMarks old s).mem = s.mem ∧ (keepRowMarks old s).pending = s.pending := by
  exact foldl_untouched _ _ _ fun _ _ => ⟨rfl, rfl⟩

theorem coreOther_untouched {n : Nat} {f : Fetched} {next : Nat} {s t : State} (h : coreOther n f next s = some t) : Untouched s t := by
  have hf (rd : Nat) (v : Word) (pc : Nat) : Untouched s (finish n rd v pc s) := finish_untouched ..
  have ht (c a : Nat) : Untouched s (coreTrap n c a s) := coreTrap_untouched ..
  cases f with
  | fault cause addr =>
    cases h
    exact ht ..
  | instr i len =>
    cases i with
    | lui | auipc | jal | jalr | alu | alui =>
      cases h
      exact hf ..
    | branch =>
      cases h
      exact retire_untouched ..
    | csr =>
      cases h
      exact coreCsr_untouched ..
    | mret =>
      cases h
      exact coreMret_untouched ..
    | illegal =>
      cases h
      exact ht ..
    | wfi =>
      unfold coreOther at h
      cases h
      split
      · exact ht ..
      · exact retire_untouched ..
    | load | store | fence | fenceI | ecall | ebreak | lr | sc | amo | wx => cases h

theorem onMessage_keeps {act : List Byte → State → State} (h : ∀ m s, Keeps s (act m s)) (l typ : Nat) (s : State) :
    Keeps s (onMessage l typ act s) := by
  have ht : Untouched s (takeMessage l typ s).2 := takeMessage_untouched ..
  unfold onMessage
  split <;> rename_i hr <;> rw [hr] at ht
  · split
    · exact keeps_trans (keeps_of_untouched ht) (h _ _)
    · exact keeps_of_untouched (untouched_trans ht (cascForward_untouched ..))
  · exact keeps_of_untouched ht

@[simp] theorem setMemBytes_keeps (s : State) (x : Nat) (bs : List Byte) :
    (State.setMemBytes s x bs).pending = s.pending ∧ (memWf s.mem = true → memWf (State.setMemBytes s x bs).mem = true) := by
  exact ⟨rfl, setMemBytes_wf s _ _⟩

@[simp] theorem putWord_keeps (s : State) (w : Nat) (d : DWord) (syn : Byte) :
    (State.putWord s w d syn).pending = s.pending ∧ (memWf s.mem = true → memWf (State.putWord s w d syn).mem = true) := by
  exact ⟨rfl, setMemBytes_wf s _ _⟩

@[simp] theorem writeWord_keeps (s : State) (w : Nat) (new : DWord) (mask : Nat) (poison : Bool) :
    (State.writeWord s w new mask poison).pending = s.pending ∧ (memWf s.mem = true → memWf (State.writeWord s w new mask poison).mem = true) := by
  simp +contextual [State.writeWord]

@[simp] theorem clearBank_keeps (id : BankId) (s : State) :
    (clearBank id s).pending = s.pending ∧ (memWf s.mem = true → memWf (clearBank id s).mem = true) := by
  exact ⟨rfl, tab_filter_wf _⟩

@[simp] theorem scrambleBank_keeps (id : BankId) (s : State) :
    (scrambleBank id s).pending = s.pending ∧ (memWf s.mem = true → memWf (scrambleBank id s).mem = true) := by
  exact ⟨rfl, tab_putList_wf _ _⟩

@[simp] theorem retireUnspared_keeps (id : BankId) (s : State) :
    (retireUnspared id s).pending = s.pending ∧ (memWf s.mem = true → memWf (retireUnspared id s).mem = true) := by
  simp +contextual [retireUnspared]

@[simp] theorem bankFaulty_keeps (id : BankId) (s : State) :
    (bankFaulty id s).pending = s.pending ∧ (memWf s.mem = true → memWf (bankFaulty id s).mem = true) := by
  unfold bankFaulty
  repeat' split
  all_goals simp +contextual

@[simp] theorem noteError_keeps (id : BankId) (w : Nat) (s : State) :
    (noteError id w s).pending = s.pending ∧ (memWf s.mem = true → memWf (noteError id w s).mem = true) := by
  unfold noteError
  dsimp only
  split <;> simp +contextual

@[simp] theorem noteRead_keeps (id : BankId) (w : Nat) (r : EccRead) (s : State) :
    (noteRead id w r s).pending = s.pending ∧ (memWf s.mem = true → memWf (noteRead id w r s).mem = true) := by
  unfold noteRead
  dsimp only
  repeat' split
  all_goals simp +contextual

@[simp] theorem bankRead_keeps (id : BankId) (w : Nat) (s : State) :
    (bankRead id w s).2.pending = s.pending ∧ (memWf s.mem = true → memWf (bankRead id w s).2.mem = true) := by
  simp +contextual [bankRead]

@[simp] theorem copyWords_keeps (id : BankId) (s : State) :
    (copyWords id s).pending = s.pending ∧ (memWf s.mem = true → memWf (copyWords id s).mem = true) := by
  change Keeps s _
  refine foldl_keeps _ _ (fun t e => ?_) s
  split
  · exact putWord_keeps ..
  · exact putWord_keeps ..
  · exact putWord_keeps ..

@[simp] theorem copyNotes_keeps (id : BankId) (s : State) :
    (copyNotes id s).pending = s.pending ∧ (memWf s.mem = true → memWf (copyNotes id s).mem = true) := by
  change Keeps s _
  exact foldl_keeps _ _ (fun t e => bankRead_keeps ..) s

@[simp] theorem bankReset_keeps (id : BankId) (s : State) :
    (bankReset id s).pending = s.pending ∧ (memWf s.mem = true → memWf (bankReset id s).mem = true) := by
  unfold bankReset
  dsimp only
  repeat' split
  all_goals simp +contextual

@[simp] theorem portStore_keeps (n : Nat) (p : BankPort) (w : Nat) (edge : Nat × Nat × Nat) (mask : Nat) (data : DWord) (poison : Bool) (s : State) :
    (portStore n p w edge mask data poison s).pending = s.pending ∧ (memWf s.mem = true → memWf (portStore n p w edge mask data poison s).mem = true) := by
  change Keeps s _
  unfold portStore
  extract_lets adr plain
  have hplain : Keeps s (plain s) := keeps_then (writeWord_keeps ..) (modPort_untouched ..)
  clear_value plain
  split
  · split
    · exact keeps_then (putWord_keeps ..) (untouched_trans (modPort_untouched ..) (untouched_trans (bump_untouched ..) (flag_untouched ..)))
    · exact hplain
  · exact hplain

@[simp] theorem portAccess_keeps (n : Nat) (p : BankPort) (acc : PortAcc) (s : State) :
    (portAccess n p acc s).pending = s.pending ∧ (memWf s.mem = true → memWf (portAccess n p acc s).mem = true) := by
  unfold portAccess
  dsimp only
  repeat' split
  all_goals simp +contextual

@[simp] theorem windowRead_keeps (n : Nat) (p : BankPort) (edge : Nat × Nat × Nat) (w : Nat) (s : State) :
    (windowRead n p edge w s).2.pending = s.pending ∧ (memWf s.mem = true → memWf (windowRead n p edge w s).2.mem = true) := by
  simp +contextual [windowRead]

theorem readWords_keeps {rd : Nat → State → EccRead × State} (h : ∀ w s, Keeps s (rd w s).2) (w n : Nat) (s : State) :
    Keeps s (readWords rd w n s).2.2 := by
  induction n generalizing w s with
  | zero => exact keeps_refl s
  | succ n ih => exact keeps_trans (h w s) (ih (w + 1) _)

theorem readBytes_keeps {rd : Nat → State → EccRead × State} (h : ∀ w s, Keeps s (rd w s).2) (addr len : Nat) (s : State) :
    Keeps s (readBytes rd addr len s).2.2 := readWords_keeps h _ _ s

theorem writeWords_keeps {wr : Nat → DWord → Nat → State → State} (h : ∀ w d m s, Keeps s (wr w d m s)) (addr : Nat) (data : List Byte)
    (be : List Bool) (w n : Nat) (s : State) : Keeps s (writeWords wr addr data be w n s) := by
  induction n generalizing w s with
  | zero => exact keeps_refl s
  | succ n ih =>
    refine keeps_trans ?_ (ih (w + 1) _)
    split
    · exact keeps_refl s
    · exact h ..

theorem writeBytes_keeps {wr : Nat → DWord → Nat → State → State} (h : ∀ w d m s, Keeps s (wr w d m s)) (addr : Nat) (data : List Byte)
    (be : List Bool) (s : State) : Keeps s (writeBytes wr addr data be s) := writeWords_keeps h ..

theorem atomicServe_keeps {rd : Nat → State → EccRead × State} (h : ∀ w s, Keeps s (rd w s).2) (addr aop size : Nat) (operand : DWord)
    (s : State) : Keeps s (atomicServe rd addr aop size operand s).state := by
  rw [atomicServe]
  split
  · extract_lets r old new mask t
    have hr : Keeps s r.2 := h ..
    clear_value r
    have ht : Keeps s t := by
      simp only [t]
      split
      · exact hr
      · exact keeps_trans hr (writeWord_keeps ..)
    exact ht
  · exact keeps_refl s

@[simp] theorem windowServe_keeps (n edge addr : Nat) (acc : MemAcc) (s : State) :
    (windowServe n edge addr acc s).state.pending = s.pending ∧ (memWf s.mem = true → memWf (windowServe n edge addr acc s).state.mem = true) := by
  change Keeps s _
  unfold windowServe
  extract_lets id p e
  split <;> rename_i hr
  · exact keeps_of_untouched (bankRefusal_untouched hr)
  split
  · exact keeps_refl s
  split
  · exact keeps_refl s
  split
  · exact readBytes_keeps (fun w t => windowRead_keeps ..) ..
  · exact writeBytes_keeps (fun w d m t => portStore_keeps ..) ..
  · exact keeps_refl s

@[simp] theorem scratchServe_keeps (n : Fin 256) (addr : Nat) (acc : MemAcc) (s : State) :
    (scratchServe n addr acc s).state.pending = s.pending ∧ (memWf s.mem = true → memWf (scratchServe n addr acc s).state.mem = true) := by
  change Keeps s _
  unfold scratchServe
  extract_lets id rd
  split <;> rename_i hr
  · exact keeps_of_untouched (bankRefusal_untouched hr)
  split
  · exact keeps_refl s
  have hrd (w : Nat) (t : State) : Keeps t (rd w t).2 := bankRead_keeps ..
  clear_value rd
  split
  · exact readBytes_keeps hrd ..
  · exact writeBytes_keeps (fun w d m t => writeWord_keeps ..) ..
  · exact atomicServe_keeps hrd ..

@[simp] theorem coreMemServe_keeps (addr : Nat) (acc : MemAcc) (s : State) :
    (coreMemServe addr acc s).state.pending = s.pending ∧ (memWf s.mem = true → memWf (coreMemServe addr acc s).state.mem = true) := by
  change Keeps s _
  have hrd (w : Nat) (t : State) : Keeps t (coreMemRead w t).2 := keeps_of_untouched (coreMemRead_untouched ..)
  unfold coreMemServe
  split
  · exact readBytes_keeps hrd ..
  · exact writeBytes_keeps (fun w d m t => writeWord_keeps ..) ..
  · exact atomicServe_keeps hrd ..

@[simp] theorem bankServe_keeps (n addr : Nat) (acc : MemAcc) (s : State) :
    (bankServe n addr acc s).state.pending = s.pending ∧ (memWf s.mem = true → memWf (bankServe n addr acc s).state.mem = true) := by
  simp +contextual [bankServe]

@[simp] theorem memServe_keeps (req : Requester) (addr : Nat) (acc : MemAcc) (s : State) :
    (memServe req addr acc s).state.pending = s.pending ∧ (memWf s.mem = true → memWf (memServe req addr acc s).state.mem = true) := by
  unfold memServe
  dsimp only
  repeat' split
  all_goals simp +contextual

@[simp] theorem memRead_keeps (req : Requester) (x x2 x3 : Nat) (s : State) :
    (memRead req x x2 x3 s).state.pending = s.pending ∧ (memWf s.mem = true → memWf (memRead req x x2 x3 s).state.mem = true) := by
  change Keeps s _
  induction x generalizing x2 x3 s with
  | zero => exact keeps_refl s
  | succ n ih =>
    unfold memRead
    split
    · exact keeps_refl s
    · exact keeps_trans (memServe_keeps ..) (ih ..)

@[simp] theorem memWrite_keeps (req : Requester) (poison : Bool) (x x2 : Nat) (x3 : List Byte) (s : State) :
    (memWrite req poison x x2 x3 s).state.pending = s.pending ∧ (memWf s.mem = true → memWf (memWrite req poison x x2 x3 s).state.mem = true) := by
  change Keeps s _
  induction x generalizing x2 x3 s with
  | zero => exact keeps_refl s
  | succ n ih =>
    unfold memWrite
    split
    · exact keeps_refl s
    extract_lets k part r
    have hr : Keeps s r.state := memServe_keeps ..
    clear_value r
    split
    · exact keeps_trans hr (ih ..)
    · exact hr

@[simp] theorem engineRead_keeps (req : Requester) (addr len : Nat) (s : State) :
    (engineRead req addr len s).state.pending = s.pending ∧ (memWf s.mem = true → memWf (engineRead req addr len s).state.mem = true) := by
  simp +contextual [engineRead]

@[simp] theorem engineWrite_keeps (req : Requester) (addr : Nat) (data : List Byte) (s : State) :
    (engineWrite req addr data s).state.pending = s.pending ∧ (memWf s.mem = true → memWf (engineWrite req addr data s).state.mem = true) := by
  simp +contextual [engineWrite]

@[simp] theorem engineScatter_keeps (req : Requester) (x x2 x3 : Nat) (s : State) :
    (engineScatter req x x2 x3 s).pending = s.pending ∧ (memWf s.mem = true → memWf (engineScatter req x x2 x3 s).mem = true) := by
  change Keeps s _
  induction x generalizing x2 x3 s with
  | zero => exact keeps_refl s
  | succ n ih =>
    unfold engineScatter
    split
    · exact keeps_refl s
    extract_lets k bytes r
    have hr : Keeps s r.state := keeps_trans (keeps_of_eq (t := { s with free := s.free + k }) rfl rfl) (memServe_keeps ..)
    clear_value r
    exact keeps_trans hr (ih ..)

@[simp] theorem storeSummary_keeps (req : Requester) (addr : Nat) (rec_ : List Byte) (s : State) :
    (storeSummary req addr rec_ s).2.pending = s.pending ∧ (memWf s.mem = true → memWf (storeSummary req addr rec_ s).2.mem = true) := by
  unfold storeSummary
  dsimp only
  split <;> simp +contextual

@[simp] theorem writeLines_keeps (req : Requester) (addr : Nat) (x : List (List Byte × Bool)) (s : State) :
    (writeLines req addr x s).2.pending = s.pending ∧ (memWf s.mem = true → memWf (writeLines req addr x s).2.mem = true) := by
  change Keeps s _
  induction x generalizing addr s with
  | nil => exact keeps_refl s
  | cons l rest ih => exact keeps_trans (memServe_keeps ..) (ih ..)

@[simp] theorem addIndex_keeps (e : IdxEntry) (s : State) :
    (addIndex e s).pending = s.pending ∧ (memWf s.mem = true → memWf (addIndex e s).mem = true) := by
  change Keeps s _
  unfold addIndex
  extract_lets slot addr r t kept o
  have ht : Keeps s t := by
    simp only [t, r]
    split
    · exact keeps_refl s
    · exact memServe_keeps ..
  clear_value t
  exact keeps_trans ht (keeps_of_eq rfl rfl)

theorem appendRecord_keeps {i : Nat} {r : HwRecord} {s t : State} (h : appendRecord i r s = some t) : Keeps s t := by
  have hp : Untouched s (placeRecord r.lines.length 1024 s.ringHead s).2 := placeRecord_untouched ..
  obtain ⟨g, hg⟩ : ∃ g, g = appendRecord := ⟨_, rfl⟩
  rw [← hg] at h
  delta appendRecord at hg
  rw [hg] at h
  clear hg
  beta_reduce at h
  generalize placeRecord r.lines.length 1024 s.ringHead s = p at h hp
  obtain ⟨pos, u⟩ := p
  cases pos with
  | none =>
    cases h
    exact keeps_of_untouched (untouched_trans hp (ringDrop_untouched ..))
  | some pos =>
    have hw := writeLines_keeps .collector (u.ringAddr pos) r.lines u
    have hskip (w : State) : Keeps w (if u.ringDirect = true then setSkip (pos / 64) false w else w) := by
      split
      · exact keeps_of_untouched (setSkip_untouched ..)
      · exact keeps_refl _
    dsimp only at h
    generalize writeLines .collector (u.ringAddr pos) r.lines u = w at h hw
    obtain ⟨st, w⟩ := w
    split at h
    · cases h
    · cases h
      exact keeps_trans (keeps_of_untouched hp) (keeps_trans hw (keeps_trans (hskip w) (keeps_then (addIndex_keeps ..) (setPair_untouched ..))))

@[simp] theorem collectorDrain_keeps (x : Nat) (s : State) :
    (collectorDrain x s).pending = s.pending ∧ (memWf s.mem = true → memWf (collectorDrain x s).mem = true) := by
  change Keeps s _
  obtain ⟨ap, hap⟩ : ∃ ap, ap = appendRecord := ⟨_, rfl⟩
  have append (i : Nat) (r : HwRecord) (s t : State) (h : ap i r s = some t) : Keeps s t := by
    rw [hap] at h
    exact appendRecord_keeps h
  delta collectorDrain collectorDrain._f
  rw [← hap]
  clear hap
  induction x generalizing s with
  | zero => exact keeps_refl s
  | succ n ih =>
    dsimp only
    split
    · exact keeps_refl s
    have hring (r : RingSt) : Keeps s { s with ring := r } := keeps_of_eq rfl rfl
    split <;> rename_i hr
    · exact keeps_trans (hring _) (keeps_trans (append _ _ _ _ hr) (ih _))
    · exact keeps_refl s

@[simp] theorem collect_keeps (s : State) :
    (collect s).pending = s.pending ∧ (memWf s.mem = true → memWf (collect s).mem = true) := by
  simp +contextual [collect]

@[simp] theorem nearRecord_keeps (req : Requester) (addr x : Nat) (s : State) :
    (nearRecord req addr x s).2.2.2.pending = s.pending ∧ (memWf s.mem = true → memWf (nearRecord req addr x s).2.2.2.mem = true) := by
  change Keeps s _
  induction x generalizing addr s with
  | zero => exact keeps_refl s
  | succ n ih => exact keeps_trans (memServe_keeps ..) (ih ..)

@[simp] theorem lbGather_keeps (eng : Fin 4) (room : Nat) (x : List IdxEntry) (x2 : LbResult) (s : State) :
    (lbGather eng room x x2 s).2.pending = s.pending ∧ (memWf s.mem = true → memWf (lbGather eng room x x2 s).2.mem = true) := by
  change Keeps s _
  induction x generalizing x2 s with
  | nil => exact keeps_refl s
  | cons e rest ih =>
    unfold lbGather
    extract_lets g read t
    have hread (a : Nat) : Keeps s (read a).2 := nearRecord_keeps ..
    clear_value read
    have ht : Keeps s t.2 := by
      simp only [t]
      split
      · exact keeps_refl s
      · exact keeps_refl s
      · exact keeps_refl s
      · exact hread _
      · exact hread _
    clear_value t
    split
    · exact keeps_refl s
    · exact keeps_trans ht (ih ..)

@[simp] theorem lbtxLines_keeps (req : Requester) (x x2 x3 : Nat) (s : State) :
    (lbtxLines req x x2 x3 s).2.pending = s.pending ∧ (memWf s.mem = true → memWf (lbtxLines req x x2 x3 s).2.mem = true) := by
  change Keeps s _
  induction x generalizing x2 x3 s with
  | zero => exact keeps_refl s
  | succ n ih =>
    unfold lbtxLines
    split
    · exact keeps_refl s
    · exact keeps_trans (memServe_keeps ..) (ih ..)

@[simp] theorem lbtxWrite_keeps (t : Fin 2) (v : Nat) (s : State) :
    (lbtxWrite t v s).1.pending = s.pending ∧ (memWf s.mem = true → memWf (lbtxWrite t v s).1.mem = true) := by
  unfold lbtxWrite
  dsimp only
  repeat' split
  all_goals simp +contextual

@[simp] theorem coreWrite_keeps (n offset : Nat) (bs : List Byte) (s : State) :
    (coreWrite n offset bs s).pending = s.pending ∧ (memWf s.mem = true → memWf (coreWrite n offset bs s).mem = true) := by
  simp +contextual [coreWrite]

@[simp] theorem clearTcm_keeps (g : Nat) (s : State) :
    (clearTcm g s).pending = s.pending ∧ (memWf s.mem = true → memWf (clearTcm g s).mem = true) := by
  exact ⟨rfl, tab_filter_wf _⟩

@[simp] theorem srcRead_keeps (ofs n : Nat) (s : State) :
    (srcRead ofs n s).2.pending = s.pending ∧ (memWf s.mem = true → memWf (srcRead ofs n s).2.mem = true) := by
  change Keeps s _
  unfold srcRead
  split
  · exact engineRead_keeps ..
  · exact keeps_refl s

@[simp] theorem srcNext_keeps (n : Nat) (s : State) :
    (srcNext n s).2.pending = s.pending ∧ (memWf s.mem = true → memWf (srcNext n s).2.mem = true) := by
  change Keeps s _
  have h : Keeps s (srcRead s.loader.bytes.length n s).2 := srcRead_keeps ..
  unfold srcNext
  extract_lets r
  split
  · exact keeps_then h (modLoader_untouched ..)
  · exact h

@[simp] theorem headerRest_keeps (s : State) :
    (headerRest s).pending = s.pending ∧ (memWf s.mem = true → memWf (headerRest s).mem = true) := by
  change Keeps s _
  have h (n : Nat) (t : State) : Keeps t (srcNext n t).2 := srcNext_keeps ..
  have fail (a b : Nat) (t : State) : Untouched t (loadFailAt a b t) := loadFailAt_untouched ..
  have h1 := h 240 s
  unfold headerRest
  split <;> rename_i hr <;> rw [hr] at h1
  · exact keeps_then h1 (fail ..)
  rename_i t
  split
  · exact keeps_then h1 (fail ..)
  have h2 := h (8 * t.folioBounds) t
  split <;> rename_i hr <;> rw [hr] at h2
  · exact keeps_then (keeps_trans h1 h2) (fail ..)
  refine keeps_trans h1 (keeps_trans h2 (keeps_of_untouched ?_))
  split
  · exact fail ..
  split
  · exact fail ..
  split
  · dsimp only
    split
    · exact headerPass_untouched ..
    · exact fail ..
  · exact headerPass_untouched ..

@[simp] theorem imageWrite_keeps (h ofs : Nat) (bs : List Byte) (s : State) :
    (imageWrite h ofs bs s).pending = s.pending ∧ (memWf s.mem = true → memWf (imageWrite h ofs bs s).mem = true) := by
  change Keeps s _
  unfold imageWrite
  extract_lets r
  have h : Keeps s r.state := engineWrite_keeps ..
  clear_value r
  split
  · split
    · exact h
    · exact keeps_then h (imageLost_untouched ..)
  · exact keeps_refl s

@[simp] theorem imageFrame_keeps (h slot v : Nat) (s : State) :
    (imageFrame h slot v s).pending = s.pending ∧ (memWf s.mem = true → memWf (imageFrame h slot v s).mem = true) := by
  change Keeps s _
  unfold imageFrame
  extract_lets t r
  have ht : Keeps s t := imageWrite_keeps ..
  clear_value t
  have hr : Keeps t r.state := engineRead_keeps ..
  clear_value r
  refine keeps_trans ht ?_
  split
  · refine keeps_trans hr ?_
    split
    · exact imageWrite_keeps ..
    · exact keeps_of_untouched (imageLost_untouched ..)
  · exact keeps_refl _

@[simp] theorem loadFrame_keeps (fa v : Nat) (s : State) :
    (loadFrame fa v s).pending = s.pending ∧ (memWf s.mem = true → memWf (loadFrame fa v s).mem = true) := by
  unfold loadFrame
  split <;> simp +contextual

@[simp] theorem loadFrames_keeps (fa : Nat) (same : Bool) (x : Nat) (x2 : List Byte) (s : State) :
    (loadFrames fa same x x2 s).pending = s.pending ∧ (memWf s.mem = true → memWf (loadFrames fa same x x2 s).mem = true) := by
  change Keeps s _
  induction x generalizing fa x2 s with
  | zero => exact keeps_refl s
  | succ n ih => exact keeps_trans (loadFrame_keeps ..) (ih ..)

@[simp] theorem prepareFull_keeps (s : State) :
    (prepareFull s).pending = s.pending ∧ (memWf s.mem = true → memWf (prepareFull s).mem = true) := by
  change Keeps s _
  have hclear (t : State) : Untouched t ((List.range 192).foldl (fun s n => s.clear F.fabHoopCfgCtxValid n) t) :=
    foldl_untouched _ _ _ fun _ _ => ⟨rfl, rfl⟩
  unfold prepareFull
  extract_lets s1 s2 s3 s4
  have h1 : Untouched s s1 := ⟨rfl, rfl⟩
  clear_value s1
  have h2 : Untouched s1 s2 := untouched_trans (stopFabric_untouched _) (untouched_trans (stopBundles_untouched _)
    (untouched_trans (spansHold_untouched ..) (takeSpareWires_untouched _)))
  clear_value s2
  have h3 : Untouched s2 s3 := ⟨rfl, rfl⟩
  clear_value s3
  have h4 : Untouched s3 s4 := hclear _
  clear_value s4
  exact keeps_trans (keeps_of_untouched (untouched_trans h1 (untouched_trans h2 (untouched_trans h3 h4))))
    (keeps_trans (imageWrite_keeps ..) (imageWrite_keeps ..))

@[simp] theorem clearHoopFrames_keeps (n : Nat) (s : State) :
    (clearHoopFrames n s).pending = s.pending ∧ (memWf s.mem = true → memWf (clearHoopFrames n s).mem = true) := by
  change Keeps s _
  unfold clearHoopFrames
  refine keeps_trans (keeps_of_untouched (t := s.clear F.fabHoopCfgCtxValid n) ⟨rfl, rfl⟩) (foldl_keeps _ _ (fun t ctx => ?_) _)
  extract_lets lo outside u zero
  have hu : Keeps t u := keeps_of_eq rfl rfl
  clear_value u
  exact keeps_trans hu (keeps_trans (imageWrite_keeps ..) (imageWrite_keeps ..))

@[simp] theorem openSegment_keeps (s : State) :
    (openSegment s).2.pending = s.pending ∧ (memWf s.mem = true → memWf (openSegment s).2.mem = true) := by
  change Keeps s _
  have h : Keeps s (srcNext 16 s).2 := srcNext_keeps ..
  unfold openSegment
  split
  · exact keeps_refl s
  extract_lets start
  split <;> rename_i hr <;> rw [hr] at h
  · exact keeps_then h (loadFailAt_untouched ..)
  extract_lets g bad
  split
  · exact keeps_then h (loadFailAt_untouched ..)
  · exact keeps_then h (modLoader_untouched ..)

@[simp] theorem bodyNext_keeps (g : Segment) (n : Nat) (s : State) :
    (bodyNext g n s).2.pending = s.pending ∧ (memWf s.mem = true → memWf (bodyNext g n s).2.mem = true) := by
  change Keeps s _
  have h : Keeps s (srcNext n s).2 := srcNext_keeps ..
  unfold bodyNext
  extract_lets ofs
  split
  · exact keeps_of_untouched (loadFailAt_untouched ..)
  split <;> rename_i hr <;> rw [hr] at h
  · exact keeps_then h (loadFailAt_untouched ..)
  · exact h

theorem atRecord_keeps {run : Segment → State → State} (h : ∀ g s, Keeps s (run g s)) (typ : Nat) (s : State) :
    Keeps s (atRecord typ run s) := by
  have ho : Keeps s (openSegment s).2 := openSegment_keeps ..
  unfold atRecord
  split
  · split <;> rename_i hr <;> rw [hr] at ho
    · exact ho
    split
    · exact keeps_trans ho (h ..)
    split
    · exact keeps_refl s
    · exact ho
  · exact keeps_refl s

@[simp] theorem frameRun_keeps (g : Segment) (s : State) :
    (frameRun g s).pending = s.pending ∧ (memWf s.mem = true → memWf (frameRun g s).mem = true) := by
  change Keeps s _
  have h : Keeps s (bodyNext g 8 s).2 := bodyNext_keeps ..
  unfold frameRun
  extract_lets ofs
  split <;> rename_i hr <;> rw [hr] at h
  · exact h
  rename_i t
  extract_lets k fa count op
  split
  · exact keeps_then h (loadFailAt_untouched ..)
  split
  · exact keeps_then h (loadFail_untouched ..)
  have h' : Keeps t (bodyNext g (if op = 1 then 512 else 512 * count) t).2 := bodyNext_keeps ..
  split <;> rename_i hr <;> rw [hr] at h'
  · exact keeps_trans h h'
  · exact keeps_trans h (keeps_trans h' (loadFrames_keeps ..))

@[simp] theorem mblockRecord_keeps (g : Segment) (s : State) :
    (mblockRecord g s).pending = s.pending ∧ (memWf s.mem = true → memWf (mblockRecord g s).mem = true) := by
  change Keeps s _
  have h : Keeps s (bodyNext g 32 s).2 := bodyNext_keeps ..
  unfold mblockRecord
  extract_lets ofs
  split <;> rename_i hr <;> rw [hr] at h
  · exact h
  rename_i t
  extract_lets w kind i owner a b mask u
  have hu : Untouched t u := modLoader_untouched ..
  clear_value u kind
  split
  · exact keeps_then h (loadFailAt_untouched ..)
  split
  · exact keeps_then h (loadFailAt_untouched ..)
  split
  · exact keeps_then h (untouched_trans hu (mblockBank_untouched ..))
  · exact keeps_then h (untouched_trans hu (mblockRank_untouched ..))
  · exact keeps_then h (untouched_trans hu (mblockArray_untouched ..))

@[simp] theorem fillBank_keeps (i : Nat) (bs : List Byte) (s : State) :
    (fillBank i bs s).pending = s.pending ∧ (memWf s.mem = true → memWf (fillBank i bs s).mem = true) := by
  change Keeps s _
  exact writeBytes_keeps (fun w d m t => putWord_keeps ..) ..

@[simp] theorem bankinitRecord_keeps (g : Segment) (s : State) :
    (bankinitRecord g s).pending = s.pending ∧ (memWf s.mem = true → memWf (bankinitRecord g s).mem = true) := by
  change Keeps s _
  have h : Keeps s (bodyNext g 8200 s).2 := bodyNext_keeps ..
  unfold bankinitRecord
  extract_lets ofs
  split <;> rename_i hr <;> rw [hr] at h
  · exact h
  extract_lets k i
  split
  · exact keeps_then h (loadFailAt_untouched ..)
  split
  · exact keeps_then h (loadFailAt_untouched ..)
  split
  · exact h
  split
  · exact keeps_trans h (fillBank_keeps ..)
  · exact keeps_of_untouched (powerRequest_untouched ..)

@[simp] theorem regsRecord_keeps (g : Segment) (s : State) :
    (regsRecord g s).pending = s.pending ∧ (memWf s.mem = true → memWf (regsRecord g s).mem = true) := by
  change Keeps s _
  have h : Keeps s (bodyNext g 8 s).2 := bodyNext_keeps ..
  unfold regsRecord
  extract_lets ofs
  split <;> rename_i hr <;> rw [hr] at h
  · exact h
  extract_lets r
  split
  · exact keeps_then h (loadFailAt_untouched ..)
  · exact keeps_then h (modLoader_untouched ..)

@[simp] theorem segmentEnd_keeps (g : Segment) (s : State) :
    (segmentEnd g s).pending = s.pending ∧ (memWf s.mem = true → memWf (segmentEnd g s).mem = true) := by
  change Keeps s _
  have h : Keeps s (srcNext 48 s).2 := srcNext_keeps ..
  unfold segmentEnd
  split <;> rename_i hr <;> rw [hr] at h
  · exact keeps_then h (loadFailAt_untouched ..)
  rename_i t
  extract_lets key
  clear_value key
  split
  · exact keeps_then h (loadFailAt_untouched ..)
  extract_lets u
  have hu : Untouched t u := modLoader_untouched ..
  clear_value u
  split
  · exact keeps_then h hu
  split
  · exact keeps_then h (untouched_trans hu ⟨put_mem .., put_pending ..⟩)
  · exact keeps_then h (untouched_trans hu (loadFailAt_untouched ..))

@[simp] theorem imageRead_keeps (h slot : Nat) (s : State) :
    (imageRead h slot s).2.pending = s.pending ∧ (memWf s.mem = true → memWf (imageRead h slot s).2.mem = true) := by
  change Keeps s _
  have read (a n : Nat) (u : State) : Keeps u (engineRead .loader a n u).state := engineRead_keeps ..
  unfold imageRead
  split
  · have hp := read (imageBase h + 0x30000000 + slot / 8) 1 s
    generalize engineRead .loader (imageBase h + 0x30000000 + slot / 8) 1 s = p at hp
    obtain ⟨st, d, poison, t⟩ := p
    have hr := read (imageBase h + 512 * slot) 512 t
    dsimp only
    generalize engineRead .loader (imageBase h + 512 * slot) 512 t = r at hr
    obtain ⟨st', d', poison', t'⟩ := r
    split
    · exact hp
    split
    · exact hp
    · exact keeps_trans hp hr
  · exact keeps_refl s

@[simp] theorem powerOnReset_keeps (s : State) :
    (powerOnReset s).pending = s.pending ∧ (memWf s.mem = true → memWf (powerOnReset s).mem = true) := by
  change Keeps s _
  exact ⟨rfl, fun _ => rfl⟩

@[simp] theorem resetBanks_keeps (s : State) :
    (resetBanks s).pending = s.pending ∧ (memWf s.mem = true → memWf (resetBanks s).mem = true) := by
  change Keeps s _
  exact keeps_trans (foldl_keeps _ _ (fun t n => bankReset_keeps ..) s) (foldl_keeps _ _ (fun t n => bankReset_keeps ..) _)

@[simp] theorem systemReset_keeps (causes : Nat) (s : State) :
    (systemReset causes s).pending = s.pending ∧ (memWf s.mem = true → memWf (systemReset causes s).mem = true) := by
  change Keeps s _
  have ht : Keeps s (resetBanks s) := resetBanks_keeps ..
  obtain ⟨t, hr⟩ : ∃ t, t = resetBanks s := ⟨_, rfl⟩
  unfold systemReset
  rw [← hr] at ht ⊢
  clear hr
  extract_lets e e2 u v w
  have hu : Untouched t u := ⟨rfl, rfl⟩
  clear_value u
  have hv : Untouched u v := untouched_trans (keepRetired_untouched ..) (untouched_trans (keepTested_untouched ..) (keepRowMarks_untouched ..))
  clear_value v
  have hw : Untouched v w := ⟨setWord_mem .., setWord_pending ..⟩
  clear_value w
  exact keeps_then ht (untouched_trans hu (untouched_trans hv (untouched_trans hw (modClk_untouched ..))))

@[simp] theorem domainGated_keeps (d : Dom) (s : State) :
    (domainGated d s).pending = s.pending ∧ (memWf s.mem = true → memWf (domainGated d s).mem = true) := by
  unfold domainGated
  split <;> simp +contextual

@[simp] theorem failureEffect_keeps (f : SelfFail) (s : State) :
    (failureEffect f s).pending = s.pending ∧ (memWf s.mem = true → memWf (failureEffect f s).mem = true) := by
  unfold failureEffect
  dsimp only
  repeat' split
  all_goals simp +contextual

@[simp] theorem spareFaulty_keeps (spare : SpareId) (s : State) :
    (spareFaulty spare s).pending = s.pending ∧ (memWf s.mem = true → memWf (spareFaulty spare s).mem = true) := by
  unfold spareFaulty
  repeat' split
  all_goals simp +contextual

@[simp] theorem writeReg_keeps (r : RegName) (i j : Nat) (v : Word) (s : State) :
    (writeReg r i j v s).1.pending = s.pending ∧ (memWf s.mem = true → memWf (writeReg r i j v s).1.mem = true) := by
  unfold writeReg
  repeat' split
  all_goals simp +contextual

@[simp] theorem regWrite_keeps (addr : Nat) (v : Word) (s : State) :
    (regWrite addr v s).1.pending = s.pending ∧ (memWf s.mem = true → memWf (regWrite addr v s).1.mem = true) := by
  unfold regWrite
  repeat' split
  all_goals simp +contextual

@[simp] theorem signatureOk_keeps (s : State) :
    (signatureOk s).2.pending = s.pending ∧ (memWf s.mem = true → memWf (signatureOk s).2.mem = true) := by
  unfold signatureOk
  dsimp only
  split <;> simp +contextual

@[simp] theorem applyRegs_keeps (x : List (Nat × Nat × Nat)) (s : State) :
    (applyRegs x s).2.pending = s.pending ∧ (memWf s.mem = true → memWf (applyRegs x s).2.mem = true) := by
  change Keeps s _
  induction x generalizing s with
  | nil => exact keeps_refl s
  | cons e rest ih =>
    obtain ⟨ofs, addr, v⟩ := e
    have h : Keeps s (regWrite addr (BitVec.ofNat 32 v) s).1 := regWrite_keeps ..
    unfold applyRegs
    generalize regWrite addr (BitVec.ofNat 32 v) s = r at h
    dsimp only
    split
    · exact keeps_trans h (ih _)
    · split
      · exact keeps_trans h (ih _)
      · exact h
    · exact h
    · exact h

@[simp] theorem verifyPass_keeps (s : State) :
    (verifyPass s).pending = s.pending ∧ (memWf s.mem = true → memWf (verifyPass s).mem = true) := by
  unfold verifyPass
  dsimp only
  split <;> simp +contextual

@[simp] theorem verifyContent_keeps (s : State) :
    (verifyContent s).pending = s.pending ∧ (memWf s.mem = true → memWf (verifyContent s).mem = true) := by
  unfold verifyContent
  repeat' split
  all_goals simp +contextual

@[simp] theorem fetchHalf_keeps (n x : Nat) (s : State) :
    (fetchHalf n x s).2.pending = s.pending ∧ (memWf s.mem = true → memWf (fetchHalf n x s).2.mem = true) := by
  unfold fetchHalf
  dsimp only
  repeat' split
  all_goals simp +contextual

@[simp] theorem fetch_keeps (n : Nat) (s : State) :
    (fetch n s).2.pending = s.pending ∧ (memWf s.mem = true → memWf (fetch n s).2.mem = true) := by
  change Keeps s _
  have h (a : Nat) (t : State) : Keeps t (fetchHalf n a t).2 := fetchHalf_keeps ..
  have h1 := h (s.cbank n).pc s
  unfold fetch
  extract_lets pc
  split <;> rename_i hr <;> rw [hr] at h1
  · exact h1
  rename_i t
  have h2 := h ((pc + 2) % 2 ^ 32) t
  split
  · exact h1
  split <;> rename_i hr <;> rw [hr] at h2
  · exact keeps_trans h1 h2
  · exact keeps_trans h1 h2

theorem coreStep_keeps {n : Nat} {run : Fetched → Nat → State → Option State} (h : ∀ f a s t, run f a s = some t → Keeps s t) (s : State) :
    Keeps s (coreStep n run s) := by
  unfold coreStep
  split
  · split
    · exact keeps_of_untouched (coreTrap_untouched ..)
    extract_lets f len
    have hf : Keeps s f.2 := fetch_keeps ..
    clear_value f
    split <;> rename_i hr
    · exact keeps_trans hf (h _ _ _ _ hr)
    · exact keeps_refl s
  · exact keeps_refl s

@[simp] theorem coreLoad_keeps (n size : Nat) (unsigned : Bool) (rd x next : Nat) (s : State) :
    (coreLoad n size unsigned rd x next s).pending = s.pending ∧ (memWf s.mem = true → memWf (coreLoad n size unsigned rd x next s).mem = true) := by
  unfold coreLoad
  repeat' split
  all_goals simp +contextual

@[simp] theorem coreStore_keeps (n size x : Nat) (v : Word) (next : Nat) (s : State) :
    (coreStore n size x v next s).pending = s.pending ∧ (memWf s.mem = true → memWf (coreStore n size x v next s).mem = true) := by
  unfold coreStore
  repeat' split
  all_goals simp +contextual

@[simp] theorem coreAmo_keeps (n aop rd x : Nat) (v : Word) (ordered : Bool) (next : Nat) (s : State) :
    (coreAmo n aop rd x v ordered next s).pending = s.pending ∧ (memWf s.mem = true → memWf (coreAmo n aop rd x v ordered next s).mem = true) := by
  unfold coreAmo
  repeat' split
  all_goals simp +contextual

@[simp] theorem resvServe_keeps (t : CoreTarget) (acc : MemAcc) (s : State) :
    (resvServe t acc s).state.pending = s.pending ∧ (memWf s.mem = true → memWf (resvServe t acc s).state.mem = true) := by
  unfold resvServe
  split <;> simp +contextual

@[simp] theorem coreLr_keeps (n rd x : Nat) (ordered : Bool) (next : Nat) (s : State) :
    (coreLr n rd x ordered next s).pending = s.pending ∧ (memWf s.mem = true → memWf (coreLr n rd x ordered next s).mem = true) := by
  unfold coreLr
  dsimp only
  repeat' split
  all_goals simp +contextual

@[simp] theorem coreSc_keeps (n rd x : Nat) (v : Word) (ordered : Bool) (next : Nat) (s : State) :
    (coreSc n rd x v ordered next s).pending = s.pending ∧ (memWf s.mem = true → memWf (coreSc n rd x v ordered next s).mem = true) := by
  unfold coreSc
  dsimp only
  repeat' split
  all_goals simp +contextual

@[simp] theorem wxPost_keeps (n rd rs1 rs2 next : Nat) (s : State) :
    (wxPost n rd rs1 rs2 next s).pending = s.pending ∧ (memWf s.mem = true → memWf (wxPost n rd rs1 rs2 next s).mem = true) := by
  unfold wxPost
  dsimp only
  repeat' split
  all_goals simp +contextual

@[simp] theorem dbgRegister_keeps (c : DbgCmd) (o : Nat) (s : State) :
    (dbgRegister c o s).pending = s.pending ∧ (memWf s.mem = true → memWf (dbgRegister c o s).mem = true) := by
  change Keeps s _
  have hw (v : Word) : Keeps s (regWrite o v s).1 := regWrite_keeps ..
  have hr (q : Bool) : Untouched s (regRead o q s).2.2 := regRead_untouched ..
  have hd (a b : Nat) (p : Bool) (t : State) : Untouched t (dbgResult a b p t) := dbgResult_untouched ..
  have either (t u : State) (h : Keeps s t) (h' : Keeps s u) (p : Prop) [Decidable p] : Keeps s (if p then t else u) := by
    split
    · exact h
    · exact h'
  delta dbgRegister
  refine either _ _ ?_ (either _ _ (keeps_of_untouched (modDbg_untouched ..)) ?_ _) _
  · cases c with
    | write v => exact keeps_of_untouched (untouched_trans (dbgBlockWrite_untouched ..) (hd ..))
    | _ => exact keeps_of_untouched (hd ..)
  · cases c with
    | write v => exact keeps_then (hw _) (hd ..)
    | consume => exact keeps_of_untouched (untouched_trans (hr _) (hd ..))
    | _ => exact keeps_of_untouched (untouched_trans (hr _) (hd ..))

@[simp] theorem dbgStart_keeps (c : DbgCmd) (addr : Nat) (s : State) :
    (dbgStart c addr s).pending = s.pending ∧ (memWf s.mem = true → memWf (dbgStart c addr s).mem = true) := by
  unfold dbgStart
  dsimp only
  repeat' split
  all_goals simp +contextual

@[simp] theorem dbgScan_keeps (c : DbgCmd) (addr : Nat) (s : State) :
    (dbgScan c addr s).pending = s.pending ∧ (memWf s.mem = true → memWf (dbgScan c addr s).mem = true) := by
  unfold dbgScan
  split <;> simp +contextual

@[simp] theorem dbgPoke_keeps (addr : Nat) (v : Word) (s : State) :
    (dbgPoke addr v s).pending = s.pending ∧ (memWf s.mem = true → memWf (dbgPoke addr v s).mem = true) := by
  simp +contextual [dbgPoke]

@[simp] theorem selectCore_keeps (n : Nat) (s : State) :
    (selectCore n s).pending = s.pending ∧ (memWf s.mem = true → memWf (selectCore n s).mem = true) := by
  simp +contextual [selectCore]

@[simp] theorem monAccess_keeps (addr : Nat) (write : Option Word) (s : State) :
    (monAccess addr write s).2.2.pending = s.pending ∧ (memWf s.mem = true → memWf (monAccess addr write s).2.2.mem = true) := by
  unfold monAccess
  dsimp only
  repeat' split
  all_goals simp +contextual

@[simp] theorem boundaryEffects_keeps (s : State) :
    (boundaryEffects s).pending = s.pending ∧ (memWf s.mem = true → memWf (boundaryEffects s).mem = true) := by
  simp +contextual [boundaryEffects]

@[simp] theorem crossing_keeps (ck : BitVec 16) (s : State) :
    (crossing ck s).pending = s.pending ∧ (memWf s.mem = true → memWf (crossing ck s).mem = true) := by
  unfold crossing
  split <;> simp +contextual

@[simp] theorem regsWrite_keeps (done : Nat) (s : State) (x : List (Nat × Nat)) :
    (regsWrite done s x).state.pending = s.pending ∧ (memWf s.mem = true → memWf (regsWrite done s x).state.mem = true) := by
  change Keeps s _
  induction x generalizing done s with
  | nil => exact keeps_of_untouched (accessReply_untouched ..)
  | cons e rest ih =>
    obtain ⟨a, v⟩ := e
    have h : Keeps s (regWrite a (BitVec.ofNat 32 v) s).1 := regWrite_keeps ..
    unfold regsWrite
    split <;> rename_i hr <;> rw [hr] at h
    · exact keeps_trans h (ih ..)
    · exact keeps_then h (accessReply_untouched ..)

@[simp] theorem hostRegWrite_keeps (x : HostCtx) (s : State) :
    (hostRegWrite x s).state.pending = s.pending ∧ (memWf s.mem = true → memWf (hostRegWrite x s).state.mem = true) := by
  simp +contextual [hostRegWrite]

@[simp] theorem ethServe_keeps (req : Requester) (addr : Nat) (acc : MemAcc) (s : State) :
    (ethServe req addr acc s).state.pending = s.pending ∧ (memWf s.mem = true → memWf (ethServe req addr acc s).state.mem = true) := by
  unfold ethServe
  dsimp only
  repeat' split
  all_goals simp +contextual

@[simp] theorem ethRead_keeps (req : Requester) (data : List Byte) (poison : Bool) (addr len : Nat) (s : State) (x : Nat) :
    (ethRead req data poison addr len s x).state.pending = s.pending ∧ (memWf s.mem = true → memWf (ethRead req data poison addr len s x).state.mem = true) := by
  change Keeps s _
  induction x generalizing data poison addr len s with
  | zero => exact keeps_refl s
  | succ n ih =>
    unfold ethRead
    split
    · exact keeps_refl s
    extract_lets k r
    have h : Keeps s r.state := ethServe_keeps ..
    clear_value r
    split
    · exact keeps_trans h (ih ..)
    · exact h

@[simp] theorem ethWrite_keeps (done addr : Nat) (data : List Byte) (s : State) (x : Nat) :
    (ethWrite done addr data s x).2.2.pending = s.pending ∧ (memWf s.mem = true → memWf (ethWrite done addr data s x).2.2.mem = true) := by
  change Keeps s _
  induction x generalizing done addr data s with
  | zero => exact keeps_refl s
  | succ n ih =>
    unfold ethWrite
    split
    · exact keeps_refl s
    extract_lets part r
    have h : Keeps s r.state := ethServe_keeps ..
    clear_value r
    split
    · exact keeps_trans h (ih ..)
    · exact h

@[simp] theorem hostMemRead_keeps (x : HostCtx) (s : State) :
    (hostMemRead x s).state.pending = s.pending ∧ (memWf s.mem = true → memWf (hostMemRead x s).state.mem = true) := by
  unfold hostMemRead
  dsimp only
  repeat' split
  all_goals simp +contextual

@[simp] theorem hostMemWrite_keeps (x : HostCtx) (s : State) :
    (hostMemWrite x s).state.pending = s.pending ∧ (memWf s.mem = true → memWf (hostMemWrite x s).state.mem = true) := by
  unfold hostMemWrite
  dsimp only
  repeat' split
  all_goals simp +contextual

@[simp] theorem coreImage_keeps (base : Nat) (bs : List Byte) (s : State) :
    (coreImage base bs s).pending = s.pending ∧ (memWf s.mem = true → memWf (coreImage base bs s).mem = true) := by
  simp +contextual [coreImage]

@[simp] theorem hostQuillLoad_keeps (x : HostCtx) (s : State) :
    (hostQuillLoad x s).state.pending = s.pending ∧ (memWf s.mem = true → memWf (hostQuillLoad x s).state.mem = true) := by
  change Keeps s _
  have read (a l n : Nat) : Keeps s (ethRead .host [] false a l s n).state := ethRead_keeps ..
  have release (l : List Nat) (t : State) : Untouched t (l.foldl (fun s n => coreRelease n s) t) :=
    foldl_untouched _ _ _ fun _ _ => coreRelease_untouched ..
  unfold hostQuillLoad
  extract_lets mask addr ilen dlen cores r one t u
  have hr : Keeps s r.state := read ..
  clear_value r
  have hone (t : State) (n : Nat) : Keeps t (one t n) := keeps_trans (coreImage_keeps ..) (coreImage_keeps ..)
  clear_value one
  have ht : Keeps r.state t := foldl_keeps _ _ hone _
  clear_value t
  have hu : Untouched t u := by
    simp only [u]
    split
    · exact release _ _
    · exact ⟨rfl, rfl⟩
  clear_value u
  split
  · exact keeps_of_untouched (refuse_untouched ..)
  split
  · exact keeps_of_untouched (refuseAddr_untouched ..)
  split
  · exact keeps_of_untouched (refuse_untouched ..)
  split
  · exact keeps_trans hr (keeps_then ht hu)
  · exact hr
  · exact hr

theorem guarded_keeps {f : HostFn} (h : ∀ c s, Keeps s (f c s).state) (op : Nat) (c : HostCtx) (s : State) :
    Keeps s (guarded op f c s).state := by
  rw [guarded]
  split
  · exact keeps_of_untouched (refuse_untouched ..)
  · exact h c s

/-- Every relayed host command keeps the queue and the memory's form. -/
theorem hostFn_keeps {op : Nat} {f : HostFn} (h : hostFn op = some f) (c : HostCtx) (s : State) : Keeps s (f c s).state := by
  unfold hostFn at h
  split at h <;> cases h <;> simp +contextual [Keeps]

@[simp] theorem relayServed_keeps (l : Nat) (m : List Byte) (s : State) :
    (relayServed l m s).pending = s.pending ∧ (memWf s.mem = true → memWf (relayServed l m s).mem = true) := by
  change Keeps s _
  unfold relayServed
  split
  · exact keeps_of_untouched (msgDiscard_untouched ..)
  extract_lets body w op c r
  have hr : Keeps s r.state := by
    simp only [r]
    split <;> rename_i hf
    · exact guarded_keeps (fun c t => hostFn_keeps hf c t) ..
    · exact keeps_of_untouched (refuse_untouched ..)
  clear_value r
  exact keeps_then hr (cascSend_untouched ..)

@[simp] theorem streamSend_keeps (x : Stream) (at_ seg : Nat) (s : State) (x2 : Nat) :
    (streamSend x at_ seg s x2).2.pending = s.pending ∧ (memWf s.mem = true → memWf (streamSend x at_ seg s x2).2.mem = true) := by
  change Keeps s _
  obtain ⟨rd, hrd⟩ : ∃ rd, rd = ethRead := ⟨_, rfl⟩
  have read (rq : Requester) (d : List Byte) (p : Bool) (a l : Nat) (u : State) (k : Nat) : Keeps u (rd rq d p a l u k).state := by
    rw [hrd]
    exact ethRead_keeps ..
  delta streamSend streamSend._f
  rw [← hrd]
  clear hrd
  induction x2 generalizing at_ seg s with
  | zero => exact keeps_refl s
  | succ n ih =>
    dsimp only
    split
    · exact keeps_refl s
    split
    · exact keeps_trans (read ..) (keeps_trans (keeps_of_untouched (sendVcp_untouched ..)) (ih ..))
    · exact read ..

end Sys2Proof.Machine
end


/-!
What every command keeps: each answers a next state, with the queue as it was and the memory in its form. One lemma for
each command, in the order of `exec`.
-/
section
namespace Sys2Proof.Machine

/-- The outcome is a next state, which has the queue of `s` and a memory in canonical form where `s` has. -/
def Answers (s : State) (o : Out) : Prop := ∃ t, o = .next t ∧ Keeps s t

@[simp] theorem answers_next (s t : State) :
    Answers s (.next t) ↔ t.pending = s.pending ∧ (memWf s.mem = true → memWf t.mem = true) := by
  constructor
  · rintro ⟨u, hu, hk⟩
    cases hu
    exact hk
  · exact fun h => ⟨t, rfl, h⟩

@[simp] theorem answers_reply (s : State) (r : State × Status) :
    Answers s (reply r) ↔ r.1.pending = s.pending ∧ (memWf s.mem = true → memWf r.1.mem = true) := answers_next ..

@[simp] theorem answers_readReply (s : State) (r : Status × Nat × State) :
    Answers s (readReply r) ↔ r.2.2.pending = s.pending ∧ (memWf s.mem = true → memWf r.2.2.mem = true) := answers_next ..

@[simp] theorem answers_memReply (s : State) (r : MemResult) :
    Answers s r.reply ↔ r.state.pending = s.pending ∧ (memWf s.mem = true → memWf r.state.mem = true) := answers_next ..

theorem answers_of_keeps {s t : State} (h : Keeps s t) : Answers s (.next t) := ⟨t, rfl, h⟩

theorem answers_of_untouched {s t : State} (h : Untouched s t) : Answers s (.next t) := answers_of_keeps (keeps_of_untouched h)

@[simp] theorem answers_whenClocked (runs : Bool) (s : State) (o : Out) : Answers s (whenClocked runs s o) ↔ (runs = true → Answers s o) := by
  cases runs <;> simp [whenClocked]

theorem monCommand_answers {run : State → State} (h : ∀ s, Keeps s (run s)) (early : Bool) (s : State) : Answers s (monCommand early run s) := by
  have hd : Untouched s (monAnswer vDenied [] s) := monAnswer_untouched ..
  unfold monCommand
  refine answers_of_keeps ?_
  split
  · exact keeps_refl s
  split
  · exact keeps_of_untouched hd
  · exact h s

theorem execMtimeSrcChange_answers (src : BitVec 2) (s : State) : Answers s (execMtimeSrcChange src s) := by
  simp +contextual [execMtimeSrcChange]

theorem execMtimeRealign_answers (s : State) : Answers s (execMtimeRealign s) := by
  simp +contextual [execMtimeRealign]

theorem execMtimeOrbitLoad_answers (s : State) : Answers s (execMtimeOrbitLoad s) := by
  simp +contextual [execMtimeOrbitLoad]

theorem execMtimeNomPeriodWrite_answers (v : Word) (s : State) : Answers s (execMtimeNomPeriodWrite v s) := by
  simp +contextual [execMtimeNomPeriodWrite]

theorem execClockQualified_answers (measured : Nat) (s : State) : Answers s (execClockQualified measured s) := by
  unfold execClockQualified
  dsimp only
  repeat' split
  all_goals simp +contextual

theorem execPhaseLock_answers (s : State) : Answers s (execPhaseLock s) := by
  unfold execPhaseLock
  dsimp only
  repeat' split
  all_goals simp +contextual

theorem execMarkerSearchTimeout_answers (s : State) : Answers s (execMarkerSearchTimeout s) := by
  simp +contextual [execMarkerSearchTimeout]

theorem execCoastReturnTimeout_answers (s : State) : Answers s (execCoastReturnTimeout s) := by
  simp +contextual [execCoastReturnTimeout]

theorem execMachineClockLoss_answers (begun : Bool) (s : State) : Answers s (execMachineClockLoss begun s) := by
  simp +contextual [execMachineClockLoss]

theorem execFreqWindowEnd_answers (measured : Nat) (s : State) : Answers s (execFreqWindowEnd measured s) := by
  simp +contextual [execFreqWindowEnd]

theorem execOrbitMarker_answers (wide : Bool) (s : State) : Answers s (execOrbitMarker wide s) := by
  simp +contextual [execOrbitMarker]

theorem execRtShadowWrite_answers (half : Fin 32768) (v : Word) (s : State) : Answers s (execRtShadowWrite half v s) := by
  simp +contextual [execRtShadowWrite]

theorem execRtSwapRequest_answers (v : Word) (s : State) : Answers s (execRtSwapRequest v s) := by
  simp +contextual [execRtSwapRequest]

theorem execRtSwapCommit_answers (s : State) : Answers s (execRtSwapCommit s) := by
  simp +contextual [execRtSwapCommit]

theorem execStealWindowWrite_answers (i : Fin 4) (v : Word) (s : State) : Answers s (execStealWindowWrite i v s) := by
  simp +contextual [execStealWindowWrite]

theorem execEvtTargetWrite_answers (n : Fin 16) (high : Bool) (v : Word) (s : State) : Answers s (execEvtTargetWrite n high v s) := by
  simp +contextual [execEvtTargetWrite]

theorem execEventComparatorFire_answers (n : Fin 16) (s : State) : Answers s (execEventComparatorFire n s) := by
  simp +contextual [execEventComparatorFire]

theorem execMtimeSnap_answers (s : State) : Answers s (execMtimeSnap s) := by
  simp +contextual [execMtimeSnap]

theorem execLaneEnable_answers (n : Fin 48) (m : Fin 9) (s : State) : Answers s (execLaneEnable n m s) := by
  simp +contextual [execLaneEnable]

theorem execLaneDisable_answers (n : Fin 48) (m : Fin 9) (s : State) : Answers s (execLaneDisable n m s) := by
  simp +contextual [execLaneDisable]

theorem execLaneRetrain_answers (n : Fin 48) (m : Fin 9) (s : State) : Answers s (execLaneRetrain n m s) := by
  simp +contextual [execLaneRetrain]

theorem execLaneReinstate_answers (n : Fin 48) (m : Fin 9) (s : State) : Answers s (execLaneReinstate n m s) := by
  simp +contextual [execLaneReinstate]

theorem execLaneCfgWrite_answers (n : Fin 48) (v : Word) (s : State) : Answers s (execLaneCfgWrite n v s) := by
  simp +contextual [execLaneCfgWrite]

theorem execDetectPoll_answers (n : Fin 48) (m : Fin 9) (found signal : Bool) (s : State) : Answers s (execDetectPoll n m found signal s) := by
  simp +contextual [execDetectPoll]

theorem execTrainBitLock_answers (n : Fin 48) (m : Fin 9) (slice : Fin 4) (s : State) : Answers s (execTrainBitLock n m slice s) := by
  simp +contextual [execTrainBitLock]

theorem execTrainTimeout_answers (n : Fin 48) (m : Fin 9) (s : State) : Answers s (execTrainTimeout n m s) := by
  simp +contextual [execTrainTimeout]

theorem execAlignTimeout_answers (n : Fin 48) (m : Fin 9) (s : State) : Answers s (execAlignTimeout n m s) := by
  simp +contextual [execAlignTimeout]

theorem execCapsTimeout_answers (n : Fin 48) (m : Fin 9) (s : State) : Answers s (execCapsTimeout n m s) := by
  simp +contextual [execCapsTimeout]

theorem execRxFrame_answers (n : Fin 48) (m : Fin 9) (frame : Nat) (margin : Int) (s : State) : Answers s (execRxFrame n m frame margin s) := by
  unfold execRxFrame
  repeat' split
  all_goals simp +contextual

theorem execRxSlotDelivery_answers (n : Fin 48) (m : Fin 8) (s : State) : Answers s (execRxSlotDelivery n m s) := by
  refine answers_of_keeps ?_
  refine keeps_of_untouched ?_
  extract_lets s1 d s2 num orbit s3 src serving found mode c s4 s5 s6 port out s7
  have h1 : Untouched s s1 := switchBack_untouched ..
  clear_value s1
  have h2 : Untouched s1 s2 := by
    simp only [s2]
    split
    · exact flag_untouched ..
    · exact ⟨rfl, rfl⟩
  clear_value s2
  have h3 : Untouched s2 s3 := modBundle_untouched ..
  have h4 : Untouched s3 s4 := modLane_untouched ..
  clear_value s3 s4 found
  have h5 : Untouched s4 s5 := by
    simp only [s5]
    split
    · split
      · exact flag_untouched ..
      · exact ⟨rfl, rfl⟩
    · exact ⟨rfl, rfl⟩
  clear_value s5
  have h6 : Untouched s5 s6 := by
    simp only [s6]
    split
    · exact countBad_untouched ..
    · exact ⟨rfl, rfl⟩
  clear_value s6
  have h7 : Untouched s6 s7 := by
    simp only [s7]
    split
    · exact modLane_untouched ..
    · exact ⟨rfl, rfl⟩
  clear_value s7
  exact untouched_trans h1 (untouched_trans h2 (untouched_trans h3 (untouched_trans h4 (untouched_trans h5 (untouched_trans h6
    (untouched_trans h7 (untouched_trans (modLane_untouched ..) ⟨emit_mem .., emit_pending ..⟩)))))))

theorem execTxPortWrite_answers (layer : Fin 2) (n : Fin 48) (m : Fin 8) (phase data : Nat) (user poison : Bool) (s : State) : Answers s (execTxPortWrite layer n m phase data user poison s) := by
  simp +contextual [execTxPortWrite]

theorem execTxFrameLaunch_answers (n : Fin 48) (m : Fin 10) (s : State) : Answers s (execTxFrameLaunch n m s) := by
  simp +contextual [execTxFrameLaunch]

theorem execBypassFrame_answers (n : Fin 48) (m : Fin 8) (typ : Byte) (payload : Nat) (s : State) : Answers s (execBypassFrame n m typ payload s) := by
  unfold execBypassFrame
  dsimp only
  repeat' split
  all_goals simp +contextual

theorem execLossOfLock_answers (n : Fin 48) (m : Fin 9) (recovery : Bool) (s : State) : Answers s (execLossOfLock n m recovery s) := by
  simp +contextual [execLossOfLock]

theorem execRetrainDone_answers (n : Fin 48) (m : Fin 9) (margin : Int) (s : State) : Answers s (execRetrainDone n m margin s) := by
  simp +contextual [execRetrainDone]

theorem execRetrainTimeout_answers (n : Fin 48) (m : Fin 9) (s : State) : Answers s (execRetrainTimeout n m s) := by
  simp +contextual [execRetrainTimeout]

theorem execLaneStopDone_answers (n : Fin 48) (m : Fin 9) (s : State) : Answers s (execLaneStopDone n m s) := by
  simp +contextual [execLaneStopDone]

theorem execCkLaneLoss_answers (n : Fin 48) (begun : Bool) (s : State) : Answers s (execCkLaneLoss n begun s) := by
  simp +contextual [execCkLaneLoss]

theorem execCkLaneReturn_answers (n : Fin 48) (s : State) : Answers s (execCkLaneReturn n s) := by
  simp +contextual [execCkLaneReturn]

theorem execLaneEyeStart_answers (n : Fin 48) (v : Word) (s : State) : Answers s (execLaneEyeStart n v s) := by
  simp +contextual [execLaneEyeStart]

theorem execEyeScanAbort_answers (n : Fin 48) (write : Option Word) (s : State) : Answers s (execEyeScanAbort n write s) := by
  unfold execEyeScanAbort
  split <;> simp +contextual

theorem execEyeScanDone_answers (n : Fin 48) (count : Nat) (s : State) : Answers s (execEyeScanDone n count s) := by
  simp +contextual [execEyeScanDone]

theorem execFclkCtrlWrite_answers (v : Word) (s : State) : Answers s (execFclkCtrlWrite v s) := by
  simp +contextual [execFclkCtrlWrite]

theorem execSpanContention_answers (seg : Seg) (driver : Fin 42) (s : State) : Answers s (execSpanContention seg driver s) := by
  refine answers_of_keeps ?_
  refine keeps_of_untouched ?_
  extract_lets g k p region log recent holds until_ s1 s2 s3 s4
  clear_value log until_ recent
  have h1 : Untouched s s1 := bump_untouched ..
  have h2 : Untouched s1 s2 := ⟨setWord_mem .., setWord_pending ..⟩
  have h3 : Untouched s2 s3 := untouched_trans (flag_untouched ..) (raise_untouched ..)
  clear_value s1 s2 s3
  have h4 : Untouched s3 s4 := by
    simp only [s4]
    split
    · exact flag_untouched ..
    · exact ⟨rfl, rfl⟩
  clear_value s4
  have h := untouched_trans h1 (untouched_trans h2 (untouched_trans h3 h4))
  split
  · split
    · exact untouched_trans h (untouched_trans (setSpan_untouched ..) (untouched_trans (flag_untouched ..) (raise_untouched ..)))
    · exact untouched_trans h (setSpan_untouched ..)
  · exact ⟨rfl, rfl⟩

theorem execSpanReenable_answers (seg : Seg) (corrected : Bool) (s : State) : Answers s (execSpanReenable seg corrected s) := by
  simp +contextual [execSpanReenable]

theorem execUserIoWord_answers (layer : Fin 2) (p : Fin 416) (tx : Byte) (oe : Bool) (rx : Byte) (s : State) : Answers s (execUserIoWord layer p tx oe rx s) := by
  simp +contextual [execUserIoWord]

theorem execIodWrite_answers (p : Fin 416) (v : Word) (s : State) : Answers s (execIodWrite p v s) := by
  simp +contextual [execIodWrite]

theorem execSliceSample_answers (i : Fin 12288) (edge : Nat) (pins : SlicePins) (s : State) : Answers s (execSliceSample i edge pins s) := by
  simp +contextual [execSliceSample]

theorem execRankSet_answers (r : Fin 192) (cands : List Word) (go : Bool) (s : State) : Answers s (execRankSet r cands go s) := by
  simp +contextual [execRankSet]

theorem execRankResult_answers (r : Fin 192) (s : State) : Answers s (execRankResult r s) := by
  unfold execRankResult
  dsimp only
  repeat' split
  all_goals simp +contextual

theorem execPmSearch_answers (x : Fin 256) (key : DWord) (kpoison : Bool) (tag : BitVec 16) (upsets : List (Fin 32768 × Fin 148)) (s : State) : Answers s (execPmSearch x key kpoison tag upsets s) := by
  simp +contextual [execPmSearch]

theorem execPmSearchResult_answers (x : Fin 256) (s : State) : Answers s (execPmSearchResult x s) := by
  unfold execPmSearchResult
  dsimp only
  repeat' split
  all_goals simp +contextual

theorem execPmuWrite_answers (c : Fin 4) (v : Word) (s : State) : Answers s (execPmuWrite c v s) := by
  simp +contextual [execPmuWrite]

theorem execPmuInvalidate_answers (c : Fin 4) (v : Word) (s : State) : Answers s (execPmuInvalidate c v s) := by
  simp +contextual [execPmuInvalidate]

theorem execPmuRead_answers (c : Fin 4) (v : Word) (s : State) : Answers s (execPmuRead c v s) := by
  simp +contextual [execPmuRead]

theorem execPmuScrub_answers (c : Fin 4) (v : Word) (s : State) : Answers s (execPmuScrub c v s) := by
  simp +contextual [execPmuScrub]

theorem execPmuSetsel_answers (c : Fin 4) (v : Word) (s : State) : Answers s (execPmuSetsel c v s) := by
  simp +contextual [execPmuSetsel]

theorem execPmuAbort_answers (c : Fin 4) (s : State) : Answers s (execPmuAbort c s) := by
  simp +contextual [execPmuAbort]

theorem execPmuSetselApply_answers (c : Fin 4) (s : State) : Answers s (execPmuSetselApply c s) := by
  simp +contextual [execPmuSetselApply]

theorem execBankSpareCopyStart_answers (id : BankId) (s : State) : Answers s (execBankSpareCopyStart id s) := by
  refine (answers_whenClocked ..).mpr fun _ => answers_of_keeps ?_
  have hretire (l : List BankId) (t : State) : Keeps t (l.foldl (fun s b => retireUnspared b s) t) :=
    foldl_keeps _ _ (fun _ _ => retireUnspared_keeps ..) _
  split
  · dsimp only
    split
    · exact keeps_trans (keeps_of_untouched (untouched_trans (setSpare_untouched ..) (modBank_untouched ..))) (hretire _ _)
    · exact keeps_refl s
  · exact keeps_refl s

theorem execBankCopyDone_answers (id : BankId) (s : State) : Answers s (execBankCopyDone id s) := by
  unfold execBankCopyDone
  split <;> simp +contextual

theorem execBankTakeover_answers (id : BankId) (s : State) : Answers s (execBankTakeover id s) := by
  unfold execBankTakeover
  repeat' split
  all_goals simp +contextual

theorem execBankMarchDone_answers (id : BankId) (pass : Bool) (s : State) : Answers s (execBankMarchDone id pass s) := by
  unfold execBankMarchDone
  dsimp only
  repeat' split
  all_goals simp +contextual

theorem execBankReturnDone_answers (id : BankId) (s : State) : Answers s (execBankReturnDone id s) := by
  unfold execBankReturnDone
  dsimp only
  repeat' split
  all_goals simp +contextual

theorem execBankPowerTarget_answers (id : BankId) (v : BitVec 2) (s : State) : Answers s (execBankPowerTarget id v s) := by
  simp +contextual [execBankPowerTarget]

theorem execBankUlolWrite_answers (id : BankId) (v : Word) (s : State) : Answers s (execBankUlolWrite id v s) := by
  simp +contextual [execBankUlolWrite]

theorem execBankLoweringDone_answers (id : BankId) (s : State) : Answers s (execBankLoweringDone id s) := by
  unfold execBankLoweringDone
  dsimp only
  repeat' split
  all_goals simp +contextual

theorem execBankWakingDone_answers (id : BankId) (s : State) : Answers s (execBankWakingDone id s) := by
  unfold execBankWakingDone
  repeat' split
  all_goals simp +contextual

theorem execBankClearingDone_answers (id : BankId) (s : State) : Answers s (execBankClearingDone id s) := by
  unfold execBankClearingDone
  split <;> simp +contextual

theorem execBankPortAccess_answers (b : Fin 8192) (port : BankPort) (acc : PortAcc) (s : State) : Answers s (execBankPortAccess b port acc s) := by
  unfold execBankPortAccess
  dsimp only
  repeat' split
  all_goals simp +contextual

theorem execBankPortResult_answers (b : Fin 8192) (port : BankPort) (s : State) : Answers s (execBankPortResult b port s) := by
  unfold execBankPortResult
  split <;> simp +contextual

theorem execBankHandoverRequest_answers (b : Fin 8192) (v : Word) (s : State) : Answers s (execBankHandoverRequest b v s) := by
  simp +contextual [execBankHandoverRequest]

theorem execBankHandover_answers (b : Fin 8192) (s : State) : Answers s (execBankHandover b s) := by
  unfold execBankHandover
  split <;> simp +contextual

theorem execBankWindowAccess_answers (addr edge : Nat) (acc : MemAcc) (s : State) : Answers s (execBankWindowAccess addr edge acc s) := by
  unfold execBankWindowAccess
  split <;> simp +contextual

theorem execBankWindowTimeout_answers (_b : Fin 8192) (s : State) : Answers s (execBankWindowTimeout _b s) := by
  simp +contextual [execBankWindowTimeout]

theorem execScratchAccess_answers (b : Fin 256) (offset : Nat) (acc : MemAcc) (s : State) : Answers s (execScratchAccess b offset acc s) := by
  simp +contextual [execScratchAccess]

theorem execScrubStart_answers (e : Fin 2) (s : State) : Answers s (execScrubStart e s) := by
  simp +contextual [execScrubStart]

theorem execScrubAbort_answers (e : Fin 2) (s : State) : Answers s (execScrubAbort e s) := by
  simp +contextual [execScrubAbort]

/-- A scrub's step keeps what its refusal, its read and its write keep. -/
theorem scrubStep_keeps {read : State → EccRead × State} {write : DWord → Bool → State → State}
    (hread : ∀ u, Keeps u (read u).2) (hwrite : ∀ d b u, Keeps u (write d b u))
    (p : ScrubSt) (id : BankId) (addr : Nat) (raced closed : Bool) (s : State) :
    Keeps s (match bankRefusal id s with
        | some (s, _) => (scrubNote p id.idx addr none, s)
        | none =>
          if closed then (scrubNote p id.idx addr none, s)
          else
            let r := read s
            let s := match r.1 with
              | .good d true => if raced then r.2 else write d false r.2
              | .uncorrectable d => if raced then r.2 else write d true r.2
              | _ => r.2
            (scrubNote p id.idx addr (some r.1), s) : ScrubSt × State).2 := by
  split <;> rename_i hr
  · exact keeps_of_untouched (bankRefusal_untouched hr)
  split
  · exact keeps_refl s
  have hu := hread s
  generalize read s = r at hu
  obtain ⟨e, v⟩ := r
  dsimp only
  split
  · split
    · exact hu
    · exact keeps_trans hu (hwrite ..)
  · split
    · exact hu
    · exact keeps_trans hu (hwrite ..)
  · exact hu

theorem scrubRead_keeps (id : BankId) (p : BankPort) (edge : Nat × Nat × Nat) (w : Nat) (s : State) :
    Keeps s (if id.isBlock then windowRead id.idx p edge w s else bankRead id w s).2 := by
  split
  · exact windowRead_keeps ..
  · exact bankRead_keeps ..

theorem scrubWrite_keeps (id : BankId) (p : BankPort) (edge : Nat × Nat × Nat) (w v : Nat) (d : DWord) (poison : Bool) (s : State) :
    Keeps s (if id.isBlock then portStore id.idx p w edge 255 d poison s else s.putWord v d (if poison then poisonSyn else 0)) := by
  split
  · exact portStore_keeps ..
  · exact putWord_keeps ..

theorem execScrubWord_answers (e : Fin 2) (timeout raced : Bool) (s : State) : Answers s (execScrubWord e timeout raced s) := by
  refine (answers_whenClocked ..).mpr fun _ => answers_of_keeps ?_
  obtain ⟨bankAt, hbank⟩ : ∃ bankAt, bankAt = bankOfWord := ⟨_, rfl⟩
  rw [← hbank]
  clear hbank
  extract_lets p done addr w id p' closed edge read write t step r o q
  have ht : Keeps s t := keeps_of_untouched ⟨put_mem .., put_pending ..⟩
  have hread (u : State) : Keeps u (read u).2 := scrubRead_keeps ..
  have hwrite (d : DWord) (b : Bool) (u : State) : Keeps u (write d b u) := scrubWrite_keeps ..
  have hr : Keeps t r.2 := scrubStep_keeps hread hwrite p id addr raced closed t
  split
  · exact keeps_trans ht (keeps_then hr (setScrub_untouched ..))
  · exact keeps_refl s

theorem execGrpSwitchRequest_answers (g : Fin 8) (v : Word) (s : State) : Answers s (execGrpSwitchRequest g v s) := by
  simp +contextual [execGrpSwitchRequest]

theorem execGrpRequestApply_answers (g : Fin 8) (s : State) : Answers s (execGrpRequestApply g s) := by
  simp +contextual [execGrpRequestApply]

theorem execHoopCfgWrite_answers (n : Fin 192) (v : Word) (s : State) : Answers s (execHoopCfgWrite n v s) := by
  simp +contextual [execHoopCfgWrite]

theorem execHoopRelease_answers (n : Fin 192) (s : State) : Answers s (execHoopRelease n s) := by
  simp +contextual [execHoopRelease]

theorem execHoopStop_answers (n : Fin 192) (s : State) : Answers s (execHoopStop n s) := by
  simp +contextual [execHoopStop]

theorem execHoopStopEdge_answers (n : Fin 192) (s : State) : Answers s (execHoopStopEdge n s) := by
  unfold execHoopStopEdge
  split <;> simp +contextual

theorem execHoopStopComplete_answers (n : Fin 192) (s : State) : Answers s (execHoopStopComplete n s) := by
  unfold execHoopStopComplete
  dsimp only
  repeat' split
  all_goals simp +contextual

theorem execHoopReleaseEdge_answers (n : Fin 192) (s : State) : Answers s (execHoopReleaseEdge n s) := by
  unfold execHoopReleaseEdge
  split <;> simp +contextual

theorem execHoopRepairResume_answers (n : Fin 192) (s : State) : Answers s (execHoopRepairResume n s) := by
  unfold execHoopRepairResume
  split <;> simp +contextual

theorem execGlobalStart_answers (s : State) : Answers s (execGlobalStart s) := by
  simp +contextual [execGlobalStart]

theorem execKeyErase_answers (v : Word) (s : State) : Answers s (execKeyErase v s) := by
  simp +contextual [execKeyErase]

theorem execNearCtrlWrite_answers (v : Word) (s : State) : Answers s (execNearCtrlWrite v s) := by
  simp +contextual [execNearCtrlWrite]

theorem execNearTrainingDone_answers (c : Fin 36) (ok : Bool) (s : State) : Answers s (execNearTrainingDone c ok s) := by
  simp +contextual [execNearTrainingDone]

theorem execNearFillDone_answers (c : Fin 36) (s : State) : Answers s (execNearFillDone c s) := by
  simp +contextual [execNearFillDone]

theorem execNearMirrorCopyDone_answers (c : Fin 36) (s : State) : Answers s (execNearMirrorCopyDone c s) := by
  simp +contextual [execNearMirrorCopyDone]

theorem execDqsDriftCheck_answers (c : Fin 36) (rank : Fin 2) (delta : Int) (s : State) : Answers s (execDqsDriftCheck c rank delta s) := by
  simp +contextual [execDqsDriftCheck]

theorem execZqCalibration_answers (c : Fin 36) (rank : Fin 2) (s : State) : Answers s (execZqCalibration c rank s) := by
  simp +contextual [execZqCalibration]

theorem execNearRefresh_answers (c : Fin 36) (rank : Fin 2) (bank : Fin 8) (s : State) : Answers s (execNearRefresh c rank bank s) := by
  simp +contextual [execNearRefresh]

theorem execPhyPllLockLoss_answers (c : Fin 36) (s : State) : Answers s (execPhyPllLockLoss c s) := by
  unfold execPhyPllLockLoss
  split <;> simp +contextual

theorem execNearPllLossTimeout_answers (c : Fin 36) (s : State) : Answers s (execNearPllLossTimeout c s) := by
  simp +contextual [execNearPllLossTimeout]

theorem execNearAccess_answers (req : Requester) (addr : BitVec 48) (acc : MemAcc) (fetch : List EngFetch) (s : State) : Answers s (execNearAccess req addr acc fetch s) := by
  simp +contextual [execNearAccess]

theorem execReleaseStart_answers (v : Word) (s : State) : Answers s (execReleaseStart v s) := by
  simp +contextual [execReleaseStart]

theorem execCavePortEnable_answers (p : Fin 16) (s : State) : Answers s (execCavePortEnable p s) := by
  simp +contextual [execCavePortEnable]

theorem execCavePortDisable_answers (p : Fin 16) (s : State) : Answers s (execCavePortDisable p s) := by
  simp +contextual [execCavePortDisable]

theorem execCaveReinstate_answers (p : Fin 16) (s : State) : Answers s (execCaveReinstate p s) := by
  simp +contextual [execCaveReinstate]

theorem execCavePowerWrite_answers (p : Fin 16) (v : BitVec 2) (s : State) : Answers s (execCavePowerWrite p v s) := by
  simp +contextual [execCavePowerWrite]

theorem execCaveLinkingDone_answers (p : Fin 16) (s : State) : Answers s (execCaveLinkingDone p s) := by
  refine (answers_whenClocked ..).mpr fun _ => answers_of_keeps ?_
  have hread (t : State) : Untouched t ((List.range 7).foldl (fun s i => cregRead p i s) t) :=
    foldl_untouched _ _ _ fun _ _ => cregRead_untouched ..
  dsimp only
  split
  · exact keeps_of_untouched (untouched_trans (setCvSt_untouched ..) (hread _))
  · exact keeps_refl s

theorem execCaveLinkTimeout_answers (p : Fin 16) (s : State) : Answers s (execCaveLinkTimeout p s) := by
  simp +contextual [execCaveLinkTimeout]

theorem execCaveProbeDone_answers (p : Fin 16) (s : State) : Answers s (execCaveProbeDone p s) := by
  simp +contextual [execCaveProbeDone]

theorem execCaveStopDone_answers (p : Fin 16) (s : State) : Answers s (execCaveStopDone p s) := by
  simp +contextual [execCaveStopDone]

theorem execCaveLinkSilence_answers (p : Fin 16) (s : State) : Answers s (execCaveLinkSilence p s) := by
  simp +contextual [execCaveLinkSilence]

theorem execCaveReplayTimeout_answers (p : Fin 16) (s : State) : Answers s (execCaveReplayTimeout p s) := by
  simp +contextual [execCaveReplayTimeout]

theorem execCaveBlockRx_answers (p : Fin 16) (s : State) : Answers s (execCaveBlockRx p s) := by
  simp +contextual [execCaveBlockRx]

theorem execCaveAccess_answers (req : Requester) (addr : BitVec 48) (acc : MemAcc) (s : State) : Answers s (execCaveAccess req addr acc s) := by
  simp +contextual [execCaveAccess]

theorem execLineRead_answers (e : Fin 52) (addr : BitVec 48) (fetch : EngFetch) (s : State) : Answers s (execLineRead e addr fetch s) := by
  unfold execLineRead
  dsimp only
  repeat' split
  all_goals simp +contextual

theorem execLineWrite_answers (e : Fin 52) (addr : BitVec 48) (data : List Byte) (be : List Bool) (poison : Bool) (fetch : EngFetch) (s : State) : Answers s (execLineWrite e addr data be poison fetch s) := by
  unfold execLineWrite
  dsimp only
  repeat' split
  all_goals simp +contextual

theorem execCaveRdata_answers (p : Fin 16) (s : State) : Answers s (execCaveRdata p s) := by
  refine (answers_whenClocked ..).mpr fun _ => answers_of_keeps ?_
  refine keeps_of_untouched ?_
  split <;> rename_i hm
  · exact ⟨rfl, rfl⟩
  refine untouched_trans (takeCaveMsg_untouched hm) ?_
  split
  · exact ⟨rfl, rfl⟩
  extract_lets t
  refine untouched_trans (t := t) (modCv_untouched ..) ?_
  clear_value t
  split
  · split
    · exact ⟨rfl, rfl⟩
    · exact rdataRead_untouched ..
  · split
    · exact reqDone_untouched ..
    · exact rdataMerge_untouched ..
  · exact ⟨rfl, rfl⟩

theorem execCaveWdone_answers (p : Fin 16) (s : State) : Answers s (execCaveWdone p s) := by
  refine (answers_whenClocked ..).mpr fun _ => answers_of_keeps ?_
  refine keeps_of_untouched ?_
  split <;> rename_i hm
  · exact ⟨rfl, rfl⟩
  refine untouched_trans (takeCaveMsg_untouched hm) ?_
  split
  · exact ⟨rfl, rfl⟩
  · exact untouched_trans (modCv_untouched ..) (reqDone_untouched ..)

theorem execCaveCregRsp_answers (p : Fin 16) (s : State) : Answers s (execCaveCregRsp p s) := by
  refine (answers_whenClocked ..).mpr fun _ => answers_of_keeps ?_
  refine keeps_of_untouched ?_
  split <;> rename_i hm
  · exact ⟨rfl, rfl⟩
  refine untouched_trans (takeCaveMsg_untouched hm) ?_
  split
  · extract_lets t
    refine untouched_trans (t := t) (modCv_untouched ..) ?_
    clear_value t
    split
    · exact caveRetire_untouched ..
    · exact ⟨rfl, rfl⟩
  · exact ⟨rfl, rfl⟩

theorem execCaveStatus_answers (p : Fin 16) (s : State) : Answers s (execCaveStatus p s) := by
  refine (answers_whenClocked ..).mpr fun _ => answers_of_keeps ?_
  refine keeps_of_untouched ?_
  split <;> rename_i hm
  · exact ⟨rfl, rfl⟩
  refine untouched_trans (takeCaveMsg_untouched hm) ?_
  split
  · exact ⟨rfl, rfl⟩
  split
  · split <;> simp [Untouched]
  · exact caveUnc_untouched ..
  · exact caveRetire_untouched ..
  · exact cregRead_untouched ..
  · exact ⟨rfl, rfl⟩

theorem execCaveCredit_answers (p : Fin 16) (s : State) : Answers s (execCaveCredit p s) := by
  refine (answers_whenClocked ..).mpr fun _ => answers_of_keeps ?_
  refine keeps_of_untouched ?_
  split <;> rename_i hm
  · exact ⟨rfl, rfl⟩
  refine untouched_trans (takeCaveMsg_untouched hm) ?_
  split
  · exact untouched_trans ⟨addSat_mem .., addSat_pending ..⟩ (untouched_trans ⟨addSat_mem .., addSat_pending ..⟩ (caveFlush_untouched ..))
  · exact ⟨rfl, rfl⟩

theorem execReleaseDone_answers (s : State) : Answers s (execReleaseDone s) := by
  refine (answers_whenClocked ..).mpr fun _ => answers_of_keeps ?_
  refine keeps_of_untouched ?_
  extract_lets first n cave p one t
  have hone (u : State) (i : Nat) : Untouched u (one u i) := by
    simp only [one]
    split
    · split
      · exact untouched_trans (releasePage_untouched ..) (fillSend_untouched ..)
      split
      · exact releasePage_untouched ..
      · exact untouched_trans (releasePage_untouched ..) (fillSend_untouched ..)
    · exact releasePage_untouched ..
  clear_value one
  have ht : Untouched s t := foldl_untouched _ _ _ hone
  clear_value t
  split
  · exact untouched_trans ht ⟨rfl, rfl⟩
  · exact ⟨rfl, rfl⟩

theorem execPmuRow_answers (c : Fin 4) (upsets : List (Fin 32768 × Fin 148)) (s : State) : Answers s (execPmuRow c upsets s) := by
  refine (answers_whenClocked ..).mpr fun _ => answers_of_keeps ?_
  have hs : Keeps s (upsetRows (s.get F.fabPmuCtrlArray c) upsets s) := keeps_of_untouched (upsetRows_untouched ..)
  generalize upsetRows (s.get F.fabPmuCtrlArray c) upsets s = t at hs
  have serve (a : Nat) (acc : MemAcc) (u : State) : Keeps u (memServe (.pmu c) a acc u).state := memServe_keeps ..
  obtain ⟨mem, hmem⟩ : ∃ mem, mem = memServe (.pmu c) := ⟨_, rfl⟩
  rw [← hmem] at serve ⊢
  clear hmem
  refine keeps_trans hs ?_
  extract_lets t0 a j row addr r t1 src t2 u prow r'
  have hr : Keeps t r.state := serve ..
  clear_value r
  have h1 : Untouched r.state t1 := setPmRow_untouched ..
  clear_value t1
  have h2 : Untouched t1 t2 := by
    simp only [t2]
    split
    · exact untouched_trans (flag_untouched ..) (setPmu_untouched ..)
    · exact ⟨rfl, rfl⟩
  clear_value t2
  have hu : Untouched t u := pmuCheckRow_untouched (s := t0) ..
  clear_value u
  have hr' : Keeps u r'.state := serve ..
  clear_value r'
  split
  · split
    · split
      · exact keeps_then hr (pmuError_untouched ..)
      · exact keeps_then hr (untouched_trans h1 (untouched_trans h2 (pmuAdvance_untouched ..)))
    · exact keeps_of_untouched (untouched_trans (setPmRow_untouched ..) (pmuAdvance_untouched ..))
    · split
      · exact keeps_trans (keeps_of_untouched hu) (keeps_then hr' (pmuAdvance_untouched ..))
      · exact keeps_trans (keeps_of_untouched hu) (keeps_then hr' (pmuError_untouched ..))
    · exact keeps_of_untouched (untouched_trans (pmuCheckRow_untouched ..) (pmuAdvance_untouched ..))
  · exact keeps_refl t

theorem execPmuComplete_answers (c : Fin 4) (s : State) : Answers s (execPmuComplete c s) := by
  refine (answers_whenClocked ..).mpr fun _ => answers_of_keeps ?_
  have hstore (a : Nat) (l : List Byte) : Keeps s (storeSummary (.pmu c) a l s).2 := storeSummary_keeps ..
  obtain ⟨store, hs⟩ : ∃ store, store = storeSummary (.pmu c) := ⟨_, rfl⟩
  rw [← hs] at hstore ⊢
  clear hs
  split
  · extract_lets op done r stored st s1 w s2 s3 s4
    have hr : Keeps s r.2 := hstore ..
    clear_value r
    have h1 : Keeps s s1 := by
      simp only [s1, stored]
      split
      · exact hr
      · exact keeps_refl s
    clear_value s1
    have h2 : Untouched s1 s2 := ⟨rfl, rfl⟩
    clear_value s2
    have h3 : Untouched s2 s3 := by
      simp only [s3]
      split
      · exact flag_untouched ..
      · exact ⟨rfl, rfl⟩
    clear_value s3
    have h4 : Untouched s3 s4 := setPmu_untouched ..
    clear_value s4
    have h := keeps_then h1 (untouched_trans h2 (untouched_trans h3 h4))
    split
    · exact keeps_then h (postToken_untouched ..)
    · exact h
  · exact keeps_refl s

theorem execScrubComplete_answers (e : Fin 2) (s : State) : Answers s (execScrubComplete e s) := by
  refine (answers_whenClocked ..).mpr fun _ => answers_of_keeps ?_
  have hstore (a : Nat) (l : List Byte) : Keeps s (storeSummary (.scrub e) a l s).2 := storeSummary_keeps ..
  obtain ⟨store, hs⟩ : ∃ store, store = storeSummary (.scrub e) := ⟨_, rfl⟩
  rw [← hs] at hstore ⊢
  clear hs
  extract_lets p kind dest
  split
  · extract_lets rec_ r st s1 w s2 s3
    have h1 : Keeps s s1 := hstore ..
    clear_value r s1
    have h2 : Untouched s1 s2 := ⟨rfl, rfl⟩
    clear_value s2
    have h3 : Untouched s2 s3 := setScrub_untouched ..
    clear_value s3
    have h := keeps_then h1 (untouched_trans h2 h3)
    split
    · exact keeps_then h (postToken_untouched ..)
    · exact h
  · exact keeps_refl s

theorem execHwLine_answers (i : Fin 16) (data : List Byte) (first last : Bool) (cross : BitVec 14) (poison : Bool) (s : State) : Answers s (execHwLine i data first last cross poison s) := by
  simp +contextual [execHwLine]

theorem execCollectorRecord_answers (i : Fin 16) (s : State) : Answers s (execCollectorRecord i s) := by
  unfold execCollectorRecord
  dsimp only
  repeat' split
  all_goals simp +contextual

theorem execMigratePage_answers (s : State) : Answers s (execMigratePage s) := by
  refine (answers_whenClocked ..).mpr fun _ => answers_of_keeps ?_
  have serve (a : Nat) (acc : MemAcc) (u : State) : Keeps u (memServe .migration a acc u).state := memServe_keeps ..
  obtain ⟨mem, hmem⟩ : ∃ mem, mem = memServe .migration := ⟨_, rfl⟩
  rw [← hmem] at serve ⊢
  clear hmem
  extract_lets g live next
  have hnext (t : State) : Keeps t (next t) := keeps_of_eq rfl rfl
  clear_value next
  split
  · split
    · exact keeps_refl s
    extract_lets line
    have hline (t : State) (k : Nat) : Keeps t (line t k) := keeps_trans (serve ..) (serve ..)
    clear_value line
    split
    · exact hnext s
    split
    · exact keeps_trans (keeps_of_untouched (setSkip_untouched ..)) (hnext _)
    split
    · exact keeps_refl s
    · exact keeps_trans (foldl_keeps _ _ hline s) (keeps_trans (keeps_of_untouched (setSkip_untouched ..)) (hnext _))
  · exact keeps_refl s

theorem execRingCtrlWrite_answers (reg : RingReg) (v : Word) (s : State) : Answers s (execRingCtrlWrite reg v s) := by
  unfold execRingCtrlWrite
  split <;> simp +contextual

theorem execRingOpen_answers (s : State) : Answers s (execRingOpen s) := by
  simp +contextual [execRingOpen]

theorem execRingStopDone_answers (s : State) : Answers s (execRingStopDone s) := by
  simp +contextual [execRingStopDone]

theorem execLookbackPush_answers (v : Word) (s : State) : Answers s (execLookbackPush v s) := by
  simp +contextual [execLookbackPush]

theorem execLookbackStart_answers (e : Fin 4) (s : State) : Answers s (execLookbackStart e s) := by
  unfold execLookbackStart
  split <;> simp +contextual

theorem execLookbackComplete_answers (e : Fin 4) (fault : Bool) (s : State) : Answers s (execLookbackComplete e fault s) := by
  refine (answers_whenClocked ..).mpr fun _ => answers_of_keeps ?_
  have hgather (room : Nat) (l : List IdxEntry) (r : LbResult) : Keeps s (lbGather e room l r s).2 := lbGather_keeps ..
  have hwrite (a : Nat) (l : List Byte) (t : State) : Keeps t (engineWrite (.lookback e) a l t).state := engineWrite_keeps ..
  obtain ⟨gather, hg⟩ : ∃ gather, gather = lbGather e := ⟨_, rfl⟩
  obtain ⟨write, hw⟩ : ∃ write, write = engineWrite (.lookback e) := ⟨_, rfl⟩
  rw [← hg] at hgather
  rw [← hw] at hwrite
  rw [← hg, ← hw]
  clear hg hw
  extract_lets eng w dest room found g st image f wrote st' word s1 s2
  clear_value w
  have h0 : Keeps s g.2 := hgather ..
  clear_value g
  have hf : Untouched g.2 f.2 := freeBytes_untouched ..
  clear_value f
  have h1 : Keeps g.2 wrote.state := by
    simp only [wrote]
    split
    · exact keeps_trans (keeps_of_untouched hf) (hwrite ..)
    · exact hwrite ..
  clear_value wrote
  have h2 : Untouched wrote.state s1 := ⟨put_mem .., put_pending ..⟩
  clear_value s1
  have h3 : Untouched s1 s2 := lbShow_untouched ..
  clear_value s2
  have h := keeps_then (keeps_trans h0 h1) (untouched_trans h2 h3)
  split
  · exact keeps_refl s
  split
  · exact keeps_then h (postToken_untouched ..)
  · exact h

theorem execLbtxSend_answers (t : Fin 2) (v : Word) (s : State) : Answers s (execLbtxSend t v s) := by
  simp +contextual [execLbtxSend]

theorem execLbtxDone_answers (t : Fin 2) (s : State) : Answers s (execLbtxDone t s) := by
  simp +contextual [execLbtxDone]

theorem execNocRead_answers (ni : Fin 288) (req : Requester) (addr : BitVec 48) (len : Nat) (s : State) : Answers s (execNocRead ni req addr len s) := by
  simp +contextual [execNocRead]

theorem execNocWrite_answers (ni : Fin 288) (req : Requester) (addr : BitVec 48) (data : List Byte) (be : List Bool) (poison : Bool) (s : State) : Answers s (execNocWrite ni req addr data be poison s) := by
  simp +contextual [execNocWrite]

theorem execNocAtomic_answers (ni : Fin 288) (req : Requester) (addr : BitVec 48) (aop : Fin 16) (size : Nat) (operand : DWord) (s : State) : Answers s (execNocAtomic ni req addr aop size operand s) := by
  simp +contextual [execNocAtomic]

theorem execNocPwrite_answers (ni : Fin 288) (req : Requester) (addr : BitVec 48) (data : List Byte) (be : List Bool) (poison : Bool) (s : State) : Answers s (execNocPwrite ni req addr data be poison s) := by
  simp +contextual [execNocPwrite]

theorem execNocToken_answers (ni : Fin 288) (queue : BitVec 14) (v : DWord) (s : State) : Answers s (execNocToken ni queue v s) := by
  simp +contextual [execNocToken]

theorem execNocResp_answers (ni : Fin 288) (txn : Nat) (status : Status) (data : List Byte) (poison : Bool) (s : State) : Answers s (execNocResp ni txn status data poison s) := by
  unfold execNocResp
  repeat' split
  all_goals simp +contextual

theorem execNocResponseTimeout_answers (ni : Fin 288) (txn : Nat) (s : State) : Answers s (execNocResponseTimeout ni txn s) := by
  simp +contextual [execNocResponseTimeout]

theorem execNocStallTimeout_answers (at_ : StallAt) (s : State) : Answers s (execNocStallTimeout at_ s) := by
  refine (answers_whenClocked ..).mpr fun _ => answers_of_keeps ?_
  refine keeps_of_untouched ?_
  have hlost (req : Option (Fin 288 × Nat)) (t : State) : Untouched t (packetLost reqTimeout req t) :=
    packetLost_untouched (fun n t u => reqTimeout_untouched ..) ..
  split
  · exact untouched_trans (flag_untouched ..) (untouched_trans (rtrDiscard_untouched ..) (hlost _ _))
  · exact niStall_untouched ..

theorem execRouterDrain_answers (r : Fin 144) (s : State) : Answers s (execRouterDrain r s) := by
  simp +contextual [execRouterDrain]

theorem execRouterReinstate_answers (r : Fin 144) (s : State) : Answers s (execRouterReinstate r s) := by
  simp +contextual [execRouterReinstate]

theorem execRouterDrainEnd_answers (r : Fin 144) (discarded : List (Option (Fin 288 × Nat))) (s : State) : Answers s (execRouterDrainEnd r discarded s) := by
  refine (answers_whenClocked ..).mpr fun _ => answers_of_keeps ?_
  refine keeps_of_untouched ?_
  extract_lets t
  have ht : Untouched s t := by
    simp only [t]
    split
    · exact ⟨rfl, rfl⟩
    · exact untouched_trans (rtrDiscard_untouched ..) (flag_untouched ..)
  clear_value t
  have hlost : Untouched t (discarded.foldl (fun s q => packetLost reqFault q s) t) :=
    foldl_untouched _ _ _ fun u q => packetLost_untouched (fun n t u => reqFault_untouched ..) ..
  split
  · exact untouched_trans ht (untouched_trans hlost ⟨put_mem .., put_pending ..⟩)
  · exact ⟨rfl, rfl⟩

theorem execRouterReconfDone_answers (r : Fin 144) (wires : Nat) (xbar : Fin 3) (s : State) : Answers s (execRouterReconfDone r wires xbar s) := by
  unfold execRouterReconfDone
  split <;> simp +contextual

theorem execFlitCrcError_answers (r : Fin 144) (dir : Fin 4) (again : Bool) (s : State) : Answers s (execFlitCrcError r dir again s) := by
  unfold execFlitCrcError
  dsimp only
  repeat' split
  all_goals simp +contextual

theorem parityTimes_untouched (r : Nat) (times : List Nat) (s : State) :
    Untouched s { s with noc := { s.noc with parity := Tab.put [] s.noc.parity r times } } := ⟨rfl, rfl⟩
theorem xbarTail_untouched (r : Fin 144) (times : List Nat) (w : State) :
    Untouched w (if 2 ≤ times.length ∧ w.rtrSt r ≠ 3 ∧ w.noc.active ≠ some (r.val, .crossbar) then latchDrain r .crossbar w else w) := by
  split
  · exact latchDrain_untouched ..
  · exact ⟨rfl, rfl⟩
theorem execXbarParityError_answers (r : Fin 144) (req : Option (Fin 288 × Nat)) (s : State) :
    Answers s (execXbarParityError r req s) := by
  refine (answers_whenClocked ..).mpr fun _ => answers_of_keeps (keeps_of_untouched ?_)
  have hlost (t : State) : Untouched t (packetLost reqFault req t) := packetLost_untouched (fun n t u => reqFault_untouched ..) ..
  extract_lets t times noc w
  have ht : Untouched s t := untouched_trans (bump_untouched ..) (untouched_trans (rtrDiscard_untouched ..) (hlost _))
  have hw : Untouched t w := parityTimes_untouched ..
  exact untouched_trans ht (untouched_trans hw (xbarTail_untouched ..))

theorem execVcdepthWrite_answers (r : Fin 144) (v : Word) (s : State) : Answers s (execVcdepthWrite r v s) := by
  simp +contextual [execVcdepthWrite]

theorem execWxTokenArrive_answers (q : BitVec 14) (v : DWord) (s : State) : Answers s (execWxTokenArrive q v s) := by
  simp +contextual [execWxTokenArrive]

theorem execWxPostWindow_answers (addr : Nat) (item : List Byte) (s : State) : Answers s (execWxPostWindow addr item s) := by
  simp +contextual [execWxPostWindow]

theorem execItemCompletion_answers (slot : Fin 32768) (s : State) : Answers s (execItemCompletion slot s) := by
  unfold execItemCompletion
  dsimp only
  repeat' split
  all_goals simp +contextual

theorem execCompletionToken_answers (slot : Fin 32768) (status : Status) (s : State) : Answers s (execCompletionToken slot status s) := by
  unfold execCompletionToken
  dsimp only
  split <;> simp +contextual

theorem execWxCancelWrite_answers (handle : Word) (s : State) : Answers s (execWxCancelWrite handle s) := by
  simp +contextual [execWxCancelWrite]

theorem execDelayListTick_answers (l : Fin 4) (s : State) : Answers s (execDelayListTick l s) := by
  simp +contextual [execDelayListTick]

theorem execDelayDue_answers (l : Fin 4) (s : State) : Answers s (execDelayDue l s) := by
  unfold execDelayDue
  dsimp only
  split <;> simp +contextual

theorem execWxDispatch_answers (s : State) : Answers s (execWxDispatch s) := by
  unfold execWxDispatch
  dsimp only
  repeat' split
  all_goals simp +contextual

theorem execAffinityWaitExpiry_answers (q : BitVec 14) (s : State) : Answers s (execAffinityWaitExpiry q s) := by
  unfold execAffinityWaitExpiry
  split <;> simp +contextual

theorem execItemDelivered_answers (n : Fin 128) (s : State) : Answers s (execItemDelivered n s) := by
  unfold execItemDelivered
  repeat' split
  all_goals simp +contextual

theorem execPreemption_answers (s : State) : Answers s (execPreemption s) := by
  unfold execPreemption
  dsimp only
  repeat' split
  all_goals simp +contextual

theorem execPreemptSwitch_answers (n : Fin 128) (s : State) : Answers s (execPreemptSwitch n s) := by
  unfold execPreemptSwitch
  repeat' split
  all_goals simp +contextual

theorem execWatchdogExpiry_answers (n : Fin 128) (s : State) : Answers s (execWatchdogExpiry n s) := by
  simp +contextual [execWatchdogExpiry]

theorem execShadowMismatch_answers (g : Fin 16) (s : State) : Answers s (execShadowMismatch g s) := by
  simp +contextual [execShadowMismatch]

theorem execShadowReinstate_answers (g : Fin 16) (s : State) : Answers s (execShadowReinstate g s) := by
  simp +contextual [execShadowReinstate]

theorem execCoreRelease_answers (n : Fin 128) (s : State) : Answers s (execCoreRelease n s) := by
  simp +contextual [execCoreRelease]

theorem execCoreReinstate_answers (n : Fin 128) (s : State) : Answers s (execCoreReinstate n s) := by
  simp +contextual [execCoreReinstate]

theorem execLoadFull_answers (src : BitVec 3) (s : State) : Answers s (execLoadFull src s) := by
  simp +contextual [execLoadFull]

theorem execLoadHoop_answers (src : BitVec 3) (hoop : BitVec 8) (s : State) : Answers s (execLoadHoop src hoop s) := by
  simp +contextual [execLoadHoop]

theorem execLoadCancel_answers (s : State) : Answers s (execLoadCancel s) := by
  simp +contextual [execLoadCancel]

theorem execPowerOnLoad_answers (s : State) : Answers s (execPowerOnLoad s) := by
  simp +contextual [execPowerOnLoad]

theorem execLoaderHeaderDone_answers (s : State) : Answers s (execLoaderHeaderDone s) := by
  refine (answers_whenClocked ..).mpr fun _ => answers_of_keeps ?_
  have h : Keeps s (srcNext 16 s).2 := srcNext_keeps ..
  split
  · split <;> rename_i hr <;> rw [hr] at h
    · exact keeps_then h (loadFailAt_untouched ..)
    split
    · exact keeps_then h (loadFailAt_untouched ..)
    split
    · exact keeps_then h (loadFailAt_untouched ..)
    · exact keeps_trans h (headerRest_keeps ..)
  · exact keeps_refl s

theorem execImageFillWaitTimeout_answers (s : State) : Answers s (execImageFillWaitTimeout s) := by
  simp +contextual [execImageFillWaitTimeout]

theorem execLoaderPrepareDone_answers (s : State) : Answers s (execLoaderPrepareDone s) := by
  refine (answers_whenClocked ..).mpr fun _ => answers_of_keeps ?_
  have hc : Keeps s (clearHoopFrames s.ldTarget s) := clearHoopFrames_keeps ..
  have hp : Keeps s (prepareFull s) := prepareFull_keeps ..
  generalize clearHoopFrames s.ldTarget s = t at hc
  generalize prepareFull s = u at hp
  split
  · split
    · split
      · exact keeps_then hc ⟨put_mem .., put_pending ..⟩
      · exact keeps_refl s
    split
    · exact keeps_then hp ⟨put_mem .., put_pending ..⟩
    · exact keeps_refl s
  · exact keeps_refl s

theorem execFrameRun_answers (s : State) : Answers s (execFrameRun s) := by
  refine (answers_whenClocked ..).mpr fun _ => answers_of_keeps ?_
  exact atRecord_keeps (fun g t => frameRun_keeps ..) ..

theorem execMblockRecord_answers (s : State) : Answers s (execMblockRecord s) := by
  refine (answers_whenClocked ..).mpr fun _ => answers_of_keeps ?_
  exact atRecord_keeps (fun g t => mblockRecord_keeps ..) ..

theorem execBankinitRecord_answers (s : State) : Answers s (execBankinitRecord s) := by
  refine (answers_whenClocked ..).mpr fun _ => answers_of_keeps ?_
  exact atRecord_keeps (fun g t => bankinitRecord_keeps ..) ..

theorem execRegsRecord_answers (s : State) : Answers s (execRegsRecord s) := by
  refine (answers_whenClocked ..).mpr fun _ => answers_of_keeps ?_
  exact atRecord_keeps (fun g t => regsRecord_keeps ..) ..

theorem execSegmentEnd_answers (s : State) : Answers s (execSegmentEnd s) := by
  refine (answers_whenClocked ..).mpr fun _ => answers_of_keeps ?_
  have h : Keeps s (openSegment s).2 := openSegment_keeps ..
  split
  · split <;> rename_i hr <;> rw [hr] at h
    · exact h
    split
    · exact keeps_trans h (segmentEnd_keeps ..)
    split
    · exact keeps_refl s
    · exact h
  · exact keeps_refl s

theorem execFlashReadTimeout_answers (s : State) : Answers s (execFlashReadTimeout s) := by
  simp +contextual [execFlashReadTimeout]

theorem execScrubFrameRead_answers (fa : Word) (upsets : List (Fin 4128)) (s : State) : Answers s (execScrubFrameRead fa upsets s) := by
  simp +contextual [execScrubFrameRead]

theorem execFrameRewriteStart_answers (s : State) : Answers s (execFrameRewriteStart s) := by
  unfold execFrameRewriteStart
  split <;> simp +contextual

theorem execFrameRewriteDone_answers (s : State) : Answers s (execFrameRewriteDone s) := by
  refine (answers_whenClocked ..).mpr fun _ => answers_of_keeps ?_
  split
  · exact keeps_refl s
  extract_lets t slot
  have ht : Untouched s t := modLoader_untouched ..
  clear_value t
  have h0 : Keeps t (imageRead 0 slot t).2 := imageRead_keeps ..
  split <;> rename_i hr <;> rw [hr] at h0
  · exact keeps_trans (keeps_of_untouched ht) (keeps_then h0 (rewriteDone_untouched ..))
  rename_i u
  have h1 : Keeps u (imageRead 1 slot u).2 := imageRead_keeps ..
  split <;> rename_i hr <;> rw [hr] at h1
  · exact keeps_trans (keeps_of_untouched ht) (keeps_trans h0 (keeps_then h1 (rewriteDone_untouched ..)))
  · exact keeps_trans (keeps_of_untouched ht) (keeps_trans h0 (keeps_then h1 (rewriteLost_untouched ..)))

theorem execClockSwitchDone_answers (mux : Fin 32) (s : State) : Answers s (execClockSwitchDone mux s) := by
  simp +contextual [execClockSwitchDone]

theorem execClkForced_answers (mux : Fin 32) (s : State) : Answers s (execClkForced mux s) := by
  simp +contextual [execClkForced]

theorem execClkNocWrite_answers (v : Word) (s : State) : Answers s (execClkNocWrite v s) := by
  simp +contextual [execClkNocWrite]

theorem execClkQpllWrite_answers (q : Fin 4) (v : Word) (s : State) : Answers s (execClkQpllWrite q v s) := by
  simp +contextual [execClkQpllWrite]

theorem execClkGrpWrite_answers (g : Fin 16) (v : Word) (s : State) : Answers s (execClkGrpWrite g v s) := by
  simp +contextual [execClkGrpWrite]

theorem execClkNctlWrite_answers (v : Word) (s : State) : Answers s (execClkNctlWrite v s) := by
  simp +contextual [execClkNctlWrite]

theorem execRootSelectWrite_answers (v : Word) (s : State) : Answers s (execRootSelectWrite v s) := by
  simp +contextual [execRootSelectWrite]

theorem execXoLoss_answers (s : State) : Answers s (execXoLoss s) := by
  simp +contextual [execXoLoss]

theorem execXoValid_answers (s : State) : Answers s (execXoValid s) := by
  simp +contextual [execXoValid]

theorem execPllUnlock_answers (p : Fin 10) (s : State) : Answers s (execPllUnlock p s) := by
  simp +contextual [execPllUnlock]

theorem execPllRelock_answers (p : Fin 10) (s : State) : Answers s (execPllRelock p s) := by
  simp +contextual [execPllRelock]

theorem execPllFailTimeout_answers (p : Fin 10) (s : State) : Answers s (execPllFailTimeout p s) := by
  simp +contextual [execPllFailTimeout]

theorem execPowerOnReset_answers (s : State) : Answers s (execPowerOnReset s) := by
  simp +contextual [execPowerOnReset]

theorem execPgoodFall_answers (s : State) : Answers s (execPgoodFall s) := by
  simp +contextual [execPgoodFall]

theorem execSupplyMonitorFall_answers (s : State) : Answers s (execSupplyMonitorFall s) := by
  simp +contextual [execSupplyMonitorFall]

theorem execPowerStable_answers (s : State) : Answers s (execPowerStable s) := by
  simp +contextual [execPowerStable]

theorem execSrstAssert_answers (s : State) : Answers s (execSrstAssert s) := by
  simp +contextual [execSrstAssert]

theorem execSysRstWrite_answers (v : Word) (s : State) : Answers s (execSysRstWrite v s) := by
  simp +contextual [execSysRstWrite]

theorem execSystemReset_answers (s : State) : Answers s (execSystemReset s) := by
  unfold execSystemReset
  split <;> simp +contextual

theorem execSystemResetRelease_answers (s : State) : Answers s (execSystemResetRelease s) := by
  simp +contextual [execSystemResetRelease]

theorem execClocksPhaseDone_answers (unlocked : BitVec 10) (s : State) : Answers s (execClocksPhaseDone unlocked s) := by
  refine answers_of_keeps ?_
  refine keeps_of_untouched ?_
  have hpll (t : State) : Untouched t ((List.range 9).foldl (fun s k =>
      if unlocked.toNat.testBit (k + 1) then pllFail (k + 1) (pllShow (k + 1) false s) else pllShow (k + 1) true s) t) :=
    foldl_untouched _ _ _ fun _ _ => by split <;> simp
  have hboot (t : State) : Untouched t ((List.range 36).foldl (fun s c => bootChannel c s) t) :=
    foldl_untouched _ _ _ fun _ _ => bootChannel_untouched ..
  split
  · exact untouched_trans ⟨put_mem .., put_pending ..⟩ (untouched_trans ⟨setWord_mem .., setWord_pending ..⟩ (untouched_trans (hpll _)
      (untouched_trans (hboot _) (drawK0_untouched _))))
  · exact ⟨rfl, rfl⟩

theorem execOnchipFillDone_answers (s : State) : Answers s (execOnchipFillDone s) := by
  refine answers_of_keeps ?_
  have hfill (l : List Nat) (f : Nat → BankId) (t : State) : Untouched t (l.foldl (fun s n => bankFilled (f n) s) t) :=
    foldl_untouched _ _ _ fun _ _ => bankFilled_untouched ..
  have hrelease (t : State) : Untouched t ((List.range 128).foldl (fun s n =>
      if s.bit F.qcStatusPendingEnable n then coreRelease n s else s) t) :=
    foldl_untouched _ _ _ fun _ _ => by split <;> simp
  have hempty : Keeps s ({ s with mem := [], syn := [] }.flag F.sysStatusOnchipFilled) := ⟨rfl, fun _ => rfl⟩
  split
  · exact keeps_then hempty (untouched_trans (hfill _ (fun n => .block (Fin.ofNat 8192 n)) _)
      (untouched_trans (hfill _ (fun n => .scratch (Fin.ofNat 256 n)) _) (hrelease _)))
  · exact keeps_refl s

theorem execDomainSwitchOff_answers (d : Dom) (s : State) : Answers s (execDomainSwitchOff d s) := by
  simp +contextual [execDomainSwitchOff]

theorem execDomainEnable_answers (d : Dom) (s : State) : Answers s (execDomainEnable d s) := by
  simp +contextual [execDomainEnable]

theorem execDomainGatingDone_answers (d : Dom) (s : State) : Answers s (execDomainGatingDone d s) := by
  unfold execDomainGatingDone
  dsimp only
  repeat' split
  all_goals simp +contextual

theorem execDomainPowerUpDone_answers (d : Dom) (s : State) : Answers s (execDomainPowerUpDone d s) := by
  unfold execDomainPowerUpDone
  split <;> simp +contextual

theorem execHkConversion_answers (value : BitVec 16) (s : State) : Answers s (execHkConversion value s) := by
  simp +contextual [execHkConversion]

theorem execHkRoundEnd_answers (s : State) : Answers s (execHkRoundEnd s) := by
  simp +contextual [execHkRoundEnd]

theorem execTripFabricReset_answers (s : State) : Answers s (execTripFabricReset s) := by
  simp +contextual [execTripFabricReset]

theorem execCalItemDue_answers (item : CalItem) (s : State) : Answers s (execCalItemDue item s) := by
  simp +contextual [execCalItemDue]

theorem execCalMeasurementDone_answers (item : CalItem) (first second : List Int) (sel : Nat) (s : State) : Answers s (execCalMeasurementDone item first second sel s) := by
  simp +contextual [execCalMeasurementDone]

theorem execCalApply_answers (item : CalItem) (s : State) : Answers s (execCalApply item s) := by
  unfold execCalApply
  repeat' split
  all_goals simp +contextual

theorem execCalResultTimeout_answers (item : CalItem) (s : State) : Answers s (execCalResultTimeout item s) := by
  simp +contextual [execCalResultTimeout]

theorem execScmCalDeferred_answers (item : CalItem) (s : State) : Answers s (execScmCalDeferred item s) := by
  simp +contextual [execScmCalDeferred]

theorem execSelftestDone_answers (fails : List SelfFail) (s : State) : Answers s (execSelftestDone fails s) := by
  refine (answers_whenClocked ..).mpr fun _ => answers_of_keeps ?_
  have hmap : Untouched s (repairMap s).2 := repairMap_untouched ..
  have hrepair (l : List _) (t : State) : Untouched t (l.foldl repairAtStart t) := foldl_untouched _ _ _ fun _ _ => repairAtStart_untouched ..
  have hfail (t : State) : Keeps t (fails.foldl (fun s f => failureEffect f (recordFail s f)) t) :=
    foldl_keeps _ _ (fun _ _ => keeps_trans (keeps_of_untouched (recordFail_untouched ..)) (failureEffect_keeps ..)) _
  split
  · exact keeps_trans (keeps_of_untouched (untouched_trans hmap (hrepair _ _))) (keeps_then (hfail _) (flag_untouched ..))
  · exact keeps_refl s

theorem execSpareTest_answers (spare : SpareId) (ok : Bool) (s : State) : Answers s (execSpareTest spare ok s) := by
  unfold execSpareTest
  repeat' split
  all_goals simp +contextual

theorem execBlotterProgram_answers (count : Nat) (s : State) : Answers s (execBlotterProgram count s) := by
  refine (answers_whenClocked ..).mpr fun _ => answers_of_keeps ?_
  refine keeps_of_untouched ?_
  have hprog (l : List _) (t : State) : Untouched t (l.foldl programRecord t) := foldl_untouched _ _ _ fun _ _ => programRecord_untouched ..
  split
  · exact untouched_trans (hprog _ s) ⟨rfl, rfl⟩
  · exact ⟨rfl, rfl⟩

theorem execBootRomStart_answers (s : State) : Answers s (execBootRomStart s) := by
  unfold execBootRomStart
  dsimp only
  repeat' split
  all_goals simp +contextual

theorem execSceumWatchdogExpiry_answers (s : State) : Answers s (execSceumWatchdogExpiry s) := by
  simp +contextual [execSceumWatchdogExpiry]

theorem execSceumRestart_answers (s : State) : Answers s (execSceumRestart s) := by
  unfold execSceumRestart
  split <;> simp +contextual

theorem execFwTrialTimeout_answers (s : State) : Answers s (execFwTrialTimeout s) := by
  simp +contextual [execFwTrialTimeout]

theorem execCascRejoin_answers (s : State) : Answers s (execCascRejoin s) := by
  simp +contextual [execCascRejoin]

theorem execCascCtrlWrite_answers (v : Word) (s : State) : Answers s (execCascCtrlWrite v s) := by
  simp +contextual [execCascCtrlWrite]

theorem execCascLinkWrite_answers (l : Fin 15) (v : Word) (s : State) : Answers s (execCascLinkWrite l v s) := by
  simp +contextual [execCascLinkWrite]

theorem execServiceReplayTimeout_answers (l : Fin 15) (s : State) : Answers s (execServiceReplayTimeout l s) := by
  simp +contextual [execServiceReplayTimeout]

theorem execServiceBlockRx_answers (l : Fin 15) (s : State) : Answers s (execServiceBlockRx l s) := by
  refine answers_of_keeps ?_
  refine keeps_of_untouched ?_
  extract_lets block h w1 w2 master upOk s1 s2 two s3 s4 s5 s6
  clear_value h block w1 w2 master upOk
  have h1 : Untouched s s1 := modClink_untouched ..
  clear_value s1
  have h2 : Untouched s1 s2 := ⟨rfl, rfl⟩
  clear_value s2
  have h3 : Untouched s2 s3 := by
    simp only [s3]
    split
    · exact untouched_trans (flag_untouched ..) (raise_untouched ..)
    · exact ⟨rfl, rfl⟩
  clear_value s3
  have h4 : Untouched s3 s4 := ackService_untouched ..
  clear_value s4
  have h5 : Untouched s4 s5 := by
    simp only [s5]
    split
    · exact serviceReplay_untouched ..
    · exact ⟨rfl, rfl⟩
  clear_value s5
  have h6 : Untouched s5 s6 := by
    simp only [s6]
    split
    · split
      · exact modClink_untouched ..
      · exact takeData_untouched ..
    · exact ⟨rfl, rfl⟩
  clear_value s6
  have h := untouched_trans h1 (untouched_trans h2 (untouched_trans h3 (untouched_trans h4 (untouched_trans h5 h6))))
  split
  · exact ⟨rfl, rfl⟩
  split
  · exact modClink_untouched ..
  split
  · exact h
  · exact untouched_trans h (untouched_trans (masterSeen_untouched ..) (compareBlock_untouched ..))

theorem execRollTimer_answers (s : State) : Answers s (execRollTimer s) := by
  unfold execRollTimer
  split <;> simp +contextual

theorem execCascRoll_answers (l : Fin 15) (s : State) : Answers s (execCascRoll l s) := by
  refine answers_of_keeps ?_
  exact onMessage_keeps (fun m t => keeps_of_untouched (rollSeen_untouched ..)) ..

theorem execCascMasterLost_answers (s : State) : Answers s (execCascMasterLost s) := by
  unfold execCascMasterLost
  split <;> simp +contextual

theorem execRelayTimeout_answers (s : State) : Answers s (execRelayTimeout s) := by
  unfold execRelayTimeout
  split <;> simp +contextual

theorem execCascMemberLost_answers (m : Fin 16) (s : State) : Answers s (execCascMemberLost m s) := by
  refine answers_of_keeps ?_
  refine keeps_of_untouched ?_
  have habort (l : List Relay) (t : State) : Untouched t (l.foldl relayAborted t) := foldl_untouched _ _ _ fun _ _ => relayAborted_untouched ..
  split
  · extract_lets s1 s2 s3 s4
    have h1 : Untouched s s1 := ⟨put_mem .., put_pending ..⟩
    have h2 : Untouched s1 s2 := ⟨put_mem .., put_pending ..⟩
    have h3 : Untouched s2 s3 := modCasc_untouched ..
    have h4 : Untouched s3 s4 := untouched_trans (flag_untouched ..) (raise_untouched ..)
    clear_value s1 s2 s3 s4
    exact untouched_trans h1 (untouched_trans h2 (untouched_trans h3 (untouched_trans h4 (habort _ _))))
  · exact ⟨rfl, rfl⟩

theorem execRegWrite_answers (addr len : Nat) (v : Word) (s : State) : Answers s (execRegWrite addr len v s) := by
  unfold execRegWrite
  repeat' split
  all_goals simp +contextual

theorem execRcRead_answers (addr len : Nat) (quiet : Bool) (s : State) : Answers s (execRcRead addr len quiet s) := by
  unfold execRcRead
  repeat' split
  all_goals simp +contextual

theorem execRegisterPortAccess_answers (addr len : Nat) (write : Option Word) (s : State) : Answers s (execRegisterPortAccess addr len write s) := by
  unfold execRegisterPortAccess
  repeat' split
  all_goals simp +contextual

theorem execLoaderVerifyDone_answers (s : State) : Answers s (execLoaderVerifyDone s) := by
  refine (answers_whenClocked ..).mpr fun _ => answers_of_keeps ?_
  have h : Keeps s (signatureOk s).2 := signatureOk_keeps ..
  split
  · extract_lets at_
    split <;> rename_i hr <;> rw [hr] at h
    · exact keeps_then h (loadFailAt_untouched ..)
    split
    · exact keeps_trans h (verifyContent_keeps ..)
    · exact keeps_then h (loadFailAt_untouched ..)
  · exact keeps_refl s

theorem execLoaderStartDone_answers (s : State) : Answers s (execLoaderStartDone s) := by
  simp +contextual [execLoaderStartDone]

theorem execCoreInstruction_answers (n : Fin 128) (s : State) : Answers s (execCoreInstruction n s) := by
  refine answers_of_keeps ?_
  exact coreStep_keeps (fun f a t u h => keeps_of_untouched (coreOther_untouched h)) s

theorem execCoreLoad_answers (n : Fin 128) (s : State) : Answers s (execCoreLoad n s) := by
  refine answers_of_keeps ?_
  refine coreStep_keeps (fun f a t u h => ?_) s
  split at h
  · cases h
    exact coreLoad_keeps ..
  · cases h

theorem execCoreStore_answers (n : Fin 128) (s : State) : Answers s (execCoreStore n s) := by
  refine answers_of_keeps ?_
  refine coreStep_keeps (fun f a t u h => ?_) s
  split at h
  · cases h
    exact coreStore_keeps ..
  · cases h

theorem execCoreAmo_answers (n : Fin 128) (s : State) : Answers s (execCoreAmo n s) := by
  refine answers_of_keeps ?_
  refine coreStep_keeps (fun f a t u h => ?_) s
  split at h
  · cases h
    exact coreAmo_keeps ..
  · cases h

theorem execCoreLr_answers (n : Fin 128) (s : State) : Answers s (execCoreLr n s) := by
  refine answers_of_keeps ?_
  refine coreStep_keeps (fun f a t u h => ?_) s
  split at h
  · cases h
    exact coreLr_keeps ..
  · cases h

theorem execCoreSc_answers (n : Fin 128) (s : State) : Answers s (execCoreSc n s) := by
  refine answers_of_keeps ?_
  refine coreStep_keeps (fun f a t u h => ?_) s
  split at h
  · cases h
    exact coreSc_keeps ..
  · cases h

theorem execCoreFence_answers (n : Fin 128) (s : State) : Answers s (execCoreFence n s) := by
  refine answers_of_keeps ?_
  refine coreStep_keeps (fun f a t u h => ?_) s
  split at h
  · cases h
    refine keeps_of_untouched ?_
    split
    · exact ⟨rfl, rfl⟩
    · exact retire_untouched ..
  · cases h

theorem execCoreFenceI_answers (n : Fin 128) (s : State) : Answers s (execCoreFenceI n s) := by
  refine answers_of_keeps ?_
  refine coreStep_keeps (fun f a t u h => ?_) s
  split at h
  · cases h
    exact keeps_of_untouched (retire_untouched ..)
  · cases h

theorem execCoreEcall_answers (n : Fin 128) (s : State) : Answers s (execCoreEcall n s) := by
  refine answers_of_keeps ?_
  refine coreStep_keeps (fun f a t u h => ?_) s
  split at h
  · cases h
    exact keeps_of_untouched (coreTrap_untouched ..)
  · cases h

theorem execCoreEbreak_answers (n : Fin 128) (s : State) : Answers s (execCoreEbreak n s) := by
  refine answers_of_keeps ?_
  refine coreStep_keeps (fun f a t u h => ?_) s
  split at h
  · cases h
    have hend (b : Bool) : Untouched t (if b then haltCore n 2 t else coreTrap n 3 0 t) := by
      split
      · exact haltCore_untouched ..
      · exact coreTrap_untouched ..
    exact keeps_of_untouched (hend _)
  · cases h

theorem execLoadResponse_answers (n : Fin 128) (s : State) : Answers s (execLoadResponse n s) := by
  unfold execLoadResponse
  repeat' split
  all_goals simp +contextual

theorem execStoreErrorResponse_answers (n : Fin 128) (s : State) : Answers s (execStoreErrorResponse n s) := by
  unfold execStoreErrorResponse
  split <;> simp +contextual

theorem execWxNext_answers (n : Fin 128) (s : State) : Answers s (execWxNext n s) := by
  refine answers_of_keeps ?_
  refine coreStep_keeps (fun f a t u h => ?_) s
  split at h
  · cases h
    exact keeps_of_untouched (wxNext_untouched ..)
  · cases h

theorem execWxPost_answers (n : Fin 128) (s : State) : Answers s (execWxPost n s) := by
  refine answers_of_keeps ?_
  refine coreStep_keeps (fun f a t u h => ?_) s
  split at h
  · cases h
    exact wxPost_keeps ..
  · cases h

theorem execWxToken_answers (n : Fin 128) (s : State) : Answers s (execWxToken n s) := by
  refine answers_of_keeps ?_
  refine coreStep_keeps (fun f a t u h => ?_) s
  split at h
  · cases h
    exact keeps_of_untouched (wxTokenInstr_untouched ..)
  · cases h

theorem execWxCancel_answers (n : Fin 128) (s : State) : Answers s (execWxCancel n s) := by
  refine answers_of_keeps ?_
  refine coreStep_keeps (fun f a t u h => ?_) s
  split at h
  · cases h
    exact keeps_of_untouched (untouched_trans (cancelItem_untouched ..) (finish_untouched ..))
  · cases h

theorem execWxQstat_answers (n : Fin 128) (s : State) : Answers s (execWxQstat n s) := by
  refine answers_of_keeps ?_
  refine coreStep_keeps (fun f a t u h => ?_) s
  split at h
  · cases h
    exact keeps_of_untouched (finish_untouched ..)
  · cases h

theorem execWxSelf_answers (n : Fin 128) (s : State) : Answers s (execWxSelf n s) := by
  refine answers_of_keeps ?_
  refine coreStep_keeps (fun f a t u h => ?_) s
  split at h
  · cases h
    exact keeps_of_untouched (finish_untouched ..)
  · cases h

theorem execCoreMemoryNetAccess_answers (n : Fin 128) (offset : Nat) (acc : MemAcc) (s : State) : Answers s (execCoreMemoryNetAccess n offset acc s) := by
  unfold execCoreMemoryNetAccess
  repeat' split
  all_goals simp +contextual

theorem execTapReset_answers (s : State) : Answers s (execTapReset s) := by
  simp +contextual [execTapReset]

theorem execExtest_answers (pins shift : List (BsCell × Bool)) (s : State) : Answers s (execExtest pins shift s) := by
  simp +contextual [execExtest]

theorem execSamplePreload_answers (pins shift : List (BsCell × Bool)) (s : State) : Answers s (execSamplePreload pins shift s) := by
  simp +contextual [execSamplePreload]

theorem execIdcode_answers (s : State) : Answers s (execIdcode s) := by
  simp +contextual [execIdcode]

theorem execExtestPulse_answers (pins shift : List (BsCell × Bool)) (s : State) : Answers s (execExtestPulse pins shift s) := by
  simp +contextual [execExtestPulse]

theorem execExtestTrain_answers (pins shift : List (BsCell × Bool)) (s : State) : Answers s (execExtestTrain pins shift s) := by
  simp +contextual [execExtestTrain]

theorem execBypass_answers (s : State) : Answers s (execBypass s) := by
  simp +contextual [execBypass]

theorem execCoreHalted_answers (n : Fin 129) (s : State) : Answers s (execCoreHalted n s) := by
  simp +contextual [execCoreHalted]

theorem execDbgRead_answers (addr : BitVec 48) (s : State) : Answers s (execDbgRead addr s) := by
  simp +contextual [execDbgRead]

theorem execDbgWrite_answers (addr : BitVec 48) (v : Word) (s : State) : Answers s (execDbgWrite addr v s) := by
  simp +contextual [execDbgWrite]

theorem execDbgConsume_answers (addr : BitVec 48) (s : State) : Answers s (execDbgConsume addr s) := by
  simp +contextual [execDbgConsume]

theorem execDbgNop_answers (s : State) : Answers s (execDbgNop s) := by
  simp +contextual [execDbgNop]

theorem execDbgAccessTimeout_answers (s : State) : Answers s (execDbgAccessTimeout s) := by
  simp +contextual [execDbgAccessTimeout]

theorem execDbgConnect_answers (v : BitVec 4) (s : State) : Answers s (execDbgConnect v s) := by
  simp +contextual [execDbgConnect]

theorem execDbgAttach_answers (v : Word) (s : State) : Answers s (execDbgAttach v s) := by
  simp +contextual [execDbgAttach]

theorem execDbgSysrstReq_answers (v : Word) (s : State) : Answers s (execDbgSysrstReq v s) := by
  simp +contextual [execDbgSysrstReq]

theorem execDbgHalt_answers (n : Fin 129) (s : State) : Answers s (execDbgHalt n s) := by
  simp +contextual [execDbgHalt]

theorem execDbgResume_answers (n : Fin 129) (s : State) : Answers s (execDbgResume n s) := by
  simp +contextual [execDbgResume]

theorem execDbgStep_answers (n : Fin 129) (s : State) : Answers s (execDbgStep n s) := by
  simp +contextual [execDbgStep]

theorem execDbgRegRead_answers (s : State) : Answers s (execDbgRegRead s) := by
  simp +contextual [execDbgRegRead]

theorem execDbgRegWrite_answers (s : State) : Answers s (execDbgRegWrite s) := by
  simp +contextual [execDbgRegWrite]

theorem execDbgFreezeWrite_answers (v : Word) (s : State) : Answers s (execDbgFreezeWrite v s) := by
  simp +contextual [execDbgFreezeWrite]

theorem execDbgUnlockSelect_answers (s : State) : Answers s (execDbgUnlockSelect s) := by
  refine answers_of_keeps ?_
  refine keeps_of_untouched ?_
  have hchal (t : State) : Untouched t ((List.range 4).foldl (fun s i =>
      let r := s.fresh 32
      r.2.put F.dbgChalVal r.1 i) t) :=
    foldl_untouched _ _ _ fun _ _ => ⟨rfl, rfl⟩
  exact untouched_trans (takeIr_untouched ..) (untouched_trans (hchal _) (modDbg_untouched ..))

theorem execDbgUnlockAnswer_answers (i : Fin 4) (v : Word) (s : State) : Answers s (execDbgUnlockAnswer i v s) := by
  simp +contextual [execDbgUnlockAnswer]

theorem execMonHelp_answers (s : State) : Answers s (execMonHelp s) := by
  unfold execMonHelp
  refine answers_of_keeps ?_
  dsimp only
  repeat' split
  all_goals simp +contextual [Keeps]

theorem execMonStatus_answers (s : State) : Answers s (execMonStatus s) := by
  unfold execMonStatus
  refine answers_of_keeps ?_
  dsimp only
  repeat' split
  all_goals simp +contextual [Keeps]

theorem execMonSensors_answers (s : State) : Answers s (execMonSensors s) := by
  unfold execMonSensors
  refine answers_of_keeps ?_
  dsimp only
  repeat' split
  all_goals simp +contextual [Keeps]

theorem execMonBlotter_answers (n : Nat) (s : State) : Answers s (execMonBlotter n s) := by
  unfold execMonBlotter
  refine answers_of_keeps ?_
  dsimp only
  repeat' split
  all_goals simp +contextual [Keeps]

theorem execMonBaud_answers (rate : Nat) (s : State) : Answers s (execMonBaud rate s) := by
  unfold execMonBaud
  refine answers_of_keeps ?_
  dsimp only
  repeat' split
  all_goals simp +contextual [Keeps]

theorem execMonRd_answers (addr : Nat) (s : State) : Answers s (execMonRd addr s) := by
  unfold execMonRd
  refine answers_of_keeps ?_
  dsimp only
  repeat' split
  all_goals simp +contextual [Keeps]

theorem execMonWr_answers (addr : Nat) (v : Word) (s : State) : Answers s (execMonWr addr v s) := by
  unfold execMonWr
  refine answers_of_keeps ?_
  dsimp only
  repeat' split
  all_goals simp +contextual [Keeps]

theorem execMonOwnerkey_answers (key : List Byte) (ok : Bool) (s : State) : Answers s (execMonOwnerkey key ok s) := by
  unfold execMonOwnerkey
  refine answers_of_keeps ?_
  dsimp only
  repeat' split
  all_goals simp +contextual [Keeps]

theorem execMonLockout_answers (serial : Nat) (s : State) : Answers s (execMonLockout serial s) := by
  unfold execMonLockout
  refine answers_of_keeps ?_
  dsimp only
  repeat' split
  all_goals simp +contextual [Keeps]

theorem execMonReset_answers (s : State) : Answers s (execMonReset s) := by
  unfold execMonReset
  refine answers_of_keeps ?_
  dsimp only
  repeat' split
  all_goals simp +contextual [Keeps]

theorem execCrossingBoundary_answers (ck : BitVec 16) (s : State) : Answers s (execCrossingBoundary ck s) := by
  simp +contextual [execCrossingBoundary]

theorem execOrbitStart_answers (ck : BitVec 16) (s : State) : Answers s (execOrbitStart ck s) := by
  unfold execOrbitStart
  split <;> simp +contextual

theorem execReserveFillDone_answers (c : Fin 36) (s : State) : Answers s (execReserveFillDone c s) := by
  simp +contextual [execReserveFillDone]

theorem execVcpPacketRx_answers (pkt : VcpPacket) (s : State) : Answers s (execVcpPacketRx pkt s) := by
  simp +contextual [execVcpPacketRx]

theorem execNetworkControlFrame_answers (frame : CtlFrame) (s : State) : Answers s (execNetworkControlFrame frame s) := by
  unfold execNetworkControlFrame
  repeat' split
  all_goals simp +contextual

theorem execPcsBlockLockChange_answers (port : Fin 2) (locked : Bool) (s : State) : Answers s (execPcsBlockLockChange port locked s) := by
  simp +contextual [execPcsBlockLockChange]

theorem execEthFailover_answers (s : State) : Answers s (execEthFailover s) := by
  simp +contextual [execEthFailover]

theorem execEthActiveWrite_answers (v : Bool) (s : State) : Answers s (execEthActiveWrite v s) := by
  simp +contextual [execEthActiveWrite]

theorem execSessionIdleTimeout_answers (slot : Fin 1024) (s : State) : Answers s (execSessionIdleTimeout slot s) := by
  simp +contextual [execSessionIdleTimeout]

theorem execSessionFirstRequestTimeout_answers (slot : Fin 1024) (s : State) : Answers s (execSessionFirstRequestTimeout slot s) := by
  simp +contextual [execSessionFirstRequestTimeout]

theorem execOpSessionOpen_answers (slot : Fin 1024) (s : State) : Answers s (execOpSessionOpen slot s) := by
  refine answers_of_keeps ?_
  refine keeps_of_untouched ?_
  split
  · exact ⟨rfl, rfl⟩
  extract_lets o done
  have hd : Untouched s done := ⟨rfl, rfl⟩
  clear_value done
  have refused (r : OpenReq) (st : Nat) : Untouched s (openRefused r st done) := untouched_trans hd (openRefused_untouched ..)
  split
  · exact untouched_trans hd (ethAuthFail_untouched ..)
  split
  · exact refused ..
  split
  · exact refused ..
  split
  · exact untouched_trans hd (untouched_trans (bump_untouched ..) (sendAll_untouched ..))
  split
  · exact refused ..
  split
  · exact refused ..
  split
  · exact refused ..
  split
  · exact ⟨rfl, rfl⟩
  · exact untouched_trans hd (openSession_untouched ..)

theorem hostCommand_answers {f : HostFn} (h : ∀ c s, Keeps s (f c s).state) (op k : Nat) (s : State) : Answers s (hostCommand op f k s) := by
  refine answers_of_keeps ?_
  split
  · split
    · exact keeps_of_untouched (relayRequest_untouched ..)
    · exact keeps_then (guarded_keeps h ..) (storeReply_untouched ..)
  · exact keeps_refl s

theorem execOpSessionClose_answers (slot : Fin 1024) (s : State) : Answers s (execOpSessionClose slot s) := by
  exact hostCommand_answers (fun c t => keeps_of_untouched (hostClose_untouched ..)) ..

theorem execOpPing_answers (slot : Fin 1024) (s : State) : Answers s (execOpPing slot s) := by
  exact hostCommand_answers (fun c t => keeps_of_untouched (hostPing_untouched ..)) ..

theorem execOpSessionList_answers (slot : Fin 1024) (s : State) : Answers s (execOpSessionList slot s) := by
  exact hostCommand_answers (fun c t => keeps_of_untouched (hostList_untouched ..)) ..

theorem execOpEventSubscribe_answers (slot : Fin 1024) (s : State) : Answers s (execOpEventSubscribe slot s) := by
  exact hostCommand_answers (fun c t => keeps_of_untouched (hostSubscribe_untouched ..)) ..

theorem execOpEventRead_answers (slot : Fin 1024) (s : State) : Answers s (execOpEventRead slot s) := by
  exact hostCommand_answers (fun c t => keeps_of_untouched (hostEvents_untouched ..)) ..

theorem execOpDeviceInfo_answers (slot : Fin 1024) (s : State) : Answers s (execOpDeviceInfo slot s) := by
  exact hostCommand_answers (fun c t => keeps_of_untouched (hostInfo_untouched ..)) ..

theorem execOpTimeSnap_answers (slot : Fin 1024) (s : State) : Answers s (execOpTimeSnap slot s) := by
  exact hostCommand_answers (fun c t => keeps_of_untouched (hostSnap_untouched ..)) ..

theorem execOpRegRead_answers (slot : Fin 1024) (s : State) : Answers s (execOpRegRead slot s) := by
  exact hostCommand_answers (fun c t => keeps_of_untouched (hostRegRead_untouched ..)) ..

theorem execOpRegWrite_answers (slot : Fin 1024) (s : State) : Answers s (execOpRegWrite slot s) := by
  exact hostCommand_answers (fun c t => hostRegWrite_keeps ..) ..

theorem execOpMemRead_answers (slot : Fin 1024) (s : State) : Answers s (execOpMemRead slot s) := by
  exact hostCommand_answers (fun c t => hostMemRead_keeps ..) ..

theorem execOpMemWrite_answers (slot : Fin 1024) (s : State) : Answers s (execOpMemWrite slot s) := by
  exact hostCommand_answers (fun c t => hostMemWrite_keeps ..) ..

theorem execOpFolioLoad_answers (slot : Fin 1024) (s : State) : Answers s (execOpFolioLoad slot s) := by
  exact hostCommand_answers (fun c t => keeps_of_untouched (hostFolioLoad_untouched ..)) ..

theorem execOpHoopLoad_answers (slot : Fin 1024) (s : State) : Answers s (execOpHoopLoad slot s) := by
  exact hostCommand_answers (fun c t => keeps_of_untouched (hostHoopLoad_untouched ..)) ..

theorem execOpHoopCmd_answers (slot : Fin 1024) (s : State) : Answers s (execOpHoopCmd slot s) := by
  exact hostCommand_answers (fun c t => keeps_of_untouched (hostHoopCmd_untouched ..)) ..

theorem execOpDomainSet_answers (slot : Fin 1024) (s : State) : Answers s (execOpDomainSet slot s) := by
  exact hostCommand_answers (fun c t => keeps_of_untouched (hostDomain_untouched ..)) ..

theorem execOpReinstate_answers (slot : Fin 1024) (s : State) : Answers s (execOpReinstate slot s) := by
  exact hostCommand_answers (fun c t => keeps_of_untouched (hostReinstate_untouched ..)) ..

theorem execOpLookback_answers (slot : Fin 1024) (s : State) : Answers s (execOpLookback slot s) := by
  exact hostCommand_answers (fun c t => keeps_of_untouched (hostLookback_untouched ..)) ..

theorem execOpFlashRead_answers (slot : Fin 1024) (s : State) : Answers s (execOpFlashRead slot s) := by
  exact hostCommand_answers (fun c t => keeps_of_untouched (hostFlashRead_untouched ..)) ..

theorem execOpFlashWrite_answers (slot : Fin 1024) (s : State) : Answers s (execOpFlashWrite slot s) := by
  exact hostCommand_answers (fun c t => keeps_of_untouched (hostFlashWrite_untouched ..)) ..

theorem execOpFlashErase_answers (slot : Fin 1024) (s : State) : Answers s (execOpFlashErase slot s) := by
  exact hostCommand_answers (fun c t => keeps_of_untouched (hostFlashErase_untouched ..)) ..

theorem execOpKeyLoad_answers (slot : Fin 1024) (s : State) : Answers s (execOpKeyLoad slot s) := by
  exact hostCommand_answers (fun c t => keeps_of_untouched (hostKeyLoad_untouched ..)) ..

theorem execOpKeyErase_answers (slot : Fin 1024) (s : State) : Answers s (execOpKeyErase slot s) := by
  exact hostCommand_answers (fun c t => keeps_of_untouched (hostKeyErase_untouched ..)) ..

theorem execOpOpkeyAdd_answers (slot : Fin 1024) (ok : Bool) (s : State) : Answers s (execOpOpkeyAdd slot ok s) := by
  exact hostCommand_answers (fun c t => keeps_of_untouched (hostOpkeyAdd_untouched ..)) ..

theorem execOpOpkeyRevoke_answers (slot : Fin 1024) (s : State) : Answers s (execOpOpkeyRevoke slot s) := by
  exact hostCommand_answers (fun c t => keeps_of_untouched (hostOpkeyRevoke_untouched ..)) ..

theorem execOpVkeyWrite_answers (slot : Fin 1024) (ok : Bool) (s : State) : Answers s (execOpVkeyWrite slot ok s) := by
  exact hostCommand_answers (fun c t => keeps_of_untouched (hostVkeyWrite_untouched ..)) ..

theorem execOpVkeyRevoke_answers (slot : Fin 1024) (s : State) : Answers s (execOpVkeyRevoke slot s) := by
  exact hostCommand_answers (fun c t => keeps_of_untouched (hostVkeyRevoke_untouched ..)) ..

theorem execOpFkeyWrite_answers (slot : Fin 1024) (ok : Bool) (s : State) : Answers s (execOpFkeyWrite slot ok s) := by
  exact hostCommand_answers (fun c t => keeps_of_untouched (hostFkeyWrite_untouched ..)) ..

theorem execOpPolicySet_answers (slot : Fin 1024) (ok : Bool) (s : State) : Answers s (execOpPolicySet slot ok s) := by
  exact hostCommand_answers (fun c t => keeps_of_untouched (hostPolicySet_untouched ..)) ..

theorem execOpSensorRead_answers (slot : Fin 1024) (s : State) : Answers s (execOpSensorRead slot s) := by
  exact hostCommand_answers (fun c t => keeps_of_untouched (hostSensorRead_untouched ..)) ..

theorem execOpSensorReinstate_answers (slot : Fin 1024) (s : State) : Answers s (execOpSensorReinstate slot s) := by
  exact hostCommand_answers (fun c t => keeps_of_untouched (hostSensorReinstate_untouched ..)) ..

theorem execOpTripClear_answers (slot : Fin 1024) (s : State) : Answers s (execOpTripClear slot s) := by
  exact hostCommand_answers (fun c t => keeps_of_untouched (hostTripClear_untouched ..)) ..

theorem execOpCalRead_answers (slot : Fin 1024) (s : State) : Answers s (execOpCalRead slot s) := by
  exact hostCommand_answers (fun c t => keeps_of_untouched (hostCalRead_untouched ..)) ..

theorem execOpSelftestRead_answers (slot : Fin 1024) (s : State) : Answers s (execOpSelftestRead slot s) := by
  exact hostCommand_answers (fun c t => keeps_of_untouched (hostSelftestRead_untouched ..)) ..

theorem execOpRepairApply_answers (slot : Fin 1024) (s : State) : Answers s (execOpRepairApply slot s) := by
  exact hostCommand_answers (fun c t => keeps_of_untouched (hostRepair_untouched ..)) ..

theorem execOpBlotterRead_answers (slot : Fin 1024) (s : State) : Answers s (execOpBlotterRead slot s) := by
  exact hostCommand_answers (fun c t => keeps_of_untouched (hostBlotter_untouched ..)) ..

theorem execOpFwActivate_answers (slot : Fin 1024) (s : State) : Answers s (execOpFwActivate slot s) := by
  exact hostCommand_answers (fun c t => keeps_of_untouched (hostFwActivate_untouched ..)) ..

theorem execOpFwConfirm_answers (slot : Fin 1024) (s : State) : Answers s (execOpFwConfirm slot s) := by
  exact hostCommand_answers (fun c t => keeps_of_untouched (hostFwConfirm_untouched ..)) ..

theorem execOpFwStatus_answers (slot : Fin 1024) (s : State) : Answers s (execOpFwStatus slot s) := by
  exact hostCommand_answers (fun c t => keeps_of_untouched (hostFwStatus_untouched ..)) ..

theorem execOpQuillLoad_answers (slot : Fin 1024) (s : State) : Answers s (execOpQuillLoad slot s) := by
  exact hostCommand_answers (fun c t => hostQuillLoad_keeps ..) ..

theorem execOpAttest_answers (slot : Fin 1024) (s : State) : Answers s (execOpAttest slot s) := by
  have h (c : HostCtx) (t : State) : Keeps t (hostAttest c t).state := keeps_of_untouched (hostAttest_untouched c t)
  exact hostCommand_answers h ..

theorem execOpIdentity_answers (slot : Fin 1024) (s : State) : Answers s (execOpIdentity slot s) := by
  exact hostCommand_answers (fun c t => keeps_of_untouched (hostIdentity_untouched ..)) ..

theorem execOpReplyResend_answers (slot : Fin 1024) (s : State) : Answers s (execOpReplyResend slot s) := by
  unfold execOpReplyResend
  dsimp only
  repeat' split
  all_goals simp +contextual

theorem execCommandDone_answers (who : Origin) (s : State) : Answers s (execCommandDone who s) := by
  refine answers_of_keeps ?_
  split
  · rename_i j _
    have h : Untouched s (jobEnd j s).2 := jobEnd_untouched ..
    split <;> rename_i hr <;> rw [hr] at h
    · exact keeps_of_untouched (untouched_trans h (jobOver_untouched ..))
    · exact keeps_refl s
  · exact keeps_refl s

theorem execCascReq_answers (l : Fin 15) (s : State) : Answers s (execCascReq l s) := by
  refine answers_of_keeps ?_
  split
  · exact onMessage_keeps (fun m t => relayServed_keeps ..) ..
  · exact keeps_refl s

theorem execCascRsp_answers (l : Fin 15) (s : State) : Answers s (execCascRsp l s) := by
  refine answers_of_keeps ?_
  exact onMessage_keeps (fun m t => keeps_of_untouched (relayReplied_untouched ..)) ..

theorem execCascDone_answers (l : Fin 15) (s : State) : Answers s (execCascDone l s) := by
  refine answers_of_keeps ?_
  exact onMessage_keeps (fun m t => keeps_of_untouched (relayEnded_untouched ..)) ..

theorem execEthSend_answers (offset : Nat) (desc : List Byte) (s : State) : Answers s (execEthSend offset desc s) := by
  unfold execEthSend
  split <;> simp +contextual

theorem execStreamEnd_answers (s : State) : Answers s (execStreamEnd s) := by
  unfold execStreamEnd
  split <;> simp +contextual

end Sys2Proof.Machine
end


/-!
The statements about every step (O50, O51, O52), from what each command keeps.
-/
section
namespace Sys2Proof.Machine

/-- Every command answers a next state, with the queue as it was and the memory in its form where it had it. -/
theorem exec_answers (i : Instr) (s : State) : Answers s (exec i s) := by
  cases i with
  | regWrite addr len v => exact execRegWrite_answers addr len v s
  | rcRead addr len quiet => exact execRcRead_answers addr len quiet s
  | domainSwitchOff d => exact execDomainSwitchOff_answers d s
  | domainEnable d => exact execDomainEnable_answers d s
  | domainGatingDone d => exact execDomainGatingDone_answers d s
  | domainPowerUpDone d => exact execDomainPowerUpDone_answers d s
  | mtimeSrcChange src => exact execMtimeSrcChange_answers src s
  | mtimeRealign => exact execMtimeRealign_answers s
  | mtimeOrbitLoad => exact execMtimeOrbitLoad_answers s
  | mtimeNomPeriodWrite v => exact execMtimeNomPeriodWrite_answers v s
  | crossingBoundary ck => exact execCrossingBoundary_answers ck s
  | orbitStart ck => exact execOrbitStart_answers ck s
  | orbitMarker wide => exact execOrbitMarker_answers wide s
  | clockQualified measured => exact execClockQualified_answers measured s
  | phaseLock => exact execPhaseLock_answers s
  | markerSearchTimeout => exact execMarkerSearchTimeout_answers s
  | coastReturnTimeout => exact execCoastReturnTimeout_answers s
  | machineClockLoss begun => exact execMachineClockLoss_answers begun s
  | freqWindowEnd measured => exact execFreqWindowEnd_answers measured s
  | rtShadowWrite half v => exact execRtShadowWrite_answers half v s
  | rtSwapRequest v => exact execRtSwapRequest_answers v s
  | rtSwapCommit => exact execRtSwapCommit_answers s
  | stealWindowWrite ix v => exact execStealWindowWrite_answers ix v s
  | evtTargetWrite n high v => exact execEvtTargetWrite_answers n high v s
  | eventComparatorFire n => exact execEventComparatorFire_answers n s
  | mtimeSnap => exact execMtimeSnap_answers s
  | laneCfgWrite n v => exact execLaneCfgWrite_answers n v s
  | laneEnable n m => exact execLaneEnable_answers n m s
  | laneDisable n m => exact execLaneDisable_answers n m s
  | laneRetrain n m => exact execLaneRetrain_answers n m s
  | laneReinstate n m => exact execLaneReinstate_answers n m s
  | detectPoll n m found signal => exact execDetectPoll_answers n m found signal s
  | trainBitLock n m slice => exact execTrainBitLock_answers n m slice s
  | trainTimeout n m => exact execTrainTimeout_answers n m s
  | alignTimeout n m => exact execAlignTimeout_answers n m s
  | capsTimeout n m => exact execCapsTimeout_answers n m s
  | rxFrame n m frame margin => exact execRxFrame_answers n m frame margin s
  | rxSlotDelivery n m => exact execRxSlotDelivery_answers n m s
  | txPortWrite layer n m phase data user poison => exact execTxPortWrite_answers layer n m phase data user poison s
  | txFrameLaunch n m => exact execTxFrameLaunch_answers n m s
  | bypassFrame n m typ payload => exact execBypassFrame_answers n m typ payload s
  | lossOfLock n m recovery => exact execLossOfLock_answers n m recovery s
  | retrainDone n m margin => exact execRetrainDone_answers n m margin s
  | retrainTimeout n m => exact execRetrainTimeout_answers n m s
  | laneStopDone n m => exact execLaneStopDone_answers n m s
  | ckLaneLoss n begun => exact execCkLaneLoss_answers n begun s
  | laneEyeStart n v => exact execLaneEyeStart_answers n v s
  | eyeScanAbort n write => exact execEyeScanAbort_answers n write s
  | eyeScanDone n count => exact execEyeScanDone_answers n count s
  | spanContention seg driver => exact execSpanContention_answers seg driver s
  | spanReenable seg corrected => exact execSpanReenable_answers seg corrected s
  | fclkCtrlWrite v => exact execFclkCtrlWrite_answers v s
  | iodWrite p v => exact execIodWrite_answers p v s
  | grpSwitchRequest g v => exact execGrpSwitchRequest_answers g v s
  | grpRequestApply g => exact execGrpRequestApply_answers g s
  | hoopCfgWrite n v => exact execHoopCfgWrite_answers n v s
  | hoopRelease n => exact execHoopRelease_answers n s
  | hoopStop n => exact execHoopStop_answers n s
  | hoopStopEdge n => exact execHoopStopEdge_answers n s
  | hoopStopComplete n => exact execHoopStopComplete_answers n s
  | hoopReleaseEdge n => exact execHoopReleaseEdge_answers n s
  | hoopRepairResume n => exact execHoopRepairResume_answers n s
  | globalStart => exact execGlobalStart_answers s
  | sliceSample ix edge pins => exact execSliceSample_answers ix edge pins s
  | rankSet r cands go => exact execRankSet_answers r cands go s
  | rankResult r => exact execRankResult_answers r s
  | pmSearch a key kpoison tag upsets => exact execPmSearch_answers a key kpoison tag upsets s
  | pmSearchResult a => exact execPmSearchResult_answers a s
  | pmuWrite c v => exact execPmuWrite_answers c v s
  | pmuInvalidate c v => exact execPmuInvalidate_answers c v s
  | pmuRead c v => exact execPmuRead_answers c v s
  | pmuScrub c v => exact execPmuScrub_answers c v s
  | pmuSetsel c v => exact execPmuSetsel_answers c v s
  | pmuAbort c => exact execPmuAbort_answers c s
  | pmuRow c upsets => exact execPmuRow_answers c upsets s
  | pmuSetselApply c => exact execPmuSetselApply_answers c s
  | pmuComplete c => exact execPmuComplete_answers c s
  | bankPortAccess b port acc => exact execBankPortAccess_answers b port acc s
  | bankPortResult b port => exact execBankPortResult_answers b port s
  | bankHandoverRequest b v => exact execBankHandoverRequest_answers b v s
  | bankHandover b => exact execBankHandover_answers b s
  | bankWindowAccess addr edge acc => exact execBankWindowAccess_answers addr edge acc s
  | bankWindowTimeout b => exact execBankWindowTimeout_answers b s
  | scratchAccess b offset acc => exact execScratchAccess_answers b offset acc s
  | bankPowerTarget id v => exact execBankPowerTarget_answers id v s
  | bankLoweringDone id => exact execBankLoweringDone_answers id s
  | bankWakingDone id => exact execBankWakingDone_answers id s
  | bankClearingDone id => exact execBankClearingDone_answers id s
  | bankUlolWrite id v => exact execBankUlolWrite_answers id v s
  | scrubStart e => exact execScrubStart_answers e s
  | scrubWord e timeout raced => exact execScrubWord_answers e timeout raced s
  | scrubAbort e => exact execScrubAbort_answers e s
  | scrubComplete e => exact execScrubComplete_answers e s
  | nearCtrlWrite v => exact execNearCtrlWrite_answers v s
  | nearTrainingDone c ok => exact execNearTrainingDone_answers c ok s
  | nearFillDone c => exact execNearFillDone_answers c s
  | dqsDriftCheck c rank delta => exact execDqsDriftCheck_answers c rank delta s
  | zqCalibration c rank => exact execZqCalibration_answers c rank s
  | nearRefresh c rank bank => exact execNearRefresh_answers c rank bank s
  | nearAccess req addr acc fetch => exact execNearAccess_answers req addr acc fetch s
  | nearPllLossTimeout c => exact execNearPllLossTimeout_answers c s
  | nearMirrorCopyDone c => exact execNearMirrorCopyDone_answers c s
  | cavePortEnable p => exact execCavePortEnable_answers p s
  | cavePortDisable p => exact execCavePortDisable_answers p s
  | caveReinstate p => exact execCaveReinstate_answers p s
  | cavePowerWrite p v => exact execCavePowerWrite_answers p v s
  | caveLinkingDone p => exact execCaveLinkingDone_answers p s
  | caveLinkTimeout p => exact execCaveLinkTimeout_answers p s
  | caveProbeDone p => exact execCaveProbeDone_answers p s
  | caveStopDone p => exact execCaveStopDone_answers p s
  | caveBlockRx p => exact execCaveBlockRx_answers p s
  | caveReplayTimeout p => exact execCaveReplayTimeout_answers p s
  | caveAccess req addr acc => exact execCaveAccess_answers req addr acc s
  | caveRdata p => exact execCaveRdata_answers p s
  | caveWdone p => exact execCaveWdone_answers p s
  | caveCregRsp p => exact execCaveCregRsp_answers p s
  | caveStatus p => exact execCaveStatus_answers p s
  | caveCredit p => exact execCaveCredit_answers p s
  | caveLinkSilence p => exact execCaveLinkSilence_answers p s
  | hwLine ix data first last cross poison => exact execHwLine_answers ix data first last cross poison s
  | collectorRecord ix => exact execCollectorRecord_answers ix s
  | migratePage => exact execMigratePage_answers s
  | ringCtrlWrite reg v => exact execRingCtrlWrite_answers reg v s
  | ringOpen => exact execRingOpen_answers s
  | ringStopDone => exact execRingStopDone_answers s
  | lookbackPush v => exact execLookbackPush_answers v s
  | lookbackStart e => exact execLookbackStart_answers e s
  | lookbackComplete e fault => exact execLookbackComplete_answers e fault s
  | lbtxSend t v => exact execLbtxSend_answers t v s
  | lbtxDone t => exact execLbtxDone_answers t s
  | keyErase v => exact execKeyErase_answers v s
  | lineRead e addr fetch => exact execLineRead_answers e addr fetch s
  | lineWrite e addr data be poison fetch => exact execLineWrite_answers e addr data be poison fetch s
  | releaseStart v => exact execReleaseStart_answers v s
  | releaseDone => exact execReleaseDone_answers s
  | nocRead ni req addr len => exact execNocRead_answers ni req addr len s
  | nocWrite ni req addr data be poison => exact execNocWrite_answers ni req addr data be poison s
  | nocPwrite ni req addr data be poison => exact execNocPwrite_answers ni req addr data be poison s
  | nocAtomic ni req addr aop size operand => exact execNocAtomic_answers ni req addr aop size operand s
  | nocToken ni queue v => exact execNocToken_answers ni queue v s
  | nocResp ni txn status data poison => exact execNocResp_answers ni txn status data poison s
  | registerPortAccess addr len write => exact execRegisterPortAccess_answers addr len write s
  | flitCrcError r dir again => exact execFlitCrcError_answers r dir again s
  | nocStallTimeout at_ => exact execNocStallTimeout_answers at_ s
  | nocResponseTimeout ni txn => exact execNocResponseTimeout_answers ni txn s
  | xbarParityError r req => exact execXbarParityError_answers r req s
  | routerDrain r => exact execRouterDrain_answers r s
  | routerDrainEnd r discarded => exact execRouterDrainEnd_answers r discarded s
  | routerReconfDone r wires xbar => exact execRouterReconfDone_answers r wires xbar s
  | routerReinstate r => exact execRouterReinstate_answers r s
  | vcdepthWrite r v => exact execVcdepthWrite_answers r v s
  | coreInstruction n => exact execCoreInstruction_answers n s
  | coreLoad n => exact execCoreLoad_answers n s
  | loadResponse n => exact execLoadResponse_answers n s
  | coreStore n => exact execCoreStore_answers n s
  | storeErrorResponse n => exact execStoreErrorResponse_answers n s
  | coreAmo n => exact execCoreAmo_answers n s
  | coreLr n => exact execCoreLr_answers n s
  | coreSc n => exact execCoreSc_answers n s
  | coreFence n => exact execCoreFence_answers n s
  | coreFenceI n => exact execCoreFenceI_answers n s
  | coreEcall n => exact execCoreEcall_answers n s
  | coreEbreak n => exact execCoreEbreak_answers n s
  | wxNext n => exact execWxNext_answers n s
  | wxPost n => exact execWxPost_answers n s
  | wxToken n => exact execWxToken_answers n s
  | wxCancel n => exact execWxCancel_answers n s
  | wxQstat n => exact execWxQstat_answers n s
  | wxSelf n => exact execWxSelf_answers n s
  | wxPostWindow addr item => exact execWxPostWindow_answers addr item s
  | wxCancelWrite handle => exact execWxCancelWrite_answers handle s
  | wxTokenArrive q v => exact execWxTokenArrive_answers q v s
  | wxDispatch => exact execWxDispatch_answers s
  | itemDelivered n => exact execItemDelivered_answers n s
  | affinityWaitExpiry q => exact execAffinityWaitExpiry_answers q s
  | preemption => exact execPreemption_answers s
  | preemptSwitch n => exact execPreemptSwitch_answers n s
  | delayListTick l => exact execDelayListTick_answers l s
  | delayDue l => exact execDelayDue_answers l s
  | itemCompletion slot => exact execItemCompletion_answers slot s
  | completionToken slot status => exact execCompletionToken_answers slot status s
  | coreRelease n => exact execCoreRelease_answers n s
  | coreReinstate n => exact execCoreReinstate_answers n s
  | watchdogExpiry n => exact execWatchdogExpiry_answers n s
  | shadowMismatch g => exact execShadowMismatch_answers g s
  | shadowReinstate g => exact execShadowReinstate_answers g s
  | loadFull src => exact execLoadFull_answers src s
  | loadHoop src hoop => exact execLoadHoop_answers src hoop s
  | loadCancel => exact execLoadCancel_answers s
  | powerOnLoad => exact execPowerOnLoad_answers s
  | loaderHeaderDone => exact execLoaderHeaderDone_answers s
  | imageFillWaitTimeout => exact execImageFillWaitTimeout_answers s
  | loaderPrepareDone => exact execLoaderPrepareDone_answers s
  | frameRun => exact execFrameRun_answers s
  | mblockRecord => exact execMblockRecord_answers s
  | bankinitRecord => exact execBankinitRecord_answers s
  | regsRecord => exact execRegsRecord_answers s
  | segmentEnd => exact execSegmentEnd_answers s
  | flashReadTimeout => exact execFlashReadTimeout_answers s
  | loaderVerifyDone => exact execLoaderVerifyDone_answers s
  | loaderStartDone => exact execLoaderStartDone_answers s
  | scrubFrameRead fa upsets => exact execScrubFrameRead_answers fa upsets s
  | frameRewriteStart => exact execFrameRewriteStart_answers s
  | frameRewriteDone => exact execFrameRewriteDone_answers s
  | vcpPacketRx pkt => exact execVcpPacketRx_answers pkt s
  | networkControlFrame frame => exact execNetworkControlFrame_answers frame s
  | ethFailover => exact execEthFailover_answers s
  | ethActiveWrite v => exact execEthActiveWrite_answers v s
  | sessionIdleTimeout slot => exact execSessionIdleTimeout_answers slot s
  | sessionFirstRequestTimeout slot => exact execSessionFirstRequestTimeout_answers slot s
  | opSessionOpen slot => exact execOpSessionOpen_answers slot s
  | opSessionClose slot => exact execOpSessionClose_answers slot s
  | opPing slot => exact execOpPing_answers slot s
  | opReplyResend slot => exact execOpReplyResend_answers slot s
  | opSessionList slot => exact execOpSessionList_answers slot s
  | opEventSubscribe slot => exact execOpEventSubscribe_answers slot s
  | opEventRead slot => exact execOpEventRead_answers slot s
  | opDeviceInfo slot => exact execOpDeviceInfo_answers slot s
  | opTimeSnap slot => exact execOpTimeSnap_answers slot s
  | opRegRead slot => exact execOpRegRead_answers slot s
  | opRegWrite slot => exact execOpRegWrite_answers slot s
  | opMemRead slot => exact execOpMemRead_answers slot s
  | opMemWrite slot => exact execOpMemWrite_answers slot s
  | opFolioLoad slot => exact execOpFolioLoad_answers slot s
  | opHoopLoad slot => exact execOpHoopLoad_answers slot s
  | opHoopCmd slot => exact execOpHoopCmd_answers slot s
  | opDomainSet slot => exact execOpDomainSet_answers slot s
  | opReinstate slot => exact execOpReinstate_answers slot s
  | opLookback slot => exact execOpLookback_answers slot s
  | opFlashRead slot => exact execOpFlashRead_answers slot s
  | opFlashWrite slot => exact execOpFlashWrite_answers slot s
  | opFlashErase slot => exact execOpFlashErase_answers slot s
  | opKeyLoad slot => exact execOpKeyLoad_answers slot s
  | opKeyErase slot => exact execOpKeyErase_answers slot s
  | opOpkeyAdd slot ok => exact execOpOpkeyAdd_answers slot ok s
  | opOpkeyRevoke slot => exact execOpOpkeyRevoke_answers slot s
  | opVkeyWrite slot ok => exact execOpVkeyWrite_answers slot ok s
  | opVkeyRevoke slot => exact execOpVkeyRevoke_answers slot s
  | opFkeyWrite slot ok => exact execOpFkeyWrite_answers slot ok s
  | opPolicySet slot ok => exact execOpPolicySet_answers slot ok s
  | opSensorRead slot => exact execOpSensorRead_answers slot s
  | opSensorReinstate slot => exact execOpSensorReinstate_answers slot s
  | opTripClear slot => exact execOpTripClear_answers slot s
  | opCalRead slot => exact execOpCalRead_answers slot s
  | opSelftestRead slot => exact execOpSelftestRead_answers slot s
  | opRepairApply slot => exact execOpRepairApply_answers slot s
  | opBlotterRead slot => exact execOpBlotterRead_answers slot s
  | opFwActivate slot => exact execOpFwActivate_answers slot s
  | opFwConfirm slot => exact execOpFwConfirm_answers slot s
  | opFwStatus slot => exact execOpFwStatus_answers slot s
  | opQuillLoad slot => exact execOpQuillLoad_answers slot s
  | opAttest slot => exact execOpAttest_answers slot s
  | opIdentity slot => exact execOpIdentity_answers slot s
  | commandDone who => exact execCommandDone_answers who s
  | ethSend offset desc => exact execEthSend_answers offset desc s
  | streamEnd => exact execStreamEnd_answers s
  | hkConversion value => exact execHkConversion_answers value s
  | hkRoundEnd => exact execHkRoundEnd_answers s
  | tripFabricReset => exact execTripFabricReset_answers s
  | calItemDue item => exact execCalItemDue_answers item s
  | calMeasurementDone item first second sel => exact execCalMeasurementDone_answers item first second sel s
  | calApply item => exact execCalApply_answers item s
  | calResultTimeout item => exact execCalResultTimeout_answers item s
  | scmCalDeferred item => exact execScmCalDeferred_answers item s
  | selftestDone fails => exact execSelftestDone_answers fails s
  | spareTest spare ok => exact execSpareTest_answers spare ok s
  | blotterProgram count => exact execBlotterProgram_answers count s
  | sceumWatchdogExpiry => exact execSceumWatchdogExpiry_answers s
  | sceumRestart => exact execSceumRestart_answers s
  | bootRomStart => exact execBootRomStart_answers s
  | fwTrialTimeout => exact execFwTrialTimeout_answers s
  | xoLoss => exact execXoLoss_answers s
  | xoValid => exact execXoValid_answers s
  | pllUnlock p => exact execPllUnlock_answers p s
  | pllRelock p => exact execPllRelock_answers p s
  | pllFailTimeout p => exact execPllFailTimeout_answers p s
  | clkNocWrite v => exact execClkNocWrite_answers v s
  | clkQpllWrite q v => exact execClkQpllWrite_answers q v s
  | clkGrpWrite g v => exact execClkGrpWrite_answers g v s
  | clkNctlWrite v => exact execClkNctlWrite_answers v s
  | rootSelectWrite v => exact execRootSelectWrite_answers v s
  | clockSwitchDone mux => exact execClockSwitchDone_answers mux s
  | clkForced mux => exact execClkForced_answers mux s
  | powerOnReset => exact execPowerOnReset_answers s
  | pgoodFall => exact execPgoodFall_answers s
  | supplyMonitorFall => exact execSupplyMonitorFall_answers s
  | powerStable => exact execPowerStable_answers s
  | clocksPhaseDone unlocked => exact execClocksPhaseDone_answers unlocked s
  | onchipFillDone => exact execOnchipFillDone_answers s
  | srstAssert => exact execSrstAssert_answers s
  | sysRstWrite v => exact execSysRstWrite_answers v s
  | systemReset => exact execSystemReset_answers s
  | systemResetRelease => exact execSystemResetRelease_answers s
  | bankSpareCopyStart id => exact execBankSpareCopyStart_answers id s
  | bankCopyDone id => exact execBankCopyDone_answers id s
  | bankTakeover id => exact execBankTakeover_answers id s
  | bankMarchDone id pass => exact execBankMarchDone_answers id pass s
  | bankReturnDone id => exact execBankReturnDone_answers id s
  | cascLinkWrite l v => exact execCascLinkWrite_answers l v s
  | cascRejoin => exact execCascRejoin_answers s
  | serviceBlockRx l => exact execServiceBlockRx_answers l s
  | cascReq l => exact execCascReq_answers l s
  | cascRsp l => exact execCascRsp_answers l s
  | cascDone l => exact execCascDone_answers l s
  | cascRoll l => exact execCascRoll_answers l s
  | rollTimer => exact execRollTimer_answers s
  | cascMemberLost m => exact execCascMemberLost_answers m s
  | cascMasterLost => exact execCascMasterLost_answers s
  | relayTimeout => exact execRelayTimeout_answers s
  | tapReset => exact execTapReset_answers s
  | extest pins shift => exact execExtest_answers pins shift s
  | samplePreload pins shift => exact execSamplePreload_answers pins shift s
  | idcode => exact execIdcode_answers s
  | extestPulse pins shift => exact execExtestPulse_answers pins shift s
  | extestTrain pins shift => exact execExtestTrain_answers pins shift s
  | bypass => exact execBypass_answers s
  | dbgRead addr => exact execDbgRead_answers addr s
  | dbgWrite addr v => exact execDbgWrite_answers addr v s
  | dbgConsume addr => exact execDbgConsume_answers addr s
  | dbgNop => exact execDbgNop_answers s
  | dbgAccessTimeout => exact execDbgAccessTimeout_answers s
  | dbgConnect v => exact execDbgConnect_answers v s
  | dbgUnlockSelect => exact execDbgUnlockSelect_answers s
  | dbgUnlockAnswer ix v => exact execDbgUnlockAnswer_answers ix v s
  | dbgAttach v => exact execDbgAttach_answers v s
  | dbgSysrstReq v => exact execDbgSysrstReq_answers v s
  | dbgHalt n => exact execDbgHalt_answers n s
  | coreHalted n => exact execCoreHalted_answers n s
  | dbgResume n => exact execDbgResume_answers n s
  | dbgStep n => exact execDbgStep_answers n s
  | dbgRegRead => exact execDbgRegRead_answers s
  | dbgRegWrite => exact execDbgRegWrite_answers s
  | dbgFreezeWrite v => exact execDbgFreezeWrite_answers v s
  | monHelp => exact execMonHelp_answers s
  | monStatus => exact execMonStatus_answers s
  | monSensors => exact execMonSensors_answers s
  | monBlotter n => exact execMonBlotter_answers n s
  | monBaud rate => exact execMonBaud_answers rate s
  | monRd addr => exact execMonRd_answers addr s
  | monWr addr v => exact execMonWr_answers addr v s
  | monOwnerkey key ok => exact execMonOwnerkey_answers key ok s
  | monLockout serial => exact execMonLockout_answers serial s
  | monReset => exact execMonReset_answers s
  | cascCtrlWrite v => exact execCascCtrlWrite_answers v s
  | coreMemoryNetAccess n offset acc => exact execCoreMemoryNetAccess_answers n offset acc s
  | reserveFillDone c => exact execReserveFillDone_answers c s
  | pcsBlockLockChange port locked => exact execPcsBlockLockChange_answers port locked s
  | phyPllLockLoss c => exact execPhyPllLockLoss_answers c s
  | serviceReplayTimeout l => exact execServiceReplayTimeout_answers l s
  | userIoWord layer p tx oe rx => exact execUserIoWord_answers layer p tx oe rx s
  | ckLaneReturn n => exact execCkLaneReturn_answers n s

theorem step_of_pending_cons {s : State} {c : Instr} {rest : List Instr} (h : s.pending = c :: rest) :
    step s = exec c { s with pending := rest } := by
  simp only [step, h]

/-- A step answers a next state, and keeps the form of the memory. -/
theorem step_answers (s : State) : ∃ t, step s = .next t ∧ (memWf s.mem = true → memWf t.mem = true) := by
  cases hq : s.pending with
  | nil =>
    exact ⟨idle s, step_of_idle hq, (keeps_of_untouched (idle_untouched s)).2⟩
  | cons c rest =>
    obtain ⟨t, ht, hk⟩ := exec_answers c { s with pending := rest }
    exact ⟨t, (step_of_pending_cons hq).trans ht, hk.2⟩

/-- Settles O50: a waiting command answers by `exec_answers`, an empty queue lets a nanosecond pass. -/
theorem everyStepAnswersAState : Obligations.EveryStepAnswersAState := by
  unfold Obligations.EveryStepAnswersAState
  intro s
  obtain ⟨t, ht, -⟩ := step_answers s
  exact ⟨t, ht⟩

/-- Settles O51, from what every command's answer keeps. -/
theorem commandsLeaveTheQueue : Obligations.CommandsLeaveTheQueue := by
  unfold Obligations.CommandsLeaveTheQueue
  intro c s t h
  obtain ⟨u, hu, hk⟩ := exec_answers c s
  obtain rfl : u = t := Host.Outcome.next.inj (hu.symm.trans h)
  exact hk.1

/-- Settles O52: the one step an obligation speaks of is the one that `step_answers` gives. -/
theorem memoryFormIsKept : Obligations.MemoryFormIsKept := by
  unfold Obligations.MemoryFormIsKept
  intro s t hs h
  obtain ⟨u, hu, hk⟩ := step_answers s
  obtain rfl : u = t := Host.Outcome.next.inj (hu.symm.trans h)
  exact hk hs

end Sys2Proof.Machine
end


/-!
The bank code (O55, O56; 08 R255 to R258): check bits are linear over exclusive or, so what a read finds depends on the
inverted bits alone; every column of the code has an odd number of ones, so two of them never add up to one.
-/
section
namespace Sys2Proof.Machine

/-! ### Check bits are linear -/

theorem eccFold_xor (a b : Nat) (cs : List Nat) (k : Nat) :
    eccFold (a ^^^ b) cs k = eccFold a cs k ^^^ eccFold b cs k := by
  induction cs generalizing k with
  | nil => simp [eccFold]
  | cons c cs ih =>
    simp only [eccFold, ih, Nat.testBit_xor]
    cases a.testBit k <;> cases b.testBit k <;> simp [Nat.xor_assoc, Nat.xor_left_comm]

theorem eccCheck_xor (a b : DWord) : eccCheck (a ^^^ b) = eccCheck a ^^^ eccCheck b := by
  simp [eccCheck, eccFold_xor, BitVec.ofNat_xor]

/-- What a read makes of a syndrome. -/
def eccVerdict (d : DWord) (syn : Nat) : EccRead :=
  if syn = 0 then .good d false
  else if syn = 0x7F then .poisoned d
  else if eccIsCheckCol syn then .good d true
  else match eccFind syn eccCols 0 with
    | some k => .good (d ^^^ (1 <<< k)) true
    | none => .uncorrectable d

/-- A read of a word with some of its data bits and check bits inverted turns on those bits alone. -/
theorem eccRead_flipped (d e : DWord) (f : Byte) :
    eccRead (d ^^^ e) (eccCheck d ^^^ f) = eccVerdict (d ^^^ e) (eccCheck e ^^^ f).toNat := by
  have hsyn : eccCheck (d ^^^ e) ^^^ (eccCheck d ^^^ f) = eccCheck e ^^^ f := by
    rw [eccCheck_xor, BitVec.xor_comm (eccCheck d), BitVec.xor_assoc, ← BitVec.xor_assoc (eccCheck d), BitVec.xor_self, BitVec.zero_xor]
  unfold eccRead
  rw [hsyn]
  rfl

theorem eccRead_dataFlipped (d e : DWord) : eccRead (d ^^^ e) (eccCheck d) = eccVerdict (d ^^^ e) (eccCheck e).toNat := by
  simpa using eccRead_flipped d e 0#8

theorem eccRead_checkFlipped (d : DWord) (f : Byte) : eccRead d (eccCheck d ^^^ f) = eccVerdict d f.toNat := by
  simpa [show eccCheck 0#64 = 0#8 from by decide] using eccRead_flipped d 0#64 f

/-! ### One inverted bit -/

/-- The syndrome of inverting one of the 72 bits of a stored word: data bits first. -/
def bitSyn (i : Nat) : Byte := if i < 64 then eccCheck (1 <<< i : Nat) else (1 <<< (i - 64) : Nat)

/-- The column of a data bit is found at that bit. -/
theorem eccFind_bitSyn : ∀ k < 64, (bitSyn k).toNat ≠ 0 ∧ (bitSyn k).toNat ≠ 0x7F ∧ eccIsCheckCol (bitSyn k).toNat = false ∧
    eccFind (bitSyn k).toNat eccCols 0 = some k := by decide

theorem eccIsCheckCol_bitSyn : ∀ j < 8, (bitSyn (64 + j)).toNat ≠ 0 ∧ (bitSyn (64 + j)).toNat ≠ 0x7F ∧
    eccIsCheckCol (bitSyn (64 + j)).toNat = true := by decide

/-- Settles O55: the syndrome of one inverted bit is its column. -/
theorem singleBitErrorsAreCorrected : Obligations.SingleBitErrorsAreCorrected := by
  unfold Obligations.SingleBitErrorsAreCorrected
  intro d
  refine ⟨?_, fun k hk => ?_, fun j hj => ?_, eccRead_checkFlipped d 0x7F⟩
  · simpa [eccVerdict] using eccRead_checkFlipped d 0#8
  · obtain ⟨h0, hp, hc, hf⟩ := eccFind_bitSyn k hk
    simp only [bitSyn, hk, if_true] at h0 hp hc hf
    rw [eccRead_dataFlipped, eccVerdict, if_neg h0, if_neg hp, hc, hf]
    simp
  · obtain ⟨h0, hp, hc⟩ := eccIsCheckCol_bitSyn j hj
    have hj' : ¬ 64 + j < 64 := by omega
    simp only [bitSyn, hj', if_false, Nat.add_sub_cancel_left] at h0 hp hc
    rw [eccRead_checkFlipped, eccVerdict, if_neg h0, if_neg hp, if_pos hc]

/-! ### Two inverted bits -/

/-- Whether a byte has an odd number of ones. -/
def oddOnes (b : Byte) : Bool := (List.range 8).foldr (fun i p => b.getLsbD i ^^ p) false

theorem oddOnes_xor (a b : Byte) : oddOnes (a ^^^ b) = (oddOnes a ^^ oddOnes b) := by
  unfold oddOnes
  induction List.range 8 with
  | nil => rfl
  | cons i l ih =>
    rw [List.foldr_cons, List.foldr_cons, List.foldr_cons, ih, BitVec.getLsbD_xor, Bool.xor_assoc,
      Bool.xor_assoc, Bool.xor_left_comm (b.getLsbD i)]

theorem oddOnes_bitSyn : ∀ i < 72, oddOnes (bitSyn i) = true := by decide +kernel

theorem bitSyn_inj : ∀ k < 72, ∀ j < k, bitSyn j ≠ bitSyn k := by decide +kernel

/-- What a read takes for one inverted bit or for poison has an odd number of ones. -/
theorem eccFind_even : ∀ n < 256, n ≠ 0 → oddOnes (BitVec.ofNat 8 n) = false →
    n ≠ 0x7F ∧ eccIsCheckCol n = false ∧ eccFind n eccCols 0 = none := by decide +kernel

theorem eccVerdict_even (d : DWord) (b : Byte) (h0 : b ≠ 0#8) (h : oddOnes b = false) : eccVerdict d b.toNat = .uncorrectable d := by
  have hn : b.toNat ≠ 0 := fun hb => h0 (BitVec.eq_of_toNat_eq hb)
  obtain ⟨hp, hc, hf⟩ := eccFind_even b.toNat b.isLt hn (by rwa [BitVec.ofNat_toNat, BitVec.setWidth_eq])
  rw [eccVerdict, if_neg hn, if_neg hp, hc, hf]
  rfl

/-- The verdict on two different inverted bits. -/
theorem eccVerdict_two (d : DWord) {j k : Nat} (hjk : j < k) (hk : k < 72) :
    eccVerdict d (bitSyn j ^^^ bitSyn k).toNat = .uncorrectable d := by
  refine eccVerdict_even d _ (fun h => bitSyn_inj k hk j hjk (BitVec.xor_eq_zero_iff.mp h)) ?_
  rw [oddOnes_xor, oddOnes_bitSyn j (hjk.trans hk), oddOnes_bitSyn k hk]
  rfl

/-- Settles O56: the syndrome of two inverted bits is the sum of two different odd columns. -/
theorem doubleBitErrorsAreDetected : Obligations.DoubleBitErrorsAreDetected := by
  unfold Obligations.DoubleBitErrorsAreDetected
  intro d j k hjk hk
  have hv (e : DWord) := eccVerdict_two e hjk hk
  by_cases h : k < 64
  · have hj : j < 64 := hjk.trans h
    simp only [bitSyn, h, hj, if_true, ← eccCheck_xor] at hv ⊢
    rw [BitVec.xor_assoc, eccRead_dataFlipped, BitVec.xor_comm ((1 <<< k : Nat) : DWord), hv]
  by_cases hj : j < 64
  · simp only [bitSyn, h, hj, if_true, if_false] at hv ⊢
    rw [eccRead_flipped, hv]
  · simp only [bitSyn, h, hj, if_false] at hv ⊢
    rw [BitVec.xor_assoc, eccRead_checkFlipped, BitVec.xor_comm ((1 <<< (k - 64) : Nat) : Byte), hv]

end Sys2Proof.Machine
end


/-!
Bytes and words: a number written out byte by byte reads back, an on-chip word that is stored reads back (O57), a service
message in a stream is taken out whole (O59).
-/
section
namespace Sys2Proof.Machine

/-! ### Numbers as bytes -/

@[simp] theorem bytesOf_length (v n : Nat) : (bytesOf v n).length = n := by
  induction n generalizing v with
  | zero => rfl
  | succ n ih => simp [bytesOf, ih]

theorem ofBytes_bytesOf (v n : Nat) : ofBytes (bytesOf v n) = v % 256 ^ n := by
  induction n generalizing v with
  | zero => simp [bytesOf, ofBytes, Nat.mod_one]
  | succ n ih =>
    rw [bytesOf, ofBytes, ih, BitVec.toNat_ofNat, show 256 ^ (n + 1) = 256 * 256 ^ n from Nat.pow_succ', Nat.mod_mul]

/-! ### Runs of a table -/

section
variable {α : Type} [DecidableEq α] (d : α)

theorem get_putList_other (t : Tab α) (k : Nat) (vs : List α) (j : Nat) (h : j < k ∨ k + vs.length ≤ j) :
    Tab.get d (Tab.putList d t k vs) j = Tab.get d t j := by
  induction vs generalizing t k with
  | nil => rfl
  | cons v vs ih =>
    rw [List.length_cons] at h
    rw [Tab.putList, ih _ _ (by omega), tab_get_put_other d d t k j v (by omega)]

theorem range_putList_same (t : Tab α) (k : Nat) (vs : List α) : Tab.range d (Tab.putList d t k vs) k vs.length = vs := by
  induction vs generalizing t k with
  | nil => rfl
  | cons v vs ih =>
    rw [List.length_cons, Tab.range, Tab.putList, ih, get_putList_other d _ _ _ _ (.inl (Nat.lt_succ_self k)), tab_get_put_same]

theorem range_putList_other (t : Tab α) (k : Nat) (vs : List α) (j n : Nat) (h : j + n ≤ k ∨ k + vs.length ≤ j) :
    Tab.range d (Tab.putList d t k vs) j n = Tab.range d t j n := by
  induction n generalizing j with
  | zero => rfl
  | succ n ih => rw [Tab.range, Tab.range, ih _ (by omega), get_putList_other d _ _ _ _ (by omega)]

end

/-! ### Words of the on-chip memories -/

theorem mergeBytes_full (old new : DWord) : mergeBytes old new 255 = new := by
  have hm : BitVec.ofNat 64 (byteBits 255 8) = BitVec.allOnes 64 := by decide
  rw [mergeBytes, hm, BitVec.not_allOnes, BitVec.and_zero, BitVec.zero_or, BitVec.and_allOnes]

theorem storeOver_full (r : EccRead) (new : DWord) (poison : Bool) :
    storeOver r new 255 poison = (new, if poison then poisonSyn else 0) := by
  simp [storeOver, mergeBytes_full]

theorem wordData_putWord_same (s : State) (w : Nat) (d : DWord) (syn : Byte) : (s.putWord w d syn).wordData w = d := by
  have h := range_putList_same (0 : Byte) s.mem (8 * w) (bytesOf d.toNat 8)
  rw [bytesOf_length] at h
  change BitVec.ofNat 64 (ofBytes (Tab.range 0 (Tab.putList 0 s.mem (8 * w) (bytesOf d.toNat 8)) (8 * w) 8)) = d
  rw [h, ofBytes_bytesOf, show 256 ^ 8 = 2 ^ 64 from rfl, Nat.mod_eq_of_lt d.isLt, BitVec.ofNat_toNat, BitVec.setWidth_eq]

theorem wordData_putWord_other (s : State) {w u : Nat} (d : DWord) (syn : Byte) (h : u ≠ w) :
    (s.putWord w d syn).wordData u = s.wordData u := by
  change BitVec.ofNat 64 (ofBytes (Tab.range 0 (Tab.putList 0 s.mem (8 * w) (bytesOf d.toNat 8)) (8 * u) 8)) = s.wordData u
  rw [range_putList_other _ _ _ _ _ _ (by rw [bytesOf_length]; omega)]
  rfl

theorem wordRead_putWord_same (s : State) (w : Nat) (d : DWord) (syn : Byte) :
    (s.putWord w d syn).wordRead w = eccVerdict d syn.toNat := by
  have hsyn : Tab.get 0 (s.putWord w d syn).syn w = syn := tab_get_put_same ..
  rw [State.wordRead, wordData_putWord_same, hsyn, eccRead_checkFlipped]

theorem wordRead_putWord_other (s : State) {w u : Nat} (d : DWord) (syn : Byte) (h : u ≠ w) :
    (s.putWord w d syn).wordRead u = s.wordRead u := by
  have hsyn : Tab.get 0 (s.putWord w d syn).syn u = Tab.get 0 s.syn u := tab_get_put_other _ _ _ _ _ _ h
  rw [State.wordRead, wordData_putWord_other s d syn h, hsyn]
  rfl

/-- Settles O57: a whole word's write stores the word and its syndrome, which are what a read of it goes by. -/
theorem storedWordsReadBack : Obligations.StoredWordsReadBack := by
  unfold Obligations.StoredWordsReadBack
  intro w d s
  have hw (p : Bool) : s.writeWord w d 255 p = s.putWord w d (if p then poisonSyn else 0) := by
    rw [State.writeWord, storeOver_full]
  refine ⟨?_, ?_, fun u p hu => ?_⟩
  · rw [hw, wordRead_putWord_same]
    rfl
  · rw [hw, wordRead_putWord_same]
    rfl
  · rw [hw, wordRead_putWord_other s _ _ hu]

/-! ### Service messages in a stream -/

/-- The header of a service message as a number. -/
def cascHeader (typ dst src tag len : Nat) : Nat :=
  typ % 16 * 2 ^ 60 + dst % 16 * 2 ^ 56 + src % 16 * 2 ^ 52 + tag % 65536 * 2 ^ 32 + len % 2 ^ 17

theorem cascMessage_eq (typ dst src tag : Nat) (body : List Byte) :
    cascMessage typ dst src tag body = (bytesOf (cascHeader typ dst src tag body.length) 8).reverse ++ body := rfl

/-- The first eight bytes of a stream that begins with a message are its header. -/
theorem header_of_cascMessage (typ dst src tag : Nat) (body rest : List Byte) :
    ofBytes ((cascMessage typ dst src tag body ++ rest).take 8).reverse = cascHeader typ dst src tag body.length := by
  have hlt : cascHeader typ dst src tag body.length < 256 ^ 8 := by
    simp only [cascHeader]
    omega
  rw [cascMessage_eq, List.append_assoc, List.take_left' (by simp), List.reverse_reverse, ofBytes_bytesOf, Nat.mod_eq_of_lt hlt]

theorem cascHeader_fields {typ dst src tag len : Nat} (ht : typ < 16) (hd : dst < 16) (hs : src < 16) (hg : tag < 65536) (hl : len < 2 ^ 17) :
    bits (cascHeader typ dst src tag len) 63 60 = typ ∧ bits (cascHeader typ dst src tag len) 59 56 = dst ∧
      bits (cascHeader typ dst src tag len) 55 52 = src ∧ bits (cascHeader typ dst src tag len) 47 32 = tag ∧
      bits (cascHeader typ dst src tag len) 16 0 = len := by
  simp only [bits, cascHeader, Nat.shiftRight_eq_div_pow]
  omega

theorem cascMessage_length (typ dst src tag : Nat) (body : List Byte) : (cascMessage typ dst src tag body).length = 8 + body.length := by
  simp [cascMessage_eq]

/-- A message's first byte has its type, so it is no filler byte. -/
theorem cascMessage_first {typ dst src tag : Nat} (body : List Byte) (h1 : 1 ≤ typ) (ht : typ < 16) :
    ∃ b bs, b ≠ 0 ∧ cascMessage typ dst src tag body = b :: bs := by
  have hcons : ∃ bs, cascMessage typ dst src tag body = BitVec.ofNat 8 (cascHeader typ dst src tag body.length / 256 ^ 7) :: bs := by
    rw [cascMessage_eq]
    simp only [bytesOf, List.reverse_cons, List.reverse_nil, List.nil_append, List.cons_append, Nat.div_div_eq_div_mul]
    exact ⟨_, rfl⟩
  obtain ⟨bs, hbs⟩ := hcons
  refine ⟨_, bs, fun hb => ?_, hbs⟩
  have h : (BitVec.ofNat 8 (cascHeader typ dst src tag body.length / 256 ^ 7)).toNat = 0 := congrArg BitVec.toNat hb
  simp only [BitVec.toNat_ofNat, cascHeader] at h
  omega

/-- A stream that begins with a whole message gives it and goes on behind it. -/
theorem takeService_whole (n : Nat) {b : Byte} (bs : List Byte) (hb : b ≠ 0) (len : Nat)
    (hlen : 8 + bits (ofBytes ((b :: bs).take 8).reverse) 16 0 = len) (hle : len ≤ (b :: bs).length) :
    takeService (n + 1) (b :: bs)
      = ((b :: bs).take len :: (takeService n ((b :: bs).drop len)).1, (takeService n ((b :: bs).drop len)).2) := by
  have hfits : ¬ ((b :: bs).length < 8 ∨ (b :: bs).length < len) := by omega
  simp only [takeService, if_neg hb, hlen, if_neg hfits]

/-- Settles O59: the header's length cuts the message out, and its fields lie side by side. -/
theorem serviceMessagesParse : Obligations.ServiceMessagesParse := by
  unfold Obligations.ServiceMessagesParse
  intro n typ dst src tag body rest h1 ht hd hs hg hl m
  have hlen : m.length = 8 + body.length := cascMessage_length ..
  have hhead (rest : List Byte) : ofBytes ((m ++ rest).take 8).reverse = _ := header_of_cascMessage ..
  obtain ⟨htyp, hdst, hsrc, htag, hlth⟩ := cascHeader_fields ht hd hs hg hl
  have hm := hhead []
  rw [List.append_nil] at hm
  refine ⟨?_, ?_, ?_, ?_, ?_⟩
  · obtain ⟨b, bs, hb, hcons⟩ := cascMessage_first (dst := dst) (src := src) (tag := tag) body h1 ht
    have h8 := hhead rest
    have hstream : m ++ rest = b :: (bs ++ rest) := congrArg (· ++ rest) hcons
    rw [hstream] at h8 ⊢
    rw [takeService_whole n _ hb m.length (by rw [h8, hlth, hlen]) (by rw [← hstream]; simp), ← hstream, List.take_left,
      List.drop_left]
  · rw [msgType, hm, htyp]
  · rw [msgDst, hm, hdst]
  · rw [msgSrc, hm, hsrc]
  · rw [msgTag, hm, htag]

end Sys2Proof.Machine
end


/-!
The jump of a realignment (O58; 02 R44) and the state bits that a fabric clock's edge reaches (O60; 04 R126, 05 R162, R180):
a frame's slot gives keys of its own region and context alone.
-/
section
namespace Sys2Proof.Machine

/-- Settles O58: the reduced difference, less one orbit length in its upper half. -/
theorem realignmentJumpRange : Obligations.RealignmentJumpRange := by
  unfold Obligations.RealignmentJumpRange
  intro old new l hl hmax hnew
  have hold : old % l < l := Nat.mod_lt _ hl
  have hdiv : l * (old / l) + old % l = old := Nat.div_add_mod ..
  have hd : (new + l - old % l) % l < l := Nat.mod_lt _ hl
  have hsum : l * ((new + l - old % l) / l) + (new + l - old % l) % l = new + l - old % l := Nat.div_add_mod ..
  have hdvd : (l : Int) ∣ ((new + l - old % l) % l : Nat) - ((new : Int) - old) := by
    refine ⟨1 + old / l - ((new + l - old % l) / l : Nat), ?_⟩
    have h1 : ((l * (old / l) : Nat) : Int) + (old % l : Nat) = old := by exact_mod_cast hdiv
    have h2 : ((l * ((new + l - old % l) / l) : Nat) : Int) + ((new + l - old % l) % l : Nat) = new + l - (old % l : Nat) := by omega
    push_cast at h1 h2 ⊢
    linarith
  simp only [jumpOf]
  generalize (new + l - old % l) % l = d at hd hdvd
  split
  · exact ⟨d, by omega, by omega, hdvd, by omega⟩
  · refine ⟨(d : Int) - l, by omega, by omega, ?_, by omega⟩
    have h := dvd_sub_self_right.mpr hdvd
    rwa [show (d : Int) - (new - old) - l = d - l - (new - old) from by ring] at h

/-! ### Keys of state bits -/

theorem region_of_band {c : Cluster} (hc : c.y % 20 = 0) {r : Nat} (hr : r < 20) : ({ c with y := c.y + r } : Cluster).region = c.region := by
  simp only [Cluster.region]
  rw [show (c.y + r) / 20 = c.y / 20 from by omega]

/-- A site of a column that is the west one of its tile lies in the column's region. -/
theorem region_of_site {low : Cluster} (hx : low.x % 4 = 0 ∧ low.x < 480) (hy : low.y % 20 = 0) {r : Nat} (hr : r < 20) :
    (siteCluster low.layer ({ low with y := low.y + r } : Cluster).site).region = low.region := by
  have hrow : 4 * (((low.y + r) / 4 * 120 + low.x / 4) / 120) / 20 = low.y / 20 := by omega
  have hcol : 4 * (((low.y + r) / 4 * 120 + low.x / 4) % 120) / 40 = low.x / 40 := by omega
  simp only [Cluster.site, siteCluster, Cluster.region, hrow, hcol]

theorem flopKey_mod (c : Cluster) (cell g : Nat) {ctx : Nat} (h : ctx < 4) : flopKey c cell g ctx % 4 = ctx := by
  simp only [flopKey]
  omega

theorem riserFlop_mod (layer site w : Nat) {ctx : Nat} (h : ctx < 4) : riserFlop layer site w ctx % 4 = ctx := by
  simp only [riserFlop]
  omega

theorem flopRegion_flopKey {c : Cluster} (hl : c.layer < 2) (hx : c.x < 480) (hy : c.y < 320) {cell g ctx : Nat}
    (hcell : cell < 16) (hg : g < 2) (hctx : ctx < 4) : flopRegion (flopKey c cell g ctx) = c.region := by
  have hkey : flopKey c cell g ctx / 128 = c.index := by
    simp only [flopKey]
    omega
  have hlt : flopKey c cell g ctx < 2 ^ 40 := by
    simp only [flopKey, Cluster.index]
    omega
  have hlayer : c.index / 153600 = c.layer := by
    simp only [Cluster.index]
    omega
  have hrow : c.index % 320 = c.y := by
    simp only [Cluster.index]
    omega
  have hcol : c.index / 320 % 480 = c.x := by
    simp only [Cluster.index]
    omega
  simp only [flopRegion, if_pos hlt, hkey, hlayer, hrow, hcol]

theorem flopRegion_riserFlop {layer site w ctx : Nat} (hs : site < riserSites) (hw : w < 32) (hctx : ctx < 4) :
    flopRegion (riserFlop layer site w ctx) = (siteCluster layer site).region := by
  have hge : ¬ riserFlop layer site w ctx < 2 ^ 40 := by
    simp only [riserFlop]
    omega
  have hkey : (riserFlop layer site w ctx - 2 ^ 40) / 128 = layer * riserSites + site := by
    simp only [riserFlop]
    omega
  have hlayer : (layer * riserSites + site) / riserSites = layer := by
    simp only [riserSites] at hs ⊢
    omega
  have hsite : (layer * riserSites + site) % riserSites = site := by
    simp only [riserSites] at hs ⊢
    omega
  simp only [flopRegion, if_neg hge, hkey, hlayer, hsite]

/-- A column's slot places it at the foot of a band of the grid. -/
theorem slotPlace_bounds {slot : Nat} (h : slot < 2 * 675840) :
    (slotPlace slot).2.1 < 4 ∧ (slotPlace slot).2.2.layer < 2 ∧ (slotPlace slot).2.2.x < 480 ∧
      (slotPlace slot).2.2.y % 20 = 0 ∧ (slotPlace slot).2.2.y + 20 ≤ 320 := by
  simp only [slotPlace]
  omega

/-! ### An edge of the fabric's clocks -/

theorem look_foldl_set {α : Type} (l : List (Nat × α)) (t : Tab α) (key : Nat) :
    Tab.look (l.foldl (fun t e => Tab.set t e.1 e.2) t) key = Tab.look t key ∨ ∃ e ∈ l, e.1 = key := by
  induction l generalizing t with
  | nil => exact .inl rfl
  | cons e l ih =>
    by_cases he : e.1 = key
    · exact .inr ⟨e, List.mem_cons_self, he⟩
    · rcases ih (Tab.set t e.1 e.2) with h | ⟨x, hx, hk⟩
      · exact .inl (h.trans (tab_look_set_other _ _ _ _ (Ne.symm he)))
      · exact .inr ⟨x, List.mem_cons_of_mem _ hx, hk⟩

/-- What a column's slot changes at an edge lies in its region, which runs, in its context, which is current. -/
theorem slotEdge_mem {s : State} {hits : Nat → Bool} {slot : Nat} {e : Nat × Bool} (h : slot < 2 * 675840)
    (he : e ∈ s.slotEdge hits slot) : s.regionRuns (flopRegion e.1) = true ∧ s.ctxOf (flopRegion e.1) % 4 = e.1 % 4 := by
  obtain ⟨hctx, hl, hx, hy, hrow⟩ := slotPlace_bounds h
  unfold State.slotEdge at he
  generalize slotPlace slot = p at he hctx hl hx hy hrow
  obtain ⟨part, ctx, low⟩ := p
  dsimp only at he hctx hl hx hy hrow
  split at he
  · simp at he
  rename_i hrun
  have hkey : flopRegion e.1 = low.region ∧ e.1 % 4 = ctx := by
    split at he
    · rename_i hpart
      simp only [List.mem_filterMap, List.mem_range, Option.map_eq_some_iff] at he
      obtain ⟨i, hi, b, -, rfl⟩ := he
      have hin : low.y + part < 320 := by omega
      have hregion := flopRegion_flopKey (c := { low with y := low.y + part }) hl hx hin (show i / 2 < 16 by omega) (show i % 2 < 2 by omega) hctx
      exact ⟨hregion.trans (region_of_band hy hpart), flopKey_mod _ _ _ hctx⟩
    split at he
    · rename_i hcol
      simp only [List.mem_filterMap, List.mem_range, Option.map_eq_some_iff] at he
      obtain ⟨i, hi, b, -, rfl⟩ := he
      have hsite : ({ low with y := low.y + 4 * (i / 32) } : Cluster).site < riserSites := by
        simp only [Cluster.site, riserSites]
        omega
      have hregion : (siteCluster low.layer ({ low with y := low.y + 4 * (i / 32) } : Cluster).site).region = low.region :=
        region_of_site ⟨hcol.2, hx⟩ hy (show 4 * (i / 32) < 20 by omega)
      exact ⟨(flopRegion_riserFlop hsite (show i % 32 < 32 by omega) hctx).trans hregion, riserFlop_mod _ _ _ hctx⟩
    · simp at he
  rw [hkey.1, hkey.2]
  simpa using hrun

/-- Settles O60: an edge sets the state bits that the slots of the configuration's frames give. -/
theorem edgesChangeTheCurrentContext : Obligations.EdgesChangeTheCurrentContext := by
  unfold Obligations.EdgesChangeTheCurrentContext
  intro hits key s hslots
  have hflops : (fabEdge hits s).flops = (s.frames.flatMap (fun e => s.slotEdge hits e.1)).foldl (fun t e => Tab.set t e.1 e.2) s.flops := rfl
  rw [hflops]
  rcases look_foldl_set (s.frames.flatMap (fun e => s.slotEdge hits e.1)) s.flops key with h | ⟨e, he, rfl⟩
  · exact .inl h
  obtain ⟨f, hf, hin⟩ := List.mem_flatMap.mp he
  exact .inr (slotEdge_mem (hslots f hf) hin)

end Sys2Proof.Machine
end


/-!
Register writes and events of machine time (O6, O7; 02 R30 to R64), from what each write does and from the events' answers
of O8.
-/
section
namespace Sys2Proof.Machine

/-! ### What a change of source leaves -/

@[simp] theorem clkRequest_mt (mux source : Nat) (s : State) : (clkRequest mux source s).mt = s.mt := by
  unfold clkRequest
  split
  · rfl
  · split <;> rfl

/-- A new source starts a search, or leaves machine time free where it is none. -/
theorem mtSource_changed {s : State} {src tb : Nat} (hlock : s.bit F.mtimeCtrlLock = false)
    (hne : srcOf (s.get F.mtimeCtrlSrc) (s.get F.mtimeCtrlTbundle) ≠ srcOf src tb) :
    (mtSource src tb s).mt.locked = false ∧ (mtSource src tb s).mt.pullIn = (srcOf src tb).isSome := by
  simp only [mtSource, hlock, hne, Bool.false_eq_true, if_false]
  cases hnew : srcOf src tb with
  | none => exact ⟨rfl, rfl⟩
  | some c => exact ⟨rfl, rfl⟩

/-! ### The shadow window of the ruling table -/

theorem rtFields_low : ∀ k < 32, rtFields.testBit k = (0x00FFFFFF : Word).getLsbD k := by decide

theorem rtFields_high : ∀ k < 32, rtFields.testBit (32 + k) = (0x0FFFFF00 : Word).getLsbD k := by decide

theorem lowHalf_setBits (w : Nat) (v : Word) :
    (BitVec.ofNat 64 (setBits w 31 0 v.toNat &&& rtFields)).extractLsb' 0 32 = v &&& 0x00FFFFFF := by
  ext k hk
  simp only [BitVec.getElem_extractLsb', BitVec.getLsbD_ofNat, Nat.testBit_and, testBit_setBits _ _ _ _ _ (Nat.zero_le 31), Nat.zero_add,
    rtFields_low k hk, BitVec.getElem_and, BitVec.getLsbD_eq_getElem hk, Nat.sub_zero, BitVec.testBit_toNat]
  simp [show k < 64 from by omega, show k ≤ 31 from by omega]

theorem highHalf_setBits (w : Nat) (v : Word) :
    (BitVec.ofNat 64 (setBits w 63 32 v.toNat &&& rtFields)).extractLsb' 32 32 = v &&& 0x0FFFFF00 := by
  ext k hk
  simp only [BitVec.getElem_extractLsb', BitVec.getLsbD_ofNat, Nat.testBit_and, testBit_setBits _ _ _ _ _ (show 32 ≤ 63 from by decide),
    rtFields_high k hk, BitVec.getElem_and, BitVec.getLsbD_eq_getElem hk, Nat.add_sub_cancel_left, BitVec.testBit_toNat]
  simp [show 32 + k < 64 from by omega, show 32 + k ≤ 63 from by omega]

/-- The entry that a write of one half of an entry stores. -/
def rtMerged (half : Nat) (v : Word) (s : State) : DWord :=
  let w := s.rtWord (!s.activeBank) (half / 2)
  let r := (eccRead w.1 w.2).data.toNat
  BitVec.ofNat 64 ((if half % 2 = 1 then setBits r 63 32 v.toNat else setBits r 31 0 v.toNat) &&& rtFields)

theorem execRtShadowWrite_clean {half : Fin 32768} {v : Word} {s : State} (hswap : s.bit F.mtimeRtStatusSwapPending = false)
    (hclean : (eccRead (s.rtWord (!s.activeBank) (half / 2)).1 (s.rtWord (!s.activeBank) (half / 2)).2).poison = false) :
    exec (.rtShadowWrite half v) s
      = .next ((s.setRtWord (!s.activeBank) (half / 2) (rtMerged half v s, eccCheck (rtMerged half v s))).answer .ok) := by
  change execRtShadowWrite half v s = _
  simp only [execRtShadowWrite, rtShadowWrite, hswap, hclean, reply, Bool.false_eq_true, if_false]
  rfl

/-- Settles O6, a clause for each register. -/
theorem machineTimeWritesComplete : Obligations.MachineTimeWritesComplete := by
  unfold Obligations.MachineTimeWritesComplete
  refine ⟨fun src s hlock heq => ?_, fun src s hlock hne => ?_, fun s hst => ?_, fun s => rfl, fun v s hlock hlo hhi => ?_,
    fun i v s => rfl, fun n v s => ⟨rfl, rfl⟩, fun half v s hswap hclean => ?_, fun v s hswap hgo hlen => ?_, fun s => rfl⟩
  · change execMtimeSrcChange src s = _
    simp only [execMtimeSrcChange, mtSource, hlock, heq, reply, Bool.false_eq_true, if_false, if_true]
  · obtain ⟨hl, hp⟩ := mtSource_changed hlock hne
    exact ⟨_, rfl, (mtSource_untouched ..).1, hl, hp⟩
  · change execMtimeRealign s = _
    rcases hst with hst | hst <;> simp only [execMtimeRealign, mtRealign, hst, reply]
  · change execMtimeNomPeriodWrite v s = _
    have hrange : ¬ (v.toNat < 12500000 ∨ 100000000 < v.toNat) := by omega
    simp only [execMtimeNomPeriodWrite, mtNomPeriod, hlock, hrange, reply, Bool.false_eq_true, if_false]
  · refine ⟨_, execRtShadowWrite_clean hswap hclean, fun hlow => ?_, fun hhigh => ?_⟩
    · simp only [rtMerged, hlow, Nat.zero_ne_one, if_false]
      exact lowHalf_setBits _ _
    · simp only [rtMerged, hhigh, if_true]
      exact highHalf_setBits _ _
  · change execRtSwapRequest v s = _
    have hlong : ¬ bits v.toNat 29 16 < 255 := by omega
    simp only [execRtSwapRequest, rtCtrlWrite, hswap, hgo, hlong, reply, Bool.not_true, Bool.false_eq_true, if_false]

/-! ### What the events leave -/

theorem mtLoss_mt {s : State} (begun : Bool) (h : s.bit F.mtimeStatusCoasting = false) :
    (mtLoss begun s).mt.locked = false ∧ (mtLoss begun s).mt.pullIn = false ∧ (mtLoss begun s).mt.heldLanes = true := by
  have hc : (((s.put F.mtimeMeasPeriodVal 0).clear F.mtimeStatusSrcPresent).clear F.mtimeStatusFreqMismatch).bit F.mtimeStatusCoasting
      = false := by
    rw [← h]
    simp (disch := decide) only [State.bit, State.clear, get_put_other_bits, get_put_other_reg]
  simp only [mtLoss, hc, Bool.false_eq_true, if_false, raise_mt]
  exact ⟨rfl, rfl, rfl⟩

theorem rtFetch_mt_swap (s : State) (bank : Bool) (c : Nat) :
    (rtFetch s bank c).2.mt.swapDue = s.mt.swapDue ∧ (rtFetch s bank c).2.mt.swapCommitted = s.mt.swapCommitted := by
  simp only [rtFetch]
  split
  · exact ⟨rfl, rfl⟩
  · cases bank <;> exact ⟨rfl, rfl⟩
  · simp only [raise_mt]
    exact ⟨rfl, rfl⟩
  · simp only [raise_mt]
    exact ⟨rfl, rfl⟩

@[simp] theorem get_with_scm (s : State) (f : Fld) (i j : Nat) (x : ScmSt) : ({ s with scm := x } : State).get f i j = s.get f i j := rfl

@[simp] theorem irqToCores_get (s : State) (f : Fld) (i j : Nat) : (irqToCores s).get f i j = s.get f i j := by
  refine foldl_keep _ (fun t => t.get f i j) (fun t n => ?_) _ s
  dsimp only
  split <;> rfl

/-- A flag that is set shows. -/
theorem bit_flag_same (s : State) (f : Fld) (i j : Nat) (h : f.lo ≤ f.hi) (h32 : f.hi ≤ 31) (hw : 1 % 2 ^ f.width ≠ 0) :
    (s.flag f i j).bit f i j = true := by
  rw [State.bit, State.flag, get_put_same s f 1 i j h h32]
  exact bne_iff_ne.mpr hw

/-- After fired is set and arm cleared, a firing writes no other bit of the comparator's control than late. -/
theorem evtFire_get {g : Fld} (n : Nat) (s : State) (hr : g.reg = .mtimeEvtCtrl)
    (hlate : g.hi < F.mtimeEvtCtrlLate.lo ∨ F.mtimeEvtCtrlLate.hi < g.lo) :
    (evtFire n s).get g n = ((s.flag F.mtimeEvtCtrlFired n).clear F.mtimeEvtCtrlArm n).get g n := by
  have hflag (t : State) : (t.flag F.mtimeEvtCtrlLate n).get g n = t.get g n :=
    get_put_other_bits t F.mtimeEvtCtrlLate g 1 n 0 hr (by decide) (by decide) hlate
  have herr (t : State) : (t.flag F.mtimeErrEvtLate).get g n = t.get g n :=
    get_put_other_reg t F.mtimeErrEvtLate g 1 0 0 n 0 (by rw [hr]; decide)
  have hlateStep (b : Bool) (t : State) : (if b then (t.flag F.mtimeEvtCtrlLate n).flag F.mtimeErrEvtLate else t).get g n = t.get g n := by
    cases b
    · rfl
    · exact (herr _).trans (hflag t)
  have hfabric (b : Bool) (t : State) :
      (if b then { t with mt := { t.mt with tpEvent := t.mt.tpEvent ||| (1 <<< n) } } else t).get g n = t.get g n := by
    cases b <;> rfl
  have hirq (b : Bool) (t : State) :
      (if b then irqToCores { t with scm := { t.scm with mtimeIrq := t.scm.mtimeIrq ||| (1 <<< n) } } else t).get g n = t.get g n := by
    cases b
    · rfl
    · exact irqToCores_get ..
  have hhost (b : Bool) (t : State) (v : Nat) : (if b then t.raise .mtimeEvent (objWord 13 n) v else t).get g n = t.get g n := by
    cases b
    · rfl
    · exact get_raise t _ _ _ g n 0 (by rw [hr]; decide)
  exact (hhost _ _ _).trans ((hirq _ _).trans ((hfabric _ _).trans (hlateStep _ _)))

theorem evtFire_ctrl (n : Nat) (s : State) : (evtFire n s).get F.mtimeEvtCtrlArm n = 0 ∧ (evtFire n s).get F.mtimeEvtCtrlFired n = 1 := by
  constructor
  · rw [evtFire_get n s rfl (by decide)]
    exact get_put_same _ F.mtimeEvtCtrlArm 0 n 0 (by decide) (by decide)
  · have hclear : ((s.flag F.mtimeEvtCtrlFired n).clear F.mtimeEvtCtrlArm n).get F.mtimeEvtCtrlFired n
        = (s.flag F.mtimeEvtCtrlFired n).get F.mtimeEvtCtrlFired n :=
      get_put_other_bits _ F.mtimeEvtCtrlArm F.mtimeEvtCtrlFired 0 n 0 rfl (by decide) (by decide) (by decide)
    rw [evtFire_get n s rfl (by decide), hclear]
    exact get_put_same s F.mtimeEvtCtrlFired 1 n 0 (by decide) (by decide)

theorem enterAcquire_state (s : State) (locked : Bool) : (s.enterAcquire locked).get F.mtimeStatusState = 1 := by
  simp (disch := decide) only [State.enterAcquire, State.beginSearch, State.showMt, State.flag, State.clear, get_with_mt, get_put_other_bits]
  exact get_put_same s F.mtimeStatusState 1 0 0 (by decide) (by decide)

theorem markerDue_flag (s : State) : (s.flag F.mtimeErrMarkerWide).markerDue = s.markerDue := by
  simp (disch := decide) only [State.markerDue, State.nextLen, State.nextCross, State.orbitLen, State.flag, get_put_other_reg]
  rfl

/-- Settles O7, from what O8 says each event answers. -/
theorem machineTimeEventsComplete : Obligations.MachineTimeEventsComplete := by
  unfold Obligations.MachineTimeEventsComplete
  obtain ⟨hqual, hlock, hsearch, hcoast, hloss, hwindow, hmarker, hswap, hfire⟩ := timeEventsLeadOn
  refine ⟨fun measured s hsrc hoff hst => ⟨_, hqual measured s hsrc hoff hst, rfl, rfl, rfl, ?_⟩,
    fun s hpull hsrc hst => ⟨_, hlock s hpull hsrc hst, rfl, rfl, rfl, rfl, ?_, rfl⟩, hsearch, hcoast,
    fun begun s hsrc hc => ?_, hwindow, fun wide s hsrc => ?_, fun s hdue => ?_,
    fun n s harm hreach => ⟨_, hfire n s harm hreach, (evtFire_ctrl n s).1, (evtFire_ctrl n s).2⟩⟩
  · exact enterAcquire_state ..
  · exact bit_flag_same s F.mtimeStatusSrcPresent 0 0 (by decide) (by decide) (by decide)
  · obtain ⟨h1, h2, h3⟩ := mtLoss_mt begun hc
    exact ⟨_, hloss begun s hsrc, h1, h2, h3, (mtLoss_untouched ..).1⟩
  · cases wide with
    | false => exact ⟨_, (hmarker s hsrc).1, rfl, (orbitMarker_untouched ..).1⟩
    | true => exact ⟨_, (hmarker s hsrc).2, congrArg some (markerDue_flag s), (orbitMarker_untouched ..).1⟩
  · obtain ⟨h1, h2⟩ := rtFetch_mt_swap { s with mt := { s.mt with swapDue := false, swapCommitted := true } } (!s.activeBank) 0
    exact ⟨_, hswap s hdue, h1, h2⟩

end Sys2Proof.Machine
end


/-!
Lanes (O9, O10; 03 R98 to R118): how the state of a lane and its data read after each update, what the shared operations of
bring-up, stop and retirement leave, and the commands and events made of them.
-/
section
namespace Sys2Proof.Machine

/-! ### Reading a lane after an update -/

section
variable (s : State) (n m n' m' i j : Nat) (f g : Fld) (v : Nat) (up : LaneSt → LaneSt) (upB : BundleSt → BundleSt)

@[simp] theorem get_modLane : (s.modLane n m up).get g i j = s.get g i j := rfl

@[simp] theorem get_modBundle : (s.modBundle n upB).get g i j = s.get g i j := rfl

@[simp] theorem get_answer (st : Status) (d : Nat) (p : Bool) : (s.answer st d p).get g i j = s.get g i j := rfl

@[simp] theorem lane_answer (st : Status) (d : Nat) (p : Bool) : (s.answer st d p).lane n m = s.lane n m := rfl

@[simp] theorem laneSt_answer (st : Status) (d : Nat) (p : Bool) : (s.answer st d p).laneSt n m = s.laneSt n m := rfl

@[simp] theorem lane_put : (s.put f v i j).lane n m = s.lane n m := rfl

@[simp] theorem lane_setLaneSt (st : LSt) : (s.setLaneSt n' m' st).lane n m = s.lane n m := rfl

@[simp] theorem lane_modBundle : (s.modBundle n' upB).lane n m = s.lane n m := rfl

@[simp] theorem lane_modLane_same : (s.modLane n m up).lane n m = up (s.lane n m) := tab_get_put_same ..

theorem lane_modLane_other (h : m ≠ m') : (s.modLane n m' up).lane n m = s.lane n m :=
  tab_get_put_other _ _ _ _ _ _ (by simp only [laneKey]; omega)

@[simp] theorem bundle_put : (s.put f v i j).bundle n = s.bundle n := rfl

@[simp] theorem bundle_modLane : (s.modLane n' m up).bundle n = s.bundle n := rfl

@[simp] theorem laneSt_modLane : (s.modLane n' m' up).laneSt n m = s.laneSt n m := rfl

@[simp] theorem laneSt_modBundle : (s.modBundle n' upB).laneSt n m = s.laneSt n m := rfl

@[simp] theorem laneSt_setLaneSt (st : LSt) : (s.setLaneSt n m st).laneSt n m = st := by
  rw [State.laneSt, State.setLaneSt, get_put_same s F.laneLstState st.code n m (by decide) (by decide)]
  cases st <;> rfl

theorem laneSt_setLaneSt_other (st : LSt) (h : m ≠ m') (hn : n < 65536) (hm : m < 65536) (hm' : m' < 65536) :
    (s.setLaneSt n m' st).laneSt n m = s.laneSt n m :=
  congrArg LSt.ofCode (get_put_other_index s F.laneLstState F.laneLstState _ _ _ _ _ fun hk => h (regKey_inj hn hn hm hm' hk).2.2)

theorem laneSt_put_other (h : F.laneLstState.reg ≠ f.reg) : (s.put f v i j).laneSt n m = s.laneSt n m :=
  congrArg LSt.ofCode (get_put_other_reg s f F.laneLstState v i j n m h)

theorem laneSt_put_lst (hr : F.laneLstState.reg = f.reg) (h : f.lo ≤ f.hi) (h32 : f.hi ≤ 31)
    (d : F.laneLstState.hi < f.lo ∨ f.hi < F.laneLstState.lo) : (s.put f v n m).laneSt n m = s.laneSt n m :=
  congrArg LSt.ofCode (get_put_other_bits s f F.laneLstState v n m hr h h32 d)

@[simp] theorem laneSt_raise (e : Ev) (o x : Nat) : (s.raise e o x).laneSt n m = s.laneSt n m :=
  congrArg LSt.ofCode (get_raise s e o x F.laneLstState n m (by decide))

end

/-! ### Shared operations -/

section
variable (s : State) (n m : Nat)

/-- A lane that starts is in DETECT with no attempts. -/
theorem startBringup_lane : (startBringup n m s).laneSt n m = .detect ∧ (startBringup n m s).get F.laneLstAttempts n m = 0 := by
  constructor
  · simp (disch := decide) only [startBringup, State.clear, laneSt_modLane, laneSt_put_lst, laneSt_setLaneSt]
  · simp (disch := decide) only [startBringup, State.clear, get_modLane, get_put_other_bits]
    exact get_put_same _ F.laneLstAttempts 0 n m (by decide) (by decide)

theorem eyeLeave_laneSt (n' m' : Nat) : (eyeLeave n m s).laneSt n' m' = s.laneSt n' m' := by
  unfold eyeLeave
  split
  · simp (disch := decide) only [State.clear, laneSt_put_other]
  · rfl

theorem eyeLeave_lane (n' m' : Nat) : (eyeLeave n m s).lane n' m' = s.lane n' m' := by
  unfold eyeLeave
  split <;> rfl

/-- Withdrawing a steer request changes the state of no lane but an active spare, and no other lane's data. -/
theorem steerWithdraw_lane (hn : n < 65536) (hm : m < 16) (h : m = 8 → s.laneSt n m ≠ .active ∧ s.laneSt n m ≠ .retrain) :
    (steerWithdraw n s).laneSt n m = s.laneSt n m ∧ (steerWithdraw n s).lane n m = s.lane n m := by
  unfold steerWithdraw
  extract_lets t u
  have hst (k : Nat) : u.laneSt n k = s.laneSt n k := by
    simp (disch := decide) only [u, t, State.clear, laneSt_modBundle, laneSt_put_other]
  have hl : u.lane n m = s.lane n m := by
    simp only [u, t, State.clear, lane_modBundle, lane_put]
  rw [hst 8]
  split
  · rename_i hact
    have hne : m ≠ 8 := fun h8 => (h h8).1 (h8 ▸ hact)
    rw [laneSt_modLane, laneSt_setLaneSt_other _ _ _ _ _ hne hn (by omega) (by decide), lane_modLane_other _ _ _ _ _ hne,
      lane_setLaneSt]
    exact ⟨hst m, hl⟩
  · rename_i hre
    have hne : m ≠ 8 := fun h8 => (h h8).2 (h8 ▸ hre)
    rw [laneSt_modLane, lane_modLane_other _ _ _ _ _ hne]
    exact ⟨hst m, hl⟩
  all_goals exact ⟨hst m, hl⟩

/-- A lane that stops is STOPPING with an empty alignment buffer. -/
theorem laneStop_lane (hn : n < 65536) (hm : m < 16) : (laneStop n m s).laneSt n m = .stopping ∧ ((laneStop n m s).lane n m).buf = [] := by
  unfold laneStop
  extract_lets t1 t2 t3 t4
  have hst : t4.laneSt n m = .stopping := by
    simp (disch := decide) only [t4, t3, t2, t1, State.clear, laneSt_modLane, laneSt_put_other, laneSt_put_lst, laneSt_setLaneSt]
  have hl : (t4.lane n m).buf = [] := by
    simp only [t4, lane_modLane_same]
  split
  · obtain ⟨h1, h2⟩ := steerWithdraw_lane t4 n m hn hm (fun _ => by rw [hst]; decide)
    rw [h1, h2]
    exact ⟨hst, hl⟩
  split
  · simp (disch := decide) only [State.clear, laneSt_modBundle, laneSt_put_other, lane_modBundle, lane_put]
    exact ⟨hst, hl⟩
  · exact ⟨hst, hl⟩

theorem unspared_laneSt (n' m' : Nat) : (unspared n s).laneSt n' m' = s.laneSt n' m' := by
  simp (disch := decide) only [unspared, State.flag, laneSt_raise, laneSt_put_other]

theorem steerRequest_laneSt (x n' m' : Nat) : (steerRequest n x s).laneSt n' m' = s.laneSt n' m' := by
  simp (disch := decide) only [steerRequest, laneSt_modBundle, laneSt_put_other]

/-- A lane that is retired is RETIRED. -/
theorem retireLane_laneSt (hn : n < 65536) (hm : m < 16) : (retireLane n m s).laneSt n m = .retired := by
  unfold retireLane
  extract_lets t1 t2 t3
  have hst : t3.laneSt n m = .retired := by
    simp only [t3, t2, t1, laneSt_raise, laneSt_modLane, laneSt_setLaneSt]
  split
  · rw [unspared_laneSt, (steerWithdraw_lane t3 n m hn hm (fun _ => by rw [hst]; decide)).1, hst]
  split
  · rw [steerRequest_laneSt, hst]
  split
  · exact hst
  · rw [unspared_laneSt, hst]

/-- A failed bring-up attempt leads back to DETECT or retires the lane. -/
theorem attemptFailed_laneSt (hn : n < 65536) (hm : m < 16) :
    (attemptFailed n m s).laneSt n m = .detect ∨ (attemptFailed n m s).laneSt n m = .retired := by
  unfold attemptFailed
  extract_lets mismatch neighbour t1 t2
  have hst : t2.laneSt n m = .detect := by
    simp (disch := decide) only [t2, t1, State.bump, State.addSat, laneSt_modLane, laneSt_put_lst, laneSt_setLaneSt]
  split
  · split
    · exact .inr (retireLane_laneSt t2 n m hn hm)
    · exact .inl hst
  split
  · exact .inl ((laneSt_raise ..).trans hst)
  · exact .inl hst

end

end Sys2Proof.Machine
end


/-!
Lane register commands and the events of bring-up (O9, O10).
-/
section
namespace Sys2Proof.Machine

/-! ### No lane's state machine writes LANE_CFG -/

section
variable (s : State) (n m : Nat)

/-- What has been sent, and every bundle's LANE_CFG. -/
def cfgView : List Output × (Nat → Word) := (s.out, fun b => s.word .laneCfg b)

theorem cfgView_put (f : Fld) (v i j : Nat) (h : RegName.laneCfg ≠ f.reg) : cfgView (s.put f v i j) = cfgView s :=
  Prod.ext rfl (funext fun b => word_setWord_other s f.reg .laneCfg _ i j b 0 h)

@[simp] theorem cfgView_modLane (up : LaneSt → LaneSt) : cfgView (s.modLane n m up) = cfgView s := rfl

@[simp] theorem cfgView_modBundle (up : BundleSt → BundleSt) : cfgView (s.modBundle n up) = cfgView s := rfl

theorem unclassify_cfgView : cfgView (unclassify n s) = cfgView s := by
  unfold unclassify
  extract_lets members inService
  split
  · rfl
  · exact foldl_keep _ cfgView (fun t b => cfgView_put t F.laneStatusReversed 0 b 0 (by decide)) _ _

theorem startBringup_cfgView : cfgView (startBringup n m s) = cfgView s := by
  simp (disch := decide) only [startBringup, State.clear, State.setLaneSt, cfgView_modLane, cfgView_put, unclassify_cfgView]

theorem laneEnable_cfgView : cfgView (laneEnable n m s) = cfgView s := by
  unfold laneEnable
  split
  · split
    · exact startBringup_cfgView ..
    · rfl
  · simp (disch := decide) only [State.flag, cfgView_put]
  · rfl

theorem eyeLeave_cfgView : cfgView (eyeLeave n m s) = cfgView s := by
  unfold eyeLeave
  split
  · simp (disch := decide) only [State.clear, cfgView_put]
  · rfl

theorem steerWithdraw_cfgView : cfgView (steerWithdraw n s) = cfgView s := by
  unfold steerWithdraw
  extract_lets t u
  have hu : cfgView u = cfgView s := by
    simp (disch := decide) only [u, t, State.clear, cfgView_modBundle, cfgView_put]
  rw [← hu]
  split
  · simp (disch := decide) only [State.setLaneSt, cfgView_modLane, cfgView_put]
  all_goals rfl

theorem laneStop_cfgView : cfgView (laneStop n m s) = cfgView s := by
  unfold laneStop
  extract_lets t1 t2 t3 t4
  have h4 : cfgView t4 = cfgView s := by
    simp (disch := decide) only [t4, t3, t2, t1, State.clear, State.setLaneSt, cfgView_modLane, cfgView_put, eyeLeave_cfgView]
  rw [← h4]
  split
  · exact steerWithdraw_cfgView ..
  split
  · simp (disch := decide) only [State.clear, cfgView_modBundle, cfgView_put]
  · rfl

theorem laneDisable_cfgView : cfgView (laneDisable n m s) = cfgView s := by
  unfold laneDisable
  split
  · rfl
  · simp (disch := decide) only [State.clear, cfgView_modLane, cfgView_put]
  · rfl
  all_goals exact laneStop_cfgView ..

theorem forLanes_cfgView {act : Nat → State → State} (h : ∀ k t, cfgView (act k t) = cfgView t) (mask : Nat) :
    cfgView (forLanes act mask s) = cfgView s := by
  refine foldl_keep _ cfgView (fun t k => ?_) _ s
  split
  · exact h k t
  · rfl

end

/-! ### A write of LANE_CFG -/

theorem get_of_cfgView {s t : State} (h : cfgView t = cfgView s) (g : Fld) (hr : g.reg = .laneCfg) (n : Nat) : t.get g n = s.get g n := by
  have hw : t.word .laneCfg n = s.word .laneCfg n := congrFun (congrArg Prod.snd h) n
  rw [State.get, State.get, hr, hw]

/-- The fields of LANE_CFG as a write leaves them. -/
def laneCfgSet (n v mode : Nat) (s : State) : State :=
  (((((s.put F.laneCfgMode mode n).put F.laneCfgMult (bits v 22 16) n).put F.laneCfgTxLayer (bits v 9 9) n).put F.laneCfgRxLayer
    (bits v 8 8) n).put F.laneCfgCapsReq (bits v 1 1) n).put F.laneCfgEn (bits v 0 0) n

theorem laneCfgSet_fields (n v mode : Nat) (s : State) :
    (laneCfgSet n v mode s).get F.laneCfgMult n = bits v 22 16 ∧ (laneCfgSet n v mode s).get F.laneCfgTxLayer n = bits v 9 9 ∧
      (laneCfgSet n v mode s).get F.laneCfgRxLayer n = bits v 8 8 ∧ (laneCfgSet n v mode s).get F.laneCfgEn n = bits v 0 0 := by
  have hput (t : State) (f : Fld) (h : f.lo ≤ f.hi) (h32 : f.hi ≤ 31) : (t.put f (bits v f.hi f.lo) n).get f n = bits v f.hi f.lo :=
    (get_put_same t f _ n 0 h h32).trans (Nat.mod_mod ..)
  refine ⟨?_, ?_, ?_, ?_⟩ <;> simp (disch := decide) only [laneCfgSet, get_put_other_bits]
  · exact hput _ F.laneCfgMult (by decide) (by decide)
  · exact hput _ F.laneCfgTxLayer (by decide) (by decide)
  · exact hput _ F.laneCfgRxLayer (by decide) (by decide)
  · exact hput _ F.laneCfgEn (by decide) (by decide)

/-- A write of LANE_CFG to lanes that are all OFF sets its fields, whether lanes then start, stop or stay. -/
theorem laneCfgWrite_cfgView {n v : Nat} {s : State} (hlock : s.bit F.laneGctrlLock = false) (hoff : s.allLanesOff n = true)
    (hlo : 10 ≤ bits v 22 16) (hhi : bits v 22 16 ≤ 64) (hmode : bits v 25 24 = s.get F.laneCfgMode n) :
    (laneCfgWrite n v s).2 = .ok ∧ cfgView (laneCfgWrite n v s).1 = cfgView (laneCfgSet n v (s.get F.laneCfgMode n) s) := by
  have hmult : ¬ (bits v 22 16 < 10 ∨ 64 < bits v 22 16) := by omega
  have hstart (t : State) : cfgView ((List.range 9).foldl (fun s m => if (s.lane n m).wanted then laneEnable n m s else s) t) = cfgView t := by
    refine foldl_keep _ cfgView (fun t k => ?_) _ t
    split
    · exact laneEnable_cfgView ..
    · rfl
  have hrate (t : State) : cfgView (if t.rateOk n then t.modBundle n (fun b => { b with rateOk := t.rateOk n })
      else (t.modBundle n (fun b => { b with rateOk := t.rateOk n })).flag F.laneErrRateHigh n) = cfgView t := by
    split
    · rfl
    · exact cfgView_put _ F.laneErrRateHigh 1 n 0 (by decide)
  have hstop (t : State) : cfgView (forLanes (laneDisable n) 511 t) = cfgView t := forLanes_cfgView t (fun k t => laneDisable_cfgView t n k) 511
  simp only [laneCfgWrite, laneCfgSet, hlock, hoff, hmode, hmult, Bool.false_eq_true, if_false, Bool.not_true, Bool.and_false, ne_eq, not_true_eq_false,
    false_and]
  split
  · refine ⟨rfl, ?_⟩
    rw [hstart, hrate]
  split
  · refine ⟨rfl, ?_⟩
    rw [hstop]
  · exact ⟨rfl, rfl⟩

/-! ### The obligations -/

/-- Settles O9, a clause for each command. -/
theorem laneCommandsComplete : Obligations.LaneCommandsComplete := by
  unfold Obligations.LaneCommandsComplete
  refine ⟨fun n m s hoff hready => ?_, fun n m s hst => ⟨?_, ?_⟩, fun n m s hst => ?_, fun n v s hlock hoff hlo hhi hmode => ?_,
    fun n v s hidle hgo hok => ?_, fun n s hrun hok => ?_, fun n count s hrun hok hle => ?_⟩
  · obtain ⟨h1, h2⟩ := startBringup_lane s n m
    have h : laneEnable n m s = startBringup n m s := by
      simp only [laneEnable, hoff, hready, if_true]
    refine ⟨(laneEnable n m s).answer .ok, rfl, ?_, ?_, (laneEnable_untouched ..).1⟩
    · rw [laneSt_answer, h, h1]
    · rw [get_answer, h, h2]
  · obtain ⟨h1, h2⟩ := laneStop_lane s n m (by omega) (by omega)
    have h : laneDisable n m s = laneStop n m s := by
      rcases hst with hst | hst <;> simp only [laneDisable, hst]
    refine ⟨(laneDisable n m s).answer .ok, rfl, ?_, ?_, (laneDisable_untouched ..).1⟩
    · rw [laneSt_answer, h, h1]
    · rw [lane_answer, h, h2]
  · refine ⟨(enterRetrain n m s).answer .ok, rfl, ?_, (enterRetrain_untouched ..).1⟩
    rcases hst with hst | hst <;> simp only [enterRetrain, hst, laneSt_answer, laneSt_modLane, laneSt_setLaneSt]
  · refine ⟨(laneReinstate n m s).answer .ok, rfl, ?_, (laneReinstate_untouched ..).1⟩
    rw [laneSt_answer, laneReinstate, if_pos hst, (startBringup_lane _ n m).1]
  · obtain ⟨hok, hview⟩ := laneCfgWrite_cfgView hlock hoff hlo hhi hmode
    obtain ⟨h1, h2, h3, h4⟩ := laneCfgSet_fields n v.toNat (s.get F.laneCfgMode n) s
    have hget (g : Fld) (hr : g.reg = .laneCfg) := get_of_cfgView hview g hr n
    refine ⟨_, rfl, ?_, (hget _ rfl).trans h1, (hget _ rfl).trans h2, (hget _ rfl).trans h3, (hget _ rfl).trans h4⟩
    have hout : (laneCfgWrite n v.toNat s).1.out = s.out := congrArg Prod.fst hview
    rw [hok]
    exact congrArg (· ++ [Output.resp .ok 0 false]) hout
  · change execLaneEyeStart n v s = _
    simp only [execLaneEyeStart, eyeWrite, hgo, hidle, hok, reply, if_true, if_false]
  · change execEyeScanAbort n none s = _
    simp only [execEyeScanAbort, hrun, hok, and_self, if_true]
  · change execEyeScanDone n count s = _
    simp only [execEyeScanDone, hrun, hok, if_true, Nat.min_eq_left hle]

/-- Lane 0 of bundle 0, ACTIVE, with an eye scan of it running. -/
def scannedLane : State := (State.reset.setLaneSt 0 0 .active).put F.laneEyeStatState 1 0

/-- Refutes O10: where an eye scan of the lane runs, its loss of lock aborts the scan as well (R117), so the eye scan's state is
3 and not 1 as in the state that the clause gives. -/
theorem not_laneBringupEventsComplete : ¬ Obligations.LaneBringupEventsComplete := by
  unfold Obligations.LaneBringupEventsComplete
  rintro ⟨-, -, -, -, -, hloss, -⟩
  have hact : scannedLane.laneSt (0 : Fin 48) (0 : Fin 9) = .active := by decide +kernel
  have h := Host.Outcome.next.inj (hloss 0 0 scannedLane hact)
  have hscan := congrArg (fun t : State => t.get F.laneEyeStatState 0) h
  revert hscan
  decide +kernel

end Sys2Proof.Machine
end


/-!
Traffic on lanes (O11; 03 R78 to R97, R110): frames in, slots out, port writes, frames out and the bypass.
-/
section
namespace Sys2Proof.Machine

/-! ### The slot of a lane -/

/-- On-chip memory, what has been sent, and the fields that say where bundle `n`'s slots are shown. -/
def lanePortView (n : Nat) (s : State) : List Host.Cell × List Output × Nat × Nat × Nat :=
  (s.mem, s.out, s.get F.laneStatusReversed n, s.get F.laneGangSize n, s.get F.laneGangPos n)

section
variable (s : State) (n m : Nat)

theorem lanePortView_put_other (f : Fld) (v i j : Nat) (h : RegName.laneStatus ≠ f.reg ∧ RegName.laneGang ≠ f.reg) :
    lanePortView n (s.put f v i j) = lanePortView n s := by
  simp only [lanePortView, put_mem, put_out]
  rw [get_put_other_reg s f F.laneStatusReversed v i j n 0 h.1, get_put_other_reg s f F.laneGangSize v i j n 0 h.2,
    get_put_other_reg s f F.laneGangPos v i j n 0 h.2]

theorem lanePortView_steerTx (v : Nat) : lanePortView n (s.put F.laneStatusSteerTx v n) = lanePortView n s := by
  simp (disch := decide) only [lanePortView, put_mem, put_out, get_put_other_bits, get_put_other_reg]

theorem lanePortView_spareUsed (v : Nat) : lanePortView n (s.put F.laneStatusSpareUsed v n) = lanePortView n s := by
  simp (disch := decide) only [lanePortView, put_mem, put_out, get_put_other_bits, get_put_other_reg]

@[simp] theorem lanePortView_modLane (b k : Nat) (up : LaneSt → LaneSt) : lanePortView n (s.modLane b k up) = lanePortView n s := rfl

@[simp] theorem lanePortView_modBundle (b : Nat) (up : BundleSt → BundleSt) : lanePortView n (s.modBundle b up) = lanePortView n s := rfl

theorem steerWithdraw_lanePortView : lanePortView n (steerWithdraw n s) = lanePortView n s := by
  unfold steerWithdraw
  extract_lets t u
  have hu : lanePortView n u = lanePortView n s := by
    simp only [u, t, State.clear, lanePortView_modBundle, lanePortView_spareUsed, lanePortView_steerTx]
  rw [← hu]
  split
  · simp (disch := decide) only [State.setLaneSt, lanePortView_modLane, lanePortView_put_other]
  all_goals rfl

theorem switchBack_lanePortView : lanePortView n (switchBack n m s) = lanePortView n s := by
  unfold switchBack
  split
  · exact steerWithdraw_lanePortView ..
  split
  · exact steerWithdraw_lanePortView ..
  · rfl

theorem countBad_lanePortView (k : Nat) : lanePortView n (countBad k m s) = lanePortView n s := by
  unfold countBad
  split
  · rfl
  · simp (disch := decide) only [State.bump, State.addSat, lanePortView_modLane, lanePortView_put_other]

end

/-- A slot at a port: what the port shows goes out. -/
def showSlot (port : Nat × Nat) (c : Slot) (s : State) : State :=
  let out : Slot := if s.serviceLane port.1 port.2 then { data := 0, kind := 3, user := 0, poison := false, bad := c.bad } else c
  let s := if s.serviceLane port.1 port.2 then s.modLane port.1 port.2 (fun l => { l with service := c }) else s
  (s.modLane port.1 port.2 (fun l => { l with slot := out })).emit (.slot port.1 port.2 out)

theorem showSlot_out (port : Nat × Nat) (c : Slot) (s : State) :
    (showSlot port c s).out = s.out ++ [.slot port.1 port.2 ((showSlot port c s).lane port.1 port.2).slot] := by
  unfold showSlot
  extract_lets out t
  have ht : t.out = s.out := by
    simp only [t]
    split <;> rfl
  have hslot : (((t.modLane port.1 port.2 (fun l => { l with slot := out })).emit (.slot port.1 port.2 out)).lane port.1 port.2).slot = out := by
    change ((t.modLane port.1 port.2 (fun l => { l with slot := out })).lane port.1 port.2).slot = out
    rw [lane_modLane_same]
  rw [hslot]
  exact congrArg (· ++ [Output.slot port.1 port.2 out]) ht

theorem showSlot_mem (port : Nat × Nat) (c : Slot) (s : State) : (showSlot port c s).mem = s.mem := by
  unfold showSlot
  dsimp only
  split <;> rfl

/-- A delivery shows a slot at the port of the lane, in a state with the port's fields and what was sent before. -/
theorem execRxSlotDelivery_shows (n : Fin 48) (m : Fin 8) (s : State) :
    ∃ (c : Slot) (t : State), lanePortView n t = lanePortView n s ∧ exec (.rxSlotDelivery n m) s = .next (showSlot (t.rxPort n m) c t) := by
  change ∃ (c : Slot) (t : State), lanePortView n t = lanePortView n s ∧ execRxSlotDelivery n m s = .next (showSlot (t.rxPort n m) c t)
  unfold execRxSlotDelivery
  extract_lets s1 d s2 num orbit s3 src serving found mode c s4 s5 s6
  refine ⟨c, s6, ?_, rfl⟩
  have h2 : lanePortView n s2 = lanePortView n s1 := by
    simp only [s2]
    split
    · exact lanePortView_put_other _ _ F.laneErrSlotClip 1 n 0 (by decide)
    · rfl
  have h5 : lanePortView n s5 = lanePortView n s4 := by
    simp only [s5]
    clear_value found
    split
    · split
      · exact lanePortView_put_other _ _ F.laneErrKindErr 1 n 0 (by decide)
      · rfl
    · rfl
  have h6 : lanePortView n s6 = lanePortView n s5 := by
    simp only [s6]
    split
    · exact countBad_lanePortView ..
    · rfl
  have h4 : lanePortView n s4 = lanePortView n s3 := rfl
  have h3 : lanePortView n s3 = lanePortView n s2 := rfl
  exact h6.trans (h5.trans (h4.trans (h3.trans (h2.trans (switchBack_lanePortView ..)))))

/-! ### Frames -/

theorem closeVotes_laneSt (s : State) (n n' m : Nat) : (closeVotes n s).laneSt n' m = s.laneSt n' m := by
  unfold closeVotes
  dsimp only
  split <;> rfl

theorem closeVotes_lane (s : State) (n n' m : Nat) : (closeVotes n s).lane n' m = s.lane n' m := by
  unfold closeVotes
  dsimp only
  split <;> rfl

theorem closeVotes_none {s : State} {n : Nat} (h : (s.bundle n).voteGood = 0) : closeVotes n s = s := by
  simp only [closeVotes, h, or_true, if_true]

/-- A frame in time with a tag of its slot joins the alignment buffer of an active data lane. -/
theorem serviceFrame_inTime {n m : Nat} {f : RxFrame} {margin : Int} {s : State} (hm : m ≠ 8) (hact : s.laneSt n m = .active)
    (hmargin : 0 ≤ margin) (hearly : s.tooEarly n margin = false) (hslot : s.slotMatch n f.tag = true) :
    ((serviceFrame n m true f margin s).lane n m).syncErr = 0 ∧
      ((serviceFrame n m true f margin s).lane n m).buf = ((s.lane n m).buf ++ [f]).drop ((s.lane n m).buf.length - 8) := by
  unfold serviceFrame
  extract_lets t u w
  have hslot' : t.slotMatch n f.tag = true := hslot
  have hearly' : t.tooEarly n margin = false := hearly
  have hlane : (u.lane n m).syncErr = 0 ∧ (u.lane n m).buf = (s.lane n m).buf := by
    simp only [u, t, lane_modLane_same, and_self]
  have hw : w.laneSt n m = .active ∧ w.lane n m = u.lane n m := by
    simp only [w, hm, if_false]
    split
    · exact ⟨hact, rfl⟩
    · simp only [steerVote, laneSt_modBundle, lane_modBundle, closeVotes_laneSt, closeVotes_lane, and_true]
      exact hact
  simp only [hslot', hearly', Bool.not_true, Bool.or_self, Bool.false_eq_true, if_false, Int.not_lt.mpr hmargin, hw.1, if_true,
    lane_modLane_same, hw.2, hlane.1, hlane.2, and_self]

theorem drive_emit {s : State} (h : s.extest = false) (o : Output) : s.drive o = s.emit o := by
  simp only [State.drive, h, Bool.false_eq_true, if_false]

theorem driveFrame_plain {n m : Nat} {s : State} (hinv : s.bit F.laneLctrlTxInv n m = false) (hx : s.extest = false) (f : Nat) :
    driveFrame n m f s = s.emit (.frame n m f) := by
  simp only [driveFrame, hinv, drive_emit hx, Bool.false_eq_true, if_false]

/-- The frame of a lane that is ACTIVE and not in bypass. -/
theorem txLaunch_active {n m : Nat} {typ payload : Nat} {s : State} (hvote : (s.bundle n).voteGood = 0) (hact : s.laneSt n m = .active)
    (hbypass : s.carriesBypass n m = false) (hsend : s.txSends n m = some (typ, payload)) (hinv : s.bit F.laneLctrlTxInv n m = false)
    (hx : s.extest = false) :
    (txLaunch n m s).out = s.out ++ [.frame n m (txFrame (s.frameBits n) (s.mt.cross % 256) typ payload)] := by
  have hnot : ¬ (s.laneSt n m = .caps) := by
    rw [hact]
    decide
  simp only [txLaunch, closeVotes_none hvote, hbypass, hsend, launch, driveFrame_plain hinv hx, Bool.false_and, Bool.false_eq_true, if_false]
  split
  · rename_i hcaps
    exact absurd hcaps.1 hnot
  · rfl

theorem carried_data {s : State} {n m : Nat} (h : m < 8) : s.carried n m = some m := by
  simp only [State.carried, h, if_true]

/-- What an ACTIVE data lane sends. -/
theorem txSends_active {s : State} {n m : Nat} (hm : m < 8) (hready : s.bundleReady n = true) (hact : s.laneSt n m = .active) :
    s.txSends n m = some (if s.txHeld n then (mkTyp true 1 (s.get F.laneStatusSteerTx n) false, 0)
      else s.txContent n m (s.get F.laneStatusSteerTx n)) := by
  simp only [State.txSends, hready, hact, carried_data hm, hm, if_true, Bool.not_true, Bool.false_eq_true, if_false]
  split
  · rename_i h
    simp only [h]
  · rfl

/-- A bypassed frame that came with a good CRC and its own sync word is the frame a transmitter would build. -/
theorem bypassFrameOf_good (bitsM : Nat) {f : RxFrame} (typ payload : Nat) (hcrc : f.crcOk = true) (hsync : f.sync = syncWord f.tag) :
    bypassFrameOf bitsM f typ payload = txFrame bitsM f.tag typ payload := by
  simp only [bypassFrameOf, txFrame, hcrc, hsync, if_true]

/-- The command of a data lane's launch. -/
theorem exec_txFrameLaunch_data (n : Fin 48) (m : Fin 8) (h : 8 ≤ 10) (s : State) :
    exec (.txFrameLaunch n (m.castLE h)) s = .next (txLaunch n m s) := by
  change execTxFrameLaunch n (m.castLE h) s = _
  have hm : ¬ m.val = 9 := by omega
  simp only [execTxFrameLaunch, Fin.val_castLE, hm, if_false]

/-- Settles O11, a clause for each event. -/
theorem laneTrafficCompletes : Obligations.LaneTrafficCompletes := by
  unfold Obligations.LaneTrafficCompletes
  refine ⟨fun n m frame margin s hx hact hinv hpol hsync => ?_, fun n m frame margin s hx hact hinv hpol hmargin hearly hsync hslot => ?_,
    fun n m s hrev => ?_, fun n m s hrev hsize hpos hn hfor hcar => ?_, fun layer n m phase data u p s hlb hsvc hlayer hmode hlook => ?_,
    fun layer n m phase data u p s hlayer => ?_, fun n s hready hx hmark => ?_, fun n s hready hx hmark => ?_,
    fun n m s hready hx hact hby hinv htrip hst hvote hlook => ?_, fun n m s hready hx hact hheld hinv hvote => ?_,
    fun n m typ payload f s hready hin hx hact hlast hcrc hinv hsync hsteer => ?_,
    fun n m typ payload f s hready hin hx hact hlast hcrc hinv hsync hsteer hcar hinv8 => ?_⟩
  · change execRxFrame n m frame margin s = _
    simp only [execRxFrame, hx, hact, hinv, hpol, hsync, serviceFrame, bne_self_eq_false, Bool.false_eq_true, if_false, Bool.not_false, if_true]
  · have hinv' : s.bit F.laneLctrlRxInv n (m.castLE (by decide) : Fin 9) = false := hinv
    have hexec : exec (.rxFrame n (m.castLE (by decide)) frame margin) s
        = .next (serviceFrame n m true (parseFrame (s.frameBits n) (frame % 2 ^ s.frameBits n)).2 margin s) := by
      change execRxFrame n (m.castLE (by decide)) frame margin s = _
      simp only [execRxFrame, hx, Fin.val_castLE, hact, hinv, hpol, hsync, bne_self_eq_false, Bool.false_eq_true, if_false]
    obtain ⟨h1, h2⟩ := serviceFrame_inTime (f := (parseFrame (s.frameBits n) (frame % 2 ^ s.frameBits n)).2) (by omega) hact hmargin hearly hslot
    exact ⟨_, hexec, h1, h2⟩
  · obtain ⟨c, t, hview, hexec⟩ := execRxSlotDelivery_shows n m s
    simp only [lanePortView, Prod.mk.injEq] at hview
    obtain ⟨hmem, hout, hrev', -, -⟩ := hview
    have hport : t.rxPort n m = (n.val, m.val) := by
      simp only [State.rxPort, State.bit, hrev', hrev, bne_self_eq_false, Bool.false_eq_true, if_false]
    rw [hport] at hexec
    exact ⟨_, hexec, (showSlot_out ..).trans (by rw [hout]), (showSlot_mem ..).trans hmem⟩
  · obtain ⟨c, t, hview, hexec⟩ := execRxSlotDelivery_shows n m s
    simp only [lanePortView, Prod.mk.injEq] at hview
    obtain ⟨hmem, hout, hrev', hsize', hpos'⟩ := hview
    have hport : t.rxPort n m = (n.val + 1, 7 - m.val) := by
      simp only [State.rxPort, State.bit, State.gangN, State.gangFirst, hrev', hrev, hsize', hsize, hpos', hpos, bne_iff_ne, ne_eq, one_ne_zero,
        not_false_eq_true, if_true, Prod.mk.injEq]
      omega
    rw [hport] at hexec
    exact ⟨_, hexec, (showSlot_out ..).trans (by rw [hout]), (showSlot_mem ..).trans hmem⟩
  · change execTxPortWrite layer n m phase data u p s = _
    have hmode' : (s.get F.laneCfgMode n == modeCave) = false := beq_eq_false_iff_ne.mpr hmode
    simp only [execTxPortWrite, hlb, hsvc, hlayer, hmode', hlook, bne_self_eq_false, Bool.or_self, Bool.false_eq_true, if_false, Option.isSome_none]
  · change execTxPortWrite layer n m phase data u p s = _
    have hlayer' : (s.get F.laneCfgTxLayer n != layer) = true := bne_iff_ne.mpr hlayer
    simp only [execTxPortWrite, hlayer', Bool.or_true, Bool.true_or, if_true]
  · change execTxFrameLaunch n 9 s = _
    simp only [execTxFrameLaunch, hready, hmark, drive_emit hx, if_true]
    rfl
  · change execTxFrameLaunch n 9 s = _
    simp only [execTxFrameLaunch, hready, hmark, drive_emit hx, if_true, if_false]
    rfl
  · have hheld : s.txHeld n = false := by
      simp only [State.txHeld, htrip, Bool.false_and]
    have hnot : s.carriesBypass n m = false := by
      simp only [State.carriesBypass, carried_data m.isLt, State.inBypass, State.bypassOn, hby, Bool.false_and, Bool.and_false]
    have hsend := txSends_active m.isLt hready hact
    rw [hheld, if_neg Bool.false_ne_true, State.txContent, hlook] at hsend
    exact ⟨_, exec_txFrameLaunch_data .., txLaunch_active hvote hact hnot hsend hinv hx⟩
  · have hnot : s.carriesBypass n m = false := by
      simp only [State.carriesBypass, carried_data m.isLt, State.inBypass, hheld, Bool.not_true, Bool.and_false]
    have hsend := txSends_active m.isLt hready hact
    rw [hheld, if_pos rfl] at hsend
    exact ⟨_, exec_txFrameLaunch_data .., txLaunch_active hvote hact hnot hsend hinv hx⟩
  · change execBypassFrame n m typ payload s = _
    simp only [execBypassFrame, hready, hin, hact, hlast, Bool.and_self, if_true, driveFrame_plain hinv hx, bypassFrameOf_good _ _ _ hcrc hsync]
    rw [if_neg]
    exact fun h => hsteer h.1
  · change execBypassFrame n m typ payload s = _
    simp only [execBypassFrame, hready, hin, hact, hlast, Bool.and_self, if_true, driveFrame_plain hinv hx, bypassFrameOf_good _ _ _ hcrc hsync]
    rw [if_pos ⟨hsteer, hcar⟩]
    exact congrArg Host.Outcome.next (driveFrame_plain (s := s.emit _) hinv8 hx _)

end Sys2Proof.Machine
end


/-!
Hoops (O13; 05 R181 to R187).
-/
section
namespace Sys2Proof.Machine

/-- Hoop 0 in REPAIR with a design in its current context, due to run on, after a rewrite of one of its frames that failed. -/
def unrepairedHoop : State :=
  (((State.reset.setHoopSt 0 .repair).put F.fabHoopCfgCtxValid 15 0)).modHoop 0 (fun h => { h with resumeAt := some 0, rewriteFailed := true })

/-- Refutes O13: a hoop whose rewrite has failed does not run on at its resume edge, which the last clause does not ask for
(05 R181: the rewrite of every affected frame is complete before it resumes). -/
theorem not_hoopCommandsComplete : ¬ Obligations.HoopCommandsComplete := by
  unfold Obligations.HoopCommandsComplete
  rintro ⟨-, -, -, -, -, -, hresume⟩
  have hrepair : unrepairedHoop.hoopSt (0 : Fin 192) = .repair := by decide +kernel
  have hat : (unrepairedHoop.hoop (0 : Fin 192)).resumeAt = some 0 := by decide +kernel
  have hctx : unrepairedHoop.ctxOk (0 : Fin 192) = true := by decide +kernel
  have hstays : exec (.hoopRepairResume 0) unrepairedHoop = .next unrepairedHoop := by
    change execHoopRepairResume 0 unrepairedHoop = _
    have hfailed : (unrepairedHoop.hoop (0 : Fin 192)).rewriteFailed = true := by decide +kernel
    simp only [execHoopRepairResume, hat, hfailed, Bool.true_eq_false, and_false, if_false]
  obtain ⟨t, hexec, hrun, -⟩ := hresume 0 0 unrepairedHoop hrepair hat (Nat.zero_le _) hctx
  obtain rfl : unrepairedHoop = t := Host.Outcome.next.inj (hstays.symm.trans hexec)
  exact absurd (hrepair.symm.trans hrun) (by decide)

end Sys2Proof.Machine
end


/-!
Arithmetic slices, rank units, pattern match arrays and their update channels (O14; 06 R195 to R209, 07 R221 to R235).
-/
section
namespace Sys2Proof.Machine

/-! ### The accumulator of a slice -/

theorem wrapTo_add_signedOf (w v : Nat) (x : Int) : wrapTo w (x + signedOf w v) = wrapTo w (x + v) := by
  have hmod : (signedOf w v - v) % ((2 ^ w : Nat) : Int) = 0 := by
    simp only [signedOf]
    rw [show ((v % 2 ^ w : Nat) : Int) = (v : Int) % ((2 ^ w : Nat) : Int) from Int.natCast_mod ..]
    split
    · rw [Int.sub_emod, Int.emod_emod_of_dvd _ dvd_rfl, Int.sub_self, Int.zero_emod]
    · rw [Int.sub_emod, Int.sub_emod_right, Int.emod_emod_of_dvd _ dvd_rfl, Int.sub_self, Int.zero_emod]
  have hsum : x + signedOf w v = x + v + (signedOf w v - v) := by ring
  rw [wrapTo, wrapTo, hsum, Int.add_emod, hmod, Int.add_zero, Int.emod_emod_of_dvd _ dvd_rfl]

theorem wrapTo_add_wrapTo (w : Nat) (x y : Int) : wrapTo w (x + signedOf w (wrapTo w y)) = wrapTo w (x + y) := by
  have hpos : (0 : Int) ≤ y % ((2 ^ w : Nat) : Int) := Int.emod_nonneg _ (by positivity)
  rw [wrapTo_add_signedOf, wrapTo, wrapTo, wrapTo, Int.toNat_of_nonneg hpos, Int.add_emod,
    Int.emod_emod_of_dvd _ dvd_rfl, ← Int.add_emod]

/-- A lane that does not saturate wraps its sum. -/
theorem laneResult_plain (w y t : Nat) : (laneResult w false false y t).1 = wrapTo w (signedOf w y + signedOf w t) := by
  simp only [laneResult, Bool.false_eq_true, if_false]
  split
  · rfl
  · split <;> rfl

/-- An edge of a MUL24 slice without stages adds the product of its pins. -/
theorem sliceEdge_mul24 {at_ : Nat × Nat × Nat} {pins : SlicePins} (sumi opbi : Nat) (st : SliceSt) (hen : pins.en = true)
    (hzero : pins.zero = false) (hneg : pins.neg = false) :
    (sliceEdge { accSrc := 1 } at_ pins sumi opbi st).acc
      = wrapTo 64 (signedOf 64 st.acc + signedOf 24 pins.opa.toNat * signedOf 24 pins.opb.toNat) := by
  rw [← wrapTo_add_wrapTo]
  simp [sliceEdge, hen, hzero, hneg, toProduct, productTerm, preAdd, accumulate, laneWidth, baseTerm, laneResult_plain, List.range_succ]

/-! ### Update channels -/

theorem bits_lt (w hi lo : Nat) : bits w hi lo < 2 ^ (hi + 1 - lo) := Nat.mod_lt _ (Nat.two_pow_pos _)

section
variable (s : State)

/-- A field written with a value of its width reads that value. -/
theorem get_put_lt (f : Fld) {v : Nat} (i j : Nat) (h : f.lo ≤ f.hi) (h32 : f.hi ≤ 31) (hv : v < 2 ^ f.width) :
    (s.put f v i j).get f i j = v :=
  (get_put_same s f v i j h h32).trans (Nat.mod_eq_of_lt hv)

@[simp] theorem get_setPmu (c : Nat) (p : PmuSt) (f : Fld) (i j : Nat) : (s.setPmu c p).get f i j = s.get f i j := rfl

@[simp] theorem pmu_setPmu (c : Nat) (p : PmuSt) : (s.setPmu c p).pmu c = p := tab_get_put_same ..

end

theorem pmuGo_fields {op : Nat} (h : op < 8) (v : Word) :
    bitAt (pmuGo op v) 31 = true ∧ bitAt (pmuGo op v) 30 = false ∧ bits (pmuGo op v) 29 27 = op ∧
      bits (pmuGo op v) 7 0 = bits v.toNat 7 0 ∧ bits (pmuGo op v) 25 24 = bits v.toNat 25 24 := by
  simp only [bitAt, bits, pmuGo, Nat.shiftRight_eq_div_pow, Nat.testBit_eq_decide_div_mod_eq, decide_eq_true_eq, decide_eq_false_iff_not]
  omega

/-- What a go write that is accepted leaves. -/
structure PmuBegun (c op array newSet : Nat) (s t : State) : Prop where
  state : t.get F.fabPmuStatusState c = if op = 4 then 2 else 1
  progress : t.get F.fabPmuStatusProgress c = 0
  op_eq : t.get F.fabPmuCtrlOp c = op
  array_eq : t.get F.fabPmuCtrlArray c = array
  newSet_eq : t.get F.fabPmuCtrlNewSet c = newSet
  pmu : t.pmu c = { accepted := s.mt.boundary }
  pending : op = 4 → t.get F.fabPmSetPending array = 1

/-- The registers of a channel once its descriptor is taken. -/
def pmuTaken (c op at_ newSet array : Nat) (s : State) : State :=
  ((((((((s.put F.fabPmuCtrlOp op c).put F.fabPmuCtrlAt at_ c).put F.fabPmuCtrlNewSet newSet c).put F.fabPmuCtrlArray array c).flag
    F.fabPmuCtrlGo c).clear F.fabPmuStatusBadDesc c).put F.fabPmuStatusProgress 0 c).put F.fabPmuStatusState (if op = 4 then 2 else 1) c)

theorem pmuTaken_fields {op newSet array : Nat} (c at_ : Nat) (s : State) (hop : op < 8) (hset : newSet < 4) (harray : array < 256) :
    (pmuTaken c op at_ newSet array s).get F.fabPmuStatusState c = (if op = 4 then 2 else 1) ∧
      (pmuTaken c op at_ newSet array s).get F.fabPmuStatusProgress c = 0 ∧ (pmuTaken c op at_ newSet array s).get F.fabPmuCtrlOp c = op ∧
      (pmuTaken c op at_ newSet array s).get F.fabPmuCtrlArray c = array ∧ (pmuTaken c op at_ newSet array s).get F.fabPmuCtrlNewSet c = newSet := by
  refine ⟨?_, ?_, ?_, ?_, ?_⟩ <;> simp (disch := decide) only [pmuTaken, State.flag, State.clear, get_put_other_bits, get_put_other_reg]
  · refine get_put_lt _ F.fabPmuStatusState c 0 (by decide) (by decide) ?_
    split <;> decide
  · exact get_put_lt _ F.fabPmuStatusProgress c 0 (by decide) (by decide) (by decide)
  · exact get_put_lt _ F.fabPmuCtrlOp c 0 (by decide) (by decide) hop
  · exact get_put_lt _ F.fabPmuCtrlArray c 0 (by decide) (by decide) harray
  · exact get_put_lt _ F.fabPmuCtrlNewSet c 0 (by decide) (by decide) hset

/-- A channel that is IDLE takes a descriptor that is not refused. -/
theorem pmuGo_begun {c : Fin 4} {op : Nat} {v : Word} {s : State} (hop : op < 8) (hidle : s.get F.fabPmuStatusState c = 0)
    (hok : pmuRefused c op (bits v.toNat 7 0) s = false) :
    PmuBegun c op (bits v.toNat 7 0) (bits v.toNat 25 24) s ((pmuCtrlWrite c (pmuGo op v) s).1.answer (pmuCtrlWrite c (pmuGo op v) s).2) := by
  obtain ⟨hgo, habort, hopBits, harray, hset⟩ := pmuGo_fields hop v
  obtain ⟨h1, h2, h3, h4, h5⟩ := pmuTaken_fields c (bits (pmuGo op v) 26 26) s hop (bits_lt v.toNat 25 24) (bits_lt v.toNat 7 0)
  have hwrite : pmuCtrlWrite c (pmuGo op v) s
      = (let t := pmuTaken c op (bits (pmuGo op v) 26 26) (bits v.toNat 25 24) (bits v.toNat 7 0) s
         (if op = 4 then t.flag F.fabPmSetPending (bits v.toNat 7 0) else t).setPmu c { accepted := s.mt.boundary }, Status.ok) := by
    simp only [pmuCtrlWrite, hgo, habort, hopBits, harray, hset, hidle, hok, pmuTaken, Bool.false_eq_true, if_false, if_true, ne_eq,
      not_true_eq_false]
    split <;> rfl
  rw [hwrite]
  have hflag (t : State) (f : Fld) (a : Nat) (h : f.reg ≠ .fabPmSet) :
      (if op = 4 then t.flag F.fabPmSetPending a else t).get f c = t.get f c := by
    split
    · exact get_put_other_reg t F.fabPmSetPending f 1 a 0 c 0 h
    · rfl
  constructor
  all_goals simp only [get_answer, get_setPmu]
  · rw [hflag _ _ _ (by decide), h1]
  · rw [hflag _ _ _ (by decide), h2]
  · rw [hflag _ _ _ (by decide), h3]
  · rw [hflag _ _ _ (by decide), h4]
  · rw [hflag _ _ _ (by decide), h5]
  · exact pmu_setPmu ..
  · intro h
    rw [if_pos h]
    exact get_put_same _ F.fabPmSetPending 1 _ 0 (by decide) (by decide)

/-- A channel's registers and data once its operation has ended. -/
def pmuEnded (c st w : Nat) (s : State) : State :=
  let s := ((s.put F.fabPmuStatusState 0 c).clear F.fabPmuCtrlGo c).put F.fabPmuLastVal w c
  (if st = 2 then s.flag F.fabPmErrAccessErr else s).setPmu c {}

theorem pmuEnded_get (c st w : Nat) (s : State) (f : Fld) (h : f.reg ≠ .fabPmErr) :
    (pmuEnded c st w s).get f c = (((s.put F.fabPmuStatusState 0 c).clear F.fabPmuCtrlGo c).put F.fabPmuLastVal w c).get f c := by
  simp only [pmuEnded, get_setPmu]
  split
  · exact get_put_other_reg _ F.fabPmErrAccessErr f 1 0 0 c 0 h
  · rfl

theorem pmuEnded_tokens (c st w : Nat) (s : State) : (pmuEnded c st w s).tokens = s.tokens := by
  simp only [pmuEnded]
  split <;> rfl

/-- The end of an operation that stores no summary. -/
theorem execPmuComplete_plain {c : Fin 4} {st : Nat} {s : State} (hclk : s.nocClocked = true) (hfin : (s.pmu c).finished = some st)
    (hop : s.get F.fabPmuCtrlOp c = 1) :
    let w := pmuCompletion st c (s.get F.fabPmuCtrlArray c) (s.get F.fabPmuStatusProgress c)
    let t := pmuEnded c st w s
    exec (.pmuComplete c) s = .next (if t.bit F.fabPmuWxqEn c then t.postToken (t.get F.fabPmuWxqQueue c) w else t) := by
  change execPmuComplete c s = _
  simp only [execPmuComplete, hclk, whenClocked, hfin, hop, if_true, OfNat.one_ne_ofNat, if_false, pmuEnded]
  rfl

theorem pmuComplete_plain {c : Fin 4} {st : Nat} {s : State} (hclk : s.nocClocked = true) (hfin : (s.pmu c).finished = some st)
    (hop : s.get F.fabPmuCtrlOp c = 1) :
    ∃ t, exec (.pmuComplete c) s = .next t ∧ t.get F.fabPmuStatusState c = 0 ∧ t.get F.fabPmuCtrlGo c = 0 ∧ t.pmu c = {} ∧
      (s.bit F.fabPmuWxqEn c = true → t.tokens = s.tokens ++ [(s.get F.fabPmuWxqQueue c,
        pmuCompletion st c (s.get F.fabPmuCtrlArray c) (s.get F.fabPmuStatusProgress c))]) := by
  have hexec := execPmuComplete_plain hclk hfin hop
  dsimp only at hexec
  generalize pmuCompletion st c (s.get F.fabPmuCtrlArray c) (s.get F.fabPmuStatusProgress c) = w at hexec ⊢
  have hget := pmuEnded_get c st w s
  have hstate : (pmuEnded c st w s).get F.fabPmuStatusState c = 0 := by
    rw [hget _ (by decide)]
    simp (disch := decide) only [State.clear, get_put_other_reg]
    exact get_put_same s F.fabPmuStatusState 0 c 0 (by decide) (by decide)
  have hgo : (pmuEnded c st w s).get F.fabPmuCtrlGo c = 0 := by
    rw [hget _ (by decide)]
    simp (disch := decide) only [State.clear, get_put_other_reg]
    exact get_put_same _ F.fabPmuCtrlGo 0 c 0 (by decide) (by decide)
  have hpmu : (pmuEnded c st w s).pmu c = {} := pmu_setPmu ..
  have hen : (pmuEnded c st w s).bit F.fabPmuWxqEn c = s.bit F.fabPmuWxqEn c := by
    rw [State.bit, hget _ (by decide)]
    simp (disch := decide) only [State.clear, State.bit, get_put_other_reg]
  have hqueue : (pmuEnded c st w s).get F.fabPmuWxqQueue c = s.get F.fabPmuWxqQueue c := by
    rw [hget _ (by decide)]
    simp (disch := decide) only [State.clear, get_put_other_reg]
  rw [hen, hqueue] at hexec
  refine ⟨_, hexec, ?_⟩
  split
  · exact ⟨hstate, hgo, hpmu, fun _ => congrArg (· ++ [(s.get F.fabPmuWxqQueue c, w)]) (pmuEnded_tokens c st w s)⟩
  · rename_i hoff
    exact ⟨hstate, hgo, hpmu, fun h => absurd h hoff⟩

/-! ### The obligation -/

theorem upsetRows_nil (a : Nat) (s : State) : upsetRows a [] s = s := rfl

/-- Settles O14, a clause for each command. -/
theorem arithmeticAndMatchCommandsComplete : Obligations.ArithmeticAndMatchCommandsComplete := by
  unfold Obligations.ArithmeticAndMatchCommandsComplete
  refine ⟨fun i edge pins s hrun hcfg hen hzero hneg => ?_, fun r cands s hrun => ?_, fun r o rest s hrun hpipe => ?_,
    fun a key p tag upsets s hrun => ?_, fun a o rest s hrun hpipe => ?_, fun c v s hidle hok => ?_, fun c v s hidle hok => ?_,
    fun c v s hidle hok => ?_, fun c v s hidle hok => ?_, fun c v s hidle hok => ?_, fun c s hbusy hopen => ?_,
    fun c s hclk hbusy hopen hfrozen hop => ?_, fun c s hwait hopen hdue hat => ?_, fun c st s hclk hfin hop => ?_⟩
  · have hruns : s.sliceRuns i = true := hrun
    have hexec : exec (.sliceSample i edge pins) s = .next { s with slices := Tab.put {} s.slices i (sliceEdge { accSrc := 1 }
        (s.mt.boundary, edge, s.kOf 0) pins (if i.val % 16 = 0 then 0 else s.accAt (i - 1) (s.mt.boundary, edge, s.kOf 0))
        (s.opbi (s.mt.boundary, edge, s.kOf 0) i) (s.slice i)) } := by
      change execSliceSample i edge pins s = _
      simp only [execSliceSample, hruns, if_true, hcfg]
    refine ⟨_, hexec, ?_⟩
    rw [← sliceEdge_mul24 _ _ (s.slice i) hen hzero hneg]
    exact congrArg SliceSt.acc (tab_get_put_same ..)
  · change execRankSet r cands true s = _
    simp only [execRankSet, hrun, if_true]
  · change execRankResult r s = _
    simp only [execRankResult, hrun, if_true, hpipe]
  · change execPmSearch a key p tag upsets s = _
    simp only [execPmSearch, hrun, if_true]
  · change execPmSearchResult a s = _
    simp only [execPmSearchResult, hrun, if_true, hpipe]
  · have h := pmuGo_begun (op := 0) (by decide) hidle hok
    exact ⟨_, rfl, h.state, h.progress, h.op_eq, h.array_eq, h.pmu⟩
  · have h := pmuGo_begun (op := 1) (by decide) hidle hok
    exact ⟨_, rfl, h.state, h.op_eq, h.array_eq⟩
  · have h := pmuGo_begun (op := 2) (by decide) hidle hok
    exact ⟨_, rfl, h.state, h.op_eq, h.array_eq⟩
  · have h := pmuGo_begun (op := 3) (by decide) hidle hok
    exact ⟨_, rfl, h.state, h.op_eq, h.array_eq⟩
  · have h := pmuGo_begun (op := 4) (by decide) hidle hok
    exact ⟨_, rfl, h.state, h.pending rfl, h.newSet_eq⟩
  · change execPmuAbort c s = _
    have hgoes : ¬ (s.get F.fabPmuStatusState c = 0 ∨ (s.pmu c).finished.isSome = true) := by
      simp [hbusy, hopen]
    simp only [execPmuAbort, pmuAbort, hgoes, if_false, reply]
  · change execPmuRow c [] s = _
    simp only [execPmuRow, hclk, whenClocked, upsetRows_nil, hbusy, hopen, hfrozen, hop, and_self, if_true]
  · have hexec : exec (.pmuSetselApply c) s
        = .next (((s.put F.fabPmSetSetEn (s.get F.fabPmuCtrlNewSet c) (s.get F.fabPmuCtrlArray c)).clear F.fabPmSetPending
            (s.get F.fabPmuCtrlArray c)).setPmu c { s.pmu c with finished := some 0 }) := by
      change execPmuSetselApply c s = _
      simp only [execPmuSetselApply, hwait, hopen, hdue, hat, decide_true, Bool.not_false, Bool.true_or, Bool.and_self, and_self, if_true]
    refine ⟨_, hexec, ?_, ?_⟩
    · simp (disch := decide) only [get_setPmu, State.clear, get_put_other_bits]
      exact get_put_lt s F.fabPmSetSetEn _ 0 (by decide) (by decide) (get_lt ..)
    · rw [pmu_setPmu]
  · exact pmuComplete_plain hclk hfin hop

end Sys2Proof.Machine
end


/-!
Accesses to memory banks: ports, windows, scratch banks, handover and scrub passes (O15; 08 R246 to R276).
-/
section
namespace Sys2Proof.Machine

section
variable (s : State)

/-- Another register keeps its word. -/
theorem word_put_other (f : Fld) (v i j : Nat) (r : RegName) (i' j' : Nat) (h : r ≠ f.reg) : (s.put f v i j).word r i' j' = s.word r i' j' :=
  word_setWord_other s f.reg r _ i j i' j' h

theorem word_raise (e : Ev) (o v : Nat) (r : RegName) (i j : Nat)
    (hr : r ≠ .ethErr ∧ r ≠ .ethEvtNext ∧ r ≠ .scmBlotNext ∧ r ≠ .scmBlotDrop ∧ r ≠ .scmErr) : (s.raise e o v).word r i j = s.word r i j :=
  (eventFrame_word r i j hr).raise s e o v

theorem word_blot (c o v : Nat) (r : RegName) (i j : Nat)
    (hr : r ≠ .ethErr ∧ r ≠ .ethEvtNext ∧ r ≠ .scmBlotNext ∧ r ≠ .scmBlotDrop ∧ r ≠ .scmErr) : (s.blot c o v).word r i j = s.word r i j :=
  (eventFrame_word r i j hr).blot s c o v

theorem get_of_word {s t : State} (f : Fld) (i j : Nat) (h : s.word f.reg i j = t.word f.reg i j) : s.get f i j = t.get f i j := by
  rw [State.get, State.get, h]

@[simp] theorem word_modBank (id : BankId) (f : BankSt → BankSt) (r : RegName) (i j : Nat) : (s.modBank id f).word r i j = s.word r i j := rfl

@[simp] theorem get_modBank (id : BankId) (f : BankSt → BankSt) (g : Fld) (i j : Nat) : (s.modBank id f).get g i j = s.get g i j := rfl

@[simp] theorem word_modPort (n : Nat) (p : BankPort) (f : PortSt → PortSt) (r : RegName) (i j : Nat) :
    (s.modPort n p f).word r i j = s.word r i j := rfl

@[simp] theorem word_putWord (w : Nat) (d : DWord) (syn : Byte) (r : RegName) (i j : Nat) : (s.putWord w d syn).word r i j = s.word r i j := rfl

@[simp] theorem bank_modBank_same (id : BankId) (f : BankSt → BankSt) : (s.modBank id f).bank id = f (s.bank id) := tab_get_put_same ..

end

/-! ### Words read and written through the ports and from the network -/

section
variable (s : State)

/-- A word without error reads clean, with its data. -/
theorem wordRead_clean {w : Nat} (h : Tab.get 0 s.syn w = 0) : s.wordRead w = .good (s.wordData w) false := by
  rw [State.wordRead, h, eccRead_checkFlipped]
  rfl

/-- A port sees what is stored where the other port has written nothing. -/
theorem portView_stored {n : Nat} {p : BankPort} (w : Nat) (edge : Nat × Nat × Nat) (h : (s.port n p.other).last = none) :
    portView n p w edge s = s.wordRead (0x8000000 + 0x400 * n + w) := by
  simp only [portView, h]

/-- A clean aligned word read as eight bytes. -/
theorem readBytes_word (rd : Nat → State → EccRead × State) (a : Nat) (d : DWord) (h8 : a % 8 = 0) (h : rd (a / 8) s = (.good d false, s)) :
    readBytes rd a 8 s = (bytesOf d.toNat 8, false, s) := by
  have hspan : wordSpan a 8 = 1 := by simp only [wordSpan, h8]
  simp only [readBytes, hspan, readWords, h, EccRead.data, EccRead.poison, h8, List.drop_zero, List.append_nil, Bool.or_self]
  rw [List.take_of_length_le (by rw [bytesOf_length])]

/-- The answer to eight bytes is the word. -/
theorem answer_bytesOf (d : DWord) : ofBytes (bytesOf d.toNat 8) = d.toNat := by
  rw [ofBytes_bytesOf]
  exact Nat.mod_eq_of_lt d.isLt

theorem windowRead_clean {n : Nat} {p : BankPort} {w : Nat} (edge : Nat × Nat × Nat) (hlast : (s.port n p.other).last = none)
    (h : Tab.get 0 s.syn (0x8000000 + 0x400 * n + w) = 0) :
    windowRead n p edge w s = (.good (s.wordData (0x8000000 + 0x400 * n + w)) false, s) := by
  simp only [windowRead, portView_stored s w edge hlast, wordRead_clean s h, noteRead]

theorem bankRead_clean {id : BankId} {w : Nat} (h : Tab.get 0 s.syn (id.base + w) = 0) :
    bankRead id w s = (.good (s.wordData (id.base + w)) false, s) := by
  simp only [bankRead, wordRead_clean s h, noteRead]

/-- Eight bytes with all their enables fill the word they are aligned to. -/
theorem writeBytes_word (wr : Nat → DWord → Nat → State → State) (a : Nat) (data : List Byte) (h8 : a % 8 = 0) (hlen : data.length = 8) :
    writeBytes wr a data (List.replicate 8 true) s = wr (a / 8) (BitVec.ofNat 64 (ofBytes data)) 255 s := by
  have hspan : wordSpan a data.length = 1 := by simp only [wordSpan, h8, hlen]
  have ha : 8 * (a / 8) = a := by omega
  have hmask : wordMask a (List.replicate 8 true) (a / 8) = 255 := by
    simp [wordMask, ha, List.range_succ]
  have hbytes : wordBytes a data (a / 8) = BitVec.ofNat 64 (ofBytes data) := by
    rw [wordBytes, ha]
    congr 2
    refine List.ext_getElem (by simp [hlen]) fun i h1 h2 => ?_
    simp [List.getD_eq_getElem?_getD, List.getElem?_eq_getElem h2]
  simp only [writeBytes, hspan, writeWords, hmask, hbytes, OfNat.ofNat_ne_zero, if_false]

end

/-- A read of 64 bits without a write on the other port. -/
theorem bankPortRead (b : Fin 8192) (acc : PortAcc) (s : State) (howner : acc.region = s.get F.membBownOwner b)
    (hruns : s.regionRuns acc.region = true) (hheld : s.bit F.membBcfgHeldA b = false) (hspared : (Tab.get {} s.banks b.val).unspared = false)
    (hoff : (Tab.get {} s.banks b.val).portOff = false) (hwidth : s.get F.membBcfgWidthA b = 0) (hmode : s.get F.membBcfgPmode b = 2)
    (hwe : acc.we = 0) (hlast : (s.port b .b).last = none) (hsyn : Tab.get 0 s.syn (0x8000000 + 0x400 * b.val + acc.addr % 1024) = 0) :
    exec (.bankPortAccess b .a acc) s
      = .next ((portEnabled b .a (s.mt.boundary, acc.edge, s.kOf (s.portClk b .a)) s).modPort b .a (fun q => { q with pipe := q.pipe ++
          [(acc.region, (s.wordData (0x8000000 + 0x400 * b.val + acc.addr % 1024)).toNat, false)] })) := by
  set u := portEnabled b .a (s.mt.boundary, acc.edge, s.kOf (s.portClk b .a)) s with hu
  have hget (f : Fld) : u.get f b = s.get f b := rfl
  have hbank : Tab.get {} u.banks b.val = { Tab.get {} s.banks b.val with
      a := { (Tab.get {} s.banks b.val).a with
        lastEn := some (s.mt.boundary, acc.edge, s.kOf (s.portClk b .a))
        enRun := if (Tab.get {} s.banks b.val).a.lastEn.any (fun e => nextEdgeOf e (s.mt.boundary, acc.edge, s.kOf (s.portClk b .a)))
          then (Tab.get {} s.banks b.val).a.enRun + 1 else 1 } } := tab_get_put_same ..
  have hlast' : (u.port b.val .b).last = none := by simpa only [State.port, hbank] using hlast
  have hread (e : Nat × Nat × Nat) : portView b.val .a (acc.addr % 1024) e u
      = .good (s.wordData (0x8000000 + 0x400 * b.val + acc.addr % 1024)) false := by
    rw [portView_stored u _ e hlast', wordRead_clean u hsyn]
    rfl
  have hen (t : State) (hm : t.get F.membBcfgPmode b = 2) : t.portEnables b .a acc = 0 := by
    simp [State.portEnables, hm, hwe]
  have hign : u.portIgnores b .a 0 = false := by
    simp [State.portIgnores, hget, hmode]
  have haccess : portAccess b .a acc u = u.modPort b .a (fun q => { q with pipe := q.pipe ++
      [(acc.region, (s.wordData (0x8000000 + 0x400 * b.val + acc.addr % 1024)).toNat, false)] }) := by
    have hw : portWidth 0 = 64 := rfl
    have hi : acc.addr % (1024 * (64 / 64)) * 64 / 64 = acc.addr % 1024 := by
      rw [Nat.mul_div_cancel _ (by decide)]
    have hsh : acc.addr % (1024 * (64 / 64)) * 64 % 64 = 0 := Nat.mul_mod_left ..
    simp only [portAccess, portFld, hget, hwidth, hw, hi, hsh, hen u (hget _ ▸ hmode), hign, hread, Bool.false_eq_true, if_false, if_true,
      EccRead.data, EccRead.poison, noteRead, pushResult, Nat.shiftRight_zero]
    rw [Nat.mod_eq_of_lt (BitVec.isLt _)]
  change execBankPortAccess b .a acc s = _
  rw [← haccess]
  simp only [execBankPortAccess, portFld, howner.symm, hruns, hheld, ← hu, hbank, hspared, hoff, and_self, if_true, Bool.false_eq_true,
    or_self, if_false]

theorem handoverRequest (b : Fin 8192) (v : Word) (s : State) (hgo : bitAt v.toNat 31 = true) (howner : bits v.toNat 23 16 ≤ 193)
    (hold : s.regionLoading (s.get F.membBownOwner b) = false) (hnew : s.regionLoading (bits v.toNat 23 16) = false)
    (hat : (Tab.get {} s.banks b.val).handAt = none) :
    exec (.bankHandoverRequest b v) s = .next ((((s.put F.membBownReqOwner (bits v.toNat 23 16) b).flag F.membBownReq b).modBank
      (blockId b) (fun k => { k with handAt := some (s.mt.boundary + 2) })).answer .ok) := by
  change reply (handoverWrite b v.toNat s) = _
  simp only [handoverWrite, hgo, hold, hnew, hat, Bool.true_or, if_true, not_lt.mpr howner, Bool.false_eq_true, or_self, if_false,
    Option.getD_none, reply]

theorem get_portAnew (n : Nat) (p : BankPort) (s : State) (f : Fld) (i j : Nat) : (portAnew n p s).get f i j = s.get f i j := rfl

/-- At the handover edge the requested owner is the owner. -/
theorem bankHandover_owner (b : Fin 8192) (due : Nat) (s : State) (hat : (Tab.get {} s.banks b.val).handAt = some due) (hdue : due ≤ s.mt.boundary) :
    ∃ t, exec (.bankHandover b) s = .next t ∧ t.get F.membBownOwner b = s.get F.membBownReqOwner b ∧ t.get F.membBownReq b = 0 ∧
      t.mem = s.mem := by
  have hexec : exec (.bankHandover b) s = .next ((((portAnew b .b (portAnew b .a s)).put F.membBownOwner
      ((portAnew b .b (portAnew b .a s)).get F.membBownReqOwner b) b).clear F.membBownReq b).modBank (.block b) (fun k => { k with handAt := none })) := by
    change execBankHandover b s = _
    simp only [execBankHandover, hat, hdue, if_true]
  refine ⟨_, hexec, ?_, ?_, rfl⟩
  · simp (disch := decide) only [get_modBank, State.clear, get_put_other_bits]
    rw [get_put_lt _ F.membBownOwner b 0 (by decide) (by decide) (get_lt _ F.membBownReqOwner b 0), get_portAnew, get_portAnew]
  · exact get_put_same _ F.membBownReq 0 b 0 (by decide) (by decide)

theorem blockId_val (n : Nat) (h : n < 8192) : (blockId n).base = 0x8000000 + 0x400 * n := by
  simp only [blockId, BankId.base, Fin.val_ofNat, Nat.mod_eq_of_lt h]

/-- A read of an aligned clean word through the window of an open block bank. -/
theorem windowServe_read {n a : Nat} (edge : Nat) (s : State) (hn : n < 8192) (h8 : a % 8 = 0) (hbase : 0x8000000 + 0x400 * n ≤ a / 8)
    (hok : bankRefusal (blockId n) s = none) (hwin : s.bit F.membBcfgWinEn n = true) (hshut : s.windowShut n (s.windowPort n) = false)
    (hlast : (s.port n (s.windowPort n).other).last = none) (hsyn : Tab.get 0 s.syn (a / 8) = 0) :
    windowServe n edge a (.read 8) s = { status := .ok, data := bytesOf (s.wordData (a / 8)).toNat 8, poison := false, state := s } := by
  have hword : 0x8000000 + 0x400 * n + (a / 8 - (blockId n).base) = a / 8 := by
    rw [blockId_val n hn]
    exact Nat.add_sub_cancel' hbase
  have hread (e : Nat × Nat × Nat) :
      readBytes (fun w t => windowRead n (s.windowPort n) e (w - (blockId n).base) t) a 8 s = (bytesOf (s.wordData (a / 8)).toNat 8, false, s) := by
    refine readBytes_word s _ a _ h8 ?_
    have := windowRead_clean s (w := a / 8 - (blockId n).base) e hlast (by rw [hword]; exact hsyn)
    rwa [hword] at this
  simp only [windowServe, hok, hwin, Bool.true_eq_false, if_false, hshut, Bool.false_eq_true, hread]

/-- The window answers an aligned read of a clean word with its 64 bits. -/
theorem bankWindowRead (a edge : Nat) (s : State) (hclk : s.nocClocked = true) (hlo : 0x40000000 ≤ a) (hhi : a < 0x44000000) (h8 : a % 8 = 0)
    (hok : bankRefusal (blockId ((a - 0x40000000) / 0x2000)) s = none) (hwin : s.bit F.membBcfgWinEn ((a - 0x40000000) / 0x2000) = true)
    (hshut : s.windowShut ((a - 0x40000000) / 0x2000) (s.windowPort ((a - 0x40000000) / 0x2000)) = false)
    (hlast : (s.port ((a - 0x40000000) / 0x2000) (s.windowPort ((a - 0x40000000) / 0x2000)).other).last = none)
    (hsyn : Tab.get 0 s.syn (a / 8) = 0) :
    exec (.bankWindowAccess a edge (.read 8)) s = .next (s.answer .ok (s.wordData (a / 8)).toNat false) := by
  change execBankWindowAccess a edge (.read 8) s = _
  rw [execBankWindowAccess, whenClocked, if_pos hclk, if_pos ⟨hlo, hhi⟩,
    windowServe_read edge s (by omega) h8 (by omega) hok hwin hshut hlast hsyn, MemResult.reply, answer_bytesOf]

theorem scratchRead (b : Fin 256) (o : Nat) (s : State) (hclk : s.quillClocked (b / 16) = true) (hok : bankRefusal (.scratch b) s = none)
    (h8 : o % 8 = 0) (ho : o < 0x40000) (hsyn : Tab.get 0 s.syn (0x2000000 + 0x8000 * b.val + o / 8) = 0) :
    exec (.scratchAccess b o (.read 8)) s = .next (s.answer .ok (s.wordData (0x2000000 + 0x8000 * b.val + o / 8)).toNat false) := by
  change (scratchServe b (0x10000000 + 0x40000 * b.val + o % 0x40000) (.read 8) s).reply = _
  have hbase : (BankId.scratch b).base + ((0x10000000 + 0x40000 * b.val + o % 0x40000) / 8 - (BankId.scratch b).base)
      = 0x2000000 + 0x8000 * b.val + o / 8 := by
    simp only [BankId.base]
    omega
  have hread : readBytes (fun w t => bankRead (.scratch b) (w - (BankId.scratch b).base) t) (0x10000000 + 0x40000 * b.val + o % 0x40000) 8 s
      = (bytesOf (s.wordData (0x2000000 + 0x8000 * b.val + o / 8)).toNat 8, false, s) := by
    refine readBytes_word s _ _ _ (by omega) ?_
    rw [bankRead_clean s (by rw [hbase]; exact hsyn), hbase]
  simp only [scratchServe, hok, hclk, Bool.true_eq_false, if_false, hread, MemResult.reply, answer_bytesOf]

theorem scratchWrite (b : Fin 256) (o : Nat) (data : List Byte) (s : State) (hclk : s.quillClocked (b / 16) = true)
    (hok : bankRefusal (.scratch b) s = none) (h8 : o % 8 = 0) (ho : o < 0x40000) (hlen : data.length = 8) :
    exec (.scratchAccess b o (.write data (List.replicate 8 true) false)) s
      = .next ((s.putWord (0x2000000 + 0x8000 * b.val + o / 8) (BitVec.ofNat 64 (ofBytes data)) 0).answer .ok) := by
  change (scratchServe b (0x10000000 + 0x40000 * b.val + o % 0x40000) (.write data (List.replicate 8 true) false) s).reply = _
  have hword : (0x10000000 + 0x40000 * b.val + o % 0x40000) / 8 = 0x2000000 + 0x8000 * b.val + o / 8 := by omega
  have hbytes := writeBytes_word s (fun w d m s => s.writeWord w d m false) (0x10000000 + 0x40000 * b.val + o % 0x40000) data (by omega) hlen
  have hfull := storeOver_full (s.wordRead (0x2000000 + 0x8000 * b.val + o / 8)) (BitVec.ofNat 64 (ofBytes data)) false
  rw [hword] at hbytes
  simp only [State.writeWord, hfull, Bool.false_eq_true, if_false] at hbytes
  simp only [scratchServe, hok, hclk, Bool.true_eq_false, if_false, State.writeWord, hbytes, MemResult.reply]
  rfl

/-! ### Scrub passes -/

section
variable (s : State)

/-- The registers of the scrub engines that no read of a bank writes. -/
theorem bankFaulty_scrStatus (id : BankId) (i : Nat) : (bankFaulty id s).word .membScrStatus i = s.word .membScrStatus i := by
  have hfld (t : State) (f g : Fld) (v k : Nat) (hf : f.reg ≠ .membScrStatus) (hg : g.reg ≠ .membScrStatus) :
      (t.put (id.fld f g) v k).word .membScrStatus i = t.word .membScrStatus i := by
    refine word_put_other t _ v k 0 _ i 0 ?_
    rw [BankId.fld]
    split
    · exact hf.symm
    · exact hg.symm
  have hheld (t : State) (b : Bool) (k : Nat) :
      (t.setHeldBit (if id.isBlock then .membBret else .membSret) k b).word .membScrStatus i = t.word .membScrStatus i := by
    refine word_setWord_other t _ _ _ _ _ i 0 ?_
    split <;> decide
  have hretired (t : State) (b : Bool) : (t.setRetired id b).word .membScrStatus i = t.word .membScrStatus i := by
    simp only [State.setRetired]
    split
    · rw [hfld _ _ _ _ _ (by decide) (by decide), hheld]
    · split
      · rw [hfld _ _ _ _ _ (by decide) (by decide), hheld]
      · exact hheld ..
  have hspare (t : State) (st : Nat) : (t.setSpare id st).word .membScrStatus i = t.word .membScrStatus i := by
    simp only [State.setSpare]
    rw [hfld _ _ _ _ _ (by decide) (by decide), hfld _ _ _ _ _ (by decide) (by decide)]
  have hunspared (t : State) : (retireUnspared id t).word .membScrStatus i = t.word .membScrStatus i := by
    simp only [retireUnspared]
    rw [word_raise _ _ _ _ _ _ _ (by decide)]
    simp only [State.clear]
    rw [hfld _ _ _ _ _ (by decide) (by decide), hfld _ _ _ _ _ (by decide) (by decide), word_modBank]
    exact (hfld _ _ _ _ _ (by decide) (by decide)).trans (hretired t true)
  unfold bankFaulty
  split
  · rfl
  split
  · rfl
  split
  · split
    · rfl
    · rw [hunspared, hspare]
    · exact (word_blot _ _ _ _ _ _ _ (by decide)).trans (hspare s 2)
    · exact hunspared s
  · exact hunspared s

theorem noteRead_scrStatus (id : BankId) (w : Nat) (r : EccRead) (i : Nat) : (noteRead id w r s).word .membScrStatus i = s.word .membScrStatus i := by
  have hfld (t : State) (f g : Fld) (k : Nat) (hf : f.reg ≠ .membScrStatus) (hg : g.reg ≠ .membScrStatus) :
      (t.bump (id.fld f g) k).word .membScrStatus i = t.word .membScrStatus i := by
    refine word_put_other t _ _ k 0 _ i 0 ?_
    rw [BankId.fld]
    split
    · exact hf.symm
    · exact hg.symm
  have herror (t : State) : (noteError id w t).word .membScrStatus i = t.word .membScrStatus i := by
    simp only [noteError]
    split
    · exact bankFaulty_scrStatus _ id i
    · rfl
  have hflag (t : State) : (t.flag F.membErrUncorrectable).word .membScrStatus i = t.word .membScrStatus i :=
    word_put_other t F.membErrUncorrectable 1 0 0 _ i 0 (by decide)
  unfold noteRead
  split
  · rfl
  · exact hfld s _ _ _ (by decide) (by decide)
  · exact hfld s _ _ _ (by decide) (by decide)
  · dsimp only
    split
    · rw [hflag, hfld s _ _ _ (by decide) (by decide)]
    · rw [herror, word_raise _ _ _ _ _ _ _ (by decide), hflag, hfld s _ _ _ (by decide) (by decide)]

theorem portStore_scrStatus (n : Nat) (p : BankPort) (w : Nat) (edge : Nat × Nat × Nat) (mask : Nat) (d : DWord) (poison : Bool) (i : Nat) :
    (portStore n p w edge mask d poison s).word .membScrStatus i = s.word .membScrStatus i := by
  have hcount (t : State) : ((t.bump F.membStatCollisions).flag F.membErrCollision).word .membScrStatus i = t.word .membScrStatus i := by
    rw [State.flag, word_put_other _ _ _ _ _ _ _ _ (by decide)]
    exact word_put_other _ _ _ _ _ _ _ _ (by decide)
  simp only [portStore]
  split
  · split
    · exact hcount _
    · rfl
  · rfl

theorem bankRefusal_scrStatus {id : BankId} {t : State} {st : Status} (i : Nat) (h : bankRefusal id s = some (t, st)) :
    t.word .membScrStatus i = s.word .membScrStatus i := by
  rw [bankRefusal] at h
  split at h
  · cases h
    rfl
  · split at h
    · cases h
      rw [State.flag, word_put_other _ _ _ _ _ _ _ _ (by decide)]
      exact word_put_other _ _ _ _ _ _ _ _ (by decide)
    · cases h

end

theorem scrubNote_finished (p : ScrubSt) (bank addr : Nat) (r : Option EccRead) : (scrubNote p bank addr r).finished = p.finished := by
  unfold scrubNote
  split <;> rfl

/-- A word before the last leaves the pass under way, one word on. The bank of the word stays opaque, so that no
term computes with its bounds. -/
theorem scrubWord_goesOn (e : Fin 2) (s : State) (hclk : s.nocClocked = true) (hst : s.get F.membScrStatusState e = 1)
    (hfin : (s.scrub e).finished = none) (hfree : s.frozen F.dbgFreezeScrub = false)
    (hlen : s.get F.membScrStatusProgress e < s.get F.membScrLenVal e) :
    ∃ (u : State) (q : ScrubSt), exec (.scrubWord e false false) s = .next (u.setScrub e q) ∧ q.finished = none ∧
      u.get F.membScrStatusProgress e = s.get F.membScrStatusProgress e + 1 := by
  have hprog : (s.put F.membScrStatusProgress (s.get F.membScrStatusProgress e + 1) e).get F.membScrStatusProgress e
      = s.get F.membScrStatusProgress e + 1 :=
    get_put_lt _ F.membScrStatusProgress e 0 (by decide) (by decide) (Nat.lt_of_le_of_lt hlen (get_lt s F.membScrLenVal e 0))
  have hlast : s.get F.membScrStatusProgress e
      ≠ (s.put F.membScrStatusProgress (s.get F.membScrStatusProgress e + 1) e).get F.membScrLenVal e := by
    rw [get_put_other_reg _ F.membScrStatusProgress F.membScrLenVal _ _ _ _ _ (by decide)]
    exact Nat.ne_of_lt hlen
  obtain ⟨bankAt, hbankAt⟩ : ∃ f, f = bankOfWord := ⟨_, rfl⟩
  change ∃ (u : State) (q : ScrubSt), execScrubWord e false false s = _ ∧ _
  unfold execScrubWord
  rw [← hbankAt, whenClocked, if_pos hclk]
  clear hbankAt
  extract_lets p done addr w id p' closed edge read write s₁ step r src q
  rw [if_pos (show s.get F.membScrStatusState e = 1 ∧ p.finished = none ∧ s.frozen F.dbgFreezeScrub = false from ⟨hst, hfin, hfree⟩)]
  have hread (t : State) : (read t).2.word .membScrStatus e = t.word .membScrStatus e := by
    simp only [read]
    split
    · exact noteRead_scrStatus t (blockId id.idx) _ (portView id.idx p' (w - id.base) edge t) e
    · exact noteRead_scrStatus t id _ (t.wordRead (id.base + (w - id.base))) e
  have hwrite (d : DWord) (poison : Bool) (t : State) : (write d poison t).word .membScrStatus e = t.word .membScrStatus e := by
    simp only [write]
    split
    · exact portStore_scrStatus ..
    · rfl
  have hstep (t : State) : (step t).1.finished = none ∧ (step t).2.word .membScrStatus e = t.word .membScrStatus e := by
    simp only [step]
    split
    · next h => exact ⟨(scrubNote_finished ..).trans hfin, bankRefusal_scrStatus t e h⟩
    · split
      · exact ⟨(scrubNote_finished ..).trans hfin, rfl⟩
      · refine ⟨(scrubNote_finished ..).trans hfin, ?_⟩
        split
        · exact (hwrite ..).trans (hread t)
        · exact (hwrite ..).trans (hread t)
        · exact hread t
  obtain ⟨h1, h2⟩ := hstep s₁
  have hq : q = r.1 := if_neg hlast
  exact ⟨r.2, q, rfl, hq ▸ h1, (get_of_word F.membScrStatusProgress e 0 h2).trans hprog⟩

/-- The registers and the data of a scrub engine once its completion is known. -/
def scrubEnded (e w : Nat) (s : State) : State :=
  (((s.put F.membScrStatusState 0 e).clear F.membScrCtrlGo e).put F.membScrLastVal w e).setScrub e {}

theorem scrubEnded_fold (e w : Nat) (s : State) :
    (((s.put F.membScrStatusState 0 e).clear F.membScrCtrlGo e).put F.membScrLastVal w e).setScrub e {} = scrubEnded e w s := rfl

@[simp] theorem get_setScrub (s : State) (e : Nat) (p : ScrubSt) (f : Fld) (i j : Nat) : (s.setScrub e p).get f i j = s.get f i j := rfl

@[simp] theorem scrub_setScrub (s : State) (e : Nat) (p : ScrubSt) : (s.setScrub e p).scrub e = p := tab_get_put_same ..

theorem scrubEnded_idle (e w : Nat) (s : State) :
    (scrubEnded e w s).get F.membScrStatusState e = 0 ∧ (scrubEnded e w s).get F.membScrCtrlGo e = 0 ∧ (scrubEnded e w s).scrub e = {} := by
  refine ⟨?_, ?_, scrub_setScrub ..⟩
  · simp (disch := decide) only [scrubEnded, get_setScrub, State.clear, get_put_other_reg]
    exact get_put_same s F.membScrStatusState 0 e 0 (by decide) (by decide)
  · simp (disch := decide) only [scrubEnded, get_setScrub, State.clear, get_put_other_reg]
    exact get_put_same _ F.membScrCtrlGo 0 e 0 (by decide) (by decide)

/-- A pass that has finished leaves its engine IDLE. -/
theorem scrubComplete_idle (e : Fin 2) (st : Nat) (s : State) (hclk : s.nocClocked = true) (hfin : (s.scrub e).finished = some st) :
    ∃ t, exec (.scrubComplete e) s = .next t ∧ t.get F.membScrStatusState e = 0 ∧ t.get F.membScrCtrlGo e = 0 ∧ t.scrub e = {} := by
  have hexec : ∃ u w, execScrubComplete e s
      = .next (if (scrubEnded e w u).bit F.membScrWxqEn e then (scrubEnded e w u).postToken ((scrubEnded e w u).get F.membScrWxqQueue e) w
          else scrubEnded e w u) := by
    obtain ⟨store, hstore⟩ : ∃ f, f = storeSummary := ⟨_, rfl⟩
    simp only [execScrubComplete, whenClocked, hclk, if_true, hfin, ← hstore, scrubEnded_fold]
    exact ⟨_, _, rfl⟩
  obtain ⟨u, w, hexec⟩ := hexec
  obtain ⟨h1, h2, h3⟩ := scrubEnded_idle e w u
  generalize scrubEnded e w u = t at hexec h1 h2 h3
  refine ⟨_, hexec, ?_⟩
  split
  · exact ⟨h1, h2, h3⟩
  · exact ⟨h1, h2, h3⟩

/-- A start write of an engine that is IDLE takes its descriptor. -/
theorem scrubCtrlWrite_go (e : Nat) (s : State) (hidle : s.get F.membScrStatusState e = 0) (hok : scrubRefused e s = false) :
    scrubCtrlWrite e 0x80000000 s = (((((s.clear F.membScrStatusBadDesc e).put F.membScrStatusState 1 e).put F.membScrStatusProgress 0 e).flag
      F.membScrCtrlGo e).setScrub e { banks := scrubBanks (s.scrBase e / 8) (s.get F.membScrLenVal e + 1) }, .ok) := by
  have hgo : bitAt 0x80000000 31 = true := by decide
  have habort : bitAt 0x80000000 30 = false := by decide
  simp only [scrubCtrlWrite, hgo, habort, hidle, hok, Bool.false_eq_true, if_false, if_true, ne_eq, not_true_eq_false]
  have hother (r : RegName) (h : r ≠ .membScrStatus) : (((s.clear F.membScrStatusBadDesc e).put F.membScrStatusState 1 e).put
      F.membScrStatusProgress 0 e).word r e = s.word r e := by
    rw [word_put_other _ _ _ _ _ _ _ _ h, word_put_other _ _ _ _ _ _ _ _ h]
    exact word_put_other _ _ _ _ _ _ _ _ h
  have hbase : (((s.clear F.membScrStatusBadDesc e).put F.membScrStatusState 1 e).put F.membScrStatusProgress 0 e).scrBase e = s.scrBase e := by
    simp only [State.scrBase, State.pair, hother .membScrBaseLo (by decide), hother .membScrBaseHi (by decide)]
  rw [hbase, get_of_word F.membScrLenVal e 0 (hother .membScrLen (by decide))]

/-- Settles O15: each clause is one operation above, or its own equation. -/
theorem bankAccessesComplete : Obligations.BankAccessesComplete := by
  unfold Obligations.BankAccessesComplete
  refine ⟨fun b acc s => bankPortRead b acc s, ?_, fun b v s => handoverRequest b v s, fun b due s => bankHandover_owner b due s,
    fun a edge s => bankWindowRead a edge s, ?_, fun b o s => scratchRead b o s, fun b o data s => scratchWrite b o data s, ?_, ?_, ?_,
    fun e st s => scrubComplete_idle e st s⟩
  · intro b p r rest s hpipe
    exact ⟨fun h => by change execBankPortResult b p s = _; simp only [execBankPortResult, hpipe, h, if_true],
      fun h => by change execBankPortResult b p s = _; simp only [execBankPortResult, hpipe, h, if_false]⟩
  · intro b s hclk
    change execBankWindowTimeout b s = _
    simp only [execBankWindowTimeout, whenClocked, hclk, if_true]
  · intro e s hidle hok
    change reply (scrubCtrlWrite e 0x80000000 s) = _
    rw [scrubCtrlWrite_go e s hidle hok, reply]
  · intro e s hrun hfin
    change reply (scrubAbort e s, .ok) = _
    rw [scrubAbort, if_pos ⟨hrun, hfin⟩]
    rfl
  · intro e s hclk hst hfin hfree hlen
    obtain ⟨u, q, hexec, hq, hprog⟩ := scrubWord_goesOn e s hclk hst hfin hfree hlen
    exact ⟨_, hexec, hprog, (congrArg ScrubSt.finished (scrub_setScrub ..)).trans hq⟩

end Sys2Proof.Machine
end


/-!
Power states of banks, their spares and their reinstatement (O16; 08 R259 to R264, 17 R545 to R560).
-/
section
namespace Sys2Proof.Machine

@[simp] theorem fld_block (n : Fin 8192) (f g : Fld) : (BankId.block n).fld f g = f := rfl

@[simp] theorem fld_scratch (n : Fin 256) (f g : Fld) : (BankId.scratch n).fld f g = g := rfl

/-! ### The power state of a bank -/

section
variable (id : BankId) (s : State)

theorem powerOfCode_code (p : PowerSt) : PowerSt.ofCode p.code = p := by cases p <;> rfl

@[simp] theorem power_modBank (i : BankId) (f : BankSt → BankSt) : (s.modBank i f).power id = s.power id := rfl

/-- A power state written reads back. -/
@[simp] theorem power_setPower (p : PowerSt) : (s.setPower id p).power id = p := by
  have hcode : p.code < 16 := by cases p <;> decide
  have hread : (s.put (id.fld F.membBpwrState F.membSpwrState) p.code id.idx).get (id.fld F.membBpwrState F.membSpwrState) id.idx = p.code := by
    cases id with
    | block n => exact get_put_lt s F.membBpwrState n.val 0 (by decide) (by decide) hcode
    | scratch n => exact get_put_lt s F.membSpwrState n.val 0 (by decide) (by decide) hcode
  rw [State.setPower, power_modBank, State.power, hread, powerOfCode_code]

@[simp] theorem bank_setPower (p : PowerSt) : (s.setPower id p).bank id = { s.bank id with portChange := id.isBlock } := bank_modBank_same ..

/-- The bits of a bank's power register below its state do not move it. -/
theorem power_put (f g : Fld) (v : Nat) (hf : f.reg = .membBpwr ∧ f.lo ≤ f.hi ∧ f.hi < 28) (hg : g.reg = .membSpwr ∧ g.lo ≤ g.hi ∧ g.hi < 28) :
    (s.put (id.fld f g) v id.idx).power id = s.power id := by
  obtain ⟨hfr, hfb, hfh⟩ := hf
  obtain ⟨hgr, hgb, hgh⟩ := hg
  rw [State.power, State.power]
  congr 1
  cases id with
  | block n => exact get_put_other_bits s f F.membBpwrState v n.val 0 hfr.symm hfb (by omega) (Or.inr hfh)
  | scratch n => exact get_put_other_bits s g F.membSpwrState v n.val 0 hgr.symm hgb (by omega) (Or.inr hgh)

/-- A bank with no target latched stays as its transition left it. -/
theorem applyLatched_none (h : (s.bank id).latched = none) : applyLatched id s = s := by simp only [applyLatched, h]

end

/-- A bank asked down from ON begins to lower. -/
theorem powerRequest_down (id : BankId) (s : State) (hon : s.power id = .on) (hspared : (s.bank id).unspared = false)
    (hlatched : (s.bank id).latched = none) (hspare : s.spareFor id 1 = false) :
    powerRequest id 1 s = (((s.put (id.fld F.membBpwrTarget F.membSpwrTarget) 1 id.idx).setPower id .lowering).modBank id
      (fun b => { b with toOff := false }), .ok) := by
  have hpower : (s.put (id.fld F.membBpwrTarget F.membSpwrTarget) 1 id.idx).power id = .on :=
    (power_put id s _ _ 1 (by decide) (by decide)).trans hon
  have hspare' : (s.put (id.fld F.membBpwrTarget F.membSpwrTarget) 1 id.idx).spareFor id 1 = false := by
    rw [← hspare, State.spareFor, State.spareFor, State.spareSt, State.spareSt, State.spareBank, State.spareBank]
    cases id with
    | block n => simp (disch := decide) only [fld_block, get_put_other_reg]
    | scratch n => simp (disch := decide) only [fld_scratch, get_put_other_reg]
  simp [powerRequest, hspared, hon, hlatched, hspare', startPower, hpower]

/-- A bank that is asked to be what it is takes the target. -/
theorem powerRequest_on (id : BankId) (s : State) (hon : s.power id = .on) (hspared : (s.bank id).unspared = false)
    (hlatched : (s.bank id).latched = none) :
    powerRequest id 0 s = (s.put (id.fld F.membBpwrTarget F.membSpwrTarget) 0 id.idx, .ok) := by
  simp [powerRequest, hspared, hon, hlatched]

theorem tab_get_filter_none {α : Type} (d : α) (t : Tab α) (p : Nat × α → Bool) (a : Nat) (h : ∀ v, p (a, v) = false) :
    Tab.get d (t.filter p) a = d := by
  induction t with
  | nil => rfl
  | cons e t ih =>
    obtain ⟨b, v⟩ := e
    rw [List.filter_cons]
    split
    · next hp =>
      have hne : b ≠ a := by
        rintro rfl
        rw [h v] at hp
        exact Bool.noConfusion hp
      simp only [Tab.get, Tab.look, hne, if_false]
      exact ih
    · exact ih

/-- A cleared bank reads zero. -/
theorem clearBank_zero (id : BankId) (s : State) (a : Nat) (hlo : 8 * id.base ≤ a) (hhi : a < 8 * (id.base + id.words)) :
    Tab.get 0 (clearBank id s).mem a = 0 := by
  refine tab_get_filter_none 0 s.mem _ a fun v => ?_
  simp only [Bool.or_eq_false_iff, decide_eq_false_iff_not]
  exact ⟨by omega, by omega⟩

/-! ### Spares -/

/-- The one faulty bank of a set of 16 is the list of them. -/
theorem filter_faulty_one (n : Fin 256) (p : BankId → Bool) (hn : p (.scratch n) = true)
    (hother : ∀ m : Fin 256, m.val / 16 = n.val / 16 → m ≠ n → p (.scratch m) = false) :
    ((List.range 16).map (fun j => BankId.scratch (Fin.ofNat 256 (16 * (n.val / 16) + j)))).filter p = [BankId.scratch n] := by
  have hval (j : Nat) (hj : j < 16) : (Fin.ofNat 256 (16 * (n.val / 16) + j)).val = 16 * (n.val / 16) + j := by
    rw [Fin.val_ofNat]
    omega
  have hsel : ∀ j ∈ List.range 16, (p ∘ fun j => BankId.scratch (Fin.ofNat 256 (16 * (n.val / 16) + j))) j = (j == n.val % 16) := by
    intro j hj
    rw [List.mem_range] at hj
    by_cases h : j = n.val % 16
    · have : Fin.ofNat 256 (16 * (n.val / 16) + j) = n := Fin.ext (by rw [hval j hj]; omega)
      rw [Function.comp, this, hn, h, beq_self_eq_true]
    · have hdiv : (Fin.ofNat 256 (16 * (n.val / 16) + j)).val / 16 = n.val / 16 := by rw [hval j hj]; omega
      have hne : Fin.ofNat 256 (16 * (n.val / 16) + j) ≠ n := by
        intro e
        have := congrArg Fin.val e
        rw [hval j hj] at this
        omega
      rw [Function.comp, hother _ hdiv hne, beq_false_of_ne h]
  have hone : (List.range 16).filter (· == n.val % 16) = [n.val % 16] := by
    rw [List.filter_beq, List.count_eq_one_of_mem List.nodup_range (List.mem_range.mpr (by omega)), List.replicate_one]
  rw [List.filter_map, List.filter_congr hsel, hone, List.map_cons, List.map_nil]
  congr 2
  exact Fin.ext (by rw [hval _ (by omega)]; omega)

/-- What a copy of a bank to its spare leaves while errors are noted: the memory, the spare's state and the time. -/
def SpareKept (s t : State) : Prop :=
  t.mem = s.mem ∧ ∀ i, t.word .membSpmapB i = s.word .membSpmapB i ∧ t.word .membSpmapS i = s.word .membSpmapS i

theorem spareFor_of_kept (id : BankId) {s t : State} (st : Nat) (h : SpareKept s t) : t.spareFor id st = s.spareFor id st := by
  obtain ⟨-, hword⟩ := h
  obtain ⟨hb, hs⟩ := hword id.spare
  simp only [State.spareFor, State.spareSt, State.spareBank]
  cases id with
  | block n => rw [fld_block, fld_block, get_of_word F.membSpmapBState _ 0 hb, get_of_word F.membSpmapBBank _ 0 hb]
  | scratch n => rw [fld_scratch, fld_scratch, get_of_word F.membSpmapSState _ 0 hs, get_of_word F.membSpmapSBank _ 0 hs]

section
variable (id : BankId)

/-- A bank whose spare is being copied is not retired for another error. -/
theorem bankFaulty_copying (s : State) (h : s.spareFor id 1 = true) : bankFaulty id s = s := by
  simp only [State.spareFor, Bool.and_eq_true, beq_iff_eq] at h
  obtain ⟨hst, hbank⟩ := h
  simp [bankFaulty, hst, hbank]

theorem spareKept_put (s : State) (f : Fld) (v i : Nat) (hb : f.reg ≠ .membSpmapB) (hs : f.reg ≠ .membSpmapS) : SpareKept s (s.put f v i) :=
  ⟨rfl, fun _ => ⟨word_put_other s f v i 0 _ _ 0 hb.symm, word_put_other s f v i 0 _ _ 0 hs.symm⟩⟩

theorem spareKept_raise (s : State) (e : Ev) (o v : Nat) : SpareKept s (s.raise e o v) :=
  ⟨raise_mem .., fun _ => ⟨word_raise _ _ _ _ _ _ _ (by decide), word_raise _ _ _ _ _ _ _ (by decide)⟩⟩

theorem spareKept_refl (s : State) : SpareKept s s := ⟨rfl, fun _ => ⟨rfl, rfl⟩⟩

theorem spareKept_trans {s t u : State} (h : SpareKept s t) (h' : SpareKept t u) : SpareKept s u := by
  obtain ⟨hm, hw⟩ := h
  obtain ⟨hm', hw'⟩ := h'
  exact ⟨hm'.trans hm, fun i => ⟨(hw' i).1.trans (hw i).1, (hw' i).2.trans (hw i).2⟩⟩

/-- Reading a word of a bank whose spare is being copied leaves memory and spare alone. -/
theorem noteRead_spareKept (w : Nat) (r : EccRead) (s : State) (h : s.spareFor id 1 = true) : SpareKept s (noteRead id w r s) := by
  have hfld (t : State) (f g : Fld) (i : Nat) (hf : f.reg ≠ .membSpmapB ∧ f.reg ≠ .membSpmapS) (hg : g.reg ≠ .membSpmapB ∧ g.reg ≠ .membSpmapS) :
      SpareKept t (t.bump (id.fld f g) i) := by
    cases id with
    | block n => exact spareKept_put t f _ i hf.1 hf.2
    | scratch n => exact spareKept_put t g _ i hg.1 hg.2
  have hflag (t : State) : SpareKept t (t.flag F.membErrUncorrectable) := spareKept_put t _ 1 0 (by decide) (by decide)
  have herror (t : State) (ht : t.spareFor id 1 = true) : SpareKept t (noteError id w t) := by
    have hmod (f : BankSt → BankSt) : bankFaulty id (t.modBank id f) = t.modBank id f := bankFaulty_copying id _ ht
    simp only [noteError]
    split
    · rw [hmod]
      exact ⟨rfl, fun _ => ⟨rfl, rfl⟩⟩
    · exact ⟨rfl, fun _ => ⟨rfl, rfl⟩⟩
  unfold noteRead
  split
  · exact spareKept_refl s
  · exact hfld s _ _ _ (by decide) (by decide)
  · exact hfld s _ _ _ (by decide) (by decide)
  · dsimp only
    have hcounted := spareKept_trans (hfld s F.membBeccUncorrectable F.membSeccUncorrectable id.idx (by decide) (by decide)) (hflag _)
    split
    · exact hcounted
    · have hraised := spareKept_trans hcounted (spareKept_raise _ .membUe id.obj w)
      exact spareKept_trans hraised (herror _ ((spareFor_of_kept id 1 hraised).trans h))

theorem copyNotes_mem (s : State) (h : s.spareFor id 1 = true) : (copyNotes id s).mem = s.mem := by
  suffices hfold : ∀ (l : Tab Byte) (t : State), SpareKept s t → SpareKept s (l.foldl (fun s e => (bankRead id (e.1 - id.base) s).2) t) from
    (hfold _ s (spareKept_refl s)).1
  intro l
  induction l with
  | nil => exact fun t ht => ht
  | cons e l ih =>
    exact fun t ht => ih _ (spareKept_trans ht (noteRead_spareKept id _ _ t ((spareFor_of_kept id 1 ht).trans h)))

end

section
variable (id : BankId) (s : State)

/-- Copying the words of a bank writes words only. -/
theorem copyWords_keep {β : Type} (g : State → β) (h : ∀ t w d syn, g (t.putWord w d syn) = g t) : g (copyWords id s) = g s := by
  refine foldl_keep _ g (fun t e => ?_) _ s
  split
  · exact h ..
  · exact h ..
  · exact h ..

@[simp] theorem bank_setSpare (i : BankId) (st : Nat) : (s.setSpare i st).bank id = s.bank id := rfl

@[simp] theorem bank_setRetired (i : BankId) (b : Bool) : (s.setRetired i b).bank id = s.bank id := by
  simp only [State.setRetired]
  split
  · rfl
  · split <;> rfl

@[simp] theorem bank_raise (e : Ev) (o v : Nat) : (s.raise e o v).bank id = s.bank id := by
  simp only [State.bank, raise_banks]

@[simp] theorem bank_blot (c o v : Nat) : (s.blot c o v).bank id = s.bank id := by
  simp only [State.bank, blot_banks]

theorem heldBit_setHeldBit (r : RegName) (i : Nat) (b : Bool) : (s.setHeldBit r i b).heldBit r i = b := by
  simp only [State.heldBit, State.setHeldBit, word_setWord_same, BitVec.toNat_ofNat]
  rw [Nat.mod_eq_of_lt (setBits_lt _ _ _ _ le_rfl (by omega) (s.word r (i / 32)).isLt), testBit_setBits _ _ _ _ _ le_rfl]
  cases b <;> simp [b2n]

/-- The map of retired banks shows what was set. -/
theorem bankRetired_setRetired (b : Bool) : (s.setRetired id b).bankRetired id = b := by
  have hcount (t : State) (v : Nat) : (t.put (id.fld F.membRetcntBlock F.membRetcntScratch) v).bankRetired id = t.bankRetired id := by
    simp only [State.bankRetired, State.heldBit]
    cases id with
    | block n => exact congrArg (fun w : Word => w.toNat.testBit _) (word_put_other t F.membRetcntBlock v 0 0 .membBret _ 0 (by decide))
    | scratch n => exact congrArg (fun w : Word => w.toNat.testBit _) (word_put_other t F.membRetcntScratch v 0 0 .membSret _ 0 (by decide))
  have hset := heldBit_setHeldBit s (if id.isBlock then .membBret else .membSret) id.idx b
  simp only [State.setRetired]
  split
  · exact (hcount _ _).trans hset
  · split
    · exact (hcount _ _).trans hset
    · exact hset

theorem bankRetired_of_word {s t : State} (h : ∀ i, t.word .membBret i = s.word .membBret i ∧ t.word .membSret i = s.word .membSret i) :
    t.bankRetired id = s.bankRetired id := by
  simp only [State.bankRetired, State.heldBit]
  split
  · rw [(h _).1]
  · rw [(h _).2]

theorem bankRetired_raise (e : Ev) (o v : Nat) : (s.raise e o v).bankRetired id = s.bankRetired id :=
  bankRetired_of_word id fun _ => ⟨word_raise _ _ _ _ _ _ _ (by decide), word_raise _ _ _ _ _ _ _ (by decide)⟩

theorem bankRetired_blot (c o v : Nat) : (s.blot c o v).bankRetired id = s.bankRetired id :=
  bankRetired_of_word id fun _ => ⟨word_blot _ _ _ _ _ _ _ (by decide), word_blot _ _ _ _ _ _ _ (by decide)⟩

/-- A spare that carries a scratch bank shows it. -/
theorem spareFor_setSpare (n : Fin 256) (s : State) : (s.setSpare (.scratch n) 2).spareFor (.scratch n) 2 = true := by
  have hst : (s.setSpare (.scratch n) 2).spareSt (.scratch n) = 2 := by
    simp (disch := decide) only [State.setSpare, State.spareSt, fld_scratch, get_put_other_bits]
    exact get_put_lt _ F.membSpmapSState _ 0 (by decide) (by decide) (by decide)
  have hbank : (s.setSpare (.scratch n) 2).spareBank (.scratch n) = n.val :=
    get_put_lt _ F.membSpmapSBank _ 0 (by decide) (by decide) (Nat.lt_trans n.isLt (by decide))
  simp only [State.spareFor, hst, hbank, BankId.idx, beq_self_eq_true, Bool.and_self]

theorem spareKept_setRetired (b : Bool) : SpareKept s (s.setRetired id b) := by
  have hheld : SpareKept s (s.setHeldBit (if id.isBlock then .membBret else .membSret) id.idx b) := by
    refine ⟨rfl, fun i => ⟨word_setWord_other s _ _ _ _ _ _ _ ?_, word_setWord_other s _ _ _ _ _ _ _ ?_⟩⟩ <;> split <;> decide
  have hcount (t : State) (v : Nat) : SpareKept t (t.put (id.fld F.membRetcntBlock F.membRetcntScratch) v) := by
    cases id with
    | block n => exact spareKept_put t F.membRetcntBlock v 0 (by decide) (by decide)
    | scratch n => exact spareKept_put t F.membRetcntScratch v 0 (by decide) (by decide)
  simp only [State.setRetired]
  split
  · exact spareKept_trans hheld (hcount _ _)
  · split
    · exact spareKept_trans hheld (hcount _ _)
    · exact hheld

/-- What a reinstated bank's return leaves. -/
theorem bankBack_returned :
    (bankBack id s).bankRetired id = false ∧ ((bankBack id s).bank id).reinst = 0 ∧ ((bankBack id s).bank id).unspared = false ∧
      (bankBack id s).ended = s.ended ++ [(id.obj, 0)] := by
  have hended (b : Bool) : (s.setRetired id b).ended = s.ended := by
    simp only [State.setRetired]
    split
    · rfl
    · split <;> rfl
  have hbank (t : State) (o v : Nat) : (t.objectEnded o v).bank id = t.bank id := rfl
  refine ⟨?_, ?_, ?_, ?_⟩
  · exact (bankRetired_blot id _ _ _ _).trans (bankRetired_setRetired id s false)
  · simp only [bankBack, hbank, bank_blot, bank_modBank_same]
  · simp only [bankBack, hbank, bank_blot, bank_modBank_same]
  · simp only [bankBack, State.objectEnded, blot_ended]
    exact congrArg (· ++ _) (hended false)

end

/-- The takeover of a scratch bank whose copy has ended, with nothing latched. -/
theorem bankTakeover_scratch (n : Fin 256) (b : Nat) (s : State) (hclk : s.quillClocked (n / 16) = true)
    (hcopied : (s.bank (.scratch n)).copied = some b) (hspare : s.spareFor (.scratch n) 1 = true)
    (hlatched : (s.bank (.scratch n)).latched = none) (hreinst : (s.bank (.scratch n)).reinst = 0) :
    exec (.bankTakeover (.scratch n)) s
      = .next (((((copyWords (.scratch n) s).setSpare (.scratch n) 2).setRetired (.scratch n) true).modBank (.scratch n)
          (fun k => { k with copied := none, errs := [] })).raise .membRetired (BankId.scratch n).obj (BankId.scratch n).spare) := by
  change execBankTakeover (.scratch n) s = _
  have hpoint : switchPoint (.scratch n) b s = true := hclk
  have hkept : (copyWords (.scratch n) s).bank (.scratch n) = s.bank (.scratch n) :=
    copyWords_keep _ s (fun t => t.bank (.scratch n)) fun _ _ _ _ => rfl
  simp only [execBankTakeover, hcopied, hspare, hpoint, and_self, if_true]
  generalize hu : ((((copyWords (.scratch n) s).setSpare (.scratch n) 2).setRetired (.scratch n) true).modBank (.scratch n)
      (fun k => { k with copied := none, errs := [] })).raise .membRetired (BankId.scratch n).obj (BankId.scratch n).spare = u
  have hbank : u.bank (.scratch n) = { s.bank (.scratch n) with copied := none, errs := [] } := by
    rw [← hu, bank_raise, bank_modBank_same, bank_setRetired, bank_setSpare, hkept]
  have hsame : applyLatched (.scratch n) u = u := applyLatched_none _ _ (by rw [hbank]; exact hlatched)
  simp only [hsame, ite_self, hbank, hreinst, if_false, Nat.zero_ne_one]

theorem bankTakeover_retired (n : Fin 256) (b : Nat) (s : State) (hclk : s.quillClocked (n / 16) = true)
    (hcopied : (s.bank (.scratch n)).copied = some b) (hspare : s.spareFor (.scratch n) 1 = true)
    (hlatched : (s.bank (.scratch n)).latched = none) (hreinst : (s.bank (.scratch n)).reinst = 0) :
    ∃ t, exec (.bankTakeover (.scratch n)) s = .next t ∧ t.bankRetired (.scratch n) = true ∧ t.spareFor (.scratch n) 2 = true ∧
      (t.bank (.scratch n)).copied = none := by
  have hexec := bankTakeover_scratch n b s hclk hcopied hspare hlatched hreinst
  have hspared := spareFor_setSpare n (copyWords (.scratch n) s)
  generalize (copyWords (.scratch n) s).setSpare (.scratch n) 2 = u at hexec hspared
  refine ⟨_, hexec, ?_, ?_, ?_⟩
  · rw [bankRetired_raise]
    exact bankRetired_setRetired (.scratch n) u true
  · rw [spareFor_of_kept _ 2 (spareKept_raise _ _ _ _)]
    exact (spareFor_of_kept _ 2 (spareKept_setRetired (.scratch n) u true)).trans hspared
  · rw [bank_raise, bank_modBank_same]

/-- Settles O16: each clause by the lemma on its operation. -/
theorem bankPowerAndSparesComplete : Obligations.BankPowerAndSparesComplete := by
  unfold Obligations.BankPowerAndSparesComplete
  refine ⟨?_, ?_, ?_, ?_, ?_, ?_, ?_, ?_, ?_, ?_⟩
  · intro id s hon hspared hlatched hspare
    have hexec : exec (.bankPowerTarget id 1) s = .next ((((s.put (id.fld F.membBpwrTarget F.membSpwrTarget) 1 id.idx).setPower id
        .lowering).modBank id (fun b => { b with toOff := false })).answer .ok) := by
      change reply (powerRequest id 1 s) = _
      rw [powerRequest_down id s hon hspared hlatched hspare]
      rfl
    exact ⟨_, hexec, power_setPower id _ .lowering, congrArg BankSt.toOff (bank_modBank_same _ id fun b => { b with toOff := false }), rfl⟩
  · intro id s hpower hport hoff hlatched
    refine ⟨s.setPower id .retention, ?_, power_setPower .., rfl⟩
    change execBankLoweringDone id s = _
    simp only [execBankLoweringDone, hpower, hport, hoff, and_self, if_true, Bool.false_eq_true, if_false]
    rw [applyLatched_none _ _ (by rw [bank_setPower]; exact hlatched)]
  · intro id s hpower hoff hlatched
    refine ⟨s.setPower id .on, ?_, power_setPower .., rfl⟩
    change execBankWakingDone id s = _
    simp only [execBankWakingDone, hpower, hoff, if_true, Bool.false_eq_true, if_false]
    rw [applyLatched_none _ _ (by rw [bank_setPower]; exact hlatched)]
  · intro id s hpower hspared hlatched
    refine ⟨((clearBank id s).modBank id (fun b => { b with compat := false })).setPower id .on, ?_, power_setPower .., clearBank_zero id s⟩
    change execBankClearingDone id s = _
    simp only [execBankClearingDone, hpower, hspared, and_self, if_true]
    rw [applyLatched_none _ _ (by rw [bank_setPower, bank_modBank_same]; exact hlatched)]
  · intro n v s hon hspared hlatched hbits
    have hexec : exec (.bankUlolWrite (.block n) v) s
        = .next ((ulolWrite (.block n) v.toNat (s.put F.membBpwrTarget 0 n.val)).answer .ok) := by
      change reply (powerWrite (.block n) v.toNat s) = _
      rw [powerWrite, hbits, powerRequest_on _ s hon hspared hlatched]
      rfl
    refine ⟨_, hexec, ?_, (ulolWrite_untouched ..).1⟩
    rw [get_answer]
    simp only [ulolWrite, fld_block]
    have hput (t : State) : (t.put F.membBpwrUlol (bits v.toNat 16 16) n.val).get F.membBpwrUlol n.val = bits v.toNat 16 16 :=
      get_put_lt t F.membBpwrUlol n.val 0 (by decide) (by decide) (bits_lt _ _ _)
    split
    · exact (get_put_other_bits _ F.membBpwrUlolInit F.membBpwrUlol 1 _ 0 rfl (by decide) (by decide) (Or.inl (by decide))).trans (hput _)
    · exact hput _
  · intro n s hclk hfaulty hfree hother
    change execBankSpareCopyStart (.scratch n) s = _
    have hfilter := filter_faulty_one n (fun b => (s.bank b).faulty) hfaulty hother
    simp only [execBankSpareCopyStart, whenClocked, hclk, if_true, hfaulty, hfree, and_self, hfilter, List.foldl_nil]
  · intro id s hclk hspare hcopied
    have hexec : exec (.bankCopyDone id) s = .next ((copyNotes id s).modBank id (fun b => { b with copied := some s.mt.boundary })) := by
      change execBankCopyDone id s = _
      simp only [execBankCopyDone, whenClocked, hclk, if_true, hspare, hcopied, and_self]
    exact ⟨_, hexec, congrArg BankSt.copied (bank_modBank_same ..), copyNotes_mem id s hspare⟩
  · exact fun n b s hclk hcopied hspare hlatched hreinst => bankTakeover_retired n b s hclk hcopied hspare hlatched hreinst
  · intro id s hreinst hspare
    change execBankMarchDone id true s = _
    have hspare' : (s.modBank id (fun b => { b with reinst := 3 })).spareFor id 2 = true := hspare
    simp only [execBankMarchDone, hreinst, if_true, hspare']
  · intro id s hclk hreinst hspare
    have hexec : exec (.bankReturnDone id) s = .next (bankBack id ((clearBank id s).setPower id .on)) := by
      change execBankReturnDone id s = _
      simp only [execBankReturnDone, whenClocked, hclk, if_true, hreinst, hspare, Bool.false_eq_true, if_false]
    exact ⟨_, hexec, bankBack_returned id _⟩

end Sys2Proof.Machine
end


/-!
Near-store channels, their events, and lines through the encryption engines (O17; 09 R280 to R283, 10 R314 to R347).
-/
section
namespace Sys2Proof.Machine

/-! ### The state of a channel -/

section
variable (s : State)

@[simp] theorem nearCh_modNear (c : Nat) (f : NearSt → NearSt) : (s.modNear c f).nearCh c = f (s.nearCh c) := tab_get_put_same ..

@[simp] theorem get_modNear (c : Nat) (f : NearSt → NearSt) (g : Fld) (i j : Nat) : (s.modNear c f).get g i j = s.get g i j := rfl

theorem nearOfCode_code (st : NearState) : NearState.ofCode st.code = st := by cases st <;> rfl

theorem nearSt_of_get {s t : State} {c : Nat} (h : t.get F.nearChStatusState c = s.get F.nearChStatusState c) : t.nearSt c = s.nearSt c := by
  rw [State.nearSt, State.nearSt, h]

/-- A channel's state written reads back. -/
theorem nearSt_put (c : Nat) (st : NearState) : (s.put F.nearChStatusState st.code c).nearSt c = st := by
  have hcode : st.code < 16 := by cases st <;> decide
  rw [State.nearSt, get_put_lt s F.nearChStatusState c 0 (by decide) (by decide) hcode, nearOfCode_code]

theorem get_nearFilled (f : Fld) (i : Nat) (h : f.reg ≠ .nearStatus) : (nearFilled s).get f i = s.get f i := get_put_other_reg s _ f _ 0 0 i 0 h

theorem get_nearDegraded (f : Fld) (i : Nat) (h : f.reg ≠ .nearStatus) : (nearDegraded s).get f i = s.get f i := get_put_other_reg s _ f _ 0 0 i 0 h

/-- A blotter record that is written in some cases only leaves a channel's state. -/
theorem nearSt_blotIf (b : Bool) (c k o v : Nat) : (if b then s.blot k o v else s).nearSt c = s.nearSt c := by
  refine nearSt_of_get ?_
  split
  · exact get_blot s k o v F.nearChStatusState c 0 (by decide)
  · rfl

theorem nearSt_summed (c : Nat) : (nearFilled (nearDegraded s)).nearSt c = s.nearSt c :=
  nearSt_of_get ((get_nearFilled _ F.nearChStatusState c (by decide)).trans (get_nearDegraded s F.nearChStatusState c (by decide)))

theorem nearCh_summed (c : Nat) : (nearFilled (nearDegraded s)).nearCh c = s.nearCh c := rfl

/-- A channel whose filling or copying has ended is in service. -/
theorem nearOn_state (c : Nat) : (nearOn c s).nearSt c = .on ∧ ((nearOn c s).nearCh c).copying = false := by
  refine ⟨?_, ?_⟩
  · simp only [nearOn]
    rw [nearSt_summed]
    refine (nearSt_blotIf _ _ c _ _ _).trans (.trans ?_ (nearSt_put s c .on))
    exact nearSt_of_get (get_put_other_reg _ F.nearChFillVal F.nearChStatusState _ c 0 c 0 (by decide))
  · simp only [nearOn]
    rw [nearCh_summed, nearCh_modNear]

/-- A channel taken out of service. -/
theorem nearOut_state (c : Nat) (st : NearState) (err : Fld) (h : err.reg ≠ .nearChStatus) : (nearOut c st err s).nearSt c = st := by
  simp only [nearOut]
  rw [nearSt_summed]
  refine (nearSt_blotIf _ _ c _ _ _).trans (.trans ?_ (nearSt_put s c st))
  refine (nearSt_of_get (get_raise _ _ _ _ F.nearChStatusState c 0 (by decide))).trans ?_
  exact nearSt_of_get (get_put_other_reg _ err F.nearChStatusState 1 0 0 c 0 h.symm)

end

/-! ### What a channel loses with its training -/

theorem tab_get_of_all {α : Type} {d : α} (P : α → Prop) (hd : P d) (t : Tab α) (p : Nat) (h : ∀ v, (p, v) ∈ t → P v) : P (Tab.get d t p) := by
  induction t with
  | nil => exact hd
  | cons e t ih =>
    obtain ⟨q, v⟩ := e
    by_cases hq : q = p
    · subst hq
      simp only [Tab.get, Tab.look, if_true, Option.getD_some]
      exact h v List.mem_cons_self
    · simp only [Tab.get, Tab.look, hq, if_false]
      exact ih fun w hw => h w (List.mem_cons_of_mem _ hw)

theorem untouch_get (which : Nat → Bool) (pages : Tab PageEnt) (p : Nat) (h : which p = true) :
    (Tab.get {} (untouch which pages) p).touched = false := by
  refine tab_get_of_all (fun e : PageEnt => e.touched = false) rfl _ p fun v hv => ?_
  obtain ⟨hmap, -⟩ := List.mem_filter.mp hv
  obtain ⟨e, -, he⟩ := List.mem_map.mp hmap
  split at he
  · cases he
    rfl
  · next hw =>
    subst he
    exact absurd h hw

theorem page_touched_of_get {s : State} {k : Nat} (h : (Tab.get {} s.xcr.pages k).touched = false) : (s.page k).touched = false := by
  simp only [State.page]
  split <;> exact h

/-- A channel that has trained has forgotten its pages. -/
theorem loseChannel_page_untouched (c : Nat) (s : State) (p : Nat) (hp : p < 2 ^ 27) (hmine : onChannel s.mirrored c p = true) :
    ((loseChannel c s).page p).touched = false := by
  refine page_touched_of_get ?_
  have hboth : (decide (p < 2 ^ 27) && onChannel s.mirrored c p) = true := by rw [hmine, decide_eq_true hp, Bool.and_self]
  simp only [loseChannel]
  exact untouch_get (fun k => decide (k < 2 ^ 27) && onChannel s.mirrored c k) _ p hboth

/-! ### Lines through the engines -/

theorem lineSpan_one {a : Nat} (h : a % 64 = 0) : lineSpan a 64 = 1 := by simp only [lineSpan, h]

theorem ofBytes_zeros (n : Nat) : ofBytes (List.replicate n 0) = 0 := by
  induction n with
  | zero => rfl
  | succ n ih => rw [List.replicate_succ, ofBytes, ih]; rfl

/-- An unwritten line of a page no write has reached reads as zeros, and the read leaves nothing behind. -/
theorem lineReadOp_unwritten (e addr : Nat) (s : State) (hkey : s.keyValid (keyId addr) = true) (hbad : s.tableBad (pageKey (offsetOf addr)) = false)
    (hpage : (s.page (pageKey (offsetOf addr))).touched = false) :
    lineReadOp e addr ({}, .clean) plainFetch s = { status := .ok, data := List.replicate 64 0, rs := .clean, state := s } := by
  have hkind : readKind s addr {} false = .unwritten := by simp [readKind, hpage]
  have hunc : (RsFound.clean == RsFound.uncorrectable) = false := by decide
  simp only [lineReadOp, cacheNote, plainFetch, Bool.false_eq_true, if_false, hkey, Bool.true_eq_false, hbad, hunc, hkind, readData]

theorem seenLine_plain (l : Line) (h : l.err = []) : seenLine plainFetch l = (l, .clean) := by
  simp only [seenLine, plainFetch, rsSeen, h, if_true]

theorem nearLineRead_unwritten (e addr : Nat) (s : State) (hkey : s.keyValid (keyId addr) = true)
    (hbad : s.tableBad (pageKey (offsetOf addr)) = false) (hpage : (s.page (pageKey (offsetOf addr))).touched = false)
    (hline : s.lineAt (offsetOf addr / 64) = {}) :
    nearLineRead e addr plainFetch s = { status := .ok, data := List.replicate 64 0, rs := .clean, state := s } := by
  have hups : s.upsetLine (offsetOf addr / 64) plainFetch.upsets = s := if_pos rfl
  simp only [nearLineRead, hups, hline, seenLine_plain {} rfl, lineReadOp_unwritten e addr s hkey hbad hpage, nearNote]

theorem caveLineRead_unwritten (e addr : Nat) (s : State) (hkey : s.keyValid (keyId addr) = true)
    (hbad : s.tableBad (pageKey (offsetOf addr)) = false) (hpage : (s.page (pageKey (offsetOf addr))).touched = false)
    (hline : s.lineAt (offsetOf addr / 64) = {}) :
    caveLineRead e addr plainFetch s = { status := .ok, data := List.replicate 64 0, rs := .clean, state := s } := by
  have hups : s.upsetLine (offsetOf addr / 64) plainFetch.upsets = s := if_pos rfl
  simp only [caveLineRead, hups, hline, seenLine_plain {} rfl, lineReadOp_unwritten e addr s hkey hbad hpage, reduceCtorEq, if_false]

/-- A read of one near-store line through the channels. -/
theorem nearAccess_unwritten (req : Requester) (a : BitVec 48) (s : State) (h64 : a.toNat % 64 = 0) (hgate : nearGate req a.toNat s = none)
    (hkey : s.keyValid (keyId a.toNat) = true)
    (hfilled : s.unfilled (s.nearServer (nearPlace s.mirrored ((offsetOf a.toNat - nearStart) / 4096)).1)
      (nearPlace s.mirrored ((offsetOf a.toNat - nearStart) / 4096)).2 = false)
    (htable : tablePage (offsetOf a.toNat) = none) (hbad : s.tableBad (pageKey (offsetOf a.toNat)) = false)
    (hpage : (s.page (pageKey (offsetOf a.toNat))).touched = false) (hline : s.lineAt (offsetOf a.toNat / 64) = {}) :
    exec (.nearAccess req a (.read 64) []) s = .next (s.answer .ok 0 false) := by
  change (nearServe req a.toNat (.read 64) [] s).reply = _
  have hbase : a.toNat / 64 * 64 = a.toNat := by omega
  have hcount : s.countDenied a.toNat ((nearGate req a.toNat s).getD .ok) = s := by
    rw [hgate]
    exact if_neg fun h => by cases h.1
  have hread : nearReadLine req a.toNat plainFetch s = { status := .ok, data := List.replicate 64 0, rs := .clean, state := s } := by
    simp only [nearReadLine, hgate, hkey, Bool.true_eq_false, if_false, hfilled, Bool.false_eq_true, htable,
      nearLineRead_unwritten _ _ s hkey hbad hpage hline]
  have hlines : linesRead (nearReadLine req) a.toNat 1 [] s
      = { status := .ok, data := List.replicate 64 0, poison := false, state := s } := by
    have hempty : (List.replicate 64 (0 : Byte)).isEmpty = false := by decide
    simp only [linesRead, List.headD_nil, hread, firstBad, if_true, hempty, Bool.false_eq_true, if_false, List.append_nil, Bool.or_self]
  have hdata : ((List.replicate 64 (0 : Byte)).drop 0).take 64 = List.replicate 64 0 := by decide
  simp only [nearServe, hcount, hbase, lineSpan_one h64, hlines, h64, hdata, MemResult.reply, ofBytes_zeros]

/-- A full line of a page that is bound and has minor counts left is sealed in place. -/
theorem nearLineWrite_sealed (e addr : Nat) (data : List Byte) (poison : Bool) (s : State) (hkey : s.keyValid (keyId addr) = true)
    (hbad : s.tableBad (pageKey (offsetOf addr)) = false) (htouched : (s.page (pageKey (offsetOf addr))).touched = true)
    (hbound : (s.page (pageKey (offsetOf addr))).key = keyId addr) (hleft : (s.page (pageKey (offsetOf addr))).exhausted = false)
    (hminor : (sealLine (s.keyBytes (keyId addr)) (s.page (pageKey (offsetOf addr))).major ((s.lineAt (offsetOf addr / 64)).minor + 1)
      (offsetOf addr / 64) data poison).minor ≤ 255) :
    nearLineWrite e addr data (List.replicate 64 true) poison plainFetch s
      = { status := .ok, state := s.setLine (offsetOf addr / 64) (sealLine (s.keyBytes (keyId addr)) (s.page (pageKey (offsetOf addr))).major
          ((s.lineAt (offsetOf addr / 64)).minor + 1) (offsetOf addr / 64) data poison) } := by
  have hups : s.upsetLine (offsetOf addr / 64) plainFetch.upsets = s := if_pos rfl
  have hcache : cacheNote e plainFetch s = s := rfl
  have hfull : ((List.replicate 64 true).take 64).all (fun b => b) = true ∧ 64 ≤ (List.replicate 64 true).length := by decide
  have hfail : plainFetch.tableFail = false := rfl
  have hstore : lineStore e addr data poison s = (.ok, s.setLine (offsetOf addr / 64) (sealLine (s.keyBytes (keyId addr))
      (s.page (pageKey (offsetOf addr))).major ((s.lineAt (offsetOf addr / 64)).minor + 1) (offsetOf addr / 64) data poison)) := by
    simp only [lineStore, hleft, Bool.false_eq_true, if_false, htouched, Bool.true_eq_false, hminor, if_true]
  have hsame : ¬ ((s.page (pageKey (offsetOf addr))).touched = true ∧ keyId addr ≠ (s.page (pageKey (offsetOf addr))).key) :=
    fun h => h.2 hbound.symm
  simp only [nearLineWrite, hups, lineWriteOp, hcache, hkey, Bool.true_eq_false, hfail, Bool.false_eq_true, if_false, hbad, hsame, hleft,
    hfull, and_self, if_true, hstore, nearNote]

/-! ### Keys -/

theorem testBit_sub_two_pow (v k j : Nat) (hk : v.testBit k = true) : (v - 2 ^ k).testBit j = (v.testBit j && decide (j ≠ k)) := by
  have hodd : v / 2 ^ k % 2 = 1 := by simpa [Nat.testBit_eq_decide_div_mod_eq] using hk
  obtain ⟨q, hq⟩ : ∃ q, v / 2 ^ k = 2 * q + 1 := ⟨v / 2 ^ k / 2, by omega⟩
  have hv : v = 2 ^ k * (2 * q + 1) + v % 2 ^ k := by rw [← hq, Nat.div_add_mod]
  have hr : v % 2 ^ k < 2 ^ k := Nat.mod_lt _ (Nat.two_pow_pos k)
  generalize v % 2 ^ k = r at hv hr
  have hsub : v - 2 ^ k = 2 ^ k * (2 * q) + r := by
    rw [hv, Nat.mul_add, Nat.mul_one]
    omega
  rw [hsub, hv, Nat.testBit_two_pow_mul_add _ hr, Nat.testBit_two_pow_mul_add _ hr]
  by_cases hjk : j < k
  · simp [hjk, Nat.ne_of_lt hjk]
  · obtain ⟨m, rfl⟩ : ∃ m, j = k + m := ⟨j - k, by omega⟩
    cases m with
    | zero => simp
    | succ m =>
      have hne : k + (m + 1) ≠ k := by omega
      simp only [hjk, if_false, Nat.add_sub_cancel_left, Nat.testBit_succ, hne, ne_eq, not_false_eq_true, decide_true, Bool.and_true]
      congr 1
      omega

/-- Erasing one key. -/
def eraseKey (s : State) (k : Nat) : State :=
  let t : State := { s with xcr := { s.xcr with keys := Tab.put 0 s.xcr.keys k 0 } }
  (t.put F.xcrKeyValidVal (t.get F.xcrKeyValidVal - 2 ^ k)).put F.xcrKcvVal 0 k

/-- The erasure of one slot of a list of them. -/
def eraseIf (v : Nat) (s : State) (k : Nat) : State := if k != 0 && v.testBit k && s.keyValid k then eraseKey s k else s

theorem keyErase_eq (v : Nat) (s : State) : keyErase v s = (List.range 32).foldl (eraseIf v) s := rfl

theorem eraseKey_keys (s : State) (k : Nat) : (eraseKey s k).xcr.keys = Tab.put 0 s.xcr.keys k 0 := rfl

theorem eraseKey_keyValid (s : State) (k j : Nat) (h : s.keyValid k = true) : (eraseKey s k).keyValid j = (s.keyValid j && decide (j ≠ k)) := by
  have hval : (eraseKey s k).get F.xcrKeyValidVal = s.get F.xcrKeyValidVal - 2 ^ k := by
    simp (disch := decide) only [eraseKey, get_put_other_reg]
    exact get_put_lt _ F.xcrKeyValidVal 0 0 (by decide) (by decide) (Nat.lt_of_le_of_lt (Nat.sub_le _ _) (get_lt s F.xcrKeyValidVal 0 0))
  rw [State.keyValid, hval, testBit_sub_two_pow _ k j h, State.keyValid]

/-- What a slot shows while the slots before it are erased: a slot erased stays erased, and slot 0 keeps its key. -/
theorem eraseIf_keeps (v : Nat) (s : State) (i : Nat) :
    (∀ k, s.keyValid k = false → (eraseIf v s i).keyValid k = false) ∧
      (∀ k, Tab.get 0 s.xcr.keys k = 0 → Tab.get 0 (eraseIf v s i).xcr.keys k = 0) ∧
      Tab.get 0 (eraseIf v s i).xcr.keys 0 = Tab.get 0 s.xcr.keys 0 := by
  unfold eraseIf
  split
  · next h =>
    simp only [Bool.and_eq_true, bne_iff_ne, ne_eq] at h
    obtain ⟨⟨hi, -⟩, hvalid⟩ := h
    refine ⟨fun k hk => ?_, fun k hk => ?_, ?_⟩
    · rw [eraseKey_keyValid s i k hvalid, hk, Bool.false_and]
    · rw [eraseKey_keys]
      by_cases hki : k = i
      · rw [hki, tab_get_put_same]
      · rw [tab_get_put_other _ _ _ _ _ _ hki, hk]
    · rw [eraseKey_keys, tab_get_put_other _ _ _ _ _ _ (Ne.symm hi)]
  · exact ⟨fun _ h => h, fun _ h => h, rfl⟩

/-- A slot of the list that is named and valid is erased. -/
theorem foldl_eraseIf (v : Nat) (l : List Nat) (s : State) :
    (∀ k, k ≠ 0 → k ∈ l → v.testBit k = true → s.keyValid k = true →
      Tab.get 0 (l.foldl (eraseIf v) s).xcr.keys k = 0 ∧ (l.foldl (eraseIf v) s).keyValid k = false) ∧
      (∀ k, s.keyValid k = false → Tab.get 0 s.xcr.keys k = 0 →
        Tab.get 0 (l.foldl (eraseIf v) s).xcr.keys k = 0 ∧ (l.foldl (eraseIf v) s).keyValid k = false) ∧
      Tab.get 0 (l.foldl (eraseIf v) s).xcr.keys 0 = Tab.get 0 s.xcr.keys 0 := by
  induction l generalizing s with
  | nil => exact ⟨fun _ _ h => absurd h List.not_mem_nil, fun _ h h' => ⟨h', h⟩, rfl⟩
  | cons i l ih =>
    obtain ⟨hnamed, hgone, hzero⟩ := ih (eraseIf v s i)
    obtain ⟨hinvalid, hkeys, hkey0⟩ := eraseIf_keeps v s i
    rw [List.foldl_cons]
    refine ⟨fun k hk hmem hbit hvalid => ?_, fun k hk hk' => hgone k (hinvalid k hk) (hkeys k hk'), hzero.trans hkey0⟩
    by_cases hki : k = i
    · subst hki
      have herase : eraseIf v s k = eraseKey s k := if_pos (by simp [hk, hbit, hvalid])
      refine hgone k ?_ ?_
      · rw [herase, eraseKey_keyValid s k k hvalid, hvalid]
        simp
      · rw [herase, eraseKey_keys, tab_get_put_same]
    · by_cases hstill : (eraseIf v s i).keyValid k = true
      · exact hnamed k hk ((List.mem_cons.mp hmem).resolve_left hki) hbit hstill
      · refine absurd ?_ hstill
        unfold eraseIf
        split
        · next h =>
          simp only [Bool.and_eq_true] at h
          rw [eraseKey_keyValid s i k h.2, hvalid, decide_eq_true hki, Bool.and_self]
        · exact hvalid

theorem keyErase_slots (v : Word) (s : State) :
    ∃ t, exec (.keyErase v) s = .next t ∧ t.mem = s.mem ∧
      (∀ k, 1 ≤ k → k < 32 → v.toNat.testBit k = true → s.keyValid k = true → Tab.get 0 t.xcr.keys k = 0 ∧ t.keyValid k = false) ∧
      Tab.get 0 t.xcr.keys 0 = Tab.get 0 s.xcr.keys 0 := by
  have hexec : exec (.keyErase v) s = .next ((keyErase v.toNat s).answer .ok) := rfl
  obtain ⟨hnamed, -, hzero⟩ := foldl_eraseIf v.toNat (List.range 32) s
  have hmem := (keyErase_untouched v.toNat s).1
  rw [← keyErase_eq] at hnamed hzero
  generalize keyErase v.toNat s = t at hexec hnamed hzero hmem
  exact ⟨_, hexec, hmem, fun k h1 h32 hbit hvalid => hnamed k (by omega) (List.mem_range.mpr h32) hbit hvalid, hzero⟩

/-! ### Releases of pages -/

theorem bitAt_go (v : Nat) : bitAt (2 ^ 31 + v % 2 ^ 31) 31 = true ∧ bits (2 ^ 31 + v % 2 ^ 31) 28 28 = bits v 28 28 ∧
    bits (2 ^ 31 + v % 2 ^ 31) 27 24 = bits v 27 24 := by
  simp only [bitAt, bits, Nat.shiftRight_eq_div_pow, Nat.testBit_eq_decide_div_mod_eq, decide_eq_true_eq]
  omega

/-- Settles O17: each clause by the lemma on its operation. -/
theorem nearStoreCommandsComplete : Obligations.NearStoreCommandsComplete := by
  unfold Obligations.NearStoreCommandsComplete
  refine ⟨?_, ?_, ?_, ?_, ?_, ?_, ?_, ?_, ?_, fun req a s => nearAccess_unwritten req a s, ?_, ?_, ?_, ?_, ?_⟩
  · intro v s hlock hstopped hranks hkeep
    change reply (nearCtrlWrite v.toNat s) = _
    have hstopped' : (s.put F.nearCtrlRate (bits v.toNat 5 4)).started = false := by
      rw [← hstopped, State.started, State.started, State.bit, State.bit, get_put_other_reg _ _ _ _ _ _ _ _ (by decide)]
    simp only [nearCtrlWrite, hlock, hstopped', hranks, hkeep, Bool.false_eq_true, if_false, reply]
  · intro c s hclk hst hmirror
    have hmirror' : ((s.put F.nearChStatusState NearState.filling.code c).modNear c (fun n => { n with fsp1 := true })).mirrored = false := by
      rw [← hmirror, State.mirrored, State.mirrored, State.bit, State.bit, get_modNear, get_put_other_reg _ _ _ _ _ _ _ _ (by decide)]
    have hexec : exec (.nearTrainingDone c true) s = .next (loseChannel c
        ((s.put F.nearChStatusState NearState.filling.code c).modNear c (fun n => { n with fsp1 := true }))) := by
      change execNearTrainingDone c true s = _
      simp only [execNearTrainingDone, whenClocked, hclk, if_true, hst, Bool.true_eq_false, if_false, hmirror', Bool.false_and, Bool.false_eq_true]
    refine ⟨_, hexec, ?_, fun p hp hmine => loseChannel_page_untouched c _ p hp (hmirror'.symm ▸ hmine)⟩
    refine (nearSt_of_get (?_ : _ = (s.put F.nearChStatusState NearState.filling.code c).get F.nearChStatusState c)).trans (nearSt_put s c .filling)
    simp only [loseChannel]
    split <;> rfl
  · intro c s hclk hst hcopy
    refine ⟨nearOn c s, ?_, (nearOn_state s c).1, (nearOn_untouched c s).1⟩
    change execNearFillDone c s = _
    simp only [execNearFillDone, whenClocked, hclk, hst, hcopy, and_self, if_true]
  · intro c s hclk hst hcopy
    refine ⟨nearOn c s, ?_, nearOn_state s c⟩
    change execNearMirrorCopyDone c s = _
    simp only [execNearMirrorCopyDone, whenClocked, hclk, hst, hcopy, and_self, if_true]
  · intro c delta s hserves hlow hhigh
    have hexec : exec (.dqsDriftCheck c 0 delta) s = .next (s.modNear c (fun n => { n with delay0 := (s.nearCh c).delay0 + delta })) := by
      change execDqsDriftCheck c 0 delta s = _
      have hin : ¬ ((s.nearCh c).delay0 + delta < Config.dqsLow ∨ Config.dqsHigh < (s.nearCh c).delay0 + delta) := by omega
      simp only [execDqsDriftCheck, Fin.val_zero, hserves, if_true, hin, if_false]
    exact ⟨_, hexec, congrArg NearSt.delay0 (nearCh_modNear ..), rfl⟩
  · intro c rank s hserves hquiet
    change execZqCalibration c rank s = _
    simp only [execZqCalibration, hserves, if_true, State.drive, hquiet, Bool.false_eq_true, if_false]
  · intro c rank bank s hserves hquiet
    change execNearRefresh c rank bank s = _
    simp only [execNearRefresh, hserves, if_true, State.drive, hquiet, Bool.false_eq_true, if_false]
  · intro c s hon
    change execPhyPllLockLoss c s = _
    simp only [execPhyPllLockLoss, hon]
  · intro c s hon hlost
    have hexec : exec (.nearPllLossTimeout c) s = .next (nearOut c .retired F.nearErrRetired s) := by
      change execNearPllLossTimeout c s = _
      simp only [execNearPllLossTimeout, hlost, if_true, nearRetire, hon]
    exact ⟨_, hexec, nearOut_state s c .retired F.nearErrRetired (by decide), (nearOut_untouched ..).1⟩
  · intro e a s hclk htable h64 hserves hkey hbad hpage hline
    change execLineRead e a plainFetch s = _
    have hbase : a.toNat / 64 * 64 = a.toNat := by omega
    have htable' : (if keyId a.toNat = 0 then tablePage (offsetOf a.toNat) else none) = none := by
      split
      · next h => exact htable h
      · rfl
    simp only [execLineRead, whenClocked, hclk, if_true, hbase, hserves, htable', nearLineRead_unwritten e _ s hkey hbad hpage hline,
      caveLineRead_unwritten e _ s hkey hbad hpage hline, ite_self, ofBytes_zeros]
  · intro e a data poison s he hclk htable h64 hserves hkey hbad htouched hbound hleft hminor
    change execLineWrite e a data _ poison plainFetch s = _
    have hbase : a.toNat / 64 * 64 = a.toNat := by omega
    have htable' : (if keyId a.toNat = 0 then tablePage (offsetOf a.toNat) else none) = none := by
      split
      · next h => exact htable h
      · rfl
    simp only [execLineWrite, whenClocked, hclk, if_true, hbase, hserves, htable', he,
      nearLineWrite_sealed e _ data poison s hkey hbad htouched hbound hleft hminor]
  · intro v s
    exact keyErase_slots v s
  · intro v s hidle hok
    obtain ⟨hgo, htier, hport⟩ := bitAt_go v.toNat
    have hexec : ∃ u : State, exec (.releaseStart v) s = .next ((u.put F.xcrRelStatusState 1).answer .ok) ∧ u.out = s.out := by
      change ∃ u : State, reply (releaseCtrlWrite _ s) = _ ∧ u.out = s.out
      simp only [releaseCtrlWrite, hidle, ne_eq, not_true_eq_false, if_false, hgo, if_true, htier, hport, hok, Bool.false_eq_true, reply]
      exact ⟨_, rfl, rfl⟩
    obtain ⟨u, hexec, hout⟩ := hexec
    refine ⟨_, hexec, ?_, ?_⟩
    · rw [get_answer]
      exact get_put_lt u F.xcrRelStatusState 0 0 (by decide) (by decide) (by decide)
    · exact congrArg (· ++ _) hout
  · intro s hclk hrun
    have hexec : ∃ u : State, exec .releaseDone s = .next (((u.put F.xcrRelStatusProgress (s.get F.xcrRelCountVal + 1)).put
        F.xcrRelStatusState 0).clear F.xcrRelCtrlGo) := by
      change ∃ u : State, execReleaseDone s = _
      simp only [execReleaseDone, whenClocked, hclk, if_true, hrun]
      exact ⟨_, rfl⟩
    obtain ⟨u, hexec⟩ := hexec
    have hcount : s.get F.xcrRelCountVal + 1 < 2 ^ F.xcrRelStatusProgress.width := by
      have := get_lt s F.xcrRelCountVal 0 0
      simp only [F.xcrRelCountVal, F.xcrRelStatusProgress, Fld.width] at this ⊢
      omega
    refine ⟨_, hexec, ?_, ?_⟩
    · simp (disch := decide) only [State.clear, get_put_other_reg]
      exact get_put_same _ F.xcrRelStatusState 0 0 0 (by decide) (by decide)
    · simp (disch := decide) only [State.clear, get_put_other_reg, get_put_other_bits]
      exact get_put_lt _ F.xcrRelStatusProgress 0 0 (by decide) (by decide) hcount

end Sys2Proof.Machine
end


/-!
The packet network: requests, posted packets, responses and timeouts (O20; 11 R351 to R359).
-/
section
namespace Sys2Proof.Machine

section
variable (s : State)

@[simp] theorem ni_modNi (n : Nat) (f : NiSt → NiSt) : (s.modNi n f).ni n = f (s.ni n) := tab_get_put_same ..

/-- A class that is not regulated spends nothing. -/
theorem niSpend_free {n vc : Nat} (len : Nat) (h : s.regulated n vc = false) : niSpend n vc len s = s := by
  simp only [niSpend, h, Bool.false_eq_true, if_false]

/-- What a packet's flits take from its interface's balance leaves everything but the balance. -/
theorem niSpend_keeps (n vc len : Nat) : ((niSpend n vc len s).ni n).outs = (s.ni n).outs ∧ (niSpend n vc len s).mem = s.mem ∧
    (niSpend n vc len s).regs = s.regs ∧ (niSpend n vc len s).doms = s.doms := by
  simp only [niSpend]
  split
  · exact ⟨by rw [ni_modNi], rfl, rfl, rfl⟩
  · exact ⟨rfl, rfl, rfl, rfl⟩

theorem fenced_of_doms {s t : State} (h : t.doms = s.doms) (n : Nat) : t.fenced n = s.fenced n := by
  have hdom (d : Nat) : t.dom d = s.dom d := by rw [State.dom, State.dom, h]
  simp only [State.fenced, hdom]

/-- A dead router or link is a matter of the registers. -/
theorem cutAt_of_regs {s t : State} (h : t.regs = s.regs) (a b : Nat) : t.cutAt a b = s.cutAt a b := by
  have hget (f : Fld) (i j : Nat) : t.get f i j = s.get f i j := by simp only [State.get, State.word, h]
  have hdead (l : List Nat) : ∀ r, t.deadBefore r l = s.deadBefore r l := by
    induction l with
    | nil => exact fun _ => rfl
    | cons x l ih =>
      intro r
      have hst : t.rtrSt x = s.rtrSt x := hget ..
      have hlink : t.linkDead r x = s.linkDead r x := by simp only [State.linkDead, hget]
      simp only [State.deadBefore, hst, hlink, ih]
  exact hdead _ _

/-- A request whose address decodes is served at its interface. -/
theorem blockRequest_served {n : Nat} {r : NocReq} (howner : niOfReq r.req = n) (hpresent : niPresent n = true) (hfenced : s.fenced n = false)
    (hdecodes : r.cmd ≠ 4 → (s.niOf r.addr).isNone = false) (hstart : s.canStart n r = true) : blockRequest n r s = niStart n r s := by
  have hno : ¬ (r.cmd ≠ 4 ∧ (s.niOf r.addr).isNone = true) := fun h => by
    rw [hdecodes h.1] at h
    exact Bool.noConfusion h.2
  simp only [blockRequest, howner, nocRequest, hpresent, hfenced, Bool.true_eq_false, Bool.false_eq_true, or_self, if_false, if_true, hno,
    niServe, hstart]

end

/-- A request sent to an interface that is reached and not fenced leaves its packet. -/
theorem sendReq_kept {n : Nat} {r : NocReq} {dst : Nat} (s : State) (hdst : s.niOf r.addr = some dst) (hcut : s.cutAt n dst = none)
    (hfenced : s.fenced dst = false) :
    ((sendReq n r s).ni n).outs = (s.ni n).outs ∧ (sendReq n r s).mem = s.mem ∧ (sendReq n r s).regs = s.regs := by
  have hreached (len : Nat) (o : Output) : ((niSpend n r.vc len s).emit o).cutAt n dst = none :=
    (cutAt_of_regs (s := s) (t := (niSpend n r.vc len s).emit o) (niSpend_keeps s n r.vc len).2.2.1 n dst).trans hcut
  have hserved (len : Nat) (o : Output) : ((niSpend n r.vc len s).emit o).fenced dst = false :=
    (fenced_of_doms (s := s) (t := (niSpend n r.vc len s).emit o) (niSpend_keeps s n r.vc len).2.2.2 dst).trans hfenced
  simp only [sendReq, hdst, hreached, hserved, Bool.false_eq_true, if_false]
  generalize Packet.flits _ = flits
  obtain ⟨houts, hmem, hregs, -⟩ := niSpend_keeps s n r.vc flits.length
  exact ⟨houts, hmem, hregs⟩

/-- What a request that starts leaves at its interface. -/
theorem niStart_outs {n : Nat} {r : NocReq} {dst txn : Nat} (s : State) (hcmd : r.cmd ≠ 4 ∧ r.cmd ≠ 2) (hdst : s.niOf r.addr = some dst)
    (htxn : s.freeTxn n = some txn) (hcut : s.cutAt n dst = none) (hfenced : s.fenced dst = false) :
    ((niStart n r s).ni n).outs = (s.ni n).outs ++ [{ r with txn := txn }] ∧ (niStart n r s).mem = s.mem ∧ (niStart n r s).regs = s.regs := by
  obtain ⟨h4, h2⟩ := hcmd
  have hdebug : ∃ d, debugStarts r txn s = { s with dbg := d } := by
    unfold debugStarts
    split
    · split
      · exact ⟨_, rfl⟩
      · exact ⟨s.dbg, rfl⟩
    · exact ⟨s.dbg, rfl⟩
  obtain ⟨d, hd⟩ := hdebug
  simp only [niStart, h4, h2, if_false, htxn, hd]
  have hkept (f : NiSt → NiSt) : ((sendReq n { r with txn := txn } (State.modNi { s with dbg := d } n f)).ni n).outs = (f (s.ni n)).outs ∧
      (sendReq n { r with txn := txn } (State.modNi { s with dbg := d } n f)).mem = s.mem ∧
      (sendReq n { r with txn := txn } (State.modNi { s with dbg := d } n f)).regs = s.regs := by
    have hcut' : (State.modNi { s with dbg := d } n f).cutAt n dst = none :=
      (cutAt_of_regs (s := s) (t := State.modNi { s with dbg := d } n f) rfl n dst).trans hcut
    obtain ⟨houts, hmem, hregs⟩ := sendReq_kept (r := { r with txn := txn }) (State.modNi { s with dbg := d } n f) hdst hcut' hfenced
    refine ⟨houts.trans ?_, hmem, hregs⟩
    rw [ni_modNi]
    rfl
  exact hkept _

/-- A posted packet whose class is not regulated, to an interface that is reached. -/
theorem sendPosted_free (p : Packet) (s : State) (hfree : s.regulated p.src p.vc = false) (hcut : s.cutAt p.src p.dst = none) :
    sendPosted p s = if s.fenced p.dst then (false, ((s.emit (.packet p p.flits)).bump F.nocNiCntFenced p.dst).flag F.nocErrFencedDrop)
      else (true, s.emit (.packet p p.flits)) := by
  have hcut' : (s.emit (.packet p p.flits)).cutAt p.src p.dst = none :=
    (cutAt_of_regs (s := s) (t := s.emit (.packet p p.flits)) rfl p.src p.dst).trans hcut
  have hfenced : (s.emit (.packet p p.flits)).fenced p.dst = s.fenced p.dst := rfl
  simp only [sendPosted, niSpend_free s p.flits.length hfree, hcut', hfenced]

/-- A request that may not be issued again ends with a time-out. -/
theorem retryOrReturn_ends {r : NocReq} (n : Nat) (s : State) (hrep : r.repeatable = false) (hreq : r.req = .sceum) :
    retryOrReturn n r s = (s.bump F.nocNiCntTimeouts n).answer .nocTimeout := by
  simp only [retryOrReturn, hrep, Bool.false_eq_true, false_and, if_false, respond, hreq]

/-- Settles O20: each clause by the lemma on the packet's way. -/
theorem networkCommandsComplete : Obligations.NetworkCommandsComplete := by
  unfold Obligations.NetworkCommandsComplete
  refine ⟨?_, ?_, ?_, ?_, ?_, ?_, ?_, ?_, ?_, fun r s hclk => ?_, ?_⟩
  · intro ni req addr len s howner hpresent hfenced hno
    change Host.Outcome.next (blockRequest ni _ s) = _
    simp [blockRequest, howner, nocRequest, hpresent, hfenced, hno]
  · intro ni req addr len dst txn s howner hpresent hfenced hdst htxn hcut hfar hstart
    have hserved := blockRequest_served s howner hpresent hfenced (fun _ => by rw [hdst]; rfl) hstart
    refine ⟨_, (congrArg Host.Outcome.next hserved : exec (.nocRead ni req addr len) s = _), ?_⟩
    exact niStart_outs s ⟨Nat.ne_of_beq_eq_false rfl, Nat.ne_of_beq_eq_false rfl⟩ hdst htxn hcut hfar
  · intro ni req addr data be poison dst txn s howner hpresent hfenced hdst htxn hcut hfar hstart
    have hserved := blockRequest_served s howner hpresent hfenced (fun _ => by rw [hdst]; rfl) hstart
    refine ⟨_, (congrArg Host.Outcome.next hserved : exec (.nocWrite ni req addr data be poison) s = _), ?_⟩
    exact niStart_outs s ⟨Nat.ne_of_beq_eq_false rfl, Nat.ne_of_beq_eq_false rfl⟩ hdst htxn hcut hfar
  · intro ni req addr aop size v dst txn s howner hpresent hfenced hdst htxn hcut hfar hstart
    have hserved := blockRequest_served s howner hpresent hfenced (fun _ => by rw [hdst]; rfl) hstart
    refine ⟨_, (congrArg Host.Outcome.next hserved : exec (.nocAtomic ni req addr aop size v) s = _), ?_⟩
    exact niStart_outs s ⟨Nat.ne_of_beq_eq_false rfl, Nat.ne_of_beq_eq_false rfl⟩ hdst htxn hcut hfar
  · intro ni req addr data be poison s howner hpresent hfenced hno
    change Host.Outcome.next (blockRequest ni _ s) = _
    simp [blockRequest, howner, nocRequest, hpresent, hfenced, hno]
  · intro ni req addr data be poison dst s howner hpresent hfenced hdst hcut hstart hfree
    have hserved := blockRequest_served s howner hpresent hfenced (fun _ => by rw [hdst]; rfl) hstart
    intro p
    have hexec : exec (.nocPwrite ni req addr data be poison) s = .next (sendPosted p s).2 := by
      refine (congrArg Host.Outcome.next hserved).trans ?_
      simp only [niStart, Nat.reduceEqDiff, if_false, if_true, hdst]
      rfl
    rw [hexec, sendPosted_free _ s hfree hcut]
    exact ⟨fun h => congrArg (fun r : Bool × State => Host.Outcome.next r.2) (if_neg (by rw [show s.fenced p.dst = false from h]; decide)),
      fun h => congrArg (fun r : Bool × State => Host.Outcome.next r.2) (if_pos h)⟩
  · intro ni q v s hpresent hfenced hcut hfar hsceum hexchange hfree hstart
    change Host.Outcome.next (nocRequest ni _ s) = _
    have hq : q.toNat % 16384 = q.toNat := Nat.mod_eq_of_lt q.isLt
    have hposted := sendPosted_free { src := ni, dst := niExchange, cmd := 4, vc := 2, addr := q.toNat, len := 8, payload := bytesOf v.toNat 8 } s
      hfree hcut
    simp only [hfar, Bool.false_eq_true, if_false] at hposted
    simp only [hsceum, hexchange, or_self, if_false, nocRequest, hpresent, hfenced, Bool.true_eq_false, Bool.false_eq_true, ne_eq,
      not_true_eq_false, false_and, niServe, hstart, if_true, niStart, hposted, tokenArrives, hq, answer_bytesOf]
  · intro ni txn st data poison s hclk
    refine ⟨fun hnone => ?_, fun r hsome hreq hfenced hcut hwait => ?_⟩
    · change execNocResp ni txn st data poison s = _
      simp only [execNocResp, whenClocked, hclk, if_true, hnone]
    · change execNocResp ni txn st data poison s = _
      have hempty : (((dropReq ni txn s).answer st (ofBytes data) (poison || st == .integrity)).ni ni).wait = [] := by
        change ((dropReq ni txn s).ni ni).wait = []
        rw [dropReq, ni_modNi]
        exact hwait
      simp only [execNocResp, whenClocked, hclk, if_true, hsome, hfenced, Bool.false_eq_true, if_false, hcut, respond, hreq, niDrain, hempty]
  · intro ni txn r s hclk hsome hrep hreq
    have hexec : exec (.nocResponseTimeout ni txn) s = .next ((((dropReq ni txn s).modNi ni (fun q =>
        { q with held := (txn, (s.pt + 2 * s.rtoNs ni) % 2 ^ 64) :: q.held.filter (fun h => h.1 != txn) })).bump F.nocNiCntTimeouts ni).answer
        .nocTimeout) := by
      change execNocResponseTimeout ni txn s = _
      simp only [execNocResponseTimeout, whenClocked, hclk, if_true, reqTimeout, hsome, retryOrReturn_ends ni _ hrep hreq]
    have hbump (u : State) (f : Fld) (i : Nat) : (u.bump f i).ni ni = u.ni ni := rfl
    refine ⟨_, hexec, ?_, rfl⟩
    rw [hbump, ni_modNi, dropReq, ni_modNi]
    simp
  · change execNocStallTimeout (.router r none) s = _
    simp only [execNocStallTimeout, whenClocked, hclk, if_true, packetLost]
  · intro n r rest s hclk hwait hrep hreq
    have hexec : exec (.nocStallTimeout (.ni n)) s = .next ((((s.modNi n (fun q => { q with wait := rest })).flag F.nocErrStallDiscard).bump
        F.nocNiCntTimeouts n).answer .nocTimeout) := by
      change execNocStallTimeout (.ni n) s = _
      simp only [execNocStallTimeout, whenClocked, hclk, if_true, niStall, hwait, retryOrReturn_ends n _ hrep hreq]
    refine ⟨_, hexec, ?_, ?_⟩
    · change ((s.modNi n (fun q => { q with wait := rest })).ni n).wait = rest
      rw [ni_modNi]
    · rw [State.bump, State.addSat, get_put_other_reg _ F.nocNiCntTimeouts F.nocErrStallDiscard _ _ _ _ _ (by decide)]
      exact get_put_lt _ F.nocErrStallDiscard 0 0 (by decide) (by decide) (by decide)

end Sys2Proof.Machine
end


/-!
Routers: errors of links and crossbars, drain, reconfiguration, reinstatement and buffer depths (O21; 11 R350, R358 to R363).
-/
section
namespace Sys2Proof.Machine

section
variable (s : State)

/-- A count below its top goes up by one. -/
theorem get_bump_same (f : Fld) (i j : Nat) (h : f.lo ≤ f.hi) (h32 : f.hi ≤ 31) (hlt : s.get f i j < 2 ^ f.width - 1) :
    (s.bump f i j).get f i j = s.get f i j + 1 := by
  have hmin : min (2 ^ f.width - 1) (s.get f i j + 1) = s.get f i j + 1 := by omega
  rw [State.bump, State.addSat, hmin]
  exact get_put_lt s f i j h h32 (by omega)

/-- A router's state written reads back. -/
theorem rtrSt_put (r st : Nat) (h : st < 4) : (s.put F.nocRtrStatusState st r).rtrSt r = st :=
  get_put_lt s F.nocRtrStatusState r 0 (by decide) (by decide) h

/-- The registers and the list with one drain latched. -/
def drainNoted (r : Nat) (why : DrainFor) (s : State) : State :=
  (State.flag { s with noc := { s.noc with latched := [(r, why)] } } F.nocRtrStatusPendingDrain r).put F.nocStatQueued 1

/-- The first drain that is latched. -/
theorem latchDrain_first (r : Nat) (why : DrainFor) (h : s.noc.latched = []) :
    latchDrain r why s = nextDrain (drainNoted r why s) := by
  have hall : (if why.isFault = true then ([] : List (Nat × DrainFor)) ++ [(r, why)] ++ [] else [] ++ [] ++ [(r, why)]) = [(r, why)] := by
    split <;> rfl
  have hone : min ([(r, why)] : List (Nat × DrainFor)).length 255 = 1 := rfl
  simp only [latchDrain, h, List.contains_nil, Bool.false_eq_true, if_false, List.filter_nil, hall, hone, drainNoted]

/-- A router that is free takes the only drain latched. -/
theorem nextDrain_takes (r : Nat) (why : DrainFor) (hactive : s.noc.active = none) (hlatched : s.noc.latched = [(r, why)]) :
    (nextDrain s).rtrSt r = 1 ∧ (nextDrain s).noc.active = some (r, why) ∧ (nextDrain s).noc.latched = [] := by
  have hnext : nextDrain s = (((State.put { s with noc := { s.noc with active := some (r, why), latched := [] } } F.nocRtrStatusState 1 r).putBit
      F.nocRtrStatusPendingDrain false r).put F.nocStatQueued 0) := by
    simp only [nextDrain, hactive, hlatched]
    rfl
  rw [hnext]
  refine ⟨?_, rfl, rfl⟩
  refine Eq.trans ?_ (rtrSt_put { s with noc := { s.noc with active := some (r, why), latched := [] } } r 1 (by decide))
  simp (disch := decide) only [State.rtrSt, State.putBit, get_put_other_reg, get_put_other_bits]

/-- A drain that nothing runs before begins. -/
theorem latchDrain_begins (r : Nat) (why : DrainFor) (hactive : s.noc.active = none) (hlatched : s.noc.latched = []) :
    (latchDrain r why s).rtrSt r = 1 ∧ (latchDrain r why s).noc.active = some (r, why) ∧ (latchDrain r why s).noc.latched = [] := by
  rw [latchDrain_first s r why hlatched]
  exact nextDrain_takes (drainNoted r why s) r why hactive rfl

/-- A drain asked for while another runs waits. -/
theorem latchDrain_waits (r : Nat) (why : DrainFor) (a : Nat × DrainFor) (hactive : s.noc.active = some a) (hlatched : s.noc.latched = []) :
    (latchDrain r why s).noc.active = some a ∧ (latchDrain r why s).noc.latched = [(r, why)] ∧
      (latchDrain r why s).get F.nocRtrStatusPendingDrain r = 1 ∧ (latchDrain r why s).get F.nocStatQueued = 1 ∧
      (latchDrain r why s).rtrSt r = s.rtrSt r := by
  have hnext (t : State) (h : t.noc.active = some a) : nextDrain t = t := by simp only [nextDrain, h]
  rw [latchDrain_first s r why hlatched, hnext (drainNoted r why s) hactive]
  refine ⟨hactive, rfl, ?_, ?_, ?_⟩
  · simp (disch := decide) only [drainNoted, get_put_other_reg]
    exact get_put_lt _ F.nocRtrStatusPendingDrain r 0 (by decide) (by decide) (by decide)
  · exact get_put_lt _ F.nocStatQueued 0 0 (by decide) (by decide) (by decide)
  · simp (disch := decide) only [drainNoted, State.rtrSt, State.flag, get_put_other_reg, get_put_other_bits]
    rfl

/-- Interfaces with nothing waiting start nothing. -/
theorem nocDrain_idle (h : s.noc.nis.all (fun e => e.2.wait.isEmpty) = true) : nocDrain s = s := by
  have hwait (n : Nat) : (s.ni n).wait = [] := by
    refine tab_get_of_all (fun q : NiSt => q.wait = []) rfl s.noc.nis n fun v hv => ?_
    exact List.isEmpty_iff.mp (List.all_eq_true.mp h (n, v) hv)
  have hsame (n : Nat) : niDrain n s = s := by simp only [niDrain, hwait]
  have hfold (l : Tab NiSt) : l.foldl (fun s e => niDrain e.1 s) s = s := by
    induction l with
    | nil => rfl
    | cons e l ih => rw [List.foldl_cons, hsame, ih]
  exact hfold _

theorem rtrSt_nocCounts (r : Nat) : (nocCounts s).rtrSt r = s.rtrSt r := by
  simp (disch := decide) only [nocCounts, State.rtrSt, get_put_other_reg]

end

/-- The four depths of a word as the write reads them. -/
theorem depth_bits (v : Nat) : v / 256 ^ 0 % 256 = bits v 7 0 ∧ v / 256 ^ 1 % 256 = bits v 15 8 ∧ v / 256 ^ 2 % 256 = bits v 23 16 ∧
    v / 256 ^ 3 % 256 = bits v 31 24 := by
  simp [bits, Nat.shiftRight_eq_div_pow]

/-- A router back in service with the depths of its register, before the next drain is looked for. -/
def routerInService (r : Nat) (s : State) : State :=
  let depth := Tab.put 0x10101010 s.noc.depth r (s.word .nocRtrVcdepth r).toNat
  { s.put F.nocRtrStatusState 0 r with noc := { s.noc with depth := depth, active := none, parity := Tab.put [] s.noc.parity r [] } }

/-- A router whose drain was asked for by command comes back with its depths in force. -/
theorem routerReconfDone_back (r : Fin 144) (w : Nat) (x : Fin 3) (s : State) (hclk : s.nocClocked = true)
    (hempty : s.noc.nis.all (fun e => e.2.wait.isEmpty) = true) (hactive : s.noc.active = some (r.val, .command)) (hst : s.rtrSt r = 2)
    (hlatched : s.noc.latched = []) :
    ∃ t, exec (.routerReconfDone r w x) s = .next t ∧ t.rtrSt r = 0 ∧ t.noc.active = none ∧
      Tab.get 0x10101010 t.noc.depth r = (s.word .nocRtrVcdepth r).toNat ∧ t.mem = s.mem := by
  have hexec : exec (.routerReconfDone r w x) s = .next (nocDrain (nextDrain (nocCounts (routerInService r s)))) := by
    change execRouterReconfDone r w x s = _
    simp only [execRouterReconfDone, whenClocked, hclk, if_true, hactive, hst, and_self, reconf]
    rfl
  have hdepth : Tab.get 0x10101010 (routerInService r s).noc.depth r = (s.word .nocRtrVcdepth r).toNat := tab_get_put_same ..
  have hback : (routerInService r s).rtrSt r = 0 := rtrSt_put s r 0 (by decide)
  obtain ⟨hfree, hwait, hnis, hmem⟩ : (routerInService r s).noc.active = none ∧ (routerInService r s).noc.latched = s.noc.latched ∧
      (routerInService r s).noc.nis = s.noc.nis ∧ (routerInService r s).mem = s.mem := ⟨rfl, rfl, rfl, rfl⟩
  generalize routerInService r s = u at hexec hdepth hback hfree hwait hnis hmem
  have hcounts : (nocCounts u).noc = u.noc := rfl
  have hnext : nextDrain (nocCounts u) = nocCounts u := by simp only [nextDrain, hcounts, hfree, hwait, hlatched]
  rw [hnext, nocDrain_idle (nocCounts u) (by rw [hcounts, hnis]; exact hempty)] at hexec
  exact ⟨_, hexec, (rtrSt_nocCounts u r).trans hback, hfree, hdepth, hmem⟩

/-- Settles O21: each clause by the lemma on its operation. -/
theorem routerCommandsComplete : Obligations.RouterCommandsComplete := by
  unfold Obligations.RouterCommandsComplete
  refine ⟨?_, ?_, ?_, ?_, ?_, fun r w x s => routerReconfDone_back r w x s, ?_, ?_⟩
  · intro r d s hclk hnone hcount
    have hexec : exec (.flitCrcError r d false) s = .next { (s.bump F.nocRtrErrcntReplays r).flag F.nocErrLinkReplay with noc := { s.noc with
        again := Tab.put 0 s.noc.again (4 * r.val + d.val) 1, replays := Tab.put [] s.noc.replays (4 * r.val + d.val) [s.pt] } } := by
      change execFlitCrcError r d false s = _
      simp only [execFlitCrcError, whenClocked, hclk, if_true, Bool.false_eq_true, if_false, flag_noc, bump_noc, hnone, List.filter_nil,
        List.length_cons, List.length_nil]
      rfl
    refine ⟨_, hexec, get_put_lt _ F.nocErrLinkReplay 0 0 (by decide) (by decide) (by decide), ?_, ?_, rfl⟩
    · refine Eq.trans ?_ (get_bump_same s F.nocRtrErrcntReplays r 0 (by decide) (by decide) hcount)
      exact get_put_other_reg _ F.nocErrLinkReplay F.nocRtrErrcntReplays 1 0 0 r 0 (by decide)
    · refine (get_put_other_reg _ F.nocErrLinkReplay F.nocRtrStatusState 1 0 0 r 0 (by decide)).trans ?_
      exact get_put_other_reg s F.nocRtrErrcntReplays F.nocRtrStatusState _ r 0 r 0 (by decide)
  · intro r s hclk hnone hcount
    have hexec : exec (.xbarParityError r none) s = .next { rtrDiscard r 1 (s.bump F.nocRtrErrcntXbar r) with noc := { s.noc with
        parity := Tab.put [] s.noc.parity r [s.pt] } } := by
      change execXbarParityError r none s = _
      simp only [execXbarParityError, whenClocked, hclk, if_true, packetLost, rtrDiscard, addSat_noc, bump_noc, hnone, List.filter_nil]
      rfl
    refine ⟨_, hexec, ?_, ?_, tab_get_put_same [] s.noc.parity r.val [s.pt]⟩
    · refine Eq.trans ?_ (get_bump_same s F.nocRtrErrcntXbar r 0 (by decide) (by decide) hcount)
      exact get_put_other_bits _ F.nocRtrErrcntDiscards F.nocRtrErrcntXbar _ r 0 rfl (by decide) (by decide) (Or.inr (by decide))
    · refine (get_put_other_reg _ F.nocRtrErrcntDiscards F.nocRtrStatusState _ r 0 r 0 (by decide)).trans ?_
      exact get_put_other_reg s F.nocRtrErrcntXbar F.nocRtrStatusState _ r 0 r 0 (by decide)
  · intro r s hst hactive hlatched
    have hexec : exec (.routerDrain r) s = .next ((latchDrain r .command s).answer .ok) := by
      change reply (routerDrain r s, .ok) = _
      rw [routerDrain, if_neg hst]
      rfl
    obtain ⟨h1, h2, h3⟩ := latchDrain_begins s r .command hactive hlatched
    have hmem := (latchDrain_untouched r .command s).1
    generalize latchDrain r .command s = t at hexec h1 h2 h3 hmem
    exact ⟨_, hexec, h1, h2, h3, hmem⟩
  · intro r a s hst hactive hlatched
    have hexec : exec (.routerDrain r) s = .next ((latchDrain r .command s).answer .ok) := by
      change reply (routerDrain r s, .ok) = _
      rw [routerDrain, if_neg hst]
      rfl
    have hwaits := latchDrain_waits s r .command a hactive hlatched
    generalize latchDrain r .command s = t at hexec hwaits
    exact ⟨_, hexec, hwaits⟩
  · intro r s hclk hst
    change execRouterDrainEnd r [] s = _
    simp only [execRouterDrainEnd, whenClocked, hclk, if_true, hst, List.foldl_nil]
  · intro r s
    refine ⟨fun h => ?_, fun h hactive hlatched => ?_⟩
    · change reply ((routerReinstate r s).2, .ok) = _
      rw [routerReinstate, if_neg h]
      rfl
    · have hexec : exec (.routerReinstate r) s = .next ((latchDrain r .reinstate s).answer .ok) := by
        change reply ((routerReinstate r s).2, .ok) = _
        rw [routerReinstate, if_pos h]
        rfl
      obtain ⟨h1, h2, -⟩ := latchDrain_begins s r .reinstate hactive hlatched
      have hmem := (latchDrain_untouched r .reinstate s).1
      generalize latchDrain r .reinstate s = t at hexec h1 h2 hmem
      exact ⟨_, hexec, h1, h2, hmem⟩
  · intro r v s
    obtain ⟨h0, h1, h2, h3⟩ := depth_bits v.toNat
    have hwrite : exec (.vcdepthWrite r v) s = reply (vcdepthWrite r v.toNat s) := rfl
    simp only [vcdepthWrite, h0, h1, h2, h3, BitVec.ofNat_toNat, BitVec.setWidth_eq] at hwrite
    refine ⟨fun g0 g1 g2 g3 hsum => ?_, fun h => ?_⟩
    · rw [hwrite, if_neg (by omega)]
      rfl
    · rw [hwrite, if_pos h]
      rfl

end Sys2Proof.Machine
end


/-!
What a core's instructions do to the state their fetch leaves (O22; 12 R367 to R379).
-/
section
namespace Sys2Proof.Machine

section
variable {n : Nat} {i : Rv} {len : Nat} {s : State}

/-- A core that finds an instruction and no interrupt runs it, at the address after it, on the state its fetch leaves. -/
theorem coreStep_executes (run : Fetched → Nat → State → Option State) (h : s.executes n i len) :
    coreStep n run s = (run (.instr i len) (s.afterPc n len) (fetch n s).2).getD s := by
  obtain ⟨hruns, hirq, hfetch⟩ := h
  simp only [coreStep, hruns, if_true, hirq, hfetch, State.afterPc]
  cases run (.instr i len) (((s.cbank n).pc + len) % 2 ^ 32) (fetch n s).2 <;> rfl

theorem coreStep_some {run : Fetched → Nat → State → Option State} {t : State} (h : s.executes n i len)
    (hrun : run (.instr i len) (s.afterPc n len) (fetch n s).2 = some t) : coreStep n run s = t := by
  rw [coreStep_executes run h, hrun, Option.getD_some]

end

/-- Settles O22: the instruction found selects what runs. -/
theorem coreInstructionsComplete : Obligations.CoreInstructionsComplete := by
  unfold Obligations.CoreInstructionsComplete
  refine ⟨?_, ?_, ?_, ?_, ?_, ?_, ?_, ?_, ?_⟩
  · exact fun n op rd rs1 rs2 len s h => congrArg Host.Outcome.next (coreStep_some (run := coreOther n) h rfl)
  · exact fun n rd len off s h => congrArg Host.Outcome.next (coreStep_some (run := coreOther n) h rfl)
  · exact fun n c rs1 rs2 len off s h => congrArg Host.Outcome.next (coreStep_some (run := coreOther n) h rfl)
  · exact fun n rd rs1 len num s h _ _ _ => congrArg Host.Outcome.next (coreStep_some (run := coreOther n) h rfl)
  · exact fun n len s h => congrArg Host.Outcome.next (coreStep_some (run := coreOther n) h rfl)
  · exact fun n len s h => congrArg Host.Outcome.next (coreStep_some h rfl)
  · intro n len s h hdebug
    refine congrArg Host.Outcome.next (coreStep_some h ?_)
    simp only [hdebug, Bool.false_and, Bool.false_eq_true, if_false]
  · intro n len s h hstores
    refine congrArg Host.Outcome.next (coreStep_some h ?_)
    simp only [State.mustWait, hstores, List.isEmpty_nil, Bool.not_true, Bool.and_false, Bool.false_eq_true, if_false]
  · exact fun n len s h => congrArg Host.Outcome.next (coreStep_some h rfl)

end Sys2Proof.Machine
end


/-!
The instructions of the work exchange (O24; 12 R380 to R395).
-/
section
namespace Sys2Proof.Machine

section
variable {n : Nat} {s : State}

theorem mustWait_of_no_stores (h : (s.core n).stores = []) (ordered : Bool) : s.mustWait n ordered = false := by
  rw [State.mustWait, h, List.isEmpty_nil, Bool.not_true, Bool.and_false]

/-- WX.NEXT of a core in ITEM ends its item. -/
theorem wxNext_item {slot : Nat} (rs1 next : Nat) (hitem : s.qSt n = .item) (hpmp : s.pmpOk n (s.dataUser n) 1 0x3000FF80 = true)
    (hslot : (s.core n).slot = some slot) : wxNext n rs1 next s = coreWait n (windowItem n (completeItem slot 0 (s.xreg n rs1).toNat s)) := by
  simp only [wxNext, hitem, reduceCtorEq, if_false, hpmp, Bool.true_eq_false, hslot]

/-- WX.POST of an aligned item in the core's own data memory. -/
theorem wxPost_own {o : Nat} (rd rs1 rs2 next : Nat) (hstores : (s.core n).stores = []) (hown : s.coreTarget n (s.xreg n rs1).toNat = .own o)
    (h64 : (s.xreg n rs1).toNat % 64 = 0) (hdata : coreBase n + 0x8000 ≤ o) (hpmp : s.pmpOk n (s.dataUser n) 0 (s.xreg n rs1).toNat = true)
    (hclean : (coreMemServe o (.read 64) s).poison = false) :
    wxPost n rd rs1 rs2 next s
      = (let r := coreMemServe o (.read 64) s
         let i : Item := { bytes := r.data }
         let p := postItem (i.setWord 1 (setBits (i.word 1) 13 0 (s.xreg n rs2).toNat)).bytes r.state
         finish n rd (BitVec.ofNat 32 (postCode p.1)) next p.2) := by
  have hok : ¬ ((s.xreg n rs1).toNat % 64 ≠ 0 ∨ o < coreBase n + 0x8000 ∨ s.pmpOk n (s.dataUser n) 0 (s.xreg n rs1).toNat = false) := by
    rintro (h | h | h)
    · exact h h64
    · exact absurd hdata (Nat.not_le_of_lt h)
    · rw [hpmp] at h
      exact Bool.noConfusion h
  unfold wxPost
  simp only [mustWait_of_no_stores hstores, Bool.false_eq_true, if_false, hown]
  rw [if_neg hok]
  simp only [hclean, Bool.false_eq_true, if_false]

/-- WX.TOKEN to a queue that takes tokens. -/
theorem wxTokenInstr_enters (rd rs1 rs2 next : Nat) (hstores : (s.core n).stores = [])
    (hen : s.bit F.wxQcfgEn ((s.xreg n rs1).toNat % 2 ^ 14) = true) (hroom : s.tokensHeld < 65536) :
    wxTokenInstr n rd rs1 rs2 next s = finish n rd 0 next (tokenEnter ((s.xreg n rs1).toNat % 2 ^ 14) (s.xreg n rs2).toNat s) := by
  simp only [wxTokenInstr, mustWait_of_no_stores hstores, Bool.false_eq_true, if_false, hen, Bool.true_eq_false, not_le.mpr hroom]

theorem ownHandle_item {slot : Nat} (hitem : s.qSt n = .item) (hslot : (s.core n).slot = some slot) :
    s.ownHandle n = handleOf (s.item slot).seq slot := by
  simp only [State.ownHandle, hitem, reduceCtorEq, if_false, hslot]

theorem ownHandle_boot (hboot : s.qSt n = .boot) (hslot : (s.core n).slot = none) : s.ownHandle n = 0xFFFFFFFF := by
  simp only [State.ownHandle, hboot, reduceCtorEq, if_false, hslot]

end

/-- Settles O24: each instruction by the lemma on what it does. -/
theorem workExchangeInstructionsComplete : Obligations.WorkExchangeInstructionsComplete := by
  unfold Obligations.WorkExchangeInstructionsComplete
  refine ⟨?_, ?_, ?_, ?_, ?_, ?_⟩
  · intro n rd rs1 rs2 len slot s h t hitem hpmp hslot
    exact congrArg Host.Outcome.next (coreStep_some h (congrArg some (wxNext_item rs1 _ hitem hpmp hslot)))
  · intro n rd rs1 rs2 len o s h t a r i p hstores hown h64 hdata hpmp hclean
    exact congrArg Host.Outcome.next (coreStep_some h (congrArg some (wxPost_own rd rs1 rs2 _ hstores hown h64 hdata hpmp hclean)))
  · intro n rd rs1 rs2 len s h t q hstores hen hroom
    exact congrArg Host.Outcome.next (coreStep_some h (congrArg some (wxTokenInstr_enters rd rs1 rs2 _ hstores hen hroom)))
  · exact fun n rd rs1 rs2 len s h => congrArg Host.Outcome.next (coreStep_some h rfl)
  · exact fun n rd rs1 rs2 len s h => congrArg Host.Outcome.next (coreStep_some h rfl)
  · intro n rd rs1 rs2 len slot s h t
    have hself : exec (.wxSelf n) s = .next (finish n rd (BitVec.ofNat 32 (t.ownHandle n)) (s.afterPc n len) t) :=
      congrArg Host.Outcome.next (coreStep_some h rfl)
    refine ⟨fun hitem hslot => ?_, fun hboot hslot => ?_⟩
    · rw [hself, ownHandle_item hitem hslot]
    · rw [hself, ownHandle_boot hboot hslot]
      rfl

end Sys2Proof.Machine
end


/-!
Release, reinstatement, watchdogs and the shadow check of cores (O26; 12 R400 to R408, 17 R545 to R560).
-/
section
namespace Sys2Proof.Machine

section
variable (s : State)

theorem qOfCode_code (q : QSt) : QSt.ofCode q.code = q := by cases q <;> rfl

@[simp] theorem core_modCore (n : Nat) (f : CoreSt → CoreSt) : (s.modCore n f).core n = f (s.core n) := tab_get_put_same ..

theorem core_of_cores {s t : State} (h : t.cores = s.cores) (n : Nat) : t.core n = s.core n := by rw [State.core, State.core, h]

theorem qSt_of_word {s t : State} {n : Nat} (h : t.word .qcStatus n = s.word .qcStatus n) : t.qSt n = s.qSt n := by
  rw [State.qSt, State.qSt, get_of_word F.qcStatusState n 0 h]

/-- A core's state written reads back. -/
theorem qSt_setQSt (n : Nat) (q : QSt) : (s.setQSt n q).qSt n = q := by
  have hcode : q.code < 16 := by cases q <;> decide
  rw [State.qSt, State.setQSt, get_put_lt s F.qcStatusState n 0 (by decide) (by decide) hcode, qOfCode_code]

theorem word_of_regs {s t : State} (h : t.regs = s.regs) (r : RegName) (i j : Nat) : t.word r i j = s.word r i j := by
  rw [State.word, State.word, h]

theorem bit_of_word {s t : State} (f : Fld) (i j : Nat) (h : t.word f.reg i j = s.word f.reg i j) : t.bit f i j = s.bit f i j := by
  rw [State.bit, State.bit, get_of_word f i j h]

/-! ### What the parts of an end leave alone -/

/-- What `t` keeps of the cores and of every register but those of items and windows. -/
def CoresKept (s t : State) : Prop :=
  t.cores = s.cores ∧ t.mem = s.mem ∧ ∀ r, r ≠ .qcStatus → r ≠ .qcCnt → r ≠ .qcShstat → ∀ i, t.word r i = s.word r i

theorem coresKept_refl : CoresKept s s := ⟨rfl, rfl, fun _ _ _ _ _ => rfl⟩

theorem coresKept_trans {s t u : State} (h : CoresKept s t) (h' : CoresKept t u) : CoresKept s u := by
  obtain ⟨hc, hm, hw⟩ := h
  obtain ⟨hc', hm', hw'⟩ := h'
  exact ⟨hc'.trans hc, hm'.trans hm, fun r h1 h2 h3 i => (hw' r h1 h2 h3 i).trans (hw r h1 h2 h3 i)⟩

theorem coresKept_put (f : Fld) (v i : Nat) (h : f.reg = .qcStatus ∨ f.reg = .qcCnt ∨ f.reg = .qcShstat) : CoresKept s (s.put f v i) := by
  refine ⟨rfl, rfl, fun r h1 h2 h3 k => word_put_other s f v i 0 r k 0 ?_⟩
  rintro rfl
  rcases h with h | h | h
  · exact h1 h
  · exact h2 h
  · exact h3 h

theorem completeItem_kept (slot status result : Nat) : CoresKept s (completeItem slot status result s) := by
  simp only [completeItem]
  split
  · split
    · exact coresKept_trans (t := s.setItem slot _) ⟨rfl, rfl, fun _ _ _ _ _ => rfl⟩ (coresKept_put _ F.qcCntItems _ _ (by decide))
    · exact ⟨rfl, rfl, fun _ _ _ _ _ => rfl⟩
  · exact coresKept_refl s

theorem returnItem_kept (slot : Nat) : CoresKept s (returnItem slot s) := by
  simp only [returnItem]
  split
  · exact ⟨rfl, rfl, fun _ _ _ _ _ => rfl⟩
  · exact coresKept_refl s

theorem completeItem_some (o : Option Nat) (status result : Nat) :
    CoresKept s (match o with | some k => completeItem k status result s | none => s) := by
  cases o with
  | none => exact coresKept_refl s
  | some k => exact completeItem_kept s k status result

theorem returnItem_some (o : Option Nat) : CoresKept s (match o with | some k => returnItem k s | none => s) := by
  cases o with
  | none => exact coresKept_refl s
  | some k => exact returnItem_kept s k

theorem showNoItem_kept (n : Nat) : CoresKept s (showNoItem n s) :=
  coresKept_trans (coresKept_put s F.qcStatusPrio 0 n (by decide)) (coresKept_put _ F.qcStatusQueue 0 n (by decide))

theorem discardWork_kept (n running preempted : Nat) : CoresKept s (discardWork n running preempted s) := by
  unfold discardWork
  extract_lets c s₁ s₂ s₃ s₄
  have h1 : CoresKept s s₁ := completeItem_some s c.slot _ 0
  have h2 : CoresKept s₁ s₂ := completeItem_some s₁ c.urgSlot running 0
  have h3 : CoresKept s₂ s₃ := returnItem_some s₂ c.sent
  have h4 : CoresKept s₃ s₄ := returnItem_some s₃ c.preempt
  exact coresKept_trans (coresKept_trans (coresKept_trans (coresKept_trans h1 h2) h3) h4) (showNoItem_kept s₄ n)

theorem windowCut_kept (n : Nat) : CoresKept s (windowCut n s) := by
  simp only [windowCut]
  split
  · refine coresKept_trans (t := (s.clear F.qcShstatChecking (n / 8)).modShadow (n / 8) (fun h => { h with items := 0 })) (coresKept_put s F.qcShstatChecking 0 (n / 8) (by decide)) ?_
    simp only [nextTarget]
    split
    · exact coresKept_put _ F.qcShstatTarget _ _ (by decide)
    · exact coresKept_refl _
  · exact coresKept_refl s

/-- What an end's parts leave of the checking of a group: nothing but an end to it. -/
theorem discardWork_shstat (n running preempted i : Nat) : (discardWork n running preempted s).word .qcShstat i = s.word .qcShstat i := by
  have hitem (t : State) (slot status : Nat) : (completeItem slot status 0 t).word .qcShstat i = t.word .qcShstat i := by
    simp only [completeItem]
    split
    · split
      · exact word_put_other _ F.qcCntItems _ _ 0 _ i 0 (by decide)
      · rfl
    · rfl
  have hreturn (t : State) (slot : Nat) : (returnItem slot t).word .qcShstat i = t.word .qcShstat i := by
    simp only [returnItem]
    split <;> rfl
  have hshow (t : State) : (showNoItem n t).word .qcShstat i = t.word .qcShstat i := by
    rw [showNoItem, word_put_other _ _ _ _ _ _ _ _ (by decide), word_put_other _ _ _ _ _ _ _ _ (by decide)]
  unfold discardWork
  dsimp only
  rw [hshow]
  repeat' split
  all_goals simp only [hitem, hreturn]

/-! ### Cores that begin again -/

/-- What a reset leaves of a core. -/
def coreStale (c : CoreSt) : CoreSt :=
  { stores := c.stores, storeErrs := c.storeErrs, haltPending := c.haltPending, haltReq := c.haltReq, stepping := c.stepping }

/-- A reset core keeps its stores and its debug requests and loses the rest; no register changes. -/
theorem resetCore_regs (n : Nat) : (resetCore n s).regs = s.regs ∧ (resetCore n s).mem = s.mem ∧
    (resetCore n s).core n = coreStale (s.core n) := by
  have hloads : (dropLoads n s).regs = s.regs ∧ (dropLoads n s).mem = s.mem ∧ (dropLoads n s).cores = s.cores := by
    simp only [dropLoads]
    split
    · exact ⟨rfl, rfl, rfl⟩
    · exact ⟨rfl, rfl, rfl⟩
  obtain ⟨hr, hm, hc⟩ := hloads
  refine ⟨hr, hm, ?_⟩
  have hcore := core_of_cores hc n
  change ((dropLoads n s).modCore n coreStale).core n = _
  rw [core_modCore, hcore]

/-- A core that starts and has no halt to obey is in BOOT, at the boot address. -/
theorem bootCore_reset (n : Nat) (fromHeld : Bool) (hpending : (s.core n).haltPending = false)
    (hhalt : fromHeld = true → s.bit F.dbgConnectHaltQuill = false) :
    bootCore n fromHeld (resetCore n s) = (resetCore n s).setQSt n .boot := by
  obtain ⟨hregs, -, hcore⟩ := resetCore_regs s n
  have hquiet : (fromHeld && ((resetCore n s).setQSt n .boot).bit F.dbgConnectHaltQuill) = false := by
    cases fromHeld with
    | false => rfl
    | true =>
      rw [Bool.true_and, State.setQSt, State.bit, get_put_other_reg _ F.qcStatusState F.dbgConnectHaltQuill _ _ _ _ _ (by decide)]
      have := hhalt rfl
      rwa [State.bit, get_of_word F.dbgConnectHaltQuill 0 0 (word_of_regs (t := resetCore n s) hregs _ 0 0).symm] at this
  have hno : (((resetCore n s).setQSt n .boot).core n).haltPending = false := by
    change ((resetCore n s).core n).haltPending = false
    rw [hcore, coreStale]
    exact hpending
  simp only [bootCore, hquiet, Bool.false_eq_true, if_false, hno]

/-- What such a core shows. -/
theorem bootCore_shows (n : Nat) :
    ((resetCore n s).setQSt n .boot).qSt n = .boot ∧ (((resetCore n s).setQSt n .boot).core n).warned = false ∧
      (((resetCore n s).setQSt n .boot).cbank n).pc = 0x30000000 ∧ (((resetCore n s).setQSt n .boot).cbank n).user = false ∧
      ((resetCore n s).setQSt n .boot).mem = s.mem ∧
      ∀ r, r ≠ .qcStatus → ∀ i, ((resetCore n s).setQSt n .boot).word r i = s.word r i := by
  obtain ⟨hregs, hmem, hcore⟩ := resetCore_regs s n
  have hcore' : ((resetCore n s).setQSt n .boot).core n = (resetCore n s).core n := rfl
  have hboot := qSt_setQSt (resetCore n s) n .boot
  have hbank : ((resetCore n s).setQSt n .boot).cbank n = {} := by
    rw [State.cbank, hboot, if_neg (by decide), hcore', hcore, coreStale]
  refine ⟨hboot, ?_, ?_, ?_, hmem, fun r hr i => ?_⟩
  · rw [hcore', hcore, coreStale]
  · rw [hbank]
  · rw [hbank]
  · rw [State.setQSt, word_put_other _ F.qcStatusState _ _ _ _ _ _ hr, word_of_regs hregs]

/-- The end of what a core runs, and its new start. -/
theorem discarded_boots (n running preempted : Nat) (hpending : (s.core n).haltPending = false) :
    ∃ u, bootCore n false (resetCore n (discardWork n running preempted s)) = u ∧ u.qSt n = .boot ∧ (u.core n).warned = false ∧ u.mem = s.mem ∧
      (∀ i, u.word .qcErr i = s.word .qcErr i) ∧ (∀ i, u.word .qcShstat i = s.word .qcShstat i) := by
  obtain ⟨hcores, hmem, hword⟩ := discardWork_kept s n running preempted
  have hshstat := discardWork_shstat s n running preempted
  have hpending' : ((discardWork n running preempted s).core n).haltPending = false := by
    rw [core_of_cores hcores]
    exact hpending
  have hboot := bootCore_reset (discardWork n running preempted s) n false hpending' (fun h => Bool.noConfusion h)
  obtain ⟨hq, hwarned, -, -, hbmem, hbword⟩ := bootCore_shows (discardWork n running preempted s) n
  exact ⟨_, hboot, hq, hwarned, hbmem.trans hmem,
    fun i => (hbword .qcErr (by decide) i).trans (hword .qcErr (by decide) (by decide) (by decide) i),
    fun i => (hbword .qcShstat (by decide) i).trans (hshstat i)⟩

end

/-- The release of a HELD core boots it. -/
theorem coreRelease_boots (n : Fin 128) (s : State) (hon : s.groupOn (n.val / 8) = true) (hfilled : s.fillPending = false)
    (hheld : s.qSt n = .held) (hhalt : s.bit F.dbgConnectHaltQuill = false) (hpending : (s.core n).haltPending = false) :
    ∃ t : State, exec (.coreRelease n) s = .next (t.answer .ok) ∧ t.qSt n = .boot ∧ (t.cbank n).pc = 0x30000000 ∧ (t.cbank n).user = false ∧
      t.mem = s.mem := by
  have hhalt' : (s.clear F.qcStatusPendingEnable n.val).bit F.dbgConnectHaltQuill = false := by
    rw [State.bit, State.clear, get_put_other_reg _ F.qcStatusPendingEnable F.dbgConnectHaltQuill _ _ _ _ _ (by decide)]
    exact hhalt
  have hexec : exec (.coreRelease n) s
      = .next (((resetCore n (s.clear F.qcStatusPendingEnable n)).setQSt n .boot).answer .ok) := by
    change reply (coreRelease n s, .ok) = _
    have hboot := bootCore_reset (s.clear F.qcStatusPendingEnable n.val) n true hpending (fun _ => hhalt')
    simp only [coreRelease, hon, Bool.true_eq_false, hfilled, Bool.false_eq_true, or_self, if_false, hheld, if_true, hboot, reply]
  obtain ⟨hq, -, hpc, huser, hmem, -⟩ := bootCore_shows (s.clear F.qcStatusPendingEnable n.val) n
  exact ⟨_, hexec, hq, hpc, huser, hmem⟩

theorem coreReinstate_held (n : Fin 128) (s : State) (hretired : s.qSt n = .retired) (hon : s.groupOn (n.val / 8) = true) :
    ∃ t : State, exec (.coreReinstate n) s = .next (t.answer .ok) ∧ t.qSt n = .held ∧ t.mem = s.mem := by
  have hexec : exec (.coreReinstate n) s = .next ((resetCore n ((s.blot 0xC0C 0 (objWord 5 n)).setQSt n .held)).answer .ok) := by
    change reply ((coreReinstate n s).2, .ok) = _
    simp only [coreReinstate, hretired, if_true, hon, reply]
  obtain ⟨hregs, hmem, -⟩ := resetCore_regs ((s.blot 0xC0C 0 (objWord 5 n)).setQSt n .held) n
  refine ⟨_, hexec, ?_, hmem.trans (blot_mem ..)⟩
  exact (qSt_of_word (word_of_regs hregs .qcStatus n 0)).trans (qSt_setQSt _ n .held)

/-- The first expiry of a core's watchdog. -/
theorem watchdogExpiry_warns (n : Fin 128) (s : State) (hclk : s.quillClocked (n.val / 8) = true) (hen : s.bit F.qcWdogEn n = true)
    (hitem : s.qSt n = .item) (hrun : s.coreHalted n = false) (hstep : (s.core n).stepping = false) (hwarned : (s.core n).warned = false) :
    ∃ t, exec (.watchdogExpiry n) s = .next t ∧ (t.core n).warned = true ∧ (t.csrRaw n 0x344).testBit 17 = true ∧ t.qSt n = .item ∧
      t.mem = s.mem := by
  have hcore : (s.bump F.qcCntWdog n).core n = s.core n := rfl
  have hexec : exec (.watchdogExpiry n) s = .next ((s.bump F.qcCntWdog n).modCore n (fun c =>
      { c with csrs := Tab.put 0 c.csrs 0x344 (Tab.get 0 c.csrs 0x344 ||| 2 ^ 17), warned := true })) := by
    change execWatchdogExpiry n s = _
    simp only [execWatchdogExpiry, whenClocked, hclk, if_true, hen, hitem, reduceCtorEq, or_false, hrun, hstep, and_self, hcore, hwarned,
      Bool.false_eq_true, if_false]
  refine ⟨_, hexec, ?_, ?_, ?_, rfl⟩
  · rw [core_modCore]
  · rw [State.csrRaw, core_modCore, show csrReset 0x344 = 0 from rfl, tab_get_put_same, Nat.testBit_or, Nat.testBit_two_pow_self, Bool.or_true]
  · rw [← hitem]
    exact qSt_of_word (word_put_other s F.qcCntWdog _ n.val 0 .qcStatus n.val 0 (by decide))

/-- The second expiry of a core's watchdog. -/
theorem watchdogExpiry_ends (n : Fin 128) (s : State) (hclk : s.quillClocked (n.val / 8) = true) (hen : s.bit F.qcWdogEn n = true)
    (hitem : s.qSt n = .item) (hrun : s.coreHalted n = false) (hstep : (s.core n).stepping = false) (hwarned : (s.core n).warned = true)
    (hpending : (s.core n).haltPending = false) :
    ∃ t, exec (.watchdogExpiry n) s = .next t ∧ t.qSt n = .boot ∧ t.get F.qcErrWatchdog = 1 ∧ (t.core n).warned = false ∧ t.mem = s.mem := by
  have hcore : (s.bump F.qcCntWdog n).core n = s.core n := rfl
  obtain ⟨hcores, hcut, -⟩ := windowCut_kept (s.bump F.qcCntWdog n) n
  have hpending' : ((windowCut n (s.bump F.qcCntWdog n)).core n).haltPending = false := by
    rw [core_of_cores hcores]
    exact hpending
  obtain ⟨u, hu, hq, hunwarned, hmem, -, -⟩ := discarded_boots (windowCut n (s.bump F.qcCntWdog n)) n 3 2 hpending'
  have hexec : exec (.watchdogExpiry n) s = .next (u.flag F.qcErrWatchdog) := by
    change execWatchdogExpiry n s = _
    simp only [execWatchdogExpiry, whenClocked, hclk, if_true, hen, hitem, reduceCtorEq, or_false, hrun, hstep, and_self, hcore, hwarned,
      if_false, forceEnd, hu]
  refine ⟨_, hexec, ?_, get_put_lt _ F.qcErrWatchdog 0 0 (by decide) (by decide) (by decide), hunwarned, hmem.trans hcut⟩
  rw [← hq]
  exact qSt_of_word (word_put_other u F.qcErrWatchdog 1 0 0 .qcStatus n.val 0 (by decide))

/-- The first mismatch of a group's check. -/
theorem shadowMismatch_boots (g : Fin 16) (s : State) (hclk : s.quillClocked g = true) (hchecking : s.bit F.qcShstatChecking g = true)
    (hfirst : (s.shadow g).mismatches = []) (hpending : (s.core (s.shadowTarget g)).haltPending = false) :
    ∃ t, exec (.shadowMismatch g) s = .next t ∧ t.qSt (s.shadowTarget g) = .boot ∧ t.get F.qcErrMismatch = 1 ∧
      t.get F.qcShstatChecking g = 0 ∧ t.mem = s.mem := by
  generalize hn : s.shadowTarget g = n at hpending
  have hexec : ∃ f, exec (.shadowMismatch g) s = .next (bootCore n false (resetCore n (discardWork n 2 2
      ((((s.bump F.qcCntMismatch n).flag F.qcErrMismatch).raise .qcMismatch).clear F.qcShstatChecking g |>.modShadow g f)))) := by
    change ∃ f, execShadowMismatch g s = _
    have hshadow : ((((s.bump F.qcCntMismatch n).flag F.qcErrMismatch).raise .qcMismatch).shadow g) = s.shadow g := by
      rw [State.shadow, raise_shadows]
      rfl
    simp only [execShadowMismatch, whenClocked, hclk, if_true, hchecking, hn, hshadow, hfirst, List.filter_nil, List.any_nil, Bool.false_eq_true,
      if_false]
    exact ⟨_, rfl⟩
  obtain ⟨f, hexec⟩ := hexec
  generalize hv : ((((s.bump F.qcCntMismatch n).flag F.qcErrMismatch).raise .qcMismatch).clear F.qcShstatChecking g).modShadow g f = v at hexec
  have hcore : v.core n = s.core n := by
    rw [← hv]
    exact core_of_cores (raise_cores ..) n
  have hmem : v.mem = s.mem := by
    rw [← hv]
    exact raise_mem ..
  have herr : v.get F.qcErrMismatch = 1 := by
    rw [← hv]
    refine (get_put_other_reg _ F.qcShstatChecking F.qcErrMismatch 0 g.val 0 0 0 (by decide)).trans ?_
    refine (get_raise _ _ _ _ F.qcErrMismatch 0 0 (by decide)).trans ?_
    exact get_put_lt _ F.qcErrMismatch 0 0 (by decide) (by decide) (by decide)
  have hclear : v.get F.qcShstatChecking g = 0 := by
    rw [← hv]
    exact get_put_lt _ F.qcShstatChecking g.val 0 (by decide) (by decide) (by decide)
  obtain ⟨u, hu, hq, -, humem, huerr, hushstat⟩ := discarded_boots v n 2 2 (by rw [hcore]; exact hpending)
  refine ⟨u, hexec.trans (by rw [hu]), hq, ?_, ?_, humem.trans hmem⟩
  · rw [get_of_word F.qcErrMismatch 0 0 (huerr 0), herr]
  · rw [get_of_word F.qcShstatChecking g.val 0 (hushstat g), hclear]

/-- Settles O26: each clause by the lemma on its operation. -/
theorem coreSupervisionComplete : Obligations.CoreSupervisionComplete := by
  unfold Obligations.CoreSupervisionComplete
  refine ⟨fun n s => coreRelease_boots n s, fun n s => ⟨fun h => ?_, coreReinstate_held n s⟩,
    fun n s hclk hen hitem hrun hstep => ⟨watchdogExpiry_warns n s hclk hen hitem hrun hstep, watchdogExpiry_ends n s hclk hen hitem hrun hstep⟩,
    fun g s => shadowMismatch_boots g s, fun g s => ⟨fun h => ?_, fun h => ?_⟩⟩
  · change reply ((coreReinstate n s).2, .ok) = _
    rw [coreReinstate, if_neg h]
    rfl
  · change reply ((shadowReinstate g s).2, .ok) = _
    rw [shadowReinstate, h, if_neg (by decide)]
    rfl
  · have hexec : exec (.shadowReinstate g) s = .next ((((s.blot 0xC0C 0 (objWord 6 g)).clear F.qcShstatRetired g).modShadow g (fun _ => {})).answer
        .ok) := by
      change reply ((shadowReinstate g s).2, .ok) = _
      rw [shadowReinstate, if_pos h]
      rfl
    exact ⟨_, hexec, get_put_lt _ F.qcShstatRetired g.val 0 (by decide) (by decide) (by decide), blot_mem s 0xC0C 0 (objWord 6 g)⟩

end Sys2Proof.Machine
end


/-!
Loads of folios from their commands to their start (O27; 13 R417 to R435).
-/
section
namespace Sys2Proof.Machine

theorem range_length {α : Type} (d : α) (t : Tab α) (k n : Nat) : (Tab.range d t k n).length = n := by
  induction n generalizing k with
  | zero => rfl
  | succ n ih => rw [Tab.range, List.length_cons, ih]

theorem range_append {α : Type} (d : α) (t : Tab α) (k m n : Nat) : Tab.range d t k m ++ Tab.range d t (k + m) n = Tab.range d t k (m + n) := by
  induction m generalizing k with
  | zero => rw [Nat.zero_add]; rfl
  | succ m ih =>
    have hk : k + (m + 1) = k + 1 + m := by omega
    have hm : m + 1 + n = m + n + 1 := by omega
    rw [hm, Tab.range, Tab.range, List.cons_append, hk, ih]

/-! ### The source of a load -/

section
variable {s : State}

@[simp] theorem flashBytes_length (a n : Nat) : (s.flashBytes a n).length = n := range_length ..

/-- The loader's bytes with more read behind them. -/
def loaderTook (bs : List Byte) (s : State) : State := s.modLoader (fun l => { l with bytes := l.bytes ++ bs })

theorem srcNext_flash (n : Nat) (hsrc : s.get F.cfgStatusSrc ≠ 2) :
    srcNext n s = (some (s.flashBytes (s.loader.base + s.loader.bytes.length) n),
      loaderTook (s.flashBytes (s.loader.base + s.loader.bytes.length) n) s) := by
  simp only [srcNext, srcRead, hsrc, if_false, loaderTook]

theorem drop_take_append {α : Type} (l m : List α) {k n : Nat} (h : k + n ≤ l.length) : ((l ++ m).drop k).take n = (l.drop k).take n := by
  rw [List.drop_append_of_le_length (by omega), List.take_append_of_le_length (by rw [List.length_drop]; omega)]

theorem wordAt_append (l m : List Byte) {k : Nat} (h : k + 4 ≤ l.length) : wordAt (l ++ m) k = wordAt l k := by
  rw [wordAt, wordAt, drop_take_append l m h]

/-- The header's fields do not change with what is read after it. -/
theorem header_took (bs : List Byte) (h : 256 ≤ s.loader.bytes.length) :
    (loaderTook bs s).folioEncrypted = s.folioEncrypted ∧ (loaderTook bs s).folioSegments = s.folioSegments ∧
      (loaderTook bs s).folioLength = s.folioLength := by
  refine ⟨?_, ?_, wordAt_append _ _ (by omega)⟩
  · simp only [State.folioEncrypted, loaderTook, State.modLoader]
    rw [drop_take_append _ _ (by omega)]
  · simp only [State.folioSegments, loaderTook, State.modLoader]
    rw [drop_take_append _ _ (by omega)]

theorem length_took (bs : List Byte) : (loaderTook bs s).loader.bytes.length = s.loader.bytes.length + bs.length := List.length_append

/-- The body of a segment in the clear is the source's bytes. -/
theorem bodyNext_flash {g : Segment} {n : Nat} (hsrc : s.get F.cfgStatusSrc ≠ 2) (hclear : s.folioEncrypted = false)
    (hheader : 256 ≤ s.loader.bytes.length) (hleft : n ≤ s.bodyLeft g) :
    bodyNext g n s = (some (s.flashBytes (s.loader.base + s.loader.bytes.length) n),
      loaderTook (s.flashBytes (s.loader.base + s.loader.bytes.length) n) s) := by
  have hplain (bs : List Byte) : (loaderTook bs s).folioEncrypted = false := (header_took bs hheader).1.trans hclear
  simp only [bodyNext, not_lt.mpr hleft, if_false, srcNext_flash n hsrc, segmentText, hplain, Bool.false_eq_true]

/-- A record of the open segment. -/
theorem atRecord_open {g : Segment} {typ : Nat} (run : Segment → State → State) (hst : s.ldSt = 3) (hcur : s.loader.cur = some g)
    (htyp : g.typ = typ) (hleft : s.bodyLeft g ≠ 0) : atRecord typ run s = run g s := by
  simp only [atRecord, hst, if_true, openSegment, hcur, htyp, ne_eq, hleft, not_false_eq_true, and_self]

end

/-! ### Records -/

section
variable {g : Segment} {s : State}

/-- A run of one frame. -/
theorem frameRun_one {a h : Nat} (hsrc : s.get F.cfgStatusSrc = 0) (hfull : s.ldHoop = false) (hclear : s.folioEncrypted = false)
    (hheader : 256 ≤ s.loader.bytes.length) (hleft : 520 ≤ s.bodyLeft g) (ha : s.loader.base + s.loader.bytes.length = a)
    (hh : ofBytes (s.flashBytes a 8) = h) (hop : bits h 31 30 = 0) (hres : bits h 29 17 = 0) (hcount : bits h 16 0 = 0)
    (hlegal : faLegal (h / 2 ^ 32) = true) :
    frameRun g s = loadFrames (h / 2 ^ 32) false 1 (s.flashBytes (a + 8) 512) (loaderTook (s.flashBytes (a + 8) 512) (loaderTook (s.flashBytes a 8) s)) := by
  have hsrc' : s.get F.cfgStatusSrc ≠ 2 := by omega
  have hframes : ¬ regionFrames (faRegion (h / 2 ^ 32)) < bits (h / 2 ^ 32) 16 0 + 1 := by
    simp only [faLegal, Bool.and_eq_true, decide_eq_true_eq] at hlegal
    omega
  have hok : ¬ (1 < 0 ∨ 0 ≠ 0 ∨ faLegal (h / 2 ^ 32) = false ∨ regionFrames (faRegion (h / 2 ^ 32)) < bits (h / 2 ^ 32) 16 0 + (0 + 1)) := by
    rintro (h | h | h | h)
    · exact absurd h (by decide)
    · exact h rfl
    · exact absurd (hlegal.symm.trans h) (by decide)
    · exact hframes h
  have hword : bodyNext g 8 s = (some (s.flashBytes a 8), loaderTook (s.flashBytes a 8) s) := by
    rw [bodyNext_flash hsrc' hclear hheader (by omega), ha]
  have hlen : (loaderTook (s.flashBytes a 8) s).loader.bytes.length = s.loader.bytes.length + 8 := by
    rw [length_took, flashBytes_length]
  have hdata : bodyNext g 512 (loaderTook (s.flashBytes a 8) s)
      = (some (s.flashBytes (a + 8) 512), loaderTook (s.flashBytes (a + 8) 512) (loaderTook (s.flashBytes a 8) s)) := by
    have hat : (loaderTook (s.flashBytes a 8) s).loader.base + (s.loader.bytes.length + 8) = a + 8 := by
      rw [← ha]
      exact (Nat.add_assoc _ _ _).symm
    have hleft' : 512 ≤ (loaderTook (s.flashBytes a 8) s).bodyLeft g := by
      rw [State.bodyLeft] at hleft ⊢
      omega
    rw [bodyNext_flash (s := loaderTook (s.flashBytes a 8) s) hsrc' ((header_took _ hheader).1.trans hclear) (by omega) hleft', hlen, hat]
    rfl
  have hfull' : (loaderTook (s.flashBytes a 8) s).ldHoop = false := hfull
  have hcopy : ((0 : Nat) == 1) = false := rfl
  simp only [frameRun, hword, hh, hop, hres, hcount]
  rw [if_neg hok]
  simp only [hfull', Bool.false_eq_true, false_and, if_false, Nat.zero_ne_one, Nat.zero_add, Nat.mul_one, hdata, hcopy]

/-- A block record of a bank. -/
theorem mblockRecord_bank {bs : List Byte} {i : Nat} (hsrc : s.get F.cfgStatusSrc = 0) (hfull : s.ldHoop = false) (hclear : s.folioEncrypted = false)
    (hheader : 256 ≤ s.loader.bytes.length) (hleft : 32 ≤ s.bodyLeft g) (hbs : s.flashBytes (s.loader.base + s.loader.bytes.length) 32 = bs)
    (hkind : bits (wordAt bs 0) 31 28 = 2) (hi : bits (wordAt bs 0) 15 0 = i)
    (hgood : mblockBad 2 (wordAt bs 0) (wordAt bs 8) (wordAt bs 12) (ofBytes ((bs.drop 16).take 8)) (bs.drop 24) = false)
    (howner : wordAt bs 4 ≤ 193) :
    ∃ r, mblockRecord g s = mblockBank i (wordAt bs 4) (wordAt bs 8) ((loaderTook bs s).modLoader (fun l =>
      { l with blocks := l.blocks ++ [(s.loader.bytes.length, 2, i)], refused := r })) := by
  have hsrc' : s.get F.cfgStatusSrc ≠ 2 := by omega
  have hbody : bodyNext g 32 s = (some bs, loaderTook bs s) := by rw [bodyNext_flash hsrc' hclear hheader hleft, hbs]
  have hfull' : (loaderTook bs s).ldHoop = false := hfull
  simp only [mblockRecord, hbody, hkind, hi, hgood, not_lt.mpr howner, Bool.false_eq_true, or_self, if_false, hfull', false_and]
  exact ⟨_, rfl⟩

/-- A bank's contents. -/
theorem bankinitRecord_fills {bs : List Byte} {i : Nat} (hsrc : s.get F.cfgStatusSrc = 0) (hfull : s.ldHoop = false)
    (hclear : s.folioEncrypted = false) (hheader : 256 ≤ s.loader.bytes.length) (hleft : 8200 ≤ s.bodyLeft g)
    (hbs : s.flashBytes (s.loader.base + s.loader.bytes.length) 8200 = bs) (hi : bits (ofBytes (bs.take 8)) 15 0 = i)
    (hres : bits (ofBytes (bs.take 8)) 63 16 = 0) (hlt : i < 8192) (hspared : (s.bank (blockId i)).unspared = false)
    (hon : s.power (blockId i) = .on) (hlatched : (s.bank (blockId i)).latched = none) :
    bankinitRecord g s = fillBank i (bs.drop 8) (loaderTook bs s) := by
  have hsrc' : s.get F.cfgStatusSrc ≠ 2 := by omega
  have hbody : bodyNext g 8200 s = (some bs, loaderTook bs s) := by rw [bodyNext_flash hsrc' hclear hheader hleft, hbs]
  have hfull' : (loaderTook bs s).ldHoop = false := hfull
  have hspared' : ((loaderTook bs s).bank (blockId i)).unspared = false := hspared
  have hon' : (loaderTook bs s).power (blockId i) = .on := hon
  have hlatched' : ((loaderTook bs s).bank (blockId i)).latched = none := hlatched
  simp only [bankinitRecord, hbody, hi, hres, ne_eq, not_true_eq_false, not_le.mpr hlt, or_self, if_false, hfull', Bool.false_eq_true, false_and,
    hspared', hon', hlatched', and_self, if_true]

/-- A register record. -/
theorem regsRecord_taken {r : Nat} (hsrc : s.get F.cfgStatusSrc = 0) (hclear : s.folioEncrypted = false) (hheader : 256 ≤ s.loader.bytes.length)
    (hleft : 8 ≤ s.bodyLeft g) (hroom : s.loader.regs.length < 8192)
    (hr : ofBytes (s.flashBytes (s.loader.base + s.loader.bytes.length) 8) = r) (hallowed : regsAllowed (r / 2 ^ 32) = true) :
    regsRecord g s = (loaderTook (s.flashBytes (s.loader.base + s.loader.bytes.length) 8) s).modLoader (fun l =>
      { l with regs := l.regs ++ [(s.loader.bytes.length, r / 2 ^ 32, r % 2 ^ 32)] }) := by
  have hsrc' : s.get F.cfgStatusSrc ≠ 2 := by omega
  have hroom' (bs : List Byte) : ¬ 8192 ≤ (loaderTook bs s).loader.regs.length := not_le.mpr hroom
  simp only [regsRecord, bodyNext_flash hsrc' hclear hheader hleft, hr, hallowed, Bool.true_eq_false, hroom', or_self, if_false]

/-- A segment's trailer in the clear. -/
theorem segmentEnd_clear (hsrc : s.get F.cfgStatusSrc = 0) (hclear : s.folioEncrypted = false) (hheader : 256 ≤ s.loader.bytes.length) :
    ∃ u : State, u.ldSt = s.ldSt ∧ u.loader.seg = s.loader.seg + 1 ∧ u.loader.cur = none ∧
      (s.loader.seg + 1 < s.folioSegments → segmentEnd g s = u) ∧
      (s.folioSegments ≤ s.loader.seg + 1 → s.loader.bytes.length + 48 + 1612 = s.folioLength → segmentEnd g s = u.put F.cfgStatusState 4) := by
  have hsrc' : s.get F.cfgStatusSrc ≠ 2 := by omega
  generalize hb : s.flashBytes (s.loader.base + s.loader.bytes.length) 48 = bs
  have hlen : bs.length = 48 := by rw [← hb, flashBytes_length]
  obtain ⟨henc, hsegs, hlength⟩ := header_took (s := s) bs hheader
  have hnext : srcNext 48 s = (some bs, loaderTook bs s) := by rw [srcNext_flash 48 hsrc', hb]
  generalize hu : (loaderTook bs s).modLoader (fun l => { l with key := [], seg := l.seg + 1, cur := none }) = u
  have husegs : u.folioSegments = s.folioSegments := by rw [← hu]; exact hsegs
  have hulength : u.folioLength = s.folioLength := by rw [← hu]; exact hlength
  have hutaken : u.loader.bytes.length = s.loader.bytes.length + 48 := by rw [← hu, ← hlen]; exact length_took bs
  have huseg : u.loader.seg = s.loader.seg + 1 := by rw [← hu]; rfl
  have hend : segmentEnd g s = if u.loader.seg < u.folioSegments then u
      else if u.loader.bytes.length + 1612 = u.folioLength then u.put F.cfgStatusState 4
      else loadFailAt 13 u.loader.bytes.length u := by
    rw [← hu]
    simp only [segmentEnd, hnext, henc, hclear, Bool.false_eq_true, if_false]
  rw [huseg, husegs, hutaken, hulength] at hend
  refine ⟨u, by rw [← hu]; rfl, huseg, by rw [← hu]; rfl, fun hmore => hend.trans (if_pos hmore), fun hlast htotal => hend.trans ?_⟩
  rw [if_neg (not_lt.mpr hlast), if_pos htotal]

end

/-! ### The header -/

section
variable {s : State}

/-- A full folio's header in the clear and without fault, taken from its start: the load prepares its target. -/
theorem headerDone_passes {bs : List Byte} {u : State} (hclk : s.mgmtClocked = true) (hst : s.ldSt = 1) (hsrc : s.get F.cfgStatusSrc = 0)
    (hstart : s.loader.bytes = []) (hfull : s.ldHoop = false) (hbs : s.flashBytes s.loader.base 256 = bs) (hmagic : wordAt bs 0 = 0xB5F07A49)
    (hu : s.modLoader (fun l => { l with bytes := bs }) = u) (hgood : headerFault u = none) (hbounds : u.folioBounds = 0)
    (hclear : u.folioEncrypted = false) : exec .loaderHeaderDone s = .next (headerPass [] u) := by
  have hsrc' : s.get F.cfgStatusSrc ≠ 2 := by omega
  generalize hb16 : s.flashBytes s.loader.base 16 = b16
  have hlen16 : b16.length = 16 := by rw [← hb16, flashBytes_length]
  have hall : b16 ++ s.flashBytes (s.loader.base + 16) 240 = bs := by
    rw [← hb16, ← hbs]
    exact range_append 0xFF s.flash _ 16 240
  have hword : wordAt b16 0 = 0xB5F07A49 := by rw [← hmagic, ← hall, wordAt_append b16 _ (by omega)]
  have hfirst : srcNext 16 s = (some b16, loaderTook b16 s) := by rw [srcNext_flash 16 hsrc', hstart, List.length_nil, Nat.add_zero, hb16]
  have hrest : srcNext 240 (loaderTook b16 s) = (some (s.flashBytes (s.loader.base + 16) 240), u) := by
    rw [srcNext_flash (s := loaderTook b16 s) 240 hsrc', length_took, hstart, hlen16, ← hu, ← hall]
    simp only [loaderTook, State.modLoader, hstart, List.nil_append, List.length_nil, Nat.zero_add]
    rfl
  have hnone : srcNext (8 * 0) u = (some [], u) := by
    have husrc : u.get F.cfgStatusSrc ≠ 2 := by rw [← hu]; exact hsrc'
    rw [srcNext_flash (s := u) (8 * 0) husrc]
    simp only [State.flashBytes, Tab.range, loaderTook, State.modLoader, List.append_nil]
  have hufull : u.ldHoop = false := by rw [← hu]; exact hfull
  change execLoaderHeaderDone s = _
  simp only [execLoaderHeaderDone, whenClocked, hclk, hst, if_true, hfirst, hword, headerRest, hrest, hgood, hbounds, hnone, hufull, hclear,
    Bool.false_and, Bool.false_eq_true, if_false, ne_eq, not_true_eq_false]
  rfl

/-- The releases that go are bits of status registers. -/
theorem discardReleases_keeps {α : Type} (f : State → α) (h : ∀ t n, f (t.clear F.fabHoopStatusPendingEnable n) = f t) :
    f (discardReleases s) = f s := by
  unfold discardReleases
  split
  · rfl
  · refine foldl_keep _ f (fun t n => ?_) _ s
    split
    · exact h t n
    · rfl

theorem discardReleases_ldSt : (discardReleases s).ldSt = s.ldSt :=
  discardReleases_keeps State.ldSt fun t n => get_put_other_reg t F.fabHoopStatusPendingEnable F.cfgStatusState 0 n 0 0 0 (by decide)

theorem discardReleases_loader : (discardReleases s).loader = s.loader := discardReleases_keeps State.loader fun _ _ => rfl

/-- The load of a full folio prepares its target. -/
theorem headerPass_full (key : List Nat) (hfull : s.ldHoop = false) :
    (headerPass key s).ldSt = 2 ∧ (headerPass key s).loader.bytes = s.loader.bytes ∧ (headerPass key s).mem = s.mem := by
  have hkind : ((s.put F.cfgStatusState 2).modLoader (fun l => { l with key := key })).ldHoop = false :=
    (congrArg (fun n => n != 0) (get_put_other_bits s F.cfgStatusState F.cfgStatusKind 2 0 0 rfl (by decide) (by decide) (by decide))).trans hfull
  simp only [headerPass, hkind, Bool.false_eq_true, if_false, discardReleases_ldSt, discardReleases_loader, (discardReleases_untouched _).1]
  exact ⟨get_put_lt (s := s) F.cfgStatusState 0 0 (by decide) (by decide) (by decide), rfl, rfl⟩

end

/-- Settles O27: each clause by the lemma on its record or event. -/
theorem folioLoadsComplete : Obligations.FolioLoadsComplete := by
  unfold Obligations.FolioLoadsComplete
  refine ⟨fun src s htrip hsrc => ⟨fun hidle => ?_, fun hbusy => ?_⟩, fun hoop s htrip hidle => ?_, fun s => ⟨fun hidle => ?_, fun hbusy => ?_⟩,
    fun s hclk hidle hphase hdone hhold htest => ?_, fun s hclk hst hsrc hstart hfull hmagic hu => ?_, fun s hclk hst hfull => ?_,
    fun s hclk hst => ⟨fun hfull hwaited => ?_, fun hhoop hloading => ?_⟩,
    fun g s hclk hst hsrc hfull hclear hcur htyp hheader hleft hword => ?_,
    fun g s hclk hst hsrc hfull hclear hcur htyp hheader hleft hgood hkind howner => ?_,
    fun g s hclk hst hsrc hfull hclear hcur htyp hheader hleft hres hlt hspared hon hlatched => ?_,
    fun g s hclk hst hsrc hclear hcur htyp hheader hleft hroom hallowed => ?_,
    fun g s hclk hst hsrc hclear hcur hleft hheader => ?_, fun s hclk hst hsrc => ?_, fun s hclk hst hsrc => ?_,
    fun s hclk hst => ⟨fun hhoop => ?_, fun hfull hstarted => ?_, fun hfull hstarted hrefused => ?_⟩⟩
  · change execLoadFull src s = _
    simp only [execLoadFull, loadFull, htrip, not_le.mpr hsrc, hidle, Bool.false_eq_true, or_self, ne_eq, not_true_eq_false, if_false, reply]
  · change execLoadFull src s = _
    simp only [execLoadFull, loadFull, htrip, not_le.mpr hsrc, hbusy, Bool.false_eq_true, or_self, ne_eq, not_false_eq_true, if_false, if_true, reply]
  · change execLoadHoop 2 hoop s = _
    have htwo : ¬ (2 : BitVec 3).toNat ≠ 2 := by decide
    simp only [execLoadHoop, loadHoop, htrip, htwo, hidle, Bool.false_eq_true, or_self, ne_eq, not_true_eq_false, if_false, reply]
  · change execLoadCancel s = _
    simp only [execLoadCancel, loadCancel, hidle, if_true, reply]
  · change execLoadCancel s = _
    simp only [execLoadCancel, loadCancel, hbusy, if_false, reply, loadFailAt]
  · change execPowerOnLoad s = _
    simp only [execPowerOnLoad, whenClocked, hclk, hidle, hphase, hdone, hhold, htest, true_or, and_self, if_true]
  · obtain ⟨hgood, hbounds, hclear⟩ := hu
    generalize hbs : s.flashBytes s.loader.base 256 = bs at hmagic hgood hbounds hclear
    obtain ⟨hstate, hbytes, hmem⟩ := headerPass_full (s := s.modLoader (fun l => { l with bytes := bs })) [] hfull
    have hlen : bs.length = 256 := by rw [← hbs, flashBytes_length]
    exact ⟨_, headerDone_passes hclk hst hsrc hstart hfull hbs hmagic rfl hgood hbounds hclear, hstate, (congrArg _ hbytes).trans hlen, hmem⟩
  · change execImageFillWaitTimeout s = _
    simp only [execImageFillWaitTimeout, whenClocked, hclk, hst, hfull, and_self, if_true, State.modLoader]
  · change execLoaderPrepareDone s = _
    simp only [execLoaderPrepareDone, whenClocked, hclk, hst, hfull, hwaited, Bool.or_true, Bool.false_eq_true, if_true, if_false]
  · change execLoaderPrepareDone s = _
    simp only [execLoaderPrepareDone, whenClocked, hclk, hst, hhoop, hloading, if_true]
  · obtain ⟨hop, hres, hcount, hlegal⟩ := hword
    change execFrameRun s = _
    rw [execFrameRun, whenClocked, if_pos hclk, atRecord_open _ hst hcur htyp (by omega),
      frameRun_one hsrc hfull hclear hheader hleft rfl rfl hop hres hcount hlegal]
    rfl
  · obtain ⟨r, hrun⟩ := mblockRecord_bank hsrc hfull hclear hheader hleft rfl hkind rfl hgood howner
    have hexec : exec .mblockRecord s = .next (mblockRecord g s) := by
      change execMblockRecord s = _
      rw [execMblockRecord, whenClocked, if_pos hclk, atRecord_open _ hst hcur htyp (by omega)]
    refine ⟨_, hexec.trans (congrArg Host.Outcome.next hrun), ?_, rfl, rfl⟩
    exact get_put_lt (s := _) F.membBownOwner _ 0 (by decide) (by decide) (lt_of_le_of_lt howner (by decide))
  · change execBankinitRecord s = _
    rw [execBankinitRecord, whenClocked, if_pos hclk, atRecord_open _ hst hcur htyp (by omega),
      bankinitRecord_fills hsrc hfull hclear hheader hleft rfl rfl hres hlt hspared hon hlatched]
    rfl
  · have hexec : exec .regsRecord s = .next (regsRecord g s) := by
      change execRegsRecord s = _
      rw [execRegsRecord, whenClocked, if_pos hclk, atRecord_open _ hst hcur htyp (by omega)]
    exact ⟨_, hexec.trans (congrArg Host.Outcome.next (regsRecord_taken hsrc hclear hheader hleft hroom rfl hallowed)), rfl, rfl, rfl⟩
  · have hexec : exec .segmentEnd s = .next (segmentEnd g s) := by
      change execSegmentEnd s = _
      simp only [execSegmentEnd, whenClocked, hclk, hst, openSegment, hcur, hleft, if_true]
    obtain ⟨u, hust, huseg, hucur, hmore, hlast⟩ := segmentEnd_clear (g := g) hsrc hclear hheader
    refine ⟨fun hlt => ⟨_, hexec.trans (congrArg Host.Outcome.next (hmore hlt)), hust.trans hst, huseg, hucur⟩, fun hle hlen =>
      ⟨_, hexec.trans (congrArg Host.Outcome.next (hlast hle hlen)), ?_, hucur⟩⟩
    exact get_put_lt (s := _) F.cfgStatusState 0 0 (by decide) (by decide) (by decide)
  · change execFlashReadTimeout s = _
    simp only [execFlashReadTimeout, whenClocked, hclk, hst, hsrc, or_true, ne_eq, not_false_eq_true, and_self, if_true, loadFailAt]
  · have hread : ∃ ok u, signatureOk s = (some ok, u) ∧ u.loader = s.loader := by
      simp only [signatureOk, srcRead, hsrc, if_false]
      exact ⟨_, _, rfl, rfl⟩
    obtain ⟨ok, u, hok, hu⟩ := hread
    change execLoaderVerifyDone s = _
    simp only [execLoaderVerifyDone, whenClocked, hclk, hst, hok, if_true, Option.some.injEq, loadFailAt]
  · change execLoaderStartDone s = _
    simp only [execLoaderStartDone, whenClocked, hclk, hst, hhoop, if_true]
  · change execLoaderStartDone s = _
    simp only [execLoaderStartDone, whenClocked, hclk, hst, hfull, hstarted, Bool.false_eq_true, if_true, if_false]
  · change execLoaderStartDone s = _
    simp only [execLoaderStartDone, whenClocked, hclk, hst, hfull, hstarted, hrefused, Bool.false_eq_true, if_true, if_false, loadFailAt]

end Sys2Proof.Machine
end


/-!
Column scrubbing and the rewrites of frames (O28; 13 R436 to R440).
-/
section
namespace Sys2Proof.Machine

section
variable {s : State} {fa : Nat}

theorem rewriteLost_counted : (rewriteLost fa s).get F.cfgErrRewriteFail = 1 := by
  have hraised : (((s.bump F.cfgRwStatFailed).flag F.cfgErrRewriteFail).raise .cfgRewriteFail 0 fa).get F.cfgErrRewriteFail = 1 := by
    rw [get_raise _ _ _ _ _ _ _ (by decide)]
    exact get_put_lt (s := s.bump F.cfgRwStatFailed) F.cfgErrRewriteFail 0 0 (by decide) (by decide) (by decide)
  simp only [rewriteLost]
  split
  · rename_i hr
    exact (get_put_other_reg _ F.fabHoopFlagFrame F.cfgErrRewriteFail 1 (faRegion fa) 0 0 0 (by decide)).trans hraised
  · exact hraised

theorem rewriteLost_kept : (rewriteLost fa s).loader.rewriting = s.loader.rewriting ∧ (rewriteLost fa s).frames = s.frames ∧
    (rewriteLost fa s).mem = s.mem := by
  simp only [rewriteLost]
  split
  · simp [State.modHoop]
  · simp

end

/-- Settles O28: each clause by the branch its hypotheses choose. -/
theorem frameRewritesComplete : Obligations.FrameRewritesComplete := by
  unfold Obligations.FrameRewritesComplete
  refine ⟨fun fa upsets s hclk hlegal => ?_, fun fa rest s hclk hnone hqueue hshared => ?_, fun fa v s t hclk hsome hread => ?_,
    fun fa s hclk hsome himg0 himg1 => ?_⟩
  · intro u n hskips hwrong
    have hflips : ¬ u.flips (faSlot fa.toNat) = [] := fun h => hwrong (congrArg List.length h)
    have hexec : exec (.scrubFrameRead fa upsets) s = .next (
        if n < 3 then spansMended (faSlot fa.toNat) (u.mendFrame (faSlot fa.toNat))
        else if u.loader.queue.contains fa.toNat = true then u
        else if 16 ≤ u.loader.queue.length then (u.bump F.cfgRwStatDropped).flag F.cfgErrRewriteDrop
        else u.modLoader (fun l => { l with queue := l.queue ++ [fa.toNat] })) := by
      have hgo : ¬ (faLegal fa.toNat = false ∨ u.scrubSkips fa.toNat = true ∨ u.flips (faSlot fa.toNat) = []) := by
        rw [hlegal, hskips]
        rintro (h | h | h)
        · exact absurd h (by decide)
        · exact absurd h (by decide)
        · exact hflips h
      change execScrubFrameRead fa upsets s = _
      simp only [execScrubFrameRead, whenClocked, hclk, if_pos hlegal]
      exact congrArg Host.Outcome.next (if_neg hgo)
    refine ⟨fun hfew => ?_, fun hmany hnew hroom => ?_, fun hmany hnew hfull => ?_⟩
    · rw [hexec, if_pos hfew]
    · rw [hexec, if_neg (not_lt.mpr hmany), hnew, if_neg Bool.false_ne_true, if_neg (not_le.mpr hroom)]
      rfl
    · rw [hexec, if_neg (not_lt.mpr hmany), hnew, if_neg Bool.false_ne_true, if_pos hfull]
  · change execFrameRewriteStart s = _
    simp only [execFrameRewriteStart, whenClocked, hclk, hnone, hqueue, not_lt.mpr hshared, false_and, if_true, if_false, State.modLoader]
  · change execFrameRewriteDone s = _
    simp only [execFrameRewriteDone, whenClocked, hclk, hsome, if_true, State.modLoader, hread]
  · have hexec : exec .frameRewriteDone s = .next (rewriteLost fa (s.modLoader (fun l => { l with rewriting := none }))) := by
      have hread0 : imageRead 0 (faSlot fa) (s.modLoader (fun l => { l with rewriting := none }))
          = (none, s.modLoader (fun l => { l with rewriting := none })) := by
        rw [imageRead, if_neg]
        exact fun h => absurd (h.symm.trans himg0) (by decide)
      have hread1 : imageRead 1 (faSlot fa) (s.modLoader (fun l => { l with rewriting := none }))
          = (none, s.modLoader (fun l => { l with rewriting := none })) := by
        rw [imageRead, if_neg]
        exact fun h => absurd (h.symm.trans himg1) (by decide)
      change execFrameRewriteDone s = _
      simp only [execFrameRewriteDone, whenClocked, hclk, hsome, if_true, hread0, hread1]
    obtain ⟨hrewriting, hframes, hmem⟩ := rewriteLost_kept (s := s.modLoader (fun l => { l with rewriting := none })) (fa := fa)
    exact ⟨_, hexec, rewriteLost_counted, hrewriting, hframes, hmem⟩

end Sys2Proof.Machine
end


/-!
The management interface: packets, control frames, ports, sessions, streams (O29; 14 R441 to R456, R474).
-/
section
namespace Sys2Proof.Machine

section
variable {s : State}

@[simp] theorem sess_modSess (k : Nat) (f : Session → Session) : (s.modSess k f).sess k = f (s.sess k) := tab_get_put_same ..

@[simp] theorem sess_queued (l : List Nat) (k : Nat) : ({ s with host := { s.host with order := l } } : State).sess k = s.sess k := rfl

@[simp] theorem sess_spent (u : Nat × Nat) (k : Nat) : ({ s with host := { s.host with reqUse := u } } : State).sess k = s.sess k := rfl

/-- An unused limit lets the first unit through. -/
theorem spend_fresh : ∃ c, ∀ rate burst pt, spend rate burst pt (0, 0) = some (c, pt) :=
  ⟨1000000000, fun rate burst pt => by simp only [spend, Nat.zero_sub, Nat.zero_le, if_true, Nat.zero_add]⟩

/-- A packet of good form for this device's port. -/
theorem vcpPacketRx_received {p : VcpPacket} (hopen : s.ethReceives = true) (hpll : s.clk.epllLost = false)
    (hport : p.eth = s.bit F.ethStatusActive) (hform : s.supported p = true) (haddr : s.ownAddress p.peer.v6 p.dst = true)
    (hudp : p.dport = s.get F.ethUdpVal) : exec (.vcpPacketRx p) s = .next (vcpReceived (p.bytes.map BitVec.toNat) p.peer s) := by
  change execVcpPacketRx p s = _
  simp only [execVcpPacketRx, hopen, hpll, hport, hform, haddr, hudp, Bool.true_eq_false, Bool.false_eq_true, ne_eq, not_true_eq_false, or_self,
    and_self, if_false, if_true]

/-- The next request of an OPEN session becomes BUSY and takes its turn behind those waiting. -/
theorem sequenced_accepted {k : Nat} {h : ReqHead} (hopen : (s.sess k).st = 1) (hseq : h.seq = ((s.sess k).last + 1) % 2 ^ 32) (hcode : h.code = 3)
    (hgood : h.bad = 0) : ∃ t, sequenced k h s = t ∧ (t.sess k).st = 2 ∧ (t.sess k).last = h.seq ∧ (t.sess k).params = h.payload ∧
      t.host.order = s.host.order ++ [k] ∧ t.mem = s.mem ∧ t.regs = s.regs := by
  have hresend : h.code ≠ 4 := by omega
  have hclose : h.code ≠ 1 := by omega
  have hknown : (opRights h.code).isNone = false := by rw [hcode]; rfl
  rw [sequenced, if_pos ⟨hseq, hresend⟩, if_pos hopen]
  simp only [acceptRequest, hgood, ne_eq, not_true_eq_false, if_false, hclose, hknown, Bool.false_eq_true]
  refine ⟨_, rfl, ?_, ?_, ?_, rfl, rfl, rfl⟩
  · rw [sess_queued, sess_modSess]
  · rw [sess_queued, sess_modSess, hseq]
  · rw [sess_queued, sess_modSess]

/-- The state of a session's slot that the rules for requests read and leave. -/
structure SessionAs (k : Nat) (s u : State) : Prop where
  st : (u.sess k).st = (s.sess k).st
  last : (u.sess k).last = (s.sess k).last
  order : u.host.order = s.host.order
  mem : u.mem = s.mem
  regs : u.regs = s.regs

/-- An authentic request within the limits comes to the rule of sequence. -/
theorem sessionReceived_sequenced {k : Nat} {h : ReqHead} {peer : Peer} (hsess : (s.sess k).reqUse = (0, 0)) (hdev : s.host.reqUse = (0, 0)) :
    ∃ u, sessionReceived k h peer s = sequenced k h u ∧ SessionAs k s u := by
  suffices key : ∀ g, g = sessionReceived → ∃ u, g k h peer s = sequenced k h u ∧ SessionAs k s u from key _ rfl
  intro g hg
  delta sessionReceived at hg
  have e := congrFun (congrFun (congrFun (congrFun hg k) h) peer) s
  beta_reduce at e
  extract_lets v sess dev at e
  have hvk : v.sess k = { s.sess k with peer := peer, idleFrom := if (s.sess k).st = 1 then s.pt else (s.sess k).idleFrom } := sess_modSess k _
  have hv : SessionAs k s v := ⟨by rw [hvk], by rw [hvk], rfl, rfl, rfl⟩
  have hvsess : (v.sess k).reqUse = (0, 0) := by rw [hvk]; exact hsess
  have hvdev : v.host.reqUse = (0, 0) := hdev
  clear_value v sess dev
  obtain ⟨c, hspend⟩ := spend_fresh
  rw [e, hvsess, hvdev, hspend, hspend]
  refine ⟨_, rfl, ?_, ?_, hv.order, hv.mem, hv.regs⟩
  · rw [sess_spent, sess_modSess, ← hv.st]
  · rw [sess_spent, sess_modSess, ← hv.last]

theorem vcpReceived_session {b : List Nat} {h : ReqHead} {peer : Peer} (hhead : requestHead b = some h) (hclose : h.code ≠ 1)
    (hst : (s.sess (h.id % 1024)).st = 1) (hid : s.sessId (h.id % 1024) = h.id) (htag : packetTag (s.sess (h.id % 1024)).key b = h.tag) :
    vcpReceived b peer s = sessionReceived (h.id % 1024) h peer s := by
  have hauth : ¬ ((s.sess (h.id % 1024)).st = 0 ∨ s.sessId (h.id % 1024) ≠ h.id ∨ packetTag (s.sess (h.id % 1024)).key b ≠ h.tag) := by
    rintro (h0 | h0 | h0)
    · omega
    · exact h0 hid
    · exact h0 htag
  simp only [vcpReceived, hhead, hclose, and_false, if_false]
  exact if_neg hauth

theorem streamSend_done {x : Stream} {at_ : Nat} (seg n : Nat) (hdone : x.len ≤ at_) : streamSend x at_ seg s (n + 1) = (0, s) := by
  obtain ⟨rd, hrd⟩ : ∃ rd, rd = ethRead := ⟨_, rfl⟩
  delta streamSend streamSend._f
  rw [← hrd]
  clear hrd
  dsimp only
  exact if_pos hdone

end

/-- Settles O29: each clause by the branch its hypotheses choose. -/
theorem ethernetCommandsComplete : Obligations.EthernetCommandsComplete := by
  unfold Obligations.EthernetCommandsComplete
  refine ⟨fun p s hopen hpll hport hform haddr hudp hbad => ?_, fun p h k s hopen hpll hport hform haddr hudp hhead hk hst hid htag hgood hcode hseq hsess
      hdev => ?_, fun f u s hopen hpll hport harp haddr hu => ?_, fun l s => ⟨rfl, rfl⟩, fun s hauto hactive hlost hup => ?_,
    fun v s => ⟨fun hsame => ?_, fun hother => ?_⟩, fun k s hst => ⟨?_, fun hfirst => ?_⟩,
    fun k r rest s hopens hkey hgood hlen htwin hres hwindow hidle hfree => ?_, fun k map rest ps s hst hresend hps hsome => ?_,
    fun who j s hjobs hwho hop => ?_, fun desc s hheld hok => ?_, fun x rest s hstreams hlen => ?_⟩
  · rw [vcpPacketRx_received hopen hpll hport hform haddr hudp, vcpReceived, Option.isNone_iff_eq_none.mp hbad]
    rfl
  · subst hk
    obtain ⟨u, hreq, hu⟩ := sessionReceived_sequenced (k := h.id % 1024) (h := h) (peer := p.peer) hsess hdev
    obtain ⟨t, ht, htst, htlast, htparams, htorder, htmem, htregs⟩ :=
      sequenced_accepted (hu.st.trans hst) (hseq.trans (by rw [hu.last])) hcode hgood
    have hexec := vcpPacketRx_received hopen hpll hport hform haddr hudp
    rw [vcpReceived_session hhead (by omega) hst hid htag, hreq, ht] at hexec
    exact ⟨t, hexec, htst, htlast, htparams, htorder.trans (by rw [hu.order]), htmem.trans hu.mem, htregs.trans hu.regs⟩
  · change execNetworkControlFrame f s = _
    simp only [execNetworkControlFrame, hopen, hpll, hport, harp, haddr, hu, Bool.true_eq_false, Bool.false_eq_true, ne_eq, not_true_eq_false, or_self,
      if_false, if_true]
  · change execEthFailover s = _
    simp only [execEthFailover, hauto, hactive, State.ethLock, hlost, hup, Bool.not_false, Bool.false_eq_true, if_false, if_true, and_self]
  · change execEthActiveWrite v s = _
    simp only [execEthActiveWrite, ethActiveWrite, hsame, if_true, reply]
  · change execEthActiveWrite v s = _
    simp only [execEthActiveWrite, ethActiveWrite, hother, if_false, reply]
  · change execSessionIdleTimeout k s = _
    rw [execSessionIdleTimeout, if_pos hst]
  · change execSessionFirstRequestTimeout k s = _
    rw [execSessionFirstRequestTimeout, if_pos ⟨hst, hfirst⟩]
  · have hroom : (List.range 1024).all (fun k => (s.sess k).st != 0) = false := by
      refine List.all_eq_false.mpr ⟨k.val, List.mem_range.mpr k.isLt, ?_⟩
      rw [hfree]
      decide
    change execOpSessionOpen k s = _
    simp only [execOpSessionOpen, hopens, hkey, hgood, hlen, htwin, hres, not_lt.mpr hwindow, not_lt.mpr hidle, hroom, hfree, ne_eq, not_true_eq_false,
      or_self, Bool.false_eq_true, if_false]
  · change execOpReplyResend k s = _
    simp only [execOpReplyResend, hresend, hst, ne_eq, not_true_eq_false, if_false, hps]
  · have hfind : s.host.jobs.find? (fun j => j.origin == who) = some j := by
      rw [hjobs, List.find?_cons, hwho]
      simp
    change execCommandDone who s = _
    simp only [execCommandDone, hfind, jobEnd, hop, if_true]
  · change execEthSend 0 desc s = _
    have hreply : reply (streamQueue 0 desc s) = .next ((streamQueue 0 desc s).1.answer (streamQueue 0 desc s).2) := rfl
    rw [execEthSend, hheld, if_neg Bool.false_ne_true, hreply, hok]
  · change execStreamEnd s = _
    simp only [execStreamEnd, hstreams]
    rw [streamSend_done 0 _ (le_of_eq hlen)]

end Sys2Proof.Machine
end


/-!
Commands of a session: the session itself, information, registers, memory, flash (O30; 14 R453 to R464).
-/
section
namespace Sys2Proof.Machine

section
variable {s : State} {k : Fin 1024}

/-- A command that is this device's own and passes its checks: its reply is that of the function it names. -/
theorem ownCommand_replies (i : Instr) {op : Nat} {f : HostFn} {status : Nat} {result : List Nat} {t : State}
    (hi : exec i s = hostCommand op f k s) (hown : s.ownCommand op k)
    (hr : f (s.sessionCtx k) s = { status := status, result := result, state := t }) : exec i s = .next (storeReply k status result t) := by
  obtain ⟨hdue, hhere, hgood⟩ := hown
  rw [hi]
  simp only [hostCommand, hdue, if_true, hhere, guarded, hgood, hr]

theorem beNat_reverse_toNat (bs : List Byte) : Crypto.beNat (bs.map BitVec.toNat).reverse = ofBytes bs := by
  rw [Crypto.beNat, List.foldl_reverse]
  induction bs with
  | nil => rfl
  | cons b bs ih => rw [List.map_cons, List.foldr_cons, ih, ofBytes, Nat.mul_comm, Nat.add_comm]

theorem nums_length (v n : Nat) : (nums v n).length = n := by rw [nums, List.length_map, bytesOf_length]

theorem leAt_nums (ps qs : List Nat) (v n : Nat) : leAt (ps ++ (nums v n ++ qs)) ps.length n = v % 256 ^ n := by
  rw [leAt, List.drop_left, List.take_left' (nums_length v n), nums, beNat_reverse_toNat, ofBytes_bytesOf]

theorem leAt_nums_first (qs : List Nat) (v n : Nat) : leAt (nums v n ++ qs) 0 n = v % 256 ^ n := leAt_nums [] qs v n

/-- One register read that is accepted. -/
theorem hostRegRead_one {c : HostCtx} {a v : Nat} (hparams : c.params = nums a 4) (ha : a < 2 ^ 32) (hread : regRead a false s = (.ok, v, s)) :
    hostRegRead c s = { status := vOk, result := nums 1 4 ++ [0, 0, 0, 0] ++ nums v 4, state := s } := by
  have haddr : leAt (nums a 4) 0 4 = a := by
    rw [← List.append_nil (nums a 4), leAt_nums_first]
    exact Nat.mod_eq_of_lt ha
  have hlen : (nums a 4).length / 4 = 1 := by rw [nums_length]
  have hlist : (List.range ((nums a 4).length / 4)).map (fun i => leAt (nums a 4) (4 * i) 4) = [a] := by
    rw [hlen, ← haddr]
    simp [haddr]
  rw [hostRegRead, hparams, hlist]
  simp only [regsRead, hread, accessReply, statusCode, List.nil_append, Nat.zero_add]

/-- One register write that is accepted. -/
theorem hostRegWrite_one {c : HostCtx} {a : Nat} {v : Word} {t : State} (hparams : c.params = nums a 4 ++ nums v.toNat 4) (ha : a < 2 ^ 32)
    (hwrite : regWrite a v s = (t, .ok)) :
    hostRegWrite c s = { status := vOk, result := nums 1 4 ++ [0, 0, 0, 0], state := t } := by
  have haddr : leAt (nums a 4 ++ nums v.toNat 4) 0 4 = a := by
    rw [leAt_nums_first]
    exact Nat.mod_eq_of_lt ha
  have hval : leAt (nums a 4 ++ nums v.toNat 4) 4 4 = v.toNat := by
    have h := leAt_nums (nums a 4) [] v.toNat 4
    rw [nums_length, List.append_nil] at h
    exact h.trans (Nat.mod_eq_of_lt v.isLt)
  have hlen : (nums a 4 ++ nums v.toNat 4).length / 8 = 1 := by rw [List.length_append, nums_length, nums_length]
  have hlist : (List.range ((nums a 4 ++ nums v.toNat 4).length / 8)).map
      (fun i => (leAt (nums a 4 ++ nums v.toNat 4) (8 * i) 4, leAt (nums a 4 ++ nums v.toNat 4) (8 * i + 4) 4)) = [(a, v.toNat)] := by
    rw [hlen]
    simp [haddr, hval]
  rw [hostRegWrite, hparams, hlist]
  simp only [regsWrite, BitVec.ofNat_toNat, BitVec.setWidth_eq, hwrite, accessReply, statusCode, List.append_nil, Nat.zero_add]

theorem hostMemRead_ok {c : HostCtx} {a n : Nat} {r : MemResult} (ha : leAt c.params 0 8 = a) (hn : leAt c.params 8 4 = n)
    (hr : ethRead .host [] false a n s (n / 4096 + 2) = r) (hone : 1 ≤ n) (hmost : n ≤ 65536) (hfree : memRefusal a = none)
    (hok : r.status = .ok) :
    hostMemRead c s = { status := vOk, result := nums r.data.length 4 ++ [0, 0, 0, 0] ++ r.data.map BitVec.toNat, state := r.state } := by
  have hlen : ¬ (n = 0 ∨ 65536 < n) := by omega
  simp only [hostMemRead, ha, hn]
  rw [if_neg hlen, hfree, hr]
  simp only [accessReply, hok, statusCode]

theorem hostMemWrite_ok {c : HostCtx} {a m : Nat} {t : State} (ha : leAt c.params 0 8 = a) (hlen : leAt c.params 8 4 + 12 = c.params.length)
    (hfree : memRefusal a = none) (hw : ethWrite 0 a ((c.params.drop 12).map (BitVec.ofNat 8)) s 4 = (m, .ok, t)) :
    hostMemWrite c s = { status := vOk, result := nums m 4 ++ [0, 0, 0, 0], state := t } := by
  simp only [hostMemWrite, ha, hlen, ne_eq, not_true_eq_false, if_false]
  rw [hfree, hw]
  simp only [accessReply, statusCode, List.append_nil]

theorem hostFlashRead_ok {c : HostCtx} {o n : Nat} (ho : leAt c.params 0 4 = o) (hn : leAt c.params 4 4 = n) (hone : 1 ≤ n)
    (hmost : n ≤ 65536) (hend : o + n ≤ flashSize) :
    hostFlashRead c s = { status := vOk, result := nums n 4 ++ [0, 0, 0, 0] ++ (s.flashBytes o n).map BitVec.toNat, state := s } := by
  have hlen : ¬ (n = 0 ∨ 65536 < n ∨ flashSize < o + n) := by omega
  simp only [hostFlashRead, ho, hn]
  rw [if_neg hlen]
  simp only [accessReply, statusCode]

theorem hostFlashWrite_ok {c : HostCtx} {o : Nat} {d : List Byte} (ho : leAt c.params 0 4 = o) (hd : (c.params.drop 4).map (BitVec.ofNat 8) = d)
    (hfree : flashRefusal c o d.length = none) (hdone : (flashProgram o d s).1 = d.length) :
    hostFlashWrite c s = { status := vOk, result := nums d.length 4 ++ nums 0 4, state := (flashProgram o d s).2 } := by
  simp only [hostFlashWrite, ho, hd, hfree, hdone, if_true]

theorem hostFlashErase_ok {c : HostCtx} {o n : Nat} (ho : leAt c.params 0 4 = o) (hn : leAt c.params 4 4 = n) (halign : o % 65536 = 0)
    (hsome : n ≠ 0) (hfree : flashRefusal c o (n * 65536) = none) : hostFlashErase c s = hostAccepted c 0x42 2 (o / 65536) n s := by
  have hgood : ¬ (o % 65536 ≠ 0 ∨ n = 0) := by
    rintro (h | h)
    · exact h halign
    · exact hsome h
  simp only [hostFlashErase, ho, hn]
  rw [if_neg hgood, hfree]

end

/-- Settles O30: each command's function on the state, then its reply. -/
theorem hostSessionCommandsComplete : Obligations.HostSessionCommandsComplete := by
  unfold Obligations.HostSessionCommandsComplete
  refine ⟨fun k s hown => ?_, fun k s hown => ?_, fun k s hown => ?_, fun k s hown => ?_, fun k s hown hone hmost => ?_, fun k s hown => ?_,
    fun k s hown => ?_, fun k s hown hparams => ?_, fun k v s hown hparams => ?_, fun k s hown => ?_, fun k s hown => ?_, fun k s hown => ?_,
    fun k s hown => ?_, fun k s hown => ?_⟩
  · exact ownCommand_replies (.opSessionClose k) rfl hown rfl
  · exact ownCommand_replies (.opPing k) rfl hown rfl
  · have hr : hostList (s.sessionCtx k) s = { status := vOk, state := s, result := (((List.range 1024).filter
        (fun k => (s.sess k).st != 0)).map (sessionEntry s)).flatten } := by simp only [hostList]
    exact ownCommand_replies (.opSessionList k) rfl hown hr
  · exact ownCommand_replies (.opEventSubscribe k) rfl hown rfl
  · have hcount : ¬ (leAt (s.sessionCtx k).params 4 4 = 0 ∨ 128 < leAt (s.sessionCtx k).params 4 4) := by
      rintro (h | h)
      · exact absurd (h ▸ hone) (by decide)
      · exact absurd hmost (not_le.mpr h)
    have hevents : ∃ r, hostEvents (s.sessionCtx k) s = { status := vOk, result := r, state := s } := by
      rw [hostEvents]
      simp only
      rw [if_neg hcount]
      exact ⟨_, rfl⟩
    obtain ⟨r, hr⟩ := hevents
    rw [hr]
    exact ownCommand_replies (.opEventRead k) rfl hown hr
  · exact ownCommand_replies (.opDeviceInfo k) rfl hown rfl
  · exact ownCommand_replies (.opTimeSnap k) rfl hown rfl
  · exact ownCommand_replies (.opRegRead k) rfl hown (hostRegRead_one hparams (by decide) (regRead_ethRate false s))
  · exact ownCommand_replies (.opRegWrite k) rfl hown (hostRegWrite_one hparams (by decide) (regWrite_ethRate v s))
  · intro a n r hone hmost hfree hok
    exact ownCommand_replies (.opMemRead k) rfl hown (hostMemRead_ok rfl rfl rfl hone hmost hfree hok)
  · intro a d r hlen hfree hok
    have hr : ethWrite 0 a d s 4 = (r.1, .ok, r.2.2) := by rw [← hok]
    exact ownCommand_replies (.opMemWrite k) rfl hown (hostMemWrite_ok rfl hlen hfree hr)
  · intro o n hone hmost hend
    exact ownCommand_replies (.opFlashRead k) rfl hown (hostFlashRead_ok rfl rfl hone hmost hend)
  · intro o d r hfree hdone
    exact ownCommand_replies (.opFlashWrite k) rfl hown (hostFlashWrite_ok rfl rfl hfree hdone)
  · intro o n halign hsome hfree
    exact ⟨_, rfl, rfl, rfl, ownCommand_replies (.opFlashErase k) rfl hown (hostFlashErase_ok rfl rfl halign hsome hfree)⟩

end Sys2Proof.Machine
end


/-!
Commands of a session: keys and one-time-programmable storage (O32; 14 R448, R449, R467, R468).
-/
section
namespace Sys2Proof.Machine

section
variable {s : State} {c : HostCtx} {n : Nat}

theorem hostKeyLoad_fits (hn : leAt c.params 0 4 = n) (hone : 1 ≤ n) (hlt : n < 32) (hempty : s.keyValid n = false) :
    hostKeyLoad c s = match c.unwrap 4 with
      | some key => { status := vOk, result := regResult .xcrKcv n 0 (loadKey n key s), state := loadKey n key s }
      | none => refuse vDenied s := by
  have hslot : ¬ (n = 0 ∨ 32 ≤ n) := by omega
  simp only [hostKeyLoad, hn, hempty, Bool.false_eq_true, if_false]
  rw [if_neg hslot]
  cases c.unwrap 4 <;> rfl

theorem hostOpkeyAdd_fits {rights : Nat} (ok : Bool) (hn : leAt c.params 0 4 = n) (hr : leAt c.params 4 4 = rights) (hone : 1 ≤ n) (hlt : n < 16)
    (hrights : rights &&& c.rights = rights) (hfree : (s.opKey n).st = 0) (hotp : s.otpWritable = true) :
    hostOpkeyAdd ok c s = match c.unwrap 8 with
      | some key => if ok then { status := vOk, state := s.setOpKey n { st := 1, key := key, rights := rights } }
          else refuse vDenied (s.setOpKey n { st := 3 })
      | none => refuse vDenied s := by
  have hslot : ¬ (n = 0 ∨ 16 ≤ n) := by omega
  simp only [hostOpkeyAdd, hn, hr, hrights, hfree, hotp, ne_eq, not_true_eq_false, Bool.true_eq_false, or_self, if_false]
  rw [if_neg hslot]
  cases c.unwrap 8 <;> rfl

theorem hostOpkeyRevoke_valid (hn : leAt c.params 0 4 = n) (hone : 1 ≤ n) (hlt : n < 16) (hvalid : (s.opKey n).st = 1)
    (hotp : s.otpWritable = true) : hostOpkeyRevoke c s
      = { status := vOk, state := keyGone n ((s.setOpKey n { s.opKey n with st := 2 }).raise .opkeyRevoked) } := by
  have hslot : ¬ (n = 0 ∨ 16 ≤ n) := by omega
  simp only [hostOpkeyRevoke, hn, hvalid, hotp, ne_eq, not_true_eq_false, Bool.true_eq_false, or_self, if_false]
  rw [if_neg hslot]

theorem hostVkeyWrite_fits (ok : Bool) (hn : leAt c.params 0 4 = n) (hlt : n < 4) (hkey : (c.params.drop 4).take 8 = [0, 0, 0, 7, 0, 0, 0, 4])
    (hfree : s.otp.policy.testBit n = false) (hkept : s.otp.policy.testBit (4 + n) = false) (hgood : s.otp.failed.contains n = false)
    (hotp : s.otpWritable = true) : hostVkeyWrite ok c s =
      if ok then policyReply ({ s with otp := { s.otp with vks := Tab.put [] s.otp.vks n ((c.params.drop 4).map (BitVec.ofNat 8)) } }.setPolicy n)
      else refuse vDenied (s.otpFailed n) := by
  simp only [hostVkeyWrite, hn, not_le.mpr hlt, hkey, hfree, hkept, hgood, hotp, ne_eq, not_true_eq_false, Bool.true_eq_false, Bool.false_eq_true,
    or_self, if_false]

theorem hostVkeyRevoke_valid (hn : leAt c.params 0 4 = n) (hlt : n < 4) (hvalid : s.otp.policy.testBit n = true)
    (hkept : s.otp.policy.testBit (4 + n) = false) (hotp : s.otpWritable = true) :
    hostVkeyRevoke c s = policyReply (s.setPolicy (4 + n)) := by
  simp only [hostVkeyRevoke, hn, not_le.mpr hlt, hvalid, hkept, hotp, Bool.true_eq_false, Bool.false_eq_true, or_self, if_false]

theorem hostFkeyWrite_fits (hn : leAt c.params 0 4 = n) (hlt : n < 4) (hfree : s.otp.policy.testBit (8 + n) = false)
    (hgood : s.otp.failed.contains (4 + n) = false) (hotp : s.otpWritable = true) :
    hostFkeyWrite true c s = match c.unwrap 4 with
      | some key =>
        policyReply ({ s with otp := { s.otp with fks := Tab.put [] s.otp.fks n (key.map (BitVec.ofNat 8)) } }.setPolicy (8 + n))
      | none => refuse vDenied s := by
  simp only [hostFkeyWrite, hn, not_le.mpr hlt, hfree, hgood, hotp, Bool.true_eq_false, Bool.false_eq_true, or_self, if_false]
  cases c.unwrap 4 <;> rfl

theorem hostPolicySet_encryption (hv : leAt c.params 0 4 = 0x10000) (hfree : s.otp.policy.testBit 16 = false) (hotp : s.otpWritable = true) :
    hostPolicySet true c s = policyReply (s.setPolicy 16) := by
  have hvalue : ¬ (0x10000 ≠ 0 ∧ 0x10000 ≠ 0x10000) := by decide
  have hset : ¬ (0x10000 : Nat) = 0 := by decide
  simp only [hostPolicySet, hv, hset, hfree, hotp, ne_eq, not_true_eq_false, not_false_eq_true, and_false, Bool.true_eq_false, Bool.false_eq_true,
    or_self, if_false, if_true]

end

/-- Settles O32: each command's function on the state, then its reply. -/
theorem hostKeyCommandsComplete : Obligations.HostKeyCommandsComplete := by
  unfold Obligations.HostKeyCommandsComplete
  refine ⟨fun k s hown => ?_, fun k s hown => ?_, fun k s hown => ?_, fun k s hown => ?_, fun k s hown => ?_, fun k s hown => ?_,
    fun k s hown => ?_, fun k s hown hv hfree hotp => ?_⟩
  · intro n hone hlt hempty
    have hr := hostKeyLoad_fits (c := s.sessionCtx k) rfl hone hlt hempty
    cases hu : (s.sessionCtx k).unwrap 4 with
    | none =>
      rw [hu] at hr
      exact ownCommand_replies (.opKeyLoad k) rfl hown hr
    | some key =>
      rw [hu] at hr
      exact ownCommand_replies (.opKeyLoad k) rfl hown hr
  · exact ownCommand_replies (.opKeyErase k) rfl hown rfl
  · intro n r hone hlt hrights hfree hotp
    have hr (ok : Bool) := hostOpkeyAdd_fits (c := s.sessionCtx k) ok rfl rfl hone hlt hrights hfree hotp
    cases hu : (s.sessionCtx k).unwrap 8 with
    | none =>
      rw [hu] at hr
      exact ⟨ownCommand_replies (.opOpkeyAdd k true) rfl hown (hr true), ownCommand_replies (.opOpkeyAdd k false) rfl hown (hr false)⟩
    | some key =>
      rw [hu] at hr
      exact ⟨ownCommand_replies (.opOpkeyAdd k true) rfl hown (hr true), ownCommand_replies (.opOpkeyAdd k false) rfl hown (hr false)⟩
  · intro n hone hlt hvalid hotp
    exact ownCommand_replies (.opOpkeyRevoke k) rfl hown (hostOpkeyRevoke_valid rfl hone hlt hvalid hotp)
  · intro n key t hlt hkey hfree hkept hgood hotp
    have hr (ok : Bool) := hostVkeyWrite_fits (c := s.sessionCtx k) ok rfl hlt hkey hfree hkept hgood hotp
    exact ⟨ownCommand_replies (.opVkeyWrite k true) rfl hown (hr true), ownCommand_replies (.opVkeyWrite k false) rfl hown (hr false)⟩
  · intro n hlt hvalid hkept hotp
    exact ownCommand_replies (.opVkeyRevoke k) rfl hown (hostVkeyRevoke_valid rfl hlt hvalid hkept hotp)
  · intro n t hlt hfree hgood hotp
    have hr := hostFkeyWrite_fits (c := s.sessionCtx k) rfl hlt hfree hgood hotp
    cases hu : (s.sessionCtx k).unwrap 4 with
    | none =>
      rw [hu] at hr
      exact ownCommand_replies (.opFkeyWrite k true) rfl hown hr
    | some key =>
      rw [hu] at hr
      exact ownCommand_replies (.opFkeyWrite k true) rfl hown hr
  · exact ownCommand_replies (.opPolicySet k true) rfl hown (hostPolicySet_encryption hv hfree hotp)

end Sys2Proof.Machine
end


/-!
Commands of a session: Sceum's (O33; 15 R489 to R512).
-/
section
namespace Sys2Proof.Machine

/-! ### Accepted commands outlive the events reported -/

section
variable {s : State}

theorem sendVcp_jobs (d : Peer) (b : List Nat) : (s.sendVcp d b).host.jobs = s.host.jobs := by
  simp only [State.sendVcp, State.sendEth, State.drive]
  split
  · split <;> rfl
  · rfl

theorem eventTo_jobs (e : EvEntry) (k : Nat) (own dev : Option (Nat × Nat)) : (eventTo e k own dev s).host.jobs = s.host.jobs := by
  cases own with
  | none => rfl
  | some u =>
    cases dev with
    | none => rfl
    | some v => exact sendVcp_jobs ..

theorem sendEvent_jobs (e : EvEntry) (also : Option Nat) : (sendEvent e also s).host.jobs = s.host.jobs := by
  unfold sendEvent
  refine foldl_keep _ (fun t => t.host.jobs) (fun t k => ?_) _ _
  dsimp only
  split
  · exact eventTo_jobs ..
  · rfl

theorem logEvent_jobs (c o v : Nat) (m : Option (Nat × Nat × Nat × Nat × List Byte)) (a : Option Nat) :
    (s.logEvent c o v m a).host.jobs = s.host.jobs := by
  rw [State.logEvent, sendEvent_jobs]
  rfl

theorem blot_jobs (c v d : Nat) : (s.blot c v d).host.jobs = s.host.jobs := by
  rw [State.blot]
  split
  · rfl
  · dsimp only
    split
    · rfl
    · rw [logEvent_jobs]
      rfl

theorem appendState_jobs (slot : Nat) (r : Nat × Nat × Nat) : (appendState slot r s).host.jobs = s.host.jobs := by
  simp only [appendState]
  split <;> rfl

end

/-! ### What the commands answer -/

section
variable {s : State} {c : HostCtx}

theorem hostSensorReinstate_broken {n : Nat} (hn : leAt c.params 0 4 = n) (hlt : n < 48) (hbroken : s.brokenSensor n = true) :
    hostSensorReinstate c s = scmReply (sensorReinstate n s) := by
  simp only [hostSensorReinstate, hn, not_le.mpr hlt, hbroken, if_false, if_true]

/-- A trip clears its latch while no sensor is at its limit. -/
theorem hostTripClear_cool (htrip : s.bit F.scmStatusTrip = true) (hcool : ∀ c < 48, s.temp c < 1600) :
    hostTripClear c s = scmReply { (s.clear F.scmStatusTrip).blot 0xC01 0 0 with txTripped := false } := by
  have hnone : (List.range 48).any (fun k => decide (1600 ≤ s.temp k)) = false :=
    List.any_eq_false.mpr fun k hk h => absurd (hcool k (List.mem_range.mp hk)) (not_lt.mpr (of_decide_eq_true h))
  simp only [hostTripClear, hnone, htrip, Bool.false_eq_true, if_false, if_true]

theorem bit_clear_blot (f : Fld) (code sev detail : Nat) (h : f.lo ≤ f.hi) (h32 : f.hi ≤ 31)
    (hr : f.reg ≠ .ethErr ∧ f.reg ≠ .ethEvtNext ∧ f.reg ≠ .scmBlotNext ∧ f.reg ≠ .scmBlotDrop ∧ f.reg ≠ .scmErr) :
    ((s.clear f).blot code sev detail).bit f = false := by
  rw [State.bit, get_blot _ _ _ _ _ _ _ hr, State.clear, get_put_lt s f 0 0 h h32 (Nat.two_pow_pos _)]
  rfl

theorem hostSelftestRead_some {n : Nat} (hn : leAt c.params 4 4 = n) (hone : 1 ≤ n) (hmost : n ≤ 512) :
    hostSelftestRead c s = { status := vOk, state := s, result := (nums ((s.scm.results.drop (leAt c.params 0 4)).take n).length 4 ++
        nums s.scm.results.length 4 ++ (((s.scm.results.drop (leAt c.params 0 4)).take n).map failBytes).flatten) } := by
  have hcount : ¬ (n = 0 ∨ 512 < n) := by omega
  simp only [hostSelftestRead, hn]
  rw [if_neg hcount]

theorem hostBlotter_some (hone : 1 ≤ leAt c.params 4 4) (hmost : leAt c.params 4 4 ≤ 256) :
    ∃ r, hostBlotter c s = { status := vOk, result := r, state := s } := by
  have hcount : ¬ (leAt c.params 4 4 = 0 ∨ 256 < leAt c.params 4 4) := by omega
  simp only [hostBlotter]
  rw [if_neg hcount]
  exact ⟨_, rfl⟩

theorem hostFwActivate_refused {slot : Nat} (hslot : leAt c.params 0 4 = slot) (hlt : slot < 2) (hbad : s.fwVerifies slot = false) :
    hostFwActivate c s = refuse vDenied s := by
  simp only [hostFwActivate, hslot, not_le.mpr hlt, hbad, if_false, if_true]

theorem hostFwActivate_accepted {slot : Nat} (hslot : leAt c.params 0 4 = slot) (hlt : slot < 2) (hgood : s.fwVerifies slot = true) :
    ∃ t, hostFwActivate c s = { status := vAccepted, state := t } ∧ t.scm.restartDue = some 1 ∧ t.scm.activating = some slot ∧
      t.host.jobs.length = s.host.jobs.length + 1 := by
  have hrun : ∃ r, hostFwActivate c s = hostAccepted c 0x67 fwObject 0 0
      (((appendState slot r s).blot 0xC05 0 slot).modScm (fun m => { m with restartDue := some 1, activating := some slot })) := by
    simp only [hostFwActivate, hslot, not_le.mpr hlt, hgood, if_false, Bool.true_eq_false]
    exact ⟨_, rfl⟩
  obtain ⟨r, hr⟩ := hrun
  refine ⟨_, hr, rfl, rfl, ?_⟩
  have hjobs : (((appendState slot r s).blot 0xC05 0 slot).modScm
      (fun m => { m with restartDue := some 1, activating := some slot })).host.jobs = s.host.jobs :=
    (blot_jobs ..).trans (appendState_jobs ..)
  exact (congrArg List.length (congrArg (· ++ _) hjobs)).trans List.length_append

theorem hostFwConfirm_trial (htrial : s.bit F.scmFwTrial = true) (hver : s.get F.scmFwSecver ≤ s.otp.fwMin) :
    ∃ t, hostFwConfirm c s = { status := vOk, result := regResult .scmFw 0 0 t, state := t } ∧ t.bit F.scmFwTrial = false ∧ t.otp = s.otp ∧
      t.mem = s.mem := by
  have hraise : decide (s.otp.fwMin < s.get F.scmFwSecver) = false := decide_eq_false (not_lt.mpr hver)
  simp only [hostFwConfirm, htrial, hraise, Bool.false_and, Bool.false_eq_true, Bool.true_eq_false, false_and, if_false]
  refine ⟨_, rfl, bit_clear_blot _ _ _ _ (by decide) (by decide) (by decide), ?_, ?_⟩
  · rw [blot_otp]
    simp only [State.clear, put_otp, appendState]
    split <;> rfl
  · rw [blot_mem]
    simp only [State.clear, put_mem, (appendState_untouched _ _ s).1]

theorem filter_testBit_two_pow {n : Nat} (hn : n < 128) : (List.range 128).filter (fun m => (2 ^ n).testBit m) = [n] := by
  have hbit : (fun m => (2 ^ n).testBit m) = fun m => m == n := by
    funext m
    rw [Nat.testBit_two_pow]
    exact decide_eq_decide.mpr eq_comm
  rw [hbit, List.filter_beq, List.count_eq_one_of_mem List.nodup_range (List.mem_range.mpr hn), List.replicate_one]

/-- The image of one HELD core. -/
theorem hostQuillLoad_one {n a il dl : Nat} {r : MemResult} (hn : n < 128) (hmask : leAt c.params 0 16 = 2 ^ n) (ha : leAt c.params 16 8 = a)
    (hil : leAt c.params 24 4 = il) (hdl : leAt c.params 28 4 = dl) (hr : ethRead .host [] false a (il + dl) s ((il + dl) / 4096 + 2) = r)
    (hilMost : il ≤ 32768) (hdlMost : dl ≤ 32768) (hfree : memRefusal a = none) (hheld : s.qSt n = .held) (hok : r.status = .ok)
    (hwait : leAt c.params 32 4 = 0) :
    hostQuillLoad c s = { status := vOk, result := nums (2 ^ n) 16, state := (coreImage (0x20000000 + 0x10000 * n + 0x8000) (r.data.drop il) <|
      coreImage (0x20000000 + 0x10000 * n) (r.data.take il) r.state) } := by
  have hlens : ¬ (32768 < il ∨ 32768 < dl) := by omega
  have hrelease : (0 : Nat).testBit 0 = false := rfl
  have hall : ([n] : List Nat).any (fun m => s.qSt m != .held) = false := by
    rw [List.any_cons, hheld, List.any_nil]
    rfl
  simp only [hostQuillLoad, hmask, ha, hil, hdl, hwait, filter_testBit_two_pow hn]
  rw [if_neg hlens, hfree]
  simp only [hall, hr, hok, hrelease, Bool.false_eq_true, if_false, List.foldl_cons, List.foldl_nil]

theorem takeLeaf_open {b : Nat} (hb : s.scm.leafBlock = some b) :
    ∃ leaf t, takeLeaf s = (some leaf, t) ∧ t.get F.scmLeafLeaves = (s.get F.scmLeafLeaves + 1) % 2 ^ 10 ∧ t.host = s.host ∧ t.mem = s.mem := by
  have hcount : (s.put F.scmLeafLeaves (s.get F.scmLeafLeaves + 1)).get F.scmLeafLeaves = (s.get F.scmLeafLeaves + 1) % 2 ^ 10 :=
    get_put_same s F.scmLeafLeaves _ 0 0 (by decide) (by decide)
  simp only [takeLeaf, hb]
  refine ⟨_, _, rfl, ?_⟩
  split
  · exact ⟨hcount, rfl, rfl⟩
  · exact ⟨hcount, rfl, rfl⟩

theorem attestReport_magic (leaf : Nat) (nonce : List Nat) : ∃ rest, attestReport leaf nonce s = nums 0xB5F0A770 4 ++ rest := by
  simp only [attestReport, List.append_assoc]
  exact ⟨_, rfl⟩

/-- An attestation takes the next leaf of the open block. -/
theorem hostAttest_open {b : Nat} {u : Nat × Nat} (hb : s.scm.leafBlock = some b) (hu : spend 10 10 s.pt s.host.signUse = some u) :
    ∃ result t, hostAttest c s = { status := vOk, result := result, state := t } ∧
      t.get F.scmLeafLeaves = (s.get F.scmLeafLeaves + 1) % 2 ^ 10 ∧ t.host.signUse = u ∧ t.mem = s.mem ∧ result.take 4 = nums 0xB5F0A770 4 := by
  obtain ⟨leaf, t, hleaf, hleaves, -, hmem⟩ := takeLeaf_open hb
  obtain ⟨rest, hreport⟩ := attestReport_magic (s := t) leaf c.params
  have hopen : ¬ (s.scm.leafBlock = none ∧ s.get F.scmLeafBlocks ≠ 0 ∧ s.otpWritable = false) := fun h => absurd (hb.symm.trans h.1) (by simp)
  suffices key : ∀ g, g = hostAttest → ∃ result t, g c s = { status := vOk, result := result, state := t } ∧
      t.get F.scmLeafLeaves = (s.get F.scmLeafLeaves + 1) % 2 ^ 10 ∧ t.host.signUse = u ∧ t.mem = s.mem ∧
      result.take 4 = nums 0xB5F0A770 4 from key _ rfl
  intro g hg
  delta hostAttest at hg
  have e := congrFun (congrFun hg c) s
  beta_reduce at e
  rw [hu, hleaf] at e
  dsimp only at e
  rw [if_neg hopen, hreport, List.append_assoc] at e
  exact ⟨_, _, e, hleaves, rfl, hmem, List.take_left' (nums_length _ _)⟩

end

/-- Settles O33: each command's function on the state, then its reply. -/
theorem hostSceumCommandsComplete : Obligations.HostSceumCommandsComplete := by
  unfold Obligations.HostSceumCommandsComplete
  refine ⟨fun k s hown => ?_, fun k s hown hlt hbroken => ?_, fun k s hown htrip hcool => ?_, fun k s hown => ?_, fun k s hown => ?_,
    fun k s hown => ?_, fun k s hown hone hmost => ?_, fun k s hown hlt => ?_, fun k s hown htrial hver => ?_, fun k s hown => ?_,
    fun k n s hown => ?_, fun k b u s hown hb hu => ?_, fun k s hown => ?_⟩
  · exact ownCommand_replies (.opSensorRead k) rfl hown rfl
  · exact ownCommand_replies (.opSensorReinstate k) rfl hown (hostSensorReinstate_broken rfl hlt hbroken)
  · exact ⟨_, ownCommand_replies (.opTripClear k) rfl hown (hostTripClear_cool htrip hcool),
      bit_clear_blot F.scmStatusTrip _ _ _ (by decide) (by decide) (by decide), blot_mem ..⟩
  · exact ownCommand_replies (.opCalRead k) rfl hown rfl
  · intro n due hone hmost
    exact ownCommand_replies (.opSelftestRead k) rfl hown (hostSelftestRead_some rfl hone hmost)
  · exact ⟨_, rfl, ownCommand_replies (.opRepairApply k) rfl hown rfl⟩
  · obtain ⟨r, hr⟩ := hostBlotter_some (s := s) (c := s.sessionCtx k) hone hmost
    rw [hr]
    exact ownCommand_replies (.opBlotterRead k) rfl hown hr
  · refine ⟨fun hgood => ?_, fun hbad => ownCommand_replies (.opFwActivate k) rfl hown (hostFwActivate_refused rfl hlt hbad)⟩
    obtain ⟨t, hr, hdue, hactivating, hjobs⟩ := hostFwActivate_accepted (c := s.sessionCtx k) rfl hlt hgood
    exact ⟨t, ownCommand_replies (.opFwActivate k) rfl hown hr, hdue, hactivating, hjobs⟩
  · obtain ⟨t, hr, hbit, hotp, hmem⟩ := hostFwConfirm_trial (c := s.sessionCtx k) htrial hver
    exact ⟨t, ownCommand_replies (.opFwConfirm k) rfl hown hr, hbit, hotp, hmem⟩
  · exact ownCommand_replies (.opFwStatus k) rfl hown rfl
  · intro p a il dl r hn hmask hil hdl hfree hheld hok hwait
    exact ownCommand_replies (.opQuillLoad k) rfl hown (hostQuillLoad_one hn hmask rfl rfl rfl rfl hil hdl hfree hheld hok hwait)
  · obtain ⟨result, t, hr, hleaves, huse, hmem, hmagic⟩ := hostAttest_open (c := s.sessionCtx k) hb hu
    exact ⟨result, t, ownCommand_replies (.opAttest k) rfl hown hr, hleaves, huse, hmem, hmagic⟩
  · exact ownCommand_replies (.opIdentity k) rfl hown rfl

end Sys2Proof.Machine
end


/-!
A round of housekeeping (15 R486 to R490): what it leaves of the channels' values and of the count of rounds.
-/
section
namespace Sys2Proof.Machine

/-- What the conversions of a round show of a channel, and the count of rounds. -/
def hkShown (c : Nat) (s : State) : Word × Nat := (s.word .scmCh c, s.scm.round)

/-! ### What leaves them alone -/

section
variable {s : State} (c : Nat)

theorem hkShown_put (f : Fld) (v i j : Nat) (h : RegName.scmCh ≠ f.reg) : hkShown c (s.put f v i j) = hkShown c s := by
  rw [hkShown, word_put_other s f v i j .scmCh c 0 h]
  rfl

theorem eventFrame_hkShown : EventFrame (hkShown c) where
  emit _ _ := rfl
  host _ _ := rfl
  log _ _ := rfl
  put s f v h := by
    refine hkShown_put c f v 0 0 ?_
    intro e
    rw [← e] at h
    revert h
    decide

theorem hkShown_raise (e : Ev) (o v : Nat) : hkShown c (s.raise e o v) = hkShown c s := (eventFrame_hkShown c).raise s e o v

theorem hkShown_releasePins (bank : Nat → Bool) : hkShown c (releasePins bank s) = hkShown c s := by
  unfold releasePins
  refine (foldl_keep _ (hkShown c) (fun t e => ?_) _ _).trans rfl
  simp only [showPin, State.drive]
  split <;> rfl

theorem hkShown_iobCheck (n : Nat) : hkShown c (iobCheck n s) = hkShown c s := by
  unfold iobCheck
  extract_lets std was t high u
  have ht : hkShown c t = hkShown c s := by simp (disch := decide) only [t, State.clear, hkShown_put]
  have hu : hkShown c u = hkShown c s := by simp (disch := decide) only [u, State.putBit, hkShown_put, ht]
  clear_value t u
  split
  · split
    · exact (hkShown_put c _ _ _ _ (by decide)).trans hu
    · split
      · exact (hkShown_put c _ _ _ _ (by decide)).trans hu
      · exact (hkShown_raise c _ _ _).trans ((hkShown_put c _ _ _ _ (by decide)).trans hu)
  · exact ht

theorem hkShown_iobFollow (n : Nat) : hkShown c (iobFollow n s) = hkShown c s := by
  simp only [iobFollow]
  split
  · split
    · exact hkShown_iobCheck c n
    · exact (hkShown_releasePins c _).trans (hkShown_iobCheck c n)
  · rfl

theorem hkShown_takeVccio : hkShown c (takeVccio s) = hkShown c s := by
  unfold takeVccio
  refine foldl_keep _ (hkShown c) (fun t n => ?_) _ s
  rw [State.putBit]
  exact hkShown_put c F.fabIobStatusVccio18 _ n 0 (by decide)

theorem hkShown_modScm (f : ScmSt → ScmSt) (h : (f s.scm).round = s.scm.round) : hkShown c (s.modScm f) = hkShown c s := Prod.ext rfl h

theorem hkShown_takeHistory : hkShown c (takeHistory s) = hkShown c s := by
  unfold takeHistory
  exact hkShown_modScm c _ rfl

theorem hkShown_windowCut (n : Nat) : hkShown c (windowCut n s) = hkShown c s := by
  simp only [windowCut]
  split
  · simp only [nextTarget]
    split
    · exact (hkShown_put c F.qcShstatTarget _ _ 0 (by decide)).trans (hkShown_put c F.qcShstatChecking 0 (n / 8) 0 (by decide))
    · exact hkShown_put c F.qcShstatChecking 0 (n / 8) 0 (by decide)
  · rfl

theorem hkShown_completeItem (slot status result : Nat) : hkShown c (completeItem slot status result s) = hkShown c s := by
  simp only [completeItem]
  split
  · split
    · exact hkShown_put c F.qcCntItems _ _ 0 (by decide)
    · rfl
  · rfl

theorem hkShown_returnItem (slot : Nat) : hkShown c (returnItem slot s) = hkShown c s := by
  simp only [returnItem]
  split <;> rfl

theorem hkShown_showNoItem (n : Nat) : hkShown c (showNoItem n s) = hkShown c s := by
  simp (disch := decide) only [showNoItem, hkShown_put]

theorem hkShown_discardWork (n running preempted : Nat) : hkShown c (discardWork n running preempted s) = hkShown c s := by
  unfold discardWork
  dsimp only
  rw [hkShown_showNoItem]
  repeat' split
  all_goals simp only [hkShown_completeItem, hkShown_returnItem]

theorem hkShown_resetCore (n : Nat) : hkShown c (resetCore n s) = hkShown c s := by
  have hloads : hkShown c (dropLoads n s) = hkShown c s := by
    simp only [dropLoads]
    split <;> rfl
  exact Eq.trans rfl hloads

theorem hkShown_modCore (n : Nat) (f : CoreSt → CoreSt) : hkShown c (s.modCore n f) = hkShown c s := rfl

theorem hkShown_quillPowerDown (g : Nat) : hkShown c (quillPowerDown g s) = hkShown c s := by
  unfold quillPowerDown
  refine foldl_keep _ (hkShown c) (fun t k => ?_) _ s
  have hcut : hkShown c (resetCore (8 * g + k) (discardWork (8 * g + k) 2 2 (windowCut (8 * g + k) t))) = hkShown c t := by
    rw [hkShown_resetCore, hkShown_discardWork, hkShown_windowCut]
  dsimp only
  generalize resetCore (8 * g + k) (discardWork (8 * g + k) 2 2 (windowCut (8 * g + k) t)) = u at hcut
  split
  · rw [hkShown_modCore, State.clear, hkShown_put c _ _ _ _ (by decide), hcut]
  · rw [State.setQSt, hkShown_put c _ _ _ _ (by decide), hkShown_modCore, State.clear, hkShown_put c _ _ _ _ (by decide), hcut]

theorem hkShown_domainOff_quill (g : Fin 16) : hkShown c (domainOff (.quill g) s).1 = hkShown c s := by
  unfold domainOff
  dsimp only
  repeat' split
  all_goals first
    | rfl
    | exact (hkShown_quillPowerDown c _).trans rfl

theorem hkShown_beginStop (n : Nat) (why : StopFor) : hkShown c (beginStop n why s) = hkShown c s := by
  have hregs : hkShown c (((dropRewrites n s).setHoopSt n .stopping).clear F.fabHoopStatusIdle n) = hkShown c s := by
    simp (disch := decide) only [State.clear, State.setHoopSt, hkShown_put]
    rfl
  exact Eq.trans rfl hregs

theorem hkShown_hoopStop (n : Nat) : hkShown c (hoopStop n s).1 = hkShown c s := by
  unfold hoopStop
  split
  · exact Eq.trans rfl (hkShown_put c F.fabHoopStatusPendingEnable 0 n 0 (by decide))
  · exact hkShown_put c F.fabCtxErrCmdRefused 1 0 0 (by decide)
  · exact hkShown_beginStop c n .command
  · exact hkShown_beginStop c n .command
  all_goals rfl

theorem hkShown_alarmResponse : hkShown c (alarmResponse s) = hkShown c s := by
  unfold alarmResponse
  split
  · rfl
  · refine (foldl_keep _ (hkShown c) (fun t g => ?_) _ _).trans (foldl_keep _ (hkShown c) (fun t n => ?_) _ s)
    · split
      · exact hkShown_domainOff_quill c _
      · rfl
    · split
      · exact hkShown_hoopStop c n
      · rfl

theorem hkShown_hkCheck (i rounds : Nat) (cond : Option Nat) (clear : Bool) : hkShown c (hkCheck i rounds cond clear s).2 = hkShown c s := by
  unfold hkCheck
  dsimp only
  repeat' split
  all_goals rfl

theorem hkShown_hkEnter (r : Bool × State) (err : Fld) (e : Ev) (ch : Option Nat) (alarm : Bool) (h : RegName.scmCh ≠ err.reg) :
    hkShown c (hkEnter r err e ch alarm) = hkShown c r.2 := by
  have hraised : hkShown c ((r.2.flag err).raise e 0 (ch.getD 0)) = hkShown c r.2 := (hkShown_raise c ..).trans (hkShown_put c err 1 0 0 h)
  unfold hkEnter
  dsimp only
  split
  · split
    · exact (hkShown_alarmResponse c).trans hraised
    · exact hraised
  · rfl

theorem hkShown_limitChecks : hkShown c (limitChecks s) = hkShown c s := by
  unfold limitChecks
  dsimp only
  simp (disch := decide) only [State.putBit, hkShown_put, hkShown_hkEnter, hkShown_hkCheck]

theorem hkShown_tripCheck : hkShown c (tripCheck s) = hkShown c s := by
  unfold tripCheck
  split
  · split
    · rfl
    · refine Eq.trans rfl ((hkShown_raise c _ _ _).trans ?_)
      simp (disch := decide) only [State.flag, hkShown_put]
  · rfl

theorem hkShown_setBroken (k : Nat) (b : Bool) : hkShown c (s.setBroken k b) = hkShown c s := by
  simp only [State.setBroken]
  rw [hkShown_put c _ _ _ _ (by decide)]
  split
  · exact hkShown_put c F.scmBrokenLoVal _ 0 0 (by decide)
  · exact hkShown_put c F.scmBrokenHiVal _ 0 0 (by decide)

theorem hkShown_crossCheck : hkShown c (crossCheck s) = hkShown c s := by
  unfold crossCheck
  dsimp only
  split
  · rfl
  · rw [hkShown_raise, State.flag, hkShown_put c _ _ _ _ (by decide)]
    exact (foldl_keep _ (hkShown c) (fun t k => hkShown_setBroken c k true) _ _).trans rfl

theorem hkShown_compensate : hkShown c (compensate s) = hkShown c s := by
  simp only [compensate]
  split <;> rfl

end

/-! ### The values of a round -/

section
variable {s : State} {c : Nat}

/-- What a round takes a channel's value from. -/
def hkTaken (c : Nat) (s : State) : ScmSt × Bool := (s.scm, s.brokenSensor c)

theorem hkTaken_put (f : Fld) (v i j : Nat) (hlo : RegName.scmBrokenLo ≠ f.reg) (hhi : RegName.scmBrokenHi ≠ f.reg) :
    hkTaken c (s.put f v i j) = hkTaken c s := by
  have hbroken : (s.put f v i j).brokenSensor c = s.brokenSensor c := by
    rw [State.brokenSensor, State.brokenSensor, get_put_other_reg s f F.scmBrokenLoVal v i j 0 0 hlo,
      get_put_other_reg s f F.scmBrokenHiVal v i j 0 0 hhi]
  exact Prod.ext rfl hbroken

theorem hkTaken_halve (v : Int) : hkTaken c (halve v s).2 = hkTaken c s := by
  simp only [halve]
  split <;> rfl

theorem hkTaken_takeValue (k : Nat) : hkTaken c (takeValue k s) = hkTaken c s := by
  simp only [takeValue, State.clear, State.flag]
  split
  · split
    · simp (disch := decide) only [hkTaken_put, hkTaken_halve]
    · simp (disch := decide) only [hkTaken_put]
  · simp (disch := decide) only [hkTaken_put]

theorem takeValue_other {k : Nat} (hc : c < 48) (hk : k < 128) (h : k ≠ c) : (takeValue k s).get F.scmChValue c = s.get F.scmChValue c := by
  have hkey (f : Fld) (hf : f.reg = .scmCh) (v : Nat) (t : State) : (t.put f v k).get F.scmChValue c = t.get F.scmChValue c := by
    refine get_put_other_index t f F.scmChValue v k 0 c 0 fun e => h ?_
    rw [hf] at e
    exact (regKey_inj (by omega) (by omega) (by omega) (by omega) e).2.1.symm
  have hhalve (v : Int) : (halve v s).2.get F.scmChValue c = s.get F.scmChValue c := by
    simp only [halve]
    split <;> rfl
  simp only [takeValue, State.clear, State.flag]
  split
  · split
    · rw [hkey _ rfl, hkey _ rfl, hhalve]
    · exact get_put_other_reg s F.scmStatusBlind F.scmChValue 1 0 0 c 0 (by decide)
  · rw [hkey _ rfl, hkey _ rfl]

theorem takeValue_same (hgood : s.brokenSensor c = false) : (takeValue c s).get F.scmChValue c = Tab.get 0 s.scm.raw c % 2 ^ 16 := by
  simp only [takeValue, hgood, Bool.false_eq_true, and_false, if_false]
  rw [State.clear, get_put_other_bits _ F.scmChReplaced F.scmChValue 0 c 0 rfl (by decide) (by decide) (by decide)]
  exact get_put_same s F.scmChValue _ c 0 (by decide) (by decide)

/-- The values of a list of channels that is taken in: those of a sensor that is not broken are its readings. -/
theorem takeValues_reading (l : List Nat) (hl : ∀ k ∈ l, k < 128) (hc : c < 48) :
    ∀ s : State, s.brokenSensor c = false → (s.get F.scmChValue c = Tab.get 0 s.scm.raw c % 2 ^ 16 ∨ c ∈ l) →
      (l.foldl (fun s k => takeValue k s) s).get F.scmChValue c = Tab.get 0 s.scm.raw c % 2 ^ 16 := by
  induction l with
  | nil => exact fun s hgood h => h.resolve_right List.not_mem_nil
  | cons k l ih =>
    intro s hgood h
    have htaken := hkTaken_takeValue (s := s) (c := c) k
    have hscm : (takeValue k s).scm = s.scm := congrArg Prod.fst htaken
    have hgood' : (takeValue k s).brokenSensor c = false := (congrArg Prod.snd htaken).trans hgood
    have hnext : (takeValue k s).get F.scmChValue c = Tab.get 0 (takeValue k s).scm.raw c % 2 ^ 16 ∨ c ∈ l := by
      rw [hscm]
      by_cases hk : k = c
      · subst hk
        exact Or.inl (takeValue_same hgood)
      · rw [takeValue_other hc (hl k List.mem_cons_self) hk]
        exact h.imp_right fun hmem => (List.mem_cons.mp hmem).resolve_left (Ne.symm hk)
    rw [List.foldl_cons, ih (fun x hx => hl x (List.mem_cons_of_mem k hx)) _ hgood' hnext, hscm]

theorem hkShown_get {t : State} (h : hkShown c t = hkShown c s) : t.get F.scmChValue c = s.get F.scmChValue c :=
  get_of_word F.scmChValue c 0 (congrArg Prod.fst h)

/-- A round takes in the reading of each sensor that is not broken. -/
theorem takeRound_reading (hc : c < 48) (hgood : s.brokenSensor c = false) :
    (takeRound s).get F.scmChValue c = Tab.get 0 s.scm.raw c % 2 ^ 16 := by
  have hstart : hkTaken c (s.clear F.scmStatusBlind) = hkTaken c s := hkTaken_put F.scmStatusBlind 0 0 0 (by decide) (by decide)
  have hvalues := takeValues_reading (List.range 128) (fun k hk => List.mem_range.mp hk) hc (s.clear F.scmStatusBlind)
    ((congrArg Prod.snd hstart).trans hgood) (Or.inr (List.mem_range.mpr (by omega)))
  unfold takeRound
  generalize (List.range 128).foldl (fun s c => takeValue c s) (s.clear F.scmStatusBlind) = t at hvalues
  have hshown : hkShown c ((List.range 13).foldl (fun s n => iobFollow n s) (takeVccio t)) = hkShown c t :=
    (foldl_keep _ (hkShown c) (fun t n => hkShown_iobFollow c n) _ _).trans (hkShown_takeVccio c)
  exact (hkShown_get hshown).trans hvalues

theorem takeRound_round : (takeRound s).scm.round = s.scm.round := by
  have hvalues : ((List.range 128).foldl (fun s c => takeValue c s) (s.clear F.scmStatusBlind)).scm = s.scm :=
    foldl_keep _ (fun t => t.scm) (fun t k => congrArg Prod.fst (hkTaken_takeValue (s := t) (c := 0) k)) _ _
  unfold takeRound
  generalize (List.range 128).foldl (fun s c => takeValue c s) (s.clear F.scmStatusBlind) = t at hvalues
  have hshown : hkShown 0 ((List.range 13).foldl (fun s n => iobFollow n s) (takeVccio t)) = hkShown 0 t :=
    (foldl_keep _ (hkShown 0) (fun t n => hkShown_iobFollow 0 n) _ _).trans (hkShown_takeVccio 0)
  exact (congrArg Prod.snd hshown).trans (congrArg ScmSt.round hvalues)

/-- What follows the taking in of values changes neither them nor the count of rounds. -/
theorem hkShown_checks (c : Nat) : hkShown c (compensate (crossCheck (tripCheck (limitChecks (takeHistory s))))) = hkShown c s := by
  rw [hkShown_compensate, hkShown_crossCheck, hkShown_tripCheck, hkShown_limitChecks, hkShown_takeHistory]

/-- The end of a round of housekeeping. -/
theorem hkRoundEnd_takes (hclk : s.mgmtClocked = true) (hfull : s.scm.next = 128) :
    ∃ t, exec .hkRoundEnd s = .next t ∧ t.scm.next = 0 ∧ t.scm.round = s.scm.round + 1 ∧ t.scm.raw = [] ∧
      (∀ c, c < 48 → s.brokenSensor c = false → t.get F.scmChValue c = Tab.get 0 s.scm.raw c % 2 ^ 16) := by
  have hexec : exec .hkRoundEnd s = .next ((compensate (crossCheck (tripCheck (limitChecks (takeHistory (takeRound s)))))).modScm
      (fun m => { m with next := 0, round := m.round + 1, raw := [] })) := by
    change execHkRoundEnd s = _
    simp only [execHkRoundEnd, whenClocked, hclk, hfull, if_true]
  have hround : (compensate (crossCheck (tripCheck (limitChecks (takeHistory (takeRound s)))))).scm.round = s.scm.round :=
    (congrArg Prod.snd (hkShown_checks 0)).trans takeRound_round
  have hvalue (c : Nat) : (compensate (crossCheck (tripCheck (limitChecks (takeHistory (takeRound s)))))).get F.scmChValue c
      = (takeRound s).get F.scmChValue c := hkShown_get (hkShown_checks c)
  generalize compensate (crossCheck (tripCheck (limitChecks (takeHistory (takeRound s))))) = t at hexec hround hvalue
  exact ⟨_, hexec, rfl, congrArg (· + 1) hround, rfl, fun c hc hgood => (hvalue c).trans (takeRound_reading hc hgood)⟩

end

end Sys2Proof.Machine
end


/-!
Commands that Sceum's restart ends (15 R481, R482), and a fabric that returns to reset (15 R489).
-/
section
namespace Sys2Proof.Machine

/-! ### What a restart shows, through the ends of the commands it aborts -/

/-- What a restart of Sceum leaves: whether the firmware runs, whether the boot ROM or another restart is due. -/
def bootShown (s : State) : Word × Bool × Option Nat := (s.word .scmStatus, s.scm.bootDue, s.scm.restartDue)

section
variable {s : State}

theorem bootShown_put (f : Fld) (v i j : Nat) (h : RegName.scmStatus ≠ f.reg) : bootShown (s.put f v i j) = bootShown s := by
  rw [bootShown, word_put_other s f v i j .scmStatus 0 0 h]
  rfl

theorem eventFrame_bootShown : EventFrame bootShown where
  emit _ _ := rfl
  host _ _ := rfl
  log _ _ := rfl
  put s f v h := by
    refine bootShown_put f v 0 0 ?_
    intro e
    rw [← e] at h
    revert h
    decide

theorem bootShown_raise (e : Ev) (o v : Nat) : bootShown (s.raise e o v) = bootShown s := eventFrame_bootShown.raise s e o v

theorem bootShown_sendAll (d : Peer) (ps : List (List Nat)) : bootShown (sendAll d ps s) = bootShown s :=
  foldl_keep _ bootShown (fun t p => eventFrame_bootShown.sendVcp t d p) ps s

theorem bootShown_streamOver (x : Stream) (status : Nat) : bootShown (streamOver x status s) = bootShown s := by
  simp only [streamOver]
  split
  · exact Eq.trans rfl (bootShown_put F.ethSendStatEnded _ 0 0 (by decide))
  · exact bootShown_put F.ethSendStatEnded _ 0 0 (by decide)

theorem bootShown_endSession (k : Nat) : bootShown (endSession k s) = bootShown s := by
  have hdrop (id : Nat) : bootShown (dropStreams id s) = bootShown s :=
    (foldl_keep _ bootShown (fun t x => bootShown_streamOver (s := t) x 1) _ _).trans rfl
  unfold endSession
  extract_lets t u
  have ht : bootShown t = bootShown s := by
    simp only [t]
    split
    · rfl
    · exact hdrop _
  exact Eq.trans rfl ht

theorem bootShown_storeReply (k status : Nat) (result : List Nat) : bootShown (storeReply k status result s) = bootShown s := by
  unfold storeReply
  extract_lets c ps t u v
  have hv : bootShown v = bootShown s := Eq.trans rfl (bootShown_sendAll c.peer ps)
  clear_value v ps t u
  split
  · exact (bootShown_endSession k).trans hv
  · exact hv

theorem bootShown_setPair (lo hi : RegName) (v : Nat) (hlo : RegName.scmStatus ≠ lo) (hhi : RegName.scmStatus ≠ hi) :
    bootShown (s.setPair lo hi v) = bootShown s := by
  rw [bootShown, State.setPair, word_setWord_other _ _ _ _ _ _ _ _ hhi, word_setWord_other _ _ _ _ _ _ _ _ hlo]
  rfl

theorem bootShown_bootDone : bootShown (bootDone s) = bootShown s := by
  have hdone : bootShown (s.flag F.sysStatusLoaderDone) = bootShown s := bootShown_put _ 1 0 0 (by decide)
  simp only [bootDone]
  split
  · rw [bootShown_setPair _ _ _ (by decide) (by decide), bootShown_put _ _ _ _ (by decide), hdone]
  · exact hdone

theorem bootShown_hoopIncomplete (n : Nat) : bootShown (hoopIncomplete n s) = bootShown s := by
  simp only [hoopIncomplete]
  split
  · rfl
  · simp (disch := decide) only [enterIncomplete, State.clear, State.flag, State.setHoopSt, bootShown_put]
    rfl

theorem bootShown_startLoad (src kind hoop : Nat) (powerOn fallback host : Bool) :
    bootShown (startLoad src kind hoop powerOn fallback host s) = bootShown s := by
  unfold startLoad
  extract_lets d place t u
  have ht : bootShown t = bootShown s := by simp (disch := decide) only [t, bootShown_put]
  have hu : bootShown u = bootShown s := by
    simp only [u]
    split
    · exact (bootShown_put F.cfgStatusHoop hoop 0 0 (by decide)).trans ht
    · exact ht
  exact Eq.trans rfl hu

theorem bootShown_loadFail (code ofs frame : Nat) : bootShown (loadFail code ofs frame s) = bootShown s := by
  unfold loadFail
  extract_lets header golden atPower again t u v idle idle'
  have hu : bootShown u = bootShown s := by
    simp (disch := decide) only [u, t, State.flag, bootShown_raise, bootShown_put]
  have hv : bootShown v = bootShown s := by
    simp only [v, loadEnded]
    split
    · exact Eq.trans rfl hu
    · exact hu
  have hidle : bootShown idle = bootShown s := Eq.trans rfl ((bootShown_put F.cfgStatusState 0 0 0 (by decide)).trans hv)
  have hidle' : bootShown idle' = bootShown s := by
    simp only [idle']
    split
    · exact bootShown_bootDone.trans hidle
    · exact hidle
  clear_value header golden atPower again u v idle'
  repeat' split
  · exact hidle'
  · exact (bootShown_hoopIncomplete _).trans hidle'
  · exact hidle'
  · exact (bootShown_raise _ _ _).trans ((bootShown_put F.cfgErrNoFolio 1 0 0 (by decide)).trans hidle')
  · exact hidle'
  · exact hidle'
  · rw [bootShown_startLoad, bootShown_raise, State.flag, bootShown_put _ _ _ _ (by decide), bootShown_put _ _ _ _ (by decide), hv]

theorem bootShown_loadCancel : bootShown (loadCancel s) = bootShown s := by
  unfold loadCancel
  split
  · rfl
  · exact bootShown_loadFail ..

theorem bootShown_eraseSectors (first n : Nat) : bootShown (eraseSectors first n s) = bootShown s := by
  unfold eraseSectors
  refine foldl_keep _ bootShown (fun t i => ?_) _ s
  rfl

theorem bootShown_cascSend (typ dst tag : Nat) (body : List Nat) : bootShown (cascSend typ dst tag body s) = bootShown s := by
  simp only [cascSend]
  split
  · rfl
  · exact bootShown_put F.cascErrProtocol 1 0 0 (by decide)

theorem bootShown_jobOver (j : Job) (status : Nat) (result : List Nat) : bootShown (jobOver j status result s) = bootShown s := by
  simp only [jobOver]
  split
  · rw [eventFrame_bootShown.blot, eventFrame_bootShown.logEvent]
    rfl
  · exact (bootShown_cascSend ..).trans rfl

theorem bootShown_abortJob (j : Job) : bootShown (abortJob s j) = bootShown s := by
  simp only [abortJob]
  split
  · rfl
  · rw [bootShown_jobOver]
    split
    · exact Eq.trans rfl bootShown_loadCancel
    · split
      · have herase := bootShown_eraseSectors (s := (s.fresh 16).2) j.first ((s.fresh 16).1 % max 1 j.count)
        exact Eq.trans rfl (herase.trans rfl)
      · rfl

theorem bootShown_abortCommands : bootShown (abortCommands s) = bootShown s := by
  unfold abortCommands
  exact (foldl_keep _ bootShown (fun t j => bootShown_abortJob j) _ _).trans
    (foldl_keep _ bootShown (fun t k => bootShown_storeReply k _ _) _ s)

/-- A restart that no debugger holds up: the firmware stops, the boot ROM is due and no other restart. -/
theorem restartSceum_shown (cause : Nat) (hrun : s.dbg.sceumHalted = false) :
    (restartSceum cause s).sceumRuns = false ∧ (restartSceum cause s).scm.bootDue = true ∧ (restartSceum cause s).scm.restartDue = none := by
  have hshown : bootShown (restartSceum cause s) = bootShown ((s.clear F.scmStatusRunning).modScm (fun m =>
      { m with bootDue := true, inRom := false, restartDue := none, baud := 115200 })) := by
    unfold restartSceum
    rw [hrun]
    exact (bootShown_raise _ _ _).trans bootShown_abortCommands
  have hstopped : (s.clear F.scmStatusRunning).get F.scmStatusRunning = 0 := get_put_lt s _ 0 0 (by decide) (by decide) (by decide)
  refine ⟨?_, congrArg (fun p => p.2.1) hshown, congrArg (fun p => p.2.2) hshown⟩
  have hget : (restartSceum cause s).get F.scmStatusRunning = 0 :=
    (get_of_word F.scmStatusRunning 0 0 (congrArg Prod.fst hshown)).trans hstopped
  rw [State.sceumRuns, State.bit, hget]
  rfl

/-! ### The fabric in reset -/

theorem ctrl_put (f : Fld) (v i j : Nat) (h : RegName.fabCtrl ≠ f.reg) : (s.put f v i j).word .fabCtrl = s.word .fabCtrl :=
  word_put_other s f v i j .fabCtrl 0 0 h

theorem ctrl_releasePins (bank : Nat → Bool) : (releasePins bank s).word .fabCtrl = s.word .fabCtrl := by
  unfold releasePins
  refine (foldl_keep _ (fun t => t.word .fabCtrl) (fun t e => ?_) _ _).trans rfl
  simp only [showPin, State.drive]
  split <;> rfl

theorem ctrl_clearArrays (region : Nat) : (clearArrays region s).word .fabCtrl = s.word .fabCtrl := rfl

theorem ctrl_clearRanks (region : Nat) : (clearRanks region s).word .fabCtrl = s.word .fabCtrl := rfl

theorem ctrl_resetHoop (n : Nat) : (resetHoop n s).word .fabCtrl = s.word .fabCtrl :=
  Eq.trans rfl (ctrl_put F.fabHoopStatusIdle 0 n 0 (by decide))

theorem ctrl_hoopPowerDown (n : Nat) : (hoopPowerDown n s).word .fabCtrl = s.word .fabCtrl := by
  have hregs : ((s.setHoopSt n .off).clear F.fabHoopStatusPendingEnable n).word .fabCtrl = s.word .fabCtrl := by
    simp (disch := decide) only [State.clear, State.setHoopSt, ctrl_put]
  exact Eq.trans rfl hregs

/-- Once stopped, the fabric is not started. -/
theorem stopFabric_stopped : (stopFabric s).started = false := by
  have hword : (stopFabric s).word .fabCtrl = (s.clear F.fabCtrlStarted).word .fabCtrl := by
    unfold stopFabric
    extract_lets started t u v w
    have ht : t.word .fabCtrl = (s.clear F.fabCtrlStarted).word .fabCtrl := ctrl_put F.fabFclkStatusRun 0 0 0 (by decide)
    have hu : u.word .fabCtrl = t.word .fabCtrl := by
      simp only [u]
      rw [ctrl_releasePins]
      exact foldl_keep _ (fun t => t.word .fabCtrl) (fun t n => ctrl_put F.fabIobStatusActive 0 n 0 (by decide)) _ t
    have hv : v.word .fabCtrl = u.word .fabCtrl := rfl
    have hw : w.word .fabCtrl = v.word .fabCtrl := by simp only [w, ctrl_clearArrays, ctrl_clearRanks]
    refine (foldl_keep _ (fun t => t.word .fabCtrl) (fun t n => ?_) _ w).trans (hw.trans (hv.trans (hu.trans ht)))
    have hreset : ((resetHoop n t).modHoop n (fun _ => {})).word .fabCtrl = t.word .fabCtrl := ctrl_resetHoop n
    dsimp only
    generalize (resetHoop n t).modHoop n (fun _ => {}) = x at hreset
    repeat' split
    · exact (ctrl_hoopPowerDown n).trans hreset
    · exact hreset
    · simp (disch := decide) only [State.clear, State.setHoopSt, ctrl_put, hreset]
    · simp (disch := decide) only [State.setHoopSt, ctrl_put, hreset]
  have hget : (stopFabric s).get F.fabCtrlStarted = 0 :=
    (get_of_word F.fabCtrlStarted 0 0 hword).trans (get_put_lt s _ 0 0 (by decide) (by decide) (by decide))
  rw [State.started, State.bit, hget]
  rfl

end

end Sys2Proof.Machine
end


/-!
Sceum: conversions, calibration, self-test, spares, the blotter, restarts and firmware (O34; 15 R485 to R508, 16 R536).
-/
section
namespace Sys2Proof.Machine

/-! ### The error flag of self-test, past the events it raises -/

section
variable {s : State}

theorem scmErr_sendVcp (d : Peer) (b : List Nat) : (s.sendVcp d b).word .scmErr = s.word .scmErr := by
  simp only [State.sendVcp, State.sendEth, State.drive]
  split
  · split <;> rfl
  · rfl

theorem scmErr_eventTo (e : EvEntry) (k : Nat) (own dev : Option (Nat × Nat)) : (eventTo e k own dev s).word .scmErr = s.word .scmErr := by
  have hdropped : (s.flag F.ethErrRate).word .scmErr = s.word .scmErr := word_put_other s F.ethErrRate 1 0 0 .scmErr 0 0 (by decide)
  cases own with
  | none => exact hdropped
  | some u =>
    cases dev with
    | none => exact hdropped
    | some v => exact (scmErr_sendVcp ..).trans rfl

theorem scmErr_sendEvent (e : EvEntry) (also : Option Nat) : (sendEvent e also s).word .scmErr = s.word .scmErr := by
  unfold sendEvent
  refine foldl_keep _ (fun t => t.word .scmErr) (fun t k => ?_) _ _
  dsimp only
  split
  · exact (scmErr_eventTo ..).trans rfl
  · rfl

theorem scmErr_logEvent (c o v : Nat) (m : Option (Nat × Nat × Nat × Nat × List Byte)) (a : Option Nat) :
    (s.logEvent c o v m a).word .scmErr = s.word .scmErr := by
  rw [State.logEvent, scmErr_sendEvent]
  exact word_put_other s F.ethEvtNextVal _ 0 0 .scmErr 0 0 (by decide)

theorem selftestFail_blot (c v d : Nat) : (s.blot c v d).get F.scmErrSelftestFail = s.get F.scmErrSelftestFail := by
  have hdrop : ((s.addSat F.scmBlotDropVal 1).flag F.scmErrBlotterDrop).get F.scmErrSelftestFail = s.get F.scmErrSelftestFail :=
    (get_put_other_bits _ F.scmErrBlotterDrop F.scmErrSelftestFail 1 0 0 rfl (by decide) (by decide) (by decide)).trans
      (get_put_other_reg s F.scmBlotDropVal F.scmErrSelftestFail _ 0 0 0 0 (by decide))
  rw [State.blot]
  split
  · exact get_put_other_reg s F.scmBlotNextVal F.scmErrSelftestFail _ 0 0 0 0 (by decide)
  · dsimp only
    split
    · exact hdrop
    · exact (get_of_word F.scmErrSelftestFail 0 0 (scmErr_logEvent ..)).trans hdrop

theorem selftestFail_raise (e : Ev) (o v : Nat) : (s.raise e o v).get F.scmErrSelftestFail = s.get F.scmErrSelftestFail := by
  rw [State.raise, selftestFail_blot]
  exact get_of_word F.scmErrSelftestFail 0 0 (scmErr_logEvent ..)

theorem selftestFail_flag : (s.flag F.scmErrSelftestFail).get F.scmErrSelftestFail = 1 :=
  get_put_lt s F.scmErrSelftestFail 0 0 (by decide) (by decide) (by decide)

/-- A failure of a kind that only its unit's number is kept of. -/
theorem failureEffect_unit {f : SelfFail} (hf : f.block = 4) (hnone : s.failed = []) :
    failureEffect f s = { s with failed := [(4, f.index)] } := by
  simp only [failureEffect, hf, hnone, List.contains_nil, Bool.false_eq_true, if_false, List.nil_append]

theorem recordFail_shown (f : SelfFail) (hnone : s.scm.results = []) :
    (recordFail s f).scm.results = [f] ∧ (recordFail s f).failed = s.failed ∧ (recordFail s f).get F.scmErrSelftestFail = 1 ∧
      (recordFail s f).mem = s.mem := by
  have hscm : (recordFail s f).scm.results = (s.scm.results ++ [f]).take 4096 := congrArg ScmSt.results (raise_scm _ _ _ _)
  refine ⟨?_, raise_failed _ _ _ _, (selftestFail_raise ..).trans selftestFail_flag, raise_mem _ _ _ _⟩
  rw [hscm, hnone]
  rfl

/-! ### Calibration and spares -/

theorem calItem_modCal (i : CalItem) (f : CalSt → CalSt) : (s.modCal i f).calItem i = f (s.calItem i) := tab_get_put_same ..

theorem stamp_put (f : Fld) (v i j : Nat) (h : RegName.mtimeStatus ≠ f.reg) : (s.put f v i j).stamp = s.stamp := by
  rw [State.stamp, State.stamp, get_put_other_reg s f F.mtimeStatusCoasting v i j 0 0 h, get_put_other_reg s f F.mtimeStatusUnaligned v i j 0 0 h]
  rfl

/-- An unused spare of a bank that fails its test becomes unusable. -/
theorem spareTest_fails {k : Fin 128} (hclk : s.mgmtClocked = true) (hen : s.bit F.scmCtrlSpareEn = true) (hruns : s.sceumRuns = true)
    (hgap : s.gapNow = true) (hclaims : s.calClaims = false) (hfree : s.frozen F.dbgFreezeSceumCal = false)
    (hidle : s.get F.membSpmapBState k = 0) :
    ∃ t, exec (.spareTest (.block k) false) s = .next t ∧ t.get F.membSpmapBState k = 3 ∧ t.get F.scmErrSelftestFail = 1 ∧ t.mem = s.mem := by
  generalize hu : (s.bump F.scmStcntSpare).flag F.scmErrSelftestFail = u
  have hstate : u.get F.membSpmapBState k = 0 := by
    rw [← hu]
    exact (get_put_other_reg _ F.scmErrSelftestFail F.membSpmapBState 1 0 0 k 0 (by decide)).trans
      ((get_put_other_reg s F.scmStcntSpare F.membSpmapBState _ 0 0 k 0 (by decide)).trans hidle)
  have herr : u.get F.scmErrSelftestFail = 1 := by
    rw [← hu]
    exact selftestFail_flag
  have hmem : u.mem = s.mem := by rw [← hu]; rfl
  have hfaulty : spareFaulty (.block k) u = u.put F.membSpmapBState 3 k := by
    simp only [spareFaulty, State.spareCopies, hstate, Nat.zero_ne_one, if_false]
  have hexec : exec (.spareTest (.block k) false) s = .next ((u.put F.membSpmapBState 3 k).raise .scmSpareFail 0 (1 * 2 ^ 24 + k)) := by
    change execSpareTest (.block k) false s = _
    simp only [execSpareTest, whenClocked, hclk, hen, hruns, hgap, hclaims, hfree, State.spareIdle, hidle, beq_self_eq_true, Bool.true_or, Bool.not_false,
      Bool.and_self, if_true, hu, hfaulty]
  refine ⟨_, hexec, ?_, ?_, ?_⟩
  · rw [get_raise _ _ _ _ _ _ _ (by decide)]
    exact get_put_lt u F.membSpmapBState k 0 (by decide) (by decide) (by decide)
  · rw [selftestFail_raise, get_put_other_reg u F.membSpmapBState F.scmErrSelftestFail 3 k 0 0 0 (by decide), herr]
  · rw [raise_mem]
    exact hmem

/-! ### Firmware -/

theorem appendState_activating (slot : Nat) (r : Nat × Nat × Nat) : (appendState slot r s).scm.activating = s.scm.activating := by
  simp only [appendState]
  split <;> rfl

theorem startFirmware_activating (slot : Nat) : (startFirmware slot s).scm.activating = s.scm.activating := by
  unfold startFirmware
  extract_lets t trial b u v image
  have ht : t.scm.activating = s.scm.activating := by
    simp only [t]
    split
    · exact appendState_activating ..
    · rfl
  exact Eq.trans rfl ht

theorem applyNetwork_scm : (applyNetwork s).scm = s.scm := by
  unfold applyNetwork
  extract_lets seq copy
  clear_value copy
  cases copy with
  | none => rfl
  | some c =>
    dsimp only
    split
    · rfl
    · have hip (l : List Nat) (g : Nat → Nat) (t : State) : (l.foldl (fun s i => s.put F.ethIp6Val (g i) i) t).scm = t.scm := by
        refine foldl_keep _ (fun t => t.scm) (fun t i => ?_) l t
        rfl
      split <;> simp only [flag_scm, put_scm, hip]

theorem firstBoot_activating : (firstBoot s).scm.activating = s.scm.activating := by
  have hscan : (scanRing s).scm = s.scm := by
    unfold scanRing
    extract_lets found base pos ons t log
    rw [blot_scm]
    rfl
  unfold firstBoot
  split
  · rfl
  · extract_lets t
    have ht : t.scm = s.scm := by
      simp only [t]
      split
      · exact blot_scm ..
      · exact hscan
    clear_value t
    have hnet : (applyNetwork t).scm.activating = s.scm.activating := by rw [applyNetwork_scm, ht]
    exact Eq.trans rfl hnet

theorem activationEnd_none {running : Option Nat} (h : s.scm.activating = none) : activationEnd running s = s := by
  simp only [activationEnd, h]

theorem trialSpent_none {slot : Nat} (h : s.slotState slot = none) : trialSpent s slot = s := by
  simp only [trialSpent, h]

theorem trialSpent_good {slot seq tries : Nat} (h : s.slotState slot = some (seq, 1, tries)) : trialSpent s slot = s := by
  simp only [trialSpent, h]

theorem fwStarts_none {slot : Nat} (h : s.slotState slot = none) : s.fwStarts slot = false := by
  simp only [State.fwStarts, h]

theorem fwStarts_good {slot seq tries : Nat} (h : s.slotState slot = some (seq, 1, tries)) (hver : s.otp.fwMin ≤ s.fwVersion slot) :
    s.fwStarts slot = s.fwVerifies slot := by
  simp only [State.fwStarts, h, hver, decide_true, Bool.and_true, beq_self_eq_true, Bool.true_or, Bool.true_and]

/-- With one slot in use the choice is that slot, where it can start. -/
theorem fwChoice_of_starts {slot : Nat} (hlt : slot < 2) (hother : s.fwStarts (1 - slot) = false) :
    s.fwChoice = if s.fwStarts slot then some slot else none := by
  obtain rfl | rfl : slot = 0 ∨ slot = 1 := by omega
  · simp only [State.fwChoice, hother]
    cases s.fwStarts 0 <;> rfl
  · simp only [State.fwChoice, hother]
    cases s.fwStarts 1 <;> rfl

/-- The boot ROM begins where no trial has been used up. -/
theorem bootRom_begins (hclk : s.mgmtClocked = true) (hphase : 3 ≤ s.get F.sysStatusPhase) (hup : s.clk.held = false) (hdue : s.scm.bootDue = true)
    (hrun : s.dbg.sceumHalted = false) (h0 : trialSpent s 0 = s) (h1 : trialSpent s 1 = s) :
    exec .bootRomStart s = .next (activationEnd s.fwChoice (match s.fwChoice with
      | some slot => firstBoot (startFirmware slot (s.modScm (fun m => { m with bootDue := false, inRom := s.fwChoice.isNone })))
      | none => s.modScm (fun m => { m with bootDue := false, inRom := s.fwChoice.isNone }))) := by
  change execBootRomStart s = _
  simp only [execBootRomStart, whenClocked, hclk, hphase, hup, hdue, hrun, and_self, if_true, h0, h1] <;> rfl

theorem trialBad_scm_mem (slot : Nat) : (trialBad slot s).mem = s.mem := by
  simp only [trialBad]
  split
  · rw [raise_mem, (appendState_untouched ..).1]
  · rfl

/-! ### The blotter -/

theorem programRecord_shown {r : List Byte} (hlen : r.length = 32) :
    (programRecord s r).flashBytes (0x01200000 + 32 * s.log.pos) 32 = r ∧ (programRecord s r).log.pos = (s.log.pos + 1) % (224 * 2048) ∧
      (programRecord s r).mem = s.mem ∧ (programRecord s r).regs = s.regs ∧ (programRecord s r).log.buffer = s.log.buffer := by
  unfold programRecord
  extract_lets pos t
  have hkept : t.mem = s.mem ∧ t.regs = s.regs ∧ t.log.buffer = s.log.buffer := by
    simp only [t]
    split <;> exact ⟨rfl, rfl, rfl⟩
  refine ⟨?_, rfl, hkept⟩
  have hrange := range_putList_same (0xFF : Byte) t.flash (blotAt pos) r
  rw [hlen] at hrange
  exact hrange

end

/-- Settles O34: each clause by the branch its hypotheses choose. -/
theorem sceumCommandsComplete : Obligations.SceumCommandsComplete := by
  unfold Obligations.SceumCommandsComplete
  refine ⟨fun v s hclk hup hlt => ?_, fun s hclk hfull => hkRoundEnd_takes hclk hfull, fun s hdue => ?_, fun i s hclk hruns => ?_,
    fun i a b sel s hclk hruns hdue hgap hfree => ⟨fun hagree => ?_, fun hdiffer => ?_⟩, fun n m sel s hagreed hcross hen husable hsel => ?_,
    fun i s hclk hdue => ?_, fun i s hclk hruns hdue hfirst => ?_, fun f s hclk hphase hwarm hdone hcopy hf hnone hresults => ?_,
    fun k s hclk hen hruns hgap hclaims hfree hidle => ?_, fun r rest s hclk hruns hbuffer hlen hpos => ?_, fun s hruns hrun => ?_,
    fun cause s hclk hdue hrun => ?_, fun s hclk hphase hup hdue hrun h0 h1 hact => ?_,
    fun slot seq s hclk hphase hup hdue hrun hlt hslot hother hact hver => ?_, fun s hclk hruns htrial => ?_⟩
  · have hplain : ¬ (126 ≤ s.scm.next ∨ s.scm.next = 123 ∧ s.mtSt ≠ .aligned) := by omega
    have hroom : s.scm.next < 128 := by omega
    change execHkConversion v s = _
    simp only [execHkConversion, whenClocked, hclk, hup, hroom, and_self, if_true, if_neg hplain]
  · have hexec : exec .tripFabricReset s
        = .next { (stopFabric (loadCancel s)).modScm (fun m => { m with tripDue := false }) with txTripped := true } := by
      change execTripFabricReset s = _
      simp only [execTripFabricReset, hdue, if_true]
    have hstopped := stopFabric_stopped (s := loadCancel s)
    generalize stopFabric (loadCancel s) = u at hexec hstopped
    exact ⟨_, hexec, rfl, rfl, hstopped⟩
  · change execCalItemDue i s = _
    simp only [execCalItemDue, whenClocked, hclk, hruns, if_true]
  · change execCalMeasurementDone i a b sel s = _
    simp only [execCalMeasurementDone, whenClocked, hclk, hruns, hdue, hgap, hfree, hagree, Bool.not_false, Bool.and_self, if_true]
  · change execCalMeasurementDone i a b sel s = _
    simp only [execCalMeasurementDone, whenClocked, hclk, hruns, hdue, hgap, hfree, hdiffer, Bool.not_false, Bool.and_self, if_true, Bool.false_eq_true,
      if_false, calDiscard]
  · have hexec : ∃ u : State, exec (.calApply (.sampler n m)) s = .next ((u.bump F.scmCalcntApplied).modScm (fun x => { x with calStamp := u.stamp })) ∧
        u = (s.put F.laneSliceActive sel n m).modCal (.sampler n m) (fun c => { c with agreed := none }) := by
      refine ⟨_, ?_, rfl⟩
      change execCalApply (.sampler n m) s = _
      simp only [execCalApply, hagreed, hcross, hen, husable, and_self, if_true]
    obtain ⟨u, hexec, hu⟩ := hexec
    have hactive : u.get F.laneSliceActive n m = sel := by
      rw [hu]
      exact get_put_lt s F.laneSliceActive n m (by decide) (by decide) hsel
    have hitem : (u.calItem (.sampler n m)).agreed = none := by
      rw [hu]
      exact congrArg CalSt.agreed (calItem_modCal _ _)
    have hstamp : u.stamp = s.stamp := by
      rw [hu]
      exact stamp_put F.laneSliceActive sel n m (by decide)
    have hmem : u.mem = s.mem := by rw [hu]; rfl
    refine ⟨_, hexec, ?_, hitem, hstamp, hmem⟩
    exact (get_put_other_reg u F.scmCalcntApplied F.laneSliceActive _ 0 0 n m (by decide)).trans hactive
  · change execCalResultTimeout i s = _
    simp only [execCalResultTimeout, whenClocked, hclk, hdue, if_true, calDiscard]
  · change execScmCalDeferred i s = _
    simp only [execScmCalDeferred, whenClocked, hclk, hruns, hdue, hfirst, Bool.not_false, Bool.and_self, if_true]
  · obtain ⟨hres, hfailed, herr, hmem⟩ := recordFail_shown f hresults
    have hexec : exec (.selftestDone [f]) s = .next ((failureEffect f (recordFail s f)).flag F.sysStatusSelftestDone) := by
      change execSelftestDone [f] s = _
      simp only [execSelftestDone, whenClocked, hclk, hphase, hwarm, hdone, and_self, if_true, repairMap, hcopy, List.foldl_nil, List.foldl_cons]
    rw [failureEffect_unit hf (hfailed.trans hnone)] at hexec
    generalize recordFail s f = u at *
    refine ⟨_, hexec, ?_, hres, rfl, ?_, hmem⟩
    · exact get_put_lt _ F.sysStatusSelftestDone 0 0 (by decide) (by decide) (by decide)
    · exact (get_put_other_reg _ F.sysStatusSelftestDone F.scmErrSelftestFail 1 0 0 0 0 (by decide)).trans herr
  · obtain ⟨u, hexec, hstate, herr, hmem⟩ := spareTest_fails hclk hen hruns hgap hclaims hfree hidle
    exact ⟨u, hexec, hstate, herr, hmem⟩
  · obtain ⟨hflash, hnext, hmem, hregs, hleft⟩ := programRecord_shown (s := s) hlen
    have hone : min (min 1 (8 - s.log.pos % 8)) (r :: rest).length = 1 := by
      rw [List.length_cons]
      omega
    have hexec : exec (.blotterProgram 1) s = .next { programRecord s r with log := { (programRecord s r).log with
        buffer := rest, dropReported := (programRecord s r).log.dropReported && !rest.isEmpty } } := by
      change execBlotterProgram 1 s = _
      simp only [execBlotterProgram, whenClocked, hclk, hruns, hbuffer, hone, if_true, List.take_succ_cons, List.take_zero, List.foldl_cons,
        List.foldl_nil, hleft, List.drop_succ_cons, List.drop_zero]
    generalize programRecord s r = u at *
    exact ⟨_, hexec, rfl, hnext, hflash, hmem, hregs⟩
  · obtain ⟨hstopped, hboot, -⟩ := restartSceum_shown (s := s) 0 hrun
    have hexec : exec .sceumWatchdogExpiry s = .next (restartSceum 0 s) := by
      change execSceumWatchdogExpiry s = _
      rw [execSceumWatchdogExpiry, if_pos (Or.inl hruns)]
    exact ⟨_, hexec, hstopped, hboot, (restartSceum_untouched ..).1⟩
  · obtain ⟨hstopped, hboot, hno⟩ := restartSceum_shown (s := s) cause hrun
    have hexec : exec .sceumRestart s = .next (restartSceum cause s) := by
      change execSceumRestart s = _
      simp only [execSceumRestart, whenClocked, hclk, if_true, hdue]
    exact ⟨_, hexec, hstopped, hboot, hno, (restartSceum_untouched ..).1⟩
  · have hchoice : s.fwChoice = none := by
      rw [fwChoice_of_starts (slot := 0) (by decide) (fwStarts_none h1), fwStarts_none h0]
      rfl
    rw [bootRom_begins hclk hphase hup hdue hrun (trialSpent_none h0) (trialSpent_none h1), hchoice]
    exact congrArg Host.Outcome.next (activationEnd_none hact)
  · have hgood : trialSpent s slot = s := trialSpent_good hslot
    have hspent : trialSpent s 0 = s ∧ trialSpent s 1 = s := by
      obtain rfl | rfl : slot = 0 ∨ slot = 1 := by omega
      · exact ⟨hgood, trialSpent_none hother⟩
      · exact ⟨trialSpent_none hother, hgood⟩
    have hchoice : s.fwChoice = if s.fwVerifies slot then some slot else none := by
      rw [fwChoice_of_starts hlt (fwStarts_none hother), fwStarts_good hslot hver]
    rw [bootRom_begins hclk hphase hup hdue hrun hspent.1 hspent.2, hchoice]
    cases hv : s.fwVerifies slot with
    | false => exact congrArg Host.Outcome.next (activationEnd_none hact)
    | true =>
      refine congrArg Host.Outcome.next (activationEnd_none ?_)
      exact firstBoot_activating.trans ((startFirmware_activating slot).trans hact)
  · have hexec : exec .fwTrialTimeout s = .next ((trialBad (s.get F.scmFwSlotB) s).modScm (fun m => { m with restartDue := some 2 })) := by
      change execFwTrialTimeout s = _
      simp only [execFwTrialTimeout, whenClocked, hclk, hruns, htrial, and_self, if_true]
    exact ⟨_, hexec, rfl, trialBad_scm_mem _⟩

end Sys2Proof.Machine
end


/-!
Clock switches, the registers of the clocks, loss and return of sources and synthesisers (O35; 16 R520 to R531).
-/
section
namespace Sys2Proof.Machine

section
variable {s : State}

theorem get_putBit (f : Fld) (b : Bool) (i j : Nat) (h : f.lo ≤ f.hi) (h32 : f.hi ≤ 31) : (s.putBit f b i j).get f i j = b2n b := by
  have hb : b2n b < 2 ^ f.width := by
    have hone : 2 ^ 1 ≤ 2 ^ f.width := Nat.pow_le_pow_right (by decide) (by rw [Fld.width]; omega)
    cases b <;> exact lt_of_lt_of_le (by decide) hone
  exact get_put_lt s f i j h h32 hb

/-! ### Switches -/

/-- The network's clock takes its new source. -/
def nocSwitched (source : Nat) (forced : Bool) (s : State) : State := switchTo 1 source ((s.put F.clkStatusLastMux 1).putBit F.clkStatusForced forced)

theorem nocSwitched_fold (source : Nat) (forced : Bool) :
    switchTo 1 source ((s.put F.clkStatusLastMux 1).putBit F.clkStatusForced forced) = nocSwitched source forced s := rfl

theorem nocSwitched_shown (source : Nat) (forced : Bool) :
    (nocSwitched source forced s).clkSource 1 = source ∧ (nocSwitched source forced s).get F.clkStatusNocPpll = b2n (source == 1) ∧
      (nocSwitched source forced s).get F.clkStatusForced = b2n forced ∧ (nocSwitched source forced s).mem = s.mem ∧
      (nocSwitched source forced s).clk.latched = s.clk.latched := by
  generalize hu : ((s.put F.clkStatusLastMux 1).putBit F.clkStatusForced forced).modClk (fun c =>
    { c with source := Tab.put (clkReset 1) c.source 1 source, busy := Tab.put 0 c.busy 1 0 }) = u
  have hforced : u.get F.clkStatusForced = b2n forced := by
    rw [← hu]
    exact get_putBit F.clkStatusForced forced 0 0 (by decide) (by decide)
  have hsource : u.clkSource 1 = source := by
    rw [← hu]
    exact tab_get_put_same ..
  have hmem : u.mem = s.mem := by rw [← hu]; rfl
  have hlatched : u.clk.latched = s.clk.latched := by rw [← hu]; rfl
  have hrun : nocSwitched source forced s = u.putBit F.clkStatusNocPpll (source == 1) := by rw [← hu]; rfl
  rw [hrun]
  refine ⟨hsource, get_putBit F.clkStatusNocPpll _ 0 0 (by decide) (by decide), ?_, hmem, hlatched⟩
  exact (get_put_other_bits u F.clkStatusNocPpll F.clkStatusForced _ 0 0 rfl (by decide) (by decide) (by decide)).trans hforced

/-- A switch completes with nothing latched behind it. -/
theorem switchDone_plain {mux source : Nat} {u : State} (hbusy : Tab.get 0 s.clk.busy mux = source + 1)
    (hu : switchTo mux source ((s.put F.clkStatusLastMux mux).putBit F.clkStatusForced false) = u) (hlatched : Tab.get 0 u.clk.latched mux = 0) :
    switchDone mux false s = u := by
  simp only [switchDone, hbusy, Bool.false_eq_true, if_false, hu, hlatched]

/-- A switch is forced with nothing latched behind it. -/
theorem switchDone_forced {mux source : Nat} {u : State} (hbusy : Tab.get 0 s.clk.busy mux = source + 1)
    (hu : switchTo mux source ((s.put F.clkStatusLastMux mux).putBit F.clkStatusForced true) = u) (hlatched : Tab.get 0 u.clk.latched mux = 0) :
    switchDone mux true s = (u.flag F.clkErrForced).blot 0xC07 1 mux := by
  have hkept : ((u.flag F.clkErrForced).blot 0xC07 1 mux).clk.latched = u.clk.latched := by rw [blot_clk]; rfl
  simp only [switchDone, hbusy, if_true, hu, hkept, hlatched]

theorem switchDone_noc {source : Nat} (hbusy : Tab.get 0 s.clk.busy 1 = source + 1) (hlatched : Tab.get 0 s.clk.latched 1 = 0) :
    switchDone 1 false s = nocSwitched source false s ∧
      switchDone 1 true s = ((nocSwitched source true s).flag F.clkErrForced).blot 0xC07 1 1 := by
  have hkept (forced : Bool) : Tab.get 0 (nocSwitched source forced s).clk.latched 1 = 0 := by
    rw [(nocSwitched_shown source forced).2.2.2.2, hlatched]
  exact ⟨switchDone_plain hbusy (nocSwitched_fold source false) (hkept false),
    switchDone_forced hbusy (nocSwitched_fold source true) (hkept true)⟩

/-! ### Registers -/

theorem clkNocWrite_moves {v n d : Nat} (hn : bits v 23 16 = n) (hd : bits v 3 0 = d) (hsel : bits v 31 31 = 1) (hppll : s.bit F.clkNocSel = true)
    (hmin : 128 ≤ n) (hdiv : 2 ≤ d) (hmax : 25 * n ≤ 1600 * d) (hmoves : n ≠ s.get F.clkNocN) :
    clkNocWrite v s = (clkRequest 1 1 ((((s.put F.clkNocSel 1).put F.clkNocN n).put F.clkNocD d).clear F.clkStatusNpllLock), .ok) := by
  have hm : (n != s.get F.clkNocN) = true := bne_iff_ne.mpr hmoves
  simp only [clkNocWrite, hn, hd, hsel, hm, hppll, Bool.true_or, Bool.not_true, Bool.and_false, Bool.false_eq_true, if_false,
    not_lt.mpr hmin, not_lt.mpr hdiv, not_lt.mpr hmax, decide_false, Bool.or_self, if_true]

theorem setBits_one_testBit {w i b : Nat} : (setBits w i i b).testBit i = b.testBit 0 := by
  rw [testBit_setBits w i i b i (Nat.le_refl i), if_pos ⟨Nat.le_refl i, Nat.le_refl i⟩, Nat.sub_self]

theorem clkQpllWrite_moves {q v n : Nat} (hfree : ∀ g, g < 16 → s.get F.clkGrpSrc g ≠ q) (hn : bits v 23 16 = n) (hmin : 128 ≤ n)
    (hmoves : n ≠ s.get F.clkQpllN q) :
    ∃ t, clkQpllWrite q v s = (t, .ok) ∧ t.get F.clkQpllN q = n ∧ (t.get F.clkStatusQpllLock).testBit q = false ∧ t.mem = s.mem := by
  have hnone : (List.range 16).any (fun g => s.get F.clkGrpSrc g == q) = false :=
    List.any_eq_false.mpr fun g hg h => hfree g (List.mem_range.mp hg) (beq_iff_eq.mp h)
  have hrun : clkQpllWrite q v s = ((s.put F.clkQpllN n q).putNth F.clkStatusQpllLock q false, .ok) := by
    simp only [clkQpllWrite, hnone, hn, not_lt.mpr hmin, hmoves, Bool.false_eq_true, if_false]
  have hlt : n < 2 ^ F.clkQpllN.width := hn ▸ bits_lt v 23 16
  refine ⟨_, hrun, ?_, ?_, rfl⟩
  · exact (get_put_other_reg _ F.clkStatusQpllLock F.clkQpllN _ 0 0 q 0 (by decide)).trans
      (get_put_lt s F.clkQpllN q 0 (by decide) (by decide) hlt)
  · have hget := get_put_same (s.put F.clkQpllN n q) F.clkStatusQpllLock (setBits ((s.put F.clkQpllN n q).get F.clkStatusQpllLock) q q (b2n false)) 0 0
      (by decide) (by decide)
    have hwidth : F.clkStatusQpllLock.width = 4 := rfl
    rw [State.putNth, hget, hwidth, Nat.testBit_mod_two_pow, setBits_one_testBit]
    exact Bool.and_false _

theorem clkGrpWrite_held {g v src sdiv qdiv : Nat} (hsrc : bits v 25 24 = src) (hsdiv : bits v 11 8 = sdiv) (hqdiv : bits v 3 0 = qdiv)
    (hheld : ∀ k, k < 8 → s.qSt (8 * g + k) = .held) (hq : 25 * s.get F.clkQpllN src ≤ 1200 * qdiv)
    (hs : 25 * s.get F.clkQpllN src ≤ 1200 * sdiv) :
    clkGrpWrite g v s = (clkRequest (2 + g) src (((s.put F.clkGrpSrc src g).put F.clkGrpSdiv sdiv g).put F.clkGrpQdiv qdiv g), .ok) := by
  have hidle : (List.range 8).all (fun k => match s.qSt (8 * g + k) with | .held => true | .retired => true | .off => true | _ => false) = true :=
    List.all_eq_true.mpr fun k hk => by rw [hheld k (List.mem_range.mp hk)]
  have hlegal : ¬ (1200 * qdiv < 25 * s.get F.clkQpllN src ∨ 1200 * sdiv < 25 * s.get F.clkQpllN src) := by omega
  unfold clkGrpWrite
  extract_lets src' sdiv' qdiv' divides idle n t
  have hi : idle = true := hidle
  rw [hi, Bool.not_true, Bool.and_false, if_neg Bool.false_ne_true]
  simp only [t, src', sdiv', qdiv', n, hsrc, hsdiv, hqdiv]
  rw [if_neg hlegal]

/-! ### Sources -/

theorem xoLost_ctrl (s : State) : ((s.flag F.clkErrXoFail).clear F.clkStatusXoOk).get F.clkCtrlRootAuto = s.get F.clkCtrlRootAuto :=
  (get_put_other_reg _ F.clkStatusXoOk F.clkCtrlRootAuto 0 0 0 0 0 (by decide)).trans
    (get_put_other_reg s F.clkErrXoFail F.clkCtrlRootAuto 1 0 0 0 0 (by decide))

theorem pllFail_shown :
    ∃ t, pllFail 2 s = t ∧ t.get F.clkStatusNpllFail = 1 ∧ t.get F.clkErrPllFail = 1 ∧ t.clk.failed = 2 :: s.clk.failed ∧
      t.clk.resetDue = s.clk.resetDue ∧ t.mem = s.mem := by
  generalize hu : s.modClk (fun c => { c with failed := 2 :: c.failed }) = u
  have hrun : pllFail 2 s = ((u.putBit F.clkStatusNpllFail true).flag F.clkErrPllFail).blot 0xC08 2 2 := by
    rw [← hu]
    rfl
  have hclk : (((u.putBit F.clkStatusNpllFail true).flag F.clkErrPllFail).blot 0xC08 2 2).clk = u.clk := blot_clk ..
  refine ⟨_, hrun, ?_, ?_, ?_, ?_, ?_⟩
  · rw [get_blot _ _ _ _ _ _ _ (by decide)]
    exact (get_put_other_reg _ F.clkErrPllFail F.clkStatusNpllFail 1 0 0 0 0 (by decide)).trans
      (get_putBit F.clkStatusNpllFail true 0 0 (by decide) (by decide))
  · rw [get_blot _ _ _ _ _ _ _ (by decide)]
    exact get_put_lt _ F.clkErrPllFail 0 0 (by decide) (by decide) (by decide)
  · rw [hclk, ← hu]
    rfl
  · rw [hclk, ← hu]
    rfl
  · rw [blot_mem, ← hu]
    rfl

end

/-- Settles O35: each clause by the branch its hypotheses choose. -/
theorem clockCommandsComplete : Obligations.ClockCommandsComplete := by
  unfold Obligations.ClockCommandsComplete
  refine ⟨fun t s hbusy hlatched => ?_, fun v s hsel hppll hmin hdiv hmax hmoves => ?_, fun q v s hfree hmin hmoves => ?_,
    fun g v s hheld hq hs => ?_, fun v s hsame => ?_, fun v s hopen hnolock => ?_, fun s hsource => ⟨fun hauto => ?_, fun hman => ?_⟩,
    fun s hup hphase => ?_, fun s hlock => ?_, fun s hroot hgood => ?_, fun s hlock hgood => ?_⟩
  · obtain ⟨hplain, hforced⟩ := switchDone_noc hbusy hlatched
    obtain ⟨hsource, hnoc, hflag, hmem, -⟩ := nocSwitched_shown (s := s) t false
    obtain ⟨hsource', -, hflag', -, -⟩ := nocSwitched_shown (s := s) t true
    generalize nocSwitched t false s = u at *
    generalize nocSwitched t true s = v at *
    refine ⟨u, (v.flag F.clkErrForced).blot 0xC07 1 1, congrArg Host.Outcome.next hplain, hsource, ?_, hflag, hmem, congrArg Host.Outcome.next hforced,
      ?_, ?_, ?_⟩
    · rw [hnoc]
      by_cases h1 : t = 1
      · rw [h1]; rfl
      · rw [if_neg h1, beq_eq_false_iff_ne.mpr h1]; rfl
    · rw [State.clkSource, blot_clk]
      exact hsource'
    · rw [get_blot _ _ _ _ _ _ _ (by decide)]
      exact (get_put_other_reg v F.clkErrForced F.clkStatusForced 1 0 0 0 0 (by decide)).trans hflag'
    · rw [get_blot _ _ _ _ _ _ _ (by decide)]
      exact get_put_lt v F.clkErrForced 0 0 (by decide) (by decide) (by decide)
  · change reply (clkNocWrite v.toNat s) = _
    rw [clkNocWrite_moves rfl rfl hsel hppll hmin hdiv hmax hmoves, reply]
  · obtain ⟨t, hrun, hn, hlock, hmem⟩ := clkQpllWrite_moves hfree rfl hmin hmoves
    refine ⟨t, ?_, hn, hlock, hmem⟩
    change reply (clkQpllWrite q v.toNat s) = _
    rw [hrun, reply]
  · change reply (clkGrpWrite g v.toNat s) = _
    rw [clkGrpWrite_held rfl rfl rfl hheld hq hs, reply]
  · have hrun : clkNctlWrite v.toNat s = (clkRequest 19 (bits v.toNat 9 9) (clkRequest 18 (bits v.toNat 8 8) (((s.put F.clkNctlSel
        (bits v.toNat 5 4)).put F.clkNctlSrcA (bits v.toNat 8 8)).put F.clkNctlSrcB (bits v.toNat 9 9))), .ok) := by
      unfold clkNctlWrite
      extract_lets sel quiet t
      rw [if_neg fun h => h.1 hsame]
    change reply (clkNctlWrite v.toNat s) = _
    rw [hrun, reply]
  · change reply (clkCtrlWrite v.toNat s) = _
    simp only [clkCtrlWrite, hopen, hnolock, Bool.false_eq_true, if_false, reply]
  · have hsource' : ((s.flag F.clkErrXoFail).clear F.clkStatusXoOk).clkSource 0 = 0 := hsource
    have hauto' : ((s.flag F.clkErrXoFail).clear F.clkStatusXoOk).bit F.clkCtrlRootAuto = true := (congrArg (fun n => n != 0) (xoLost_ctrl s)).trans hauto
    change execXoLoss s = _
    simp only [execXoLoss, hsource', ne_eq, not_true_eq_false, if_false, hauto', if_true]
  · have hsource' : ((s.flag F.clkErrXoFail).clear F.clkStatusXoOk).clkSource 0 = 0 := hsource
    have hman' : ((s.flag F.clkErrXoFail).clear F.clkStatusXoOk).bit F.clkCtrlRootAuto = false := (congrArg (fun n => n != 0) (xoLost_ctrl s)).trans hman
    have hexec : exec .xoLoss s = .next { ((s.flag F.clkErrXoFail).clear F.clkStatusXoOk).modClk (fun c => { c with rootStopped := true }) with
        ptRuns := false } := by
      change execXoLoss s = _
      simp only [execXoLoss, hsource', ne_eq, not_true_eq_false, if_false, hman', Bool.false_eq_true]
    refine ⟨_, hexec, rfl, rfl, ?_, rfl⟩
    exact (get_put_other_reg _ F.clkStatusXoOk F.clkErrXoFail 0 0 0 0 0 (by decide)).trans
      (get_put_lt s F.clkErrXoFail 0 0 (by decide) (by decide) (by decide))
  · have hexec : ∃ u : State, exec .xoValid s = .next { u.put F.sysStatusPhase 2 with ptRuns := true } ∧ u.regs = (s.flag F.clkStatusXoOk).regs ∧
        u.mem = s.mem := by
      have hphase' : (s.flag F.clkStatusXoOk).get F.sysStatusPhase = 1 :=
        (get_put_other_reg s F.clkStatusXoOk F.sysStatusPhase 1 0 0 0 0 (by decide)).trans hphase
      change ∃ u : State, execXoValid s = _ ∧ _
      unfold execXoValid
      rw [hup, if_neg Bool.false_ne_true]
      extract_lets t w u x
      have hu : u.regs = t.regs ∧ u.mem = t.mem := by
        simp only [u]
        split <;> exact ⟨rfl, rfl⟩
      have hphase'' : u.get F.sysStatusPhase = 1 := (get_of_word F.sysStatusPhase 0 0 (word_of_regs hu.1 _ 0 0)).trans hphase'
      exact ⟨u, by rw [if_pos hphase''], hu.1, hu.2⟩
    obtain ⟨u, hexec, hregs, hmem⟩ := hexec
    refine ⟨_, hexec, ?_, rfl, ?_, hmem⟩
    · exact get_put_lt u F.sysStatusPhase 0 0 (by decide) (by decide) (by decide)
    · exact (get_put_other_reg u F.sysStatusPhase F.clkStatusXoOk 2 0 0 0 0 (by decide)).trans
        ((get_of_word F.clkStatusXoOk 0 0 (word_of_regs hregs _ 0 0)).trans (get_put_lt s F.clkStatusXoOk 0 0 (by decide) (by decide) (by decide)))
  · have hlocked : ¬ ((2 : Fin 10).val = 0 ∨ s.pllLocked (2 : Fin 10) = false) := by
      rintro (h | h)
      · exact absurd h (by decide)
      · exact absurd (hlock.symm.trans h) (by decide)
    change execPllUnlock 2 s = _
    rw [execPllUnlock, if_neg hlocked]
    rfl
  · have hgood' : (s.putBit F.clkStatusNpllLock true).clk.failed.contains 2 = false := hgood
    have hgo : ¬ ((2 : Fin 10).val = 0 ∨ s.clk.rootStopped = true) := by
      rintro (h | h)
      · exact absurd h (by decide)
      · exact absurd (hroot.symm.trans h) (by decide)
    have hshow : pllShow (2 : Fin 10) true s = s.putBit F.clkStatusNpllLock true := rfl
    have hval : (2 : Fin 10).val = 2 := rfl
    change execPllRelock 2 s = _
    rw [execPllRelock, if_neg hgo, hshow]
    simp only [hval, hgood', Bool.false_eq_true, if_false]
  · have hgo : ¬ ((2 : Fin 10).val = 0 ∨ s.pllLocked (2 : Fin 10) = true ∨ s.clk.failed.contains (2 : Fin 10).val = true) := by
      rintro (h | h | h)
      · exact absurd h (by decide)
      · exact absurd (hlock.symm.trans h) (by decide)
      · exact absurd (hgood.symm.trans h) (by decide)
    obtain ⟨t, hrun, hfail, herr, hfailed, hreset, hmem⟩ := pllFail_shown (s := s)
    refine ⟨t, ?_, hfail, herr, hfailed, hreset, hmem⟩
    change execPllFailTimeout 2 s = _
    rw [execPllFailTimeout, if_neg hgo]
    exact congrArg Host.Outcome.next hrun

end Sys2Proof.Machine
end


/-!
Resets and start-up (O36; 16 R532 to R537, 08 R266).
-/
section
namespace Sys2Proof.Machine

/-! ### What a system reset keeps -/

/-- What a system reset leaves as it was, with the root of the clocks and the start of the fabric. -/
def resetShown (s : State) := (s.flash, s.otp, s.near, s.pt, s.warm, s.clk, s.word .sysRstcause, s.get F.fabCtrlStarted)

section
variable {s : State}

theorem resetShown_put (f : Fld) (v i j : Nat) (hcause : RegName.sysRstcause ≠ f.reg) (hctrl : RegName.fabCtrl ≠ f.reg) :
    resetShown (s.put f v i j) = resetShown s := by
  rw [resetShown, word_put_other s f v i j .sysRstcause 0 0 hcause, get_put_other_reg s f F.fabCtrlStarted v i j 0 0 hctrl]
  rfl

theorem resetShown_setWord (r : RegName) (v : Word) (i j : Nat) (hcause : RegName.sysRstcause ≠ r) (hctrl : RegName.fabCtrl ≠ r) :
    resetShown (s.setWord r v i j) = resetShown s := by
  have hword : (s.setWord r v i j).get F.fabCtrlStarted = s.get F.fabCtrlStarted :=
    get_of_word F.fabCtrlStarted 0 0 (word_setWord_other s r .fabCtrl v i j 0 0 hctrl)
  rw [resetShown, hword, word_setWord_other s r .sysRstcause v i j 0 0 hcause]
  rfl

theorem resetShown_fixBad (v : Nat) :
    resetShown (s.put F.fabCtrlFixBadL1 v) = resetShown s ∧ resetShown (s.put F.fabCtrlFixBadL2 v) = resetShown s := by
  constructor
  · rw [resetShown, word_put_other s F.fabCtrlFixBadL1 v 0 0 .sysRstcause 0 0 (by decide),
      get_put_other_bits s F.fabCtrlFixBadL1 F.fabCtrlStarted v 0 0 rfl (by decide) (by decide) (by decide)]
    rfl
  · rw [resetShown, word_put_other s F.fabCtrlFixBadL2 v 0 0 .sysRstcause 0 0 (by decide),
      get_put_other_bits s F.fabCtrlFixBadL2 F.fabCtrlStarted v 0 0 rfl (by decide) (by decide) (by decide)]
    rfl

theorem resetShown_modBank (id : BankId) (f : BankSt → BankSt) : resetShown (s.modBank id f) = resetShown s := rfl

theorem fld_reg_ne (id : BankId) {r : RegName} {f g : Fld} (hf : r ≠ f.reg) (hg : r ≠ g.reg) : r ≠ (id.fld f g).reg := by
  rw [BankId.fld]
  split
  · exact hf
  · exact hg

theorem resetShown_bankReset (id : BankId) : resetShown (bankReset id s) = resetShown s := by
  unfold bankReset
  split
  · rfl
  · extract_lets p lost t
    have ht : resetShown t = resetShown s := by
      simp only [t]
      split
      · rfl
      · split <;> rfl
    clear_value t
    rw [resetShown_modBank, State.setPower, resetShown_modBank, resetShown_put _ _ _ _ (fld_reg_ne id (by decide) (by decide)) (fld_reg_ne id (by decide) (by decide)), ht]

theorem resetShown_resetBanks : resetShown (resetBanks s) = resetShown s := by
  unfold resetBanks
  exact (foldl_keep _ resetShown (fun t n => resetShown_bankReset _) _ _).trans
    (foldl_keep _ resetShown (fun t n => resetShown_bankReset _) _ s)

theorem resetShown_modLane (n m : Nat) (f : LaneSt → LaneSt) : resetShown (s.modLane n m f) = resetShown s := rfl

theorem resetShown_modBundle (n : Nat) (f : BundleSt → BundleSt) : resetShown (s.modBundle n f) = resetShown s := rfl

theorem resetShown_setDom (k : Nat) (d : DomSt) : resetShown (s.setDom k d) = resetShown s := rfl

theorem resetShown_keepRetired (old : State) : resetShown (keepRetired old s) = resetShown s := by
  unfold keepRetired
  extract_lets t1 t2 t3 t4 t5 t6 t7
  have h1 : resetShown t1 = resetShown s := by
    refine foldl_keep _ resetShown (fun t k => ?_) _ s
    dsimp only
    split
    · rw [resetShown_modLane, resetShown_put _ _ _ _ (by decide) (by decide), State.setLaneSt, resetShown_put _ _ _ _ (by decide) (by decide),
        resetShown_setWord _ _ _ _ (by decide) (by decide)]
    · rfl
  have h2 : resetShown t2 = resetShown t1 := by
    refine foldl_keep _ resetShown (fun t k => ?_) _ t1
    split
    · exact resetShown_modBundle ..
    · rfl
  have h3 : resetShown t3 = resetShown t2 := by
    refine foldl_keep _ resetShown (fun t k => ?_) _ t2
    split
    · exact resetShown_put _ _ _ _ (by decide) (by decide)
    · exact resetShown_put _ _ _ _ (by decide) (by decide)
    · rfl
  have h4 : resetShown t4 = resetShown t3 := by
    refine foldl_keep _ resetShown (fun t k => ?_) _ t3
    split
    · exact resetShown_put F.cavePstatusState _ _ _ (by decide) (by decide)
    · rfl
  have h5 : resetShown t5 = resetShown t4 := by
    refine foldl_keep _ resetShown (fun t k => ?_) _ t4
    dsimp only
    rw [resetShown_put _ _ _ _ (by decide) (by decide), resetShown_put _ _ _ _ (by decide) (by decide), resetShown_put _ _ _ _ (by decide) (by decide)]
    split
    · exact resetShown_put _ _ _ _ (by decide) (by decide)
    · rfl
  have h6 : resetShown t6 = resetShown t5 := by
    refine foldl_keep _ resetShown (fun t k => ?_) _ t5
    split
    · exact resetShown_put F.qcStatusState _ _ _ (by decide) (by decide)
    · rfl
  have h7 : resetShown t7 = resetShown t6 := by
    refine foldl_keep _ resetShown (fun t k => ?_) _ t6
    split
    · exact resetShown_put F.qcShstatRetired _ _ _ (by decide) (by decide)
    · rfl
  have hcounts (t : State) : resetShown (nocCounts t) = resetShown t := by
    simp (disch := decide) only [nocCounts, resetShown_put]
  rw [hcounts, h7, h6, h5, h4, h3, h2, h1]

theorem resetShown_keepTested (old : State) : resetShown (keepTested old s) = resetShown s := by
  unfold keepTested
  extract_lets t u
  have ht : resetShown t = resetShown s := resetShown_put F.scmStatusBroken _ _ _ (by decide) (by decide)
  have hu : resetShown u = resetShown t := (resetShown_fixBad _).2.trans (resetShown_fixBad _).1
  refine (foldl_keep _ resetShown (fun t n => ?_) _ u).trans (hu.trans ht)
  rw [resetShown_setDom, State.setHoopSt, resetShown_put _ _ _ _ (by decide) (by decide)]

theorem resetShown_keepRowMarks (old : State) : resetShown (keepRowMarks old s) = resetShown s :=
  foldl_keep _ resetShown (fun t e => resetShown_put F.fabPmEccPoisoned _ _ _ (by decide) (by decide)) _ s

/-! ### The registers a system reset keeps -/

theorem tab_look_filter {α : Type} (t : Tab α) (p : Nat × α → Bool) (a : Nat) (h : ∀ v, p (a, v) = true) :
    Tab.look (t.filter p) a = Tab.look t a := by
  induction t with
  | nil => rfl
  | cons e t ih =>
    obtain ⟨b, v⟩ := e
    rw [List.filter_cons]
    by_cases hb : b = a
    · subst hb
      rw [if_pos (h v), Tab.look, Tab.look, if_pos rfl, if_pos rfl]
    · split
      · rw [Tab.look, Tab.look, if_neg hb, if_neg hb, ih]
      · rw [Tab.look, if_neg hb, ih]

theorem keepRegs_cause {t : State} (h : t.regs = keepRegs s.regs) : t.word .sysRstcause = s.word .sysRstcause := by
  rw [State.word, State.word, h, keepRegs, Tab.get, Tab.get, tab_look_filter]
  have hkept : keptRegs.any (fun r => r.ctorIdx == regKey .sysRstcause 0 0 / 4294967296) = true := by decide
  exact fun _ => hkept

theorem keepRegs_ctrl {t : State} (h : t.regs = keepRegs s.regs) : t.get F.fabCtrlStarted = 0 := by
  have hlost : keptRegs.any (fun r => r.ctorIdx == regKey .fabCtrl 0 0 / 4294967296) = false := by decide
  have hword : t.word .fabCtrl = regReset .fabCtrl 0 := by
    rw [State.word, h, keepRegs]
    exact tab_get_filter_none _ _ _ _ fun _ => hlost
  have hreset : bits (regReset .fabCtrl 0).toNat F.fabCtrlStarted.hi F.fabCtrlStarted.lo = 0 := by decide
  rw [State.get]
  exact (congrArg (fun w => bits (BitVec.toNat w) F.fabCtrlStarted.hi F.fabCtrlStarted.lo) hword).trans hreset

/-- The state a system reset leaves, its clocks' hold apart. -/
structure AfterReset (causes : Nat) (s v : State) : Prop where
  flash : v.flash = s.flash
  otp : v.otp = s.otp
  near : v.near = s.near
  pt : v.pt = s.pt
  warm : v.warm = true
  clk : v.clk = {}
  cause : v.word .sysRstcause = BitVec.ofNat 32 ((s.word .sysRstcause).toNat ||| causes)
  stopped : v.get F.fabCtrlStarted = 0

theorem systemReset_leaves (causes : Nat) : ∃ v, systemReset causes s = v.modClk (fun c => { c with held := true }) ∧ AfterReset causes s v := by
  obtain ⟨banks, hb⟩ : ∃ f, f = resetBanks := ⟨_, rfl⟩
  have hbanks : resetShown (banks s) = resetShown s := by
    rw [hb]
    exact resetShown_resetBanks
  unfold systemReset
  rw [← hb]
  clear hb
  extract_lets b dbg t u v
  have hbanks' : resetShown b = resetShown s := hbanks
  have hkept : resetShown u = resetShown t := by
    simp only [u, resetShown_keepRowMarks, resetShown_keepTested, resetShown_keepRetired]
  have htregs : t.regs = keepRegs b.regs := by simp only [t]
  have ht : t.flash = b.flash ∧ t.otp = b.otp ∧ t.near = b.near ∧ t.pt = b.pt ∧ t.warm = true ∧ t.clk = {} := by
    simp only [t, and_self]
  refine ⟨v, rfl, ?_⟩
  have hvregs : v.regs = (u.setWord .sysRstcause (BitVec.ofNat 32 ((u.word .sysRstcause).toNat ||| causes))).regs := rfl
  have hvrest : v.flash = u.flash ∧ v.otp = u.otp ∧ v.near = u.near ∧ v.pt = u.pt ∧ v.warm = u.warm ∧ v.clk = u.clk := ⟨rfl, rfl, rfl, rfl, rfl, rfl⟩
  clear_value v u t b
  have htcause : t.word .sysRstcause = b.word .sysRstcause := keepRegs_cause htregs
  have htctrl : t.get F.fabCtrlStarted = 0 := keepRegs_ctrl htregs
  simp only [resetShown, Prod.mk.injEq] at hbanks' hkept
  obtain ⟨hflash, hotp, hnear, hpt, -, -, hcause, -⟩ := hbanks'
  obtain ⟨hflash₁, hotp₁, hnear₁, hpt₁, hwarm₁, hclk₁, hcause₁, hctrl₁⟩ := hkept
  obtain ⟨hflash₂, hotp₂, hnear₂, hpt₂, hwarm₂, hclk₂⟩ := ht
  obtain ⟨hflash₃, hotp₃, hnear₃, hpt₃, hwarm₃, hclk₃⟩ := hvrest
  refine ⟨?_, ?_, ?_, ?_, ?_, ?_, ?_, ?_⟩
  · rw [hflash₃, hflash₁, hflash₂, hflash]
  · rw [hotp₃, hotp₁, hotp₂, hotp]
  · rw [hnear₃, hnear₁, hnear₂, hnear]
  · rw [hpt₃, hpt₁, hpt₂, hpt]
  · rw [hwarm₃, hwarm₁, hwarm₂]
  · rw [hclk₃, hclk₁, hclk₂]
  · rw [word_of_regs hvregs, word_setWord_same, hcause₁, htcause, hcause]
  · rw [get_of_word F.fabCtrlStarted 0 0 ((word_of_regs hvregs _ 0 0).trans (word_setWord_other _ _ _ _ _ _ _ _ (by decide))), hctrl₁, htctrl]

/-! ### Clocks at start-up -/

/-- What start-up shows of its phase and of the clocks, and the policy it takes over. -/
def startShown (s : State) : Word × Word × Word := (s.word .sysStatus, s.word .clkStatus, s.word .cfgPolicy)

theorem startShown_put (f : Fld) (v i j : Nat) (h1 : RegName.sysStatus ≠ f.reg) (h2 : RegName.clkStatus ≠ f.reg) (h3 : RegName.cfgPolicy ≠ f.reg) :
    startShown (s.put f v i j) = startShown s := by
  rw [startShown, word_put_other s f v i j .sysStatus 0 0 h1, word_put_other s f v i j .clkStatus 0 0 h2, word_put_other s f v i j .cfgPolicy 0 0 h3]
  rfl

theorem startShown_modNear (c : Nat) (f : NearSt → NearSt) : startShown (s.modNear c f) = startShown s := rfl

theorem startShown_bootChannel (c : Nat) : startShown (bootChannel c s) = startShown s := by
  have hfilled (t : State) : startShown (nearFilled t) = startShown t := startShown_put F.nearStatusFilled _ 0 0 (by decide) (by decide) (by decide)
  have htrain : startShown (nearTrain c s) = startShown s := by
    simp only [nearTrain]
    split
    · rw [hfilled, startShown_put _ _ _ _ (by decide) (by decide) (by decide), startShown_put _ _ _ _ (by decide) (by decide) (by decide)]
    · rw [hfilled, startShown_modNear, startShown_put _ _ _ _ (by decide) (by decide) (by decide),
        startShown_put _ _ _ _ (by decide) (by decide) (by decide)]
  unfold bootChannel
  split
  · rfl
  · rfl
  · dsimp only
    split
    · exact (startShown_put F.nearChFillVal _ c 0 (by decide) (by decide) (by decide)).trans htrain
    · exact htrain

theorem startShown_drawK0 : startShown (drawK0 s) = startShown s := by
  have hload (k : Nat) (key : List Nat) (t : State) : startShown (loadKey k key t) = startShown t := by
    simp only [loadKey]
    rw [startShown_put _ _ _ _ (by decide) (by decide) (by decide), startShown_put _ _ _ _ (by decide) (by decide) (by decide)]
    rfl
  unfold drawK0
  split
  · rfl
  · exact (hload 0 _ _).trans rfl

theorem setBits_all {v : Nat} (hv : v < 16) :
    setBits (setBits (setBits (setBits v 0 0 1 % 2 ^ 4) 1 1 1 % 2 ^ 4) 2 2 1 % 2 ^ 4) 3 3 1 % 2 ^ 4 = 15 := by
  have hall : ∀ v : Fin 16, setBits (setBits (setBits (setBits v.val 0 0 1 % 2 ^ 4) 1 1 1 % 2 ^ 4) 2 2 1 % 2 ^ 4) 3 3 1 % 2 ^ 4 = 15 := by decide
  exact hall ⟨v, hv⟩

theorem get_putNth (f : Fld) (i : Nat) (b : Bool) (h : f.lo ≤ f.hi) (h32 : f.hi ≤ 31) :
    (s.putNth f i b).get f = setBits (s.get f) i i (b2n b) % 2 ^ f.width := get_put_same s f _ 0 0 h h32

end

end Sys2Proof.Machine
end


/-!
Power-on and system resets, start-up (O36).
-/
section
namespace Sys2Proof.Machine

/-! ### Clocks at start-up -/

section
variable {s : State}

/-- What the locks of PPLL and NPLL show, with start-up's phase and the policy. -/
def locksShown (s : State) : Nat × Nat × Word × Word :=
  (s.get F.clkStatusPpllLock, s.get F.clkStatusNpllLock, s.word .sysStatus, s.word .cfgPolicy)

theorem locksShown_lock : locksShown (pllShow 2 true (pllShow 1 true s)) = (1, 1, s.word .sysStatus, s.word .cfgPolicy) := by
  have hppll : (pllShow 2 true (pllShow 1 true s)).get F.clkStatusPpllLock = 1 :=
    (get_put_other_bits _ F.clkStatusNpllLock F.clkStatusPpllLock _ 0 0 rfl (by decide) (by decide) (by decide)).trans
      (get_putBit F.clkStatusPpllLock true 0 0 (by decide) (by decide))
  have hnpll : (pllShow 2 true (pllShow 1 true s)).get F.clkStatusNpllLock = 1 := get_putBit F.clkStatusNpllLock true 0 0 (by decide) (by decide)
  have hother (r : RegName) (h : r ≠ .clkStatus) : (pllShow 2 true (pllShow 1 true s)).word r = s.word r :=
    (word_put_other _ F.clkStatusNpllLock _ 0 0 r 0 0 h).trans (word_put_other s F.clkStatusPpllLock _ 0 0 r 0 0 h)
  rw [locksShown, hppll, hnpll, hother .sysStatus (by decide), hother .cfgPolicy (by decide)]

theorem locksShown_putNth (f : Fld) (i : Nat) (b : Bool) (hreg : f.reg = .clkStatus) (h : f.lo ≤ f.hi) (hhi : f.hi < 23) :
    locksShown (s.putNth f i b) = locksShown s := by
  have hother (r : RegName) (hr : r ≠ .clkStatus) : (s.putNth f i b).word r = s.word r :=
    word_put_other s f _ 0 0 r 0 0 (by rw [hreg]; exact hr)
  have hbit (g : Fld) (hg : g.reg = .clkStatus) (hlo : 23 ≤ g.lo) : (s.putNth f i b).get g = s.get g :=
    get_put_other_bits s f g _ 0 0 (hg.trans hreg.symm) h (by omega) (Or.inr (by omega))
  rw [locksShown, hother .sysStatus (by decide), hother .cfgPolicy (by decide), hbit F.clkStatusPpllLock rfl (by decide),
    hbit F.clkStatusNpllLock rfl (by decide)]
  rfl

theorem locksShown_modClk (f : ClkSt → ClkSt) : locksShown (s.modClk f) = locksShown s := rfl

/-- The synthesisers of the Quill groups lock. -/
def qpllsLocked (s : State) : State :=
  (((s.putNth F.clkStatusQpllLock 0 true).putNth F.clkStatusQpllLock 1 true).putNth F.clkStatusQpllLock 2 true).putNth F.clkStatusQpllLock 3 true

theorem qpllsLocked_shown : (qpllsLocked s).get F.clkStatusQpllLock = 15 ∧ locksShown (qpllsLocked s) = locksShown s := by
  have hlt : s.get F.clkStatusQpllLock < 16 := bits_lt _ 15 12
  constructor
  · rw [qpllsLocked, get_putNth _ _ _ (by decide) (by decide), get_putNth _ _ _ (by decide) (by decide), get_putNth _ _ _ (by decide) (by decide),
      get_putNth _ _ _ (by decide) (by decide)]
    exact setBits_all hlt
  · rw [qpllsLocked, locksShown_putNth _ _ _ rfl (by decide) (by decide), locksShown_putNth _ _ _ rfl (by decide) (by decide),
      locksShown_putNth _ _ _ rfl (by decide) (by decide), locksShown_putNth _ _ _ rfl (by decide) (by decide)]

theorem get_modClk (f : ClkSt → ClkSt) (g : Fld) : (s.modClk f).get g = s.get g := rfl

theorem mpllLock_qpll (i : Nat) : (s.putNth F.clkStatusMpllLock i true).get F.clkStatusQpllLock = s.get F.clkStatusQpllLock :=
  get_put_other_bits s F.clkStatusMpllLock F.clkStatusQpllLock _ 0 0 rfl (by decide) (by decide) (by decide)

/-- The clocks' status once every synthesiser has locked. -/
theorem allLocked_shown :
    ∃ t, (List.range 9).foldl (fun s k => if (0 : BitVec 10).toNat.testBit (k + 1) then pllFail (k + 1) (pllShow (k + 1) false s)
        else pllShow (k + 1) true s) s = t ∧ t.get F.clkStatusQpllLock = 15 ∧ locksShown t = (1, 1, s.word .sysStatus, s.word .cfgPolicy) := by
  have hbit (k : Nat) : (0 : BitVec 10).toNat.testBit k = false := Nat.zero_testBit k
  have hrange : List.range 9 = [0, 1, 2, 3, 4, 5, 6, 7, 8] := rfl
  have hfirst := locksShown_lock (s := s)
  have hall : (List.range 9).foldl (fun s k => if (0 : BitVec 10).toNat.testBit (k + 1) then pllFail (k + 1) (pllShow (k + 1) false s)
        else pllShow (k + 1) true s) s
      = (((qpllsLocked (pllShow 2 true (pllShow 1 true s))).putNth F.clkStatusMpllLock 0 true).putNth F.clkStatusMpllLock 1 true).modClk
        (fun c => { c with epllLost := false }) := by
    simp only [hbit, Bool.false_eq_true, if_false, hrange, List.foldl_cons, List.foldl_nil]
    rfl
  obtain ⟨hq, hshown⟩ := qpllsLocked_shown (s := pllShow 2 true (pllShow 1 true s))
  refine ⟨_, hall, ?_, ?_⟩
  · rw [get_modClk, mpllLock_qpll, mpllLock_qpll, hq]
  · rw [locksShown_modClk, locksShown_putNth _ _ _ rfl (by decide) (by decide), locksShown_putNth _ _ _ rfl (by decide) (by decide), hshown, hfirst]

/-- Start-up goes from its clocks' phase to BOOT. -/
theorem clocksPhase_ends (hphase : s.get F.sysStatusPhase = 2) :
    ∃ t, exec (.clocksPhaseDone 0) s = .next t ∧ t.get F.sysStatusPhase = 3 ∧ t.get F.clkStatusPpllLock = 1 ∧ t.get F.clkStatusNpllLock = 1 ∧
      t.get F.clkStatusQpllLock = 15 ∧ t.word .cfgPolicy = BitVec.ofNat 32 s.otp.policy := by
  generalize hu : (s.put F.sysStatusPhase 3).setWord .cfgPolicy (BitVec.ofNat 32 s.otp.policy) = u
  have huphase : u.get F.sysStatusPhase = 3 := by
    rw [← hu]
    exact (get_of_word F.sysStatusPhase 0 0 (word_setWord_other _ _ _ _ _ _ _ _ (by decide))).trans
      (get_put_lt s F.sysStatusPhase 0 0 (by decide) (by decide) (by decide))
  have hupolicy : u.word .cfgPolicy = BitVec.ofNat 32 s.otp.policy := by
    rw [← hu]
    exact word_setWord_same ..
  obtain ⟨v, hv, hq, hlocks⟩ := allLocked_shown (s := u)
  have hgo : s.get F.sysStatusPhase = 2 ∧ (0 : BitVec 10).toNat.testBit 1 = false := ⟨hphase, by decide⟩
  have hexec : exec (.clocksPhaseDone 0) s = .next (drawK0 ((List.range 36).foldl (fun s c => bootChannel c s) v)) := by
    change execClocksPhaseDone 0 s = _
    rw [execClocksPhaseDone, if_pos hgo]
    simp only [hu, hv]
  have hshown : startShown (drawK0 ((List.range 36).foldl (fun s c => bootChannel c s) v)) = startShown v :=
    startShown_drawK0.trans (foldl_keep _ startShown (fun t c => startShown_bootChannel c) _ v)
  generalize drawK0 ((List.range 36).foldl (fun s c => bootChannel c s) v) = t at hexec hshown
  simp only [startShown, Prod.mk.injEq] at hshown
  simp only [locksShown, Prod.mk.injEq] at hlocks
  obtain ⟨hsys, hclk, hpolicy⟩ := hshown
  obtain ⟨hppll, hnpll, hvsys, hvpolicy⟩ := hlocks
  exact ⟨t, hexec, (get_of_word F.sysStatusPhase 0 0 (hsys.trans hvsys)).trans huphase, (get_of_word F.clkStatusPpllLock 0 0 hclk).trans hppll,
    (get_of_word F.clkStatusNpllLock 0 0 hclk).trans hnpll, (get_of_word F.clkStatusQpllLock 0 0 hclk).trans hq, hpolicy.trans (hvpolicy.trans hupolicy)⟩

end

/-! ### On-chip memory at start-up -/

/-- What the filling of on-chip memory leaves. -/
def fillShown (s : State) : Tab Byte × Word := (s.syn, s.word .sysStatus)

section
variable {s : State}

theorem fillShown_put (f : Fld) (v i j : Nat) (h : RegName.sysStatus ≠ f.reg) : fillShown (s.put f v i j) = fillShown s := by
  rw [fillShown, word_put_other s f v i j .sysStatus 0 0 h]
  rfl

theorem fillShown_modBank (id : BankId) (f : BankSt → BankSt) : fillShown (s.modBank id f) = fillShown s := rfl

theorem fillShown_bankFilled (id : BankId) : fillShown (bankFilled id s) = fillShown s := by
  simp only [bankFilled]
  split
  · exact fillShown_modBank ..
  · rw [fillShown_modBank, State.setPower, fillShown_modBank, fillShown_put _ _ _ _ (fld_reg_ne id (by decide) (by decide)),
      fillShown_put _ _ _ _ (fld_reg_ne id (by decide) (by decide)), State.clear, fillShown_put _ _ _ _ (fld_reg_ne id (by decide) (by decide)),
      State.clear, fillShown_put _ _ _ _ (fld_reg_ne id (by decide) (by decide))]

theorem fillShown_modShadow (g : Nat) (f : ShadowSt → ShadowSt) : fillShown (s.modShadow g f) = fillShown s := rfl

theorem fillShown_modCore (n : Nat) (f : CoreSt → CoreSt) : fillShown (s.modCore n f) = fillShown s := rfl

theorem fillShown_windowCut (n : Nat) : fillShown (windowCut n s) = fillShown s := by
  simp only [windowCut]
  split
  · simp only [nextTarget]
    split
    · rw [fillShown_put _ _ _ _ (by decide), fillShown_modShadow, State.clear, fillShown_put _ _ _ _ (by decide)]
    · rw [fillShown_modShadow, State.clear, fillShown_put _ _ _ _ (by decide)]
  · rfl

theorem fillShown_haltCore (n cause : Nat) : fillShown (haltCore n cause s) = fillShown s := by
  unfold haltCore
  extract_lets t u
  have ht : fillShown t = fillShown s := (fillShown_put F.qcStatusHalted 1 n 0 (by decide)).trans (fillShown_windowCut n)
  have hu : fillShown u = fillShown t := fillShown_modCore ..
  clear_value u t
  exact Eq.trans rfl (hu.trans ht)

theorem fillShown_resetCore (n : Nat) : fillShown (resetCore n s) = fillShown s := by
  have hloads : fillShown (dropLoads n s) = fillShown s := by
    simp only [dropLoads]
    split <;> rfl
  exact Eq.trans rfl hloads

theorem fillShown_coreRelease (n : Nat) : fillShown (coreRelease n s) = fillShown s := by
  have hboot (t : State) : fillShown (bootCore n true t) = fillShown t := by
    simp only [bootCore]
    repeat' split
    · exact (fillShown_haltCore n 4).trans (fillShown_put F.qcStatusState _ n 0 (by decide))
    · exact (fillShown_haltCore n 1).trans (fillShown_put F.qcStatusState _ n 0 (by decide))
    · exact fillShown_put F.qcStatusState _ n 0 (by decide)
  unfold coreRelease
  split
  · exact fillShown_put F.qcStatusPendingEnable 1 n 0 (by decide)
  · split
    · rw [hboot, fillShown_resetCore]
      exact fillShown_put F.qcStatusPendingEnable 0 n 0 (by decide)
    · rfl

/-- The cores that wait for the memory are released once it is filled. -/
def coresReleased (s : State) : State :=
  (List.range 128).foldl (fun s n => if s.bit F.qcStatusPendingEnable n then coreRelease n s else s) s

/-- Every bank counts as filled. -/
def banksFilled (s : State) : State :=
  (List.range 256).foldl (fun s n => bankFilled (.scratch (Fin.ofNat 256 n)) s)
    ((List.range 8192).foldl (fun s n => bankFilled (.block (Fin.ofNat 8192 n)) s) s)

theorem fillShown_filled : fillShown (coresReleased (banksFilled s)) = fillShown s := by
  unfold coresReleased banksFilled
  refine (foldl_keep _ fillShown (fun t n => ?_) _ _).trans ((foldl_keep _ fillShown (fun t n => fillShown_bankFilled _) _ _).trans
    (foldl_keep _ fillShown (fun t n => fillShown_bankFilled _) _ s))
  split
  · exact fillShown_coreRelease n
  · rfl

theorem filled_mem : (coresReleased (banksFilled s)).mem = s.mem := by
  unfold coresReleased banksFilled
  refine (foldl_keep _ (fun t => t.mem) (fun t n => ?_) _ _).trans ((foldl_keep _ (fun t => t.mem) (fun t n => (bankFilled_untouched ..).1) _ _).trans
    (foldl_keep _ (fun t => t.mem) (fun t n => (bankFilled_untouched ..).1) _ s))
  split
  · exact (coreRelease_untouched ..).1
  · rfl

end

theorem onchipFill_runs {s : State} (hphase : s.get F.sysStatusPhase = 3) (hpending : s.fillPending = true)
    (htest : s.bit F.sysStatusSelftestDone = true) :
    ∃ t, exec .onchipFillDone s = .next t ∧ fillShown t = fillShown ({ s with mem := [], syn := [] }.flag F.sysStatusOnchipFilled) ∧ t.mem = [] := by
  refine ⟨coresReleased (banksFilled ({ s with mem := [], syn := [] }.flag F.sysStatusOnchipFilled)), ?_, fillShown_filled, filled_mem⟩
  change execOnchipFillDone s = _
  rw [execOnchipFillDone, if_pos ⟨hphase, hpending, htest⟩, coresReleased, banksFilled]

theorem powerOnReset_leaves (s : State) : (powerOnReset s).clk.held = true ∧ (powerOnReset s).flash = s.flash ∧ (powerOnReset s).otp = s.otp ∧
    (powerOnReset s).mem = [] ∧ (powerOnReset s).near = [] ∧ (powerOnReset s).pt = 0 ∧ (powerOnReset s).warm = false :=
  ⟨rfl, rfl, rfl, rfl, rfl, rfl, rfl⟩

theorem systemReset_runs {s : State} (hdue : s.clk.resetDue ≠ 0) :
    ∃ t, exec .systemReset s = .next t ∧ t.clk.held = true ∧ t.warm = true ∧ t.flash = s.flash ∧ t.otp = s.otp ∧ t.pt = s.pt ∧ t.near = s.near ∧
      t.clk.resetDue = 0 ∧ t.started = false ∧ (t.word .sysRstcause).toNat = (s.word .sysRstcause).toNat ||| s.clk.resetDue % 2 ^ 32 := by
  obtain ⟨v, hrun, h⟩ := systemReset_leaves (s := s) s.clk.resetDue
  have hexec : exec .systemReset s = .next (v.modClk (fun c => { c with held := true })) := by
    change execSystemReset s = _
    rw [execSystemReset, if_neg hdue, hrun]
  have hreset : v.clk.resetDue = 0 := by rw [h.clk]
  have hstarted : v.started = false := congrArg (fun n => n != 0) h.stopped
  have hcause : (v.word .sysRstcause).toNat = (s.word .sysRstcause).toNat ||| s.clk.resetDue % 2 ^ 32 := by
    rw [h.cause, BitVec.toNat_ofNat, Nat.or_mod_two_pow, Nat.mod_eq_of_lt (s.word .sysRstcause).isLt]
  exact ⟨_, hexec, rfl, h.warm, h.flash, h.otp, h.pt, h.near, hreset, hstarted, hcause⟩

/-- Settles O36: each clause by what its reset or its phase leaves. -/
theorem resetCommandsComplete : Obligations.ResetCommandsComplete := by
  unfold Obligations.ResetCommandsComplete
  refine ⟨fun s => ⟨powerOnReset s, rfl, rfl, rfl, powerOnReset_leaves s⟩, fun s hheld hcold => ?_, fun s => rfl,
    fun v s => ⟨fun hkey hset => ?_, fun hbad => ?_⟩, fun s hdue => ?_, fun s hheld hwarm hattach hhold => ?_, fun s hphase => ?_,
    fun s hphase hpending htest => ?_⟩
  · change execPowerStable s = _
    rw [execPowerStable, if_pos ⟨hheld, hcold⟩]
    rfl
  · change execSysRstWrite v s = _
    rw [execSysRstWrite, sysRstWrite, if_pos ⟨hkey, hset⟩]
    rfl
  · have hno : ¬ (bits v.toNat 31 20 = 0xA49 ∧ bitAt v.toNat 0 = true) := by
      rintro ⟨hkey, hset⟩
      rcases hbad with h | h
      · exact h hkey
      · exact absurd (hset.symm.trans h) (by decide)
    change execSysRstWrite v s = _
    rw [execSysRstWrite, sysRstWrite, if_neg hno]
    rfl
  · exact systemReset_runs hdue
  · have hattach' : (s.modClk (fun c => { c with held := false })).bit F.dbgConnectAttach = false := hattach
    have hhold' : (s.modClk (fun c => { c with held := false })).bit F.dbgConnectHoldSceum = false := hhold
    change execSystemResetRelease s = _
    unfold execSystemResetRelease
    rw [if_pos ⟨hheld, hwarm⟩]
    simp only [hattach', hhold', Bool.false_eq_true, if_false]
    rfl
  · exact clocksPhase_ends hphase
  · obtain ⟨t, hexec, hshown, hmem⟩ := onchipFill_runs hphase hpending htest
    refine ⟨t, hexec, hmem, congrArg Prod.fst hshown, ?_⟩
    exact (get_of_word F.sysStatusOnchipFilled 0 0 (congrArg Prod.snd hshown)).trans
      (get_put_lt _ F.sysStatusOnchipFilled 0 0 (by decide) (by decide) (by decide))

end Sys2Proof.Machine
end


/-!
Links and states of a cascade, service blocks (O37; 18 R552 to R566).
-/
section
namespace Sys2Proof.Machine

section
variable {s : State}

theorem bit_put_other_reg (f g : Fld) (v i j i' j' : Nat) (h : g.reg ≠ f.reg) : (s.put f v i j).bit g i' j' = s.bit g i' j' :=
  congrArg (fun n => n != 0) (get_put_other_reg s f g v i j i' j' h)

theorem bit_put_other_bits (f g : Fld) (v i j : Nat) (hr : g.reg = f.reg) (h : f.lo ≤ f.hi) (h32 : f.hi ≤ 31) (d : g.hi < f.lo ∨ f.hi < g.lo) :
    (s.put f v i j).bit g i j = s.bit g i j :=
  congrArg (fun n => n != 0) (get_put_other_bits s f g v i j hr h h32 d)

theorem bits_self (v k : Nat) : bits v k k = b2n (bitAt v k) := by
  have hwidth : k + 1 - k = 1 := by omega
  rw [bits, bitAt, hwidth, Nat.shiftRight_eq_div_pow, Nat.testBit_eq_decide_div_mod_eq, Nat.pow_one]
  rcases Nat.mod_two_eq_zero_or_one (v / 2 ^ k) with h | h <;> rw [h] <;> rfl

theorem cascOfCode_code (c : CascState) : CascState.ofCode c.code = c := by cases c <;> rfl

theorem cascSt_setCasc (c : CascState) : (s.setCasc c).cascSt = c := by
  have hget : (s.setCasc c).get F.cascStatusState = c.code :=
    get_put_lt s F.cascStatusState 0 0 (by decide) (by decide) (by cases c <;> decide)
  rw [State.cascSt, hget, cascOfCode_code]

/-! ### Links -/

/-- What a link's register holds, with the lanes and the memory. -/
def linkShown (l : Nat) (s : State) := (s.word .cascLink l, s.lanes, s.mem)

theorem linkShown_put (l : Nat) (f : Fld) (v i j : Nat) (h : RegName.cascLink ≠ f.reg) : linkShown l (s.put f v i j) = linkShown l s := by
  rw [linkShown, word_put_other s f v i j .cascLink l 0 h]
  rfl

theorem linkShown_setWord (l : Nat) (r : RegName) (v : Word) (i j : Nat) (h : RegName.cascLink ≠ r) :
    linkShown l (s.setWord r v i j) = linkShown l s := by
  rw [linkShown, word_setWord_other s r .cascLink v i j l 0 h]
  rfl

theorem linkShown_modCasc (l : Nat) (f : CascSt → CascSt) : linkShown l (s.modCasc f) = linkShown l s := rfl

theorem linkShown_modClink (l k : Nat) (f : CLink → CLink) : linkShown l (s.modClink k f) = linkShown l s := rfl

theorem linkShown_setCasc (l : Nat) (c : CascState) : linkShown l (s.setCasc c) = linkShown l s := by
  rw [State.setCasc, linkShown_modCasc, linkShown_put _ _ _ _ _ (by decide)]

theorem linkShown_cascStart (l : Nat) : linkShown l (cascStart s) = linkShown l s := by
  unfold cascStart
  split
  · split
    · rw [linkShown_setCasc, linkShown_put _ _ _ _ _ (by decide)]
    · rw [enterJoining, linkShown_modCasc, linkShown_setCasc, linkShown_put _ _ _ _ _ (by decide)]
  · rfl

/-- A link's register written while no other link is in use. -/
theorem cascLinkWrite_legal {l v : Nat} (hopen : s.bit F.cascCtrlLock = false) (hb : bits v 5 0 < 48)
    (hmode : s.get F.laneCfgMode (bits v 5 0) = modeCascade) (hothers : ∀ k, k < 15 → k ≠ l → s.bit F.cascLinkEn k = false) :
    ∃ t, cascLinkWrite l v s = (t, .ok) ∧ linkShown l t = linkShown l ((((s.put F.cascLinkEn (bits v 31 31) l).put F.cascLinkUp (bits v 30 30) l).put
      F.cascLinkSvc (bits v 10 8) l).put F.cascLinkBundle (bits v 5 0) l) := by
  unfold cascLinkWrite
  rw [hopen, if_neg Bool.false_ne_true]
  extract_lets b other fresh t u w
  have hother : other = false := List.any_eq_false.mpr fun k hk h => by
    simp only [Bool.and_eq_true, bne_iff_ne] at h
    exact absurd (h.1.2.symm.trans (hothers k (List.mem_range.mp hk) h.1.1)) (by decide)
  have hlegal : (bitAt v 31 && (decide (48 ≤ b) || s.get F.laneCfgMode b != modeCascade || other)) = false := by
    rw [hother, hmode, decide_eq_false (not_le.mpr hb), bne_self_eq_false, Bool.or_self, Bool.or_self, Bool.and_false]
  rw [hlegal, if_neg Bool.false_ne_true]
  refine ⟨_, rfl, ?_⟩
  have hw : linkShown l w = linkShown l u := by
    simp only [w]
    split
    · rw [linkShown_modClink, linkShown_setWord _ _ _ _ _ (by decide)]
    · rfl
  exact (linkShown_cascStart l).trans hw

/-! ### The control register -/

theorem cascStart_master (hoff : s.cascSt = .off) (hen : s.bit F.cascCtrlEn = true) (hstrap : s.bit F.sysStrapCascMaster = true)
    (hlinks : s.upLinks = []) : cascStart s = (s.put F.cascStatusMember 0).setCasc .master := by
  have hvalid : s.cascValid = true := by rw [State.cascValid, if_pos hstrap, hlinks]; rfl
  rw [cascStart, if_pos ⟨hoff, hen, hvalid⟩, if_pos hstrap]

theorem cascCtrlWrite_master {v : Nat} (hopen : s.bit F.cascCtrlLock = false) (hv : v % 2 ^ 12 = 2 ^ 8) (hrejoin : bits v 31 31 = 0)
    (hoff : s.cascSt = .off) (hstrap : s.bit F.sysStrapCascMaster = true) (hlinks : s.upLinks = []) :
    ∃ t, cascCtrlWrite v s = (t, .ok) ∧ t.cascSt = .master ∧ t.cascMember = 0 ∧ t.get F.cascCtrlEn = 1 ∧ t.mem = s.mem := by
  have hbit (k : Nat) (hk : k < 12) : bitAt v k = bitAt (2 ^ 8) k := by
    rw [bitAt, bitAt, ← hv, Nat.testBit_mod_two_pow, decide_eq_true hk, Bool.true_and]
  have hstart : bitAt v 8 = true := (hbit 8 (by decide)).trans (by decide)
  have hnolock : bitAt v 0 = false := (hbit 0 (by decide)).trans (by decide)
  have hen1 : bits v 8 8 = 1 := by rw [bits_self, hstart]; rfl
  have hnorejoin : bitAt v 31 = false := by
    cases hb : bitAt v 31 with
    | false => rfl
    | true =>
      rw [bits_self, hb] at hrejoin
      exact absurd hrejoin (by decide)
  generalize hu : ((s.put F.cascCtrlAutoOrbit (bits v 16 16)).put F.cascCtrlMember (bits v 15 12)).put F.cascCtrlEn (bits v 8 8) = u
  have hother (f : Fld) (i : Nat) (hf : f.reg ≠ .cascCtrl) : u.get f i = s.get f i := by
    rw [← hu]
    exact (get_put_other_reg _ F.cascCtrlEn f _ 0 0 i 0 hf).trans ((get_put_other_reg _ F.cascCtrlMember f _ 0 0 i 0 hf).trans
      (get_put_other_reg s F.cascCtrlAutoOrbit f _ 0 0 i 0 hf))
  have huen : u.get F.cascCtrlEn = 1 := by
    rw [← hu, hen1]
    exact get_put_lt _ F.cascCtrlEn 0 0 (by decide) (by decide) (by decide)
  have hulinks : u.upLinks = [] := by
    rw [← hlinks]
    simp only [State.upLinks, State.bit, hother F.cascLinkEn _ (by decide), hother F.cascLinkUp _ (by decide)]
  have huoff : u.cascSt = .off := (congrArg CascState.ofCode (hother F.cascStatusState 0 (by decide))).trans hoff
  have hustrap : u.bit F.sysStrapCascMaster = true := (congrArg (fun n => n != 0) (hother F.sysStrapCascMaster 0 (by decide))).trans hstrap
  have humem : u.mem = s.mem := by rw [← hu]; rfl
  have hrun := cascStart_master huoff (by rw [State.bit, huen]; rfl) hustrap hulinks
  have hmaster : ¬ ((u.put F.cascStatusMember 0).setCasc .master).cascSt = .off := by
    rw [cascSt_setCasc]
    decide
  refine ⟨(u.put F.cascStatusMember 0).setCasc .master, ?_, cascSt_setCasc _, ?_, ?_, humem⟩
  · simp only [cascCtrlWrite, hopen, Bool.false_eq_true, if_false, hu, hstart, if_true, hrun, hnorejoin, hnolock, if_neg hmaster]
  · exact (get_put_other_bits _ F.cascStatusState F.cascStatusMember _ 0 0 rfl (by decide) (by decide) (by decide)).trans
      (get_put_lt u F.cascStatusMember 0 0 (by decide) (by decide) (by decide))
  · exact (get_put_other_reg _ F.cascStatusState F.cascCtrlEn _ 0 0 0 0 (by decide)).trans
      ((get_put_other_reg u F.cascStatusMember F.cascCtrlEn _ 0 0 0 0 (by decide)).trans huen)

/-! ### Service blocks -/

/-- What a block's header shows of its link, with the memories. -/
def peerShown (l : Nat) (s : State) :=
  (s.get F.cascLstatPeerMember l, s.get F.cascLstatPeerMaster l, s.get F.cascLstatPeerUpOk l, (s.clink l).lastGood, s.mem, s.near)

theorem peerShown_put (l : Nat) (f : Fld) (v i j : Nat) (h : RegName.cascLstat ≠ f.reg) : peerShown l (s.put f v i j) = peerShown l s := by
  rw [peerShown, get_put_other_reg s f F.cascLstatPeerMember v i j l 0 h, get_put_other_reg s f F.cascLstatPeerMaster v i j l 0 h,
    get_put_other_reg s f F.cascLstatPeerUpOk v i j l 0 h]
  rfl

theorem eventFrame_peerShown (l : Nat) : EventFrame (peerShown l) where
  emit _ _ := rfl
  host _ _ := rfl
  log _ _ := rfl
  put s f v h := by
    refine peerShown_put l f v 0 0 ?_
    intro e
    rw [← e] at h
    revert h
    decide

theorem peerShown_raise (l : Nat) (e : Ev) (o v : Nat) : peerShown l (s.raise e o v) = peerShown l s := (eventFrame_peerShown l).raise s e o v

theorem peerShown_modClink (l : Nat) (f : CLink → CLink) (hf : (f (s.clink l)).lastGood = (s.clink l).lastGood) :
    peerShown l (s.modClink l f) = peerShown l s := by
  have hlink : (s.modClink l f).clink l = f (s.clink l) := tab_get_put_same ..
  rw [peerShown, hlink, hf]
  rfl

theorem peerShown_modCasc (l : Nat) (f : CascSt → CascSt) (hf : (f s.casc).links = s.casc.links) : peerShown l (s.modCasc f) = peerShown l s := by
  have hlink : (s.modCasc f).clink l = s.clink l := by rw [State.clink, State.clink, ← hf]; rfl
  rw [peerShown, hlink]
  rfl

theorem peerShown_aligned (l : Nat) (b : Bool) : peerShown l (s.putBit F.cascLstatAligned b l) = peerShown l s := by
  rw [peerShown, State.putBit, get_put_other_bits s F.cascLstatAligned F.cascLstatPeerMember _ l 0 rfl (by decide) (by decide) (by decide),
    get_put_other_bits s F.cascLstatAligned F.cascLstatPeerMaster _ l 0 rfl (by decide) (by decide) (by decide),
    get_put_other_bits s F.cascLstatAligned F.cascLstatPeerUpOk _ l 0 rfl (by decide) (by decide) (by decide)]
  rfl

theorem peerShown_setCasc (l : Nat) (c : CascState) : peerShown l (s.setCasc c) = peerShown l s :=
  (peerShown_modCasc (s := s.put F.cascStatusState c.code) l _ rfl).trans (peerShown_put l F.cascStatusState _ 0 0 (by decide))

theorem peerShown_ackService (l ack : Nat) : peerShown l (ackService l ack s) = peerShown l s := by
  refine peerShown_modClink l _ ?_
  dsimp only
  split <;> rfl

theorem peerShown_serviceReplay (l : Nat) : peerShown l (serviceReplay l s) = peerShown l s := by
  unfold serviceReplay
  split
  · rfl
  · exact (peerShown_put l F.cascLcntReplays _ l 0 (by decide)).trans (peerShown_modClink l _ rfl)

theorem peerShown_takeData (l : Nat) (body : List Byte) : peerShown l (takeData l body s) = peerShown l s := by
  unfold takeData
  extract_lets c bs r known bad t
  have ht : peerShown l t = peerShown l s := peerShown_modClink l _ rfl
  clear_value bad t
  split
  · exact ht
  · exact (peerShown_put l F.cascErrProtocol 1 0 0 (by decide)).trans ((peerShown_put l F.cascLcntProtocol _ l 0 (by decide)).trans ht)

theorem peerShown_masterSeen (l : Nat) (upOk : Bool) : peerShown l (masterSeen l upOk s) = peerShown l s := by
  unfold masterSeen
  split
  · exact (peerShown_raise l _ _ _).trans (peerShown_modCasc l _ rfl)
  · rfl

theorem peerShown_countMatch (l : Nat) : peerShown l (countMatch s) = peerShown l s := by
  have hrun : peerShown l (s.modCasc (fun k => { k with run := k.run + 1 })) = peerShown l s := peerShown_modCasc l _ rfl
  simp only [countMatch]
  split
  · exact (peerShown_setCasc l _).trans hrun
  · exact hrun

theorem peerShown_enterMismatch (l k : Nat) (c : Compared) : peerShown l (enterMismatch k c s) = peerShown l s := by
  simp only [enterMismatch, peerShown_raise]
  split
  · exact (peerShown_put l F.cascErrCrossMismatch 1 0 0 (by decide)).trans (peerShown_setCasc l _)
  · exact (peerShown_put l F.cascErrOrbitDiff 1 0 0 (by decide)).trans (peerShown_setCasc l _)

theorem peerShown_setPair (l : Nat) (lo hi : RegName) (v : Nat) (hlo : RegName.cascLstat ≠ lo) (hhi : RegName.cascLstat ≠ hi) :
    peerShown l (s.setPair lo hi v) = peerShown l s := by
  have hword : (s.setPair lo hi v).word .cascLstat l = s.word .cascLstat l := by
    rw [State.setPair, word_setWord_other _ _ _ _ _ _ _ _ hhi, word_setWord_other _ _ _ _ _ _ _ _ hlo]
  rw [peerShown, get_of_word F.cascLstatPeerMember l 0 hword, get_of_word F.cascLstatPeerMaster l 0 hword,
    get_of_word F.cascLstatPeerUpOk l 0 hword]
  rfl

theorem peerShown_orbitLoad (l : Nat) : peerShown l (mtOrbitLoad s) = peerShown l s := rfl

theorem peerShown_cascLoad (l theirs slot : Nat) : peerShown l (cascLoad theirs slot s) = peerShown l s := by
  simp only [cascLoad, peerShown_raise]
  rw [peerShown_modCasc l _ rfl, peerShown_orbitLoad, peerShown_setPair l _ _ _ (by decide) (by decide)]

theorem peerShown_upBlock (l k : Nat) (c : Compared) (theirs slot : Nat) : peerShown l (upBlock k c theirs slot s) = peerShown l s := by
  have hnone : peerShown l (s.modCasc (fun k => { k with run := 0 })) = peerShown l s := peerShown_modCasc l _ rfl
  have hbad (n : Nat) : peerShown l (s.modCasc (fun k => { k with badRun := n, badAt := s.mt.boundary })) = peerShown l s := peerShown_modCasc l _ rfl
  have hclear : peerShown l (s.modCasc (fun k => { k with badRun := 0 })) = peerShown l s := peerShown_modCasc l _ rfl
  unfold upBlock
  dsimp only
  repeat' split
  · exact peerShown_countMatch l
  · exact hnone
  · rw [peerShown_enterMismatch, hnone]
  · rw [peerShown_cascLoad, hnone]
  · exact hnone
  · exact peerShown_enterMismatch l k _
  · rw [hclear]
  · rw [peerShown_enterMismatch, hbad]
  · rw [hbad]
  · rw [peerShown_enterMismatch, hbad]
  · rw [hbad]
  · exact peerShown_countMatch l
  · exact hnone
  · rfl
  · exact peerShown_countMatch l
  · exact hnone
  · rfl
  · rfl

theorem peerShown_compareBlock (l orbit cross : Nat) : peerShown l (compareBlock l orbit cross s) = peerShown l s := by
  unfold compareBlock
  split
  · rfl
  · extract_lets b c t u
    have ht : peerShown l t = peerShown l s := by
      simp only [t]
      split
      · exact peerShown_modClink l _ rfl
      · exact (peerShown_put l F.cascLcntMismatched _ l 0 (by decide)).trans (peerShown_modClink l _ rfl)
    have hu : peerShown l u = peerShown l t := peerShown_aligned l _
    clear_value c u t
    split
    · exact (peerShown_upBlock l l _ _ _).trans (hu.trans ht)
    · exact hu.trans ht

/-- What a good block's header says of its link's far end. -/
def headerTaken (l h : Nat) (s : State) : State :=
  (((s.modClink l (fun c => { c with lastGood := some s.pt, lastUp := if bitAt h 3 then some s.pt else c.lastUp })).putBit
    F.cascLstatPeerMaster (bitAt h 8) l).putBit F.cascLstatPeerUpOk (bitAt h 3) l).put F.cascLstatPeerMember (bits h 7 4) l

theorem headerTaken_shown (l h : Nat) :
    peerShown l (headerTaken l h s) = (bits h 7 4, bits h 8 8, bits h 3 3, some s.pt, s.mem, s.near) := by
  generalize hu : s.modClink l (fun c => { c with lastGood := some s.pt, lastUp := if bitAt h 3 then some s.pt else c.lastUp }) = u
  have hgood : (u.clink l).lastGood = some s.pt := by
    rw [← hu]
    exact congrArg CLink.lastGood (tab_get_put_same ..)
  have hmem : u.mem = s.mem ∧ u.near = s.near := by rw [← hu]; exact ⟨rfl, rfl⟩
  have hrun : headerTaken l h s = ((u.putBit F.cascLstatPeerMaster (bitAt h 8) l).putBit F.cascLstatPeerUpOk (bitAt h 3) l).put
      F.cascLstatPeerMember (bits h 7 4) l := by rw [← hu]; rfl
  have hmember : (headerTaken l h s).get F.cascLstatPeerMember l = bits h 7 4 := by
    rw [hrun]
    exact get_put_lt _ F.cascLstatPeerMember l 0 (by decide) (by decide) (bits_lt h 7 4)
  have hup : (headerTaken l h s).get F.cascLstatPeerUpOk l = bits h 3 3 := by
    rw [hrun, get_put_other_bits _ F.cascLstatPeerMember F.cascLstatPeerUpOk _ l 0 rfl (by decide) (by decide) (by decide),
      get_putBit _ _ _ _ (by decide) (by decide), bits_self]
  have hmaster : (headerTaken l h s).get F.cascLstatPeerMaster l = bits h 8 8 := by
    rw [hrun, get_put_other_bits _ F.cascLstatPeerMember F.cascLstatPeerMaster _ l 0 rfl (by decide) (by decide) (by decide), State.putBit,
      get_put_other_bits _ F.cascLstatPeerUpOk F.cascLstatPeerMaster _ l 0 rfl (by decide) (by decide) (by decide),
      get_putBit _ _ _ _ (by decide) (by decide), bits_self]
  rw [peerShown, hmember, hup, hmaster, hrun]
  exact Prod.ext rfl (Prod.ext rfl (Prod.ext rfl (Prod.ext hgood (Prod.ext hmem.1 hmem.2))))

/-- A good block shows its header, whatever it acknowledges, carries or compares. -/
theorem serviceBlock_good {l : Fin 15} (hrun : s.cascSt ≠ .off) (hen : s.bit F.cascLinkEn l = true)
    (hgood : (s.lane (s.get F.cascLinkBundle l) (s.get F.cascLinkSvc l)).service.bad = false) :
    ∃ t, exec (.serviceBlockRx l) s = .next t ∧
      peerShown l t = peerShown l (headerTaken l (ofBytes ((s.serviceRx l).take 4).reverse) s) := by
  have hgo : ¬ (s.cascSt = .off ∨ s.bit F.cascLinkEn l = false) := by
    rintro (h | h)
    · exact hrun h
    · exact absurd (hen.symm.trans h) (by decide)
  change ∃ t, execServiceBlockRx l s = .next t ∧ _
  unfold execServiceBlockRx
  rw [if_neg hgo, hgood, if_neg Bool.false_ne_true]
  extract_lets block h w1 w2 master upOk t1 t2 two t3 t4 t5 t6
  have h3 : peerShown l t3 = peerShown l t2 := by
    simp only [t3]
    split
    · exact (peerShown_raise l _ _ _).trans (peerShown_put l F.cascErrTwoMasters 1 0 0 (by decide))
    · rfl
  have h4 : peerShown l t4 = peerShown l t3 := peerShown_ackService l _
  have h5 : peerShown l t5 = peerShown l t4 := by
    simp only [t5]
    split
    · exact peerShown_serviceReplay l
    · rfl
  have h6 : peerShown l t6 = peerShown l t5 := by
    simp only [t6]
    split
    · split
      · exact peerShown_modClink l _ rfl
      · exact peerShown_takeData l _
    · rfl
  have h2 : t2 = headerTaken l h s := rfl
  have hall : peerShown l t6 = peerShown l (headerTaken l h s) := by rw [h6, h5, h4, h3, h2]
  refine ⟨_, rfl, ?_⟩
  clear_value t6
  split
  · exact hall
  · rw [peerShown_compareBlock, peerShown_masterSeen, hall]

end

/-- Settles O37: each clause by what its write or event leaves. -/
theorem cascadeLinkCommandsComplete : Obligations.CascadeLinkCommandsComplete := by
  unfold Obligations.CascadeLinkCommandsComplete
  refine ⟨fun l v s hopen hb hmode hothers => ?_, fun v s hopen hv hrejoin hoff hstrap hlinks => ?_, fun s => ⟨fun hst => ?_, fun hst => ?_⟩,
    fun l s hrun hen => ?_, fun l s hrun hen hwait => ?_, fun l s hst hup hgone => ?_⟩
  · obtain ⟨t, hwrite, hshown⟩ := cascLinkWrite_legal (s := s) (l := l.val) hopen hb hmode hothers
    have hexec : exec (.cascLinkWrite l v) s = .next (t.answer .ok) := by
      change reply (cascLinkWrite l v.toNat s) = _
      rw [hwrite, reply]
    simp only [linkShown, Prod.mk.injEq] at hshown
    obtain ⟨hword, hlanes, hmem⟩ := hshown
    refine ⟨t, hexec, ?_, ?_, ?_, ?_, hmem, hlanes⟩
    · rw [get_of_word F.cascLinkEn l.val 0 hword,
        get_put_other_bits _ F.cascLinkBundle F.cascLinkEn _ l.val 0 rfl (by decide) (by decide) (by decide),
        get_put_other_bits _ F.cascLinkSvc F.cascLinkEn _ l.val 0 rfl (by decide) (by decide) (by decide),
        get_put_other_bits _ F.cascLinkUp F.cascLinkEn _ l.val 0 rfl (by decide) (by decide) (by decide)]
      exact get_put_lt s F.cascLinkEn l.val 0 (by decide) (by decide) (bits_lt _ 31 31)
    · rw [get_of_word F.cascLinkUp l.val 0 hword,
        get_put_other_bits _ F.cascLinkBundle F.cascLinkUp _ l.val 0 rfl (by decide) (by decide) (by decide),
        get_put_other_bits _ F.cascLinkSvc F.cascLinkUp _ l.val 0 rfl (by decide) (by decide) (by decide)]
      exact get_put_lt _ F.cascLinkUp l.val 0 (by decide) (by decide) (bits_lt _ 30 30)
    · rw [get_of_word F.cascLinkSvc l.val 0 hword,
        get_put_other_bits _ F.cascLinkBundle F.cascLinkSvc _ l.val 0 rfl (by decide) (by decide) (by decide)]
      exact get_put_lt _ F.cascLinkSvc l.val 0 (by decide) (by decide) (bits_lt _ 10 8)
    · rw [get_of_word F.cascLinkBundle l.val 0 hword]
      exact get_put_lt _ F.cascLinkBundle l.val 0 (by decide) (by decide) (bits_lt _ 5 0)
  · obtain ⟨t, hwrite, hst, hmember, hen, hmem⟩ := cascCtrlWrite_master hopen hv hrejoin hoff hstrap hlinks
    refine ⟨t, ?_, hst, hmember, hen, hmem⟩
    change reply (cascCtrlWrite v.toNat s) = _
    rw [hwrite, reply]
  · change reply (cascRejoin s, .ok) = _
    rcases hst with h | h <;> simp only [cascRejoin, h, reply]
  · change reply (cascRejoin s, .ok) = _
    rcases hst with h | h <;> simp only [cascRejoin, h, reply]
  · intro slot block
    have hgo : ¬ (s.cascSt = .off ∨ s.bit F.cascLinkEn l = false) := by
      rintro (h | h)
      · exact hrun h
      · exact absurd (hen.symm.trans h) (by decide)
    refine ⟨fun hbad => ?_, fun hgood => ?_⟩
    · change execServiceBlockRx l s = _
      unfold execServiceBlockRx
      rw [if_neg hgo, if_pos hbad]
    · obtain ⟨t, hexec, hshown⟩ := serviceBlock_good hrun hen hgood
      rw [headerTaken_shown] at hshown
      simp only [peerShown, Prod.mk.injEq] at hshown
      obtain ⟨hmember, hmaster, hup, hlast, hmem, hnear⟩ := hshown
      exact ⟨t, hexec, hmember, hmaster, hup, hlast, hmem, hnear⟩
  · have hsome : ¬ (s.clink l).unacked.isEmpty = true := fun h => hwait (List.isEmpty_iff.mp h)
    change execServiceReplayTimeout l s = _
    rw [execServiceReplayTimeout, if_pos ⟨hrun, hen⟩, serviceReplay, if_neg hsome]
  · change execCascMasterLost s = _
    rcases hst with h | h | h <;> simp only [execCascMasterLost, h, hup, hgone, if_true]

end Sys2Proof.Machine
end


/-!
Messages of a cascade, and members that come and go (O38; 18 R567 to R577).
-/
section
namespace Sys2Proof.Machine

/-! ### A mask with one bit written -/

theorem maskBit_testBit_same (mask k : Nat) (b : Bool) : (maskBit mask k b).testBit k = b := by
  rw [maskBit, testBit_setBits _ _ _ _ _ (Nat.le_refl k), if_pos ⟨Nat.le_refl k, Nat.le_refl k⟩, Nat.sub_self]
  cases b <;> rfl

theorem maskBit_lt {mask k n : Nat} (b : Bool) (hmask : mask < 2 ^ n) (hk : k < n) : maskBit mask k b < 2 ^ n := by
  refine Nat.lt_pow_two_of_testBit _ fun i hi => ?_
  have hout : ¬ (k ≤ i ∧ i ≤ k) := by omega
  rw [maskBit, testBit_setBits _ _ _ _ _ (Nat.le_refl k), if_neg hout]
  exact Nat.testBit_lt_two_pow (Nat.lt_of_lt_of_le hmask (Nat.pow_le_pow_right (by decide) hi))

theorem msgSrc_lt (m : List Byte) : msgSrc m < 16 := bits_lt _ 55 52

/-! ### What the ends of commands leave of the cascade -/

/-- The cascade's own state with its mask of members, its errors and near store. -/
def cascShown (s : State) := (s.casc, s.word .cascMembers, s.word .cascErr, s.near)

section
variable {s : State}

theorem cascShown_put (f : Fld) (v i j : Nat) (hm : RegName.cascMembers ≠ f.reg) (he : RegName.cascErr ≠ f.reg) :
    cascShown (s.put f v i j) = cascShown s := by
  rw [cascShown, word_put_other s f v i j .cascMembers 0 0 hm, word_put_other s f v i j .cascErr 0 0 he]
  rfl

theorem eventFrame_cascShown : EventFrame cascShown where
  emit _ _ := rfl
  host _ _ := rfl
  log _ _ := rfl
  put s f v h := by
    refine cascShown_put f v 0 0 ?_ ?_ <;>
    · intro e
      rw [← e] at h
      revert h
      decide

theorem cascShown_postToken (q v : Nat) : cascShown (s.postToken q v) = cascShown s := rfl

theorem cascShown_host (h : HostSt) : cascShown { s with host := h } = cascShown s := rfl

theorem cascShown_bump_ended : cascShown (s.bump F.ethSendStatEnded) = cascShown s :=
  cascShown_put F.ethSendStatEnded _ 0 0 (by decide) (by decide)

theorem cascShown_streamOver (x : Stream) (status : Nat) : cascShown (streamOver x status s) = cascShown s := by
  simp only [streamOver]
  split
  · rw [cascShown_postToken, cascShown_bump_ended]
  · exact cascShown_bump_ended

theorem cascShown_dropStreams (id : Nat) : cascShown (dropStreams id s) = cascShown s :=
  (foldl_keep _ cascShown (fun t x => cascShown_streamOver (s := t) x 1) _ _).trans (cascShown_host _)

theorem cascShown_endSession (k : Nat) : cascShown (endSession k s) = cascShown s := by
  unfold endSession
  extract_lets t u
  have ht : cascShown t = cascShown s := by
    simp only [t]
    split
    · rfl
    · exact cascShown_dropStreams _
  rw [cascShown_host, eventFrame_cascShown.modSess, ht]

theorem cascShown_storeReply (k status : Nat) (result : List Nat) : cascShown (storeReply k status result s) = cascShown s := by
  unfold storeReply
  extract_lets c ps t u v w
  have hw : cascShown w = cascShown s := by
    simp only [w, v]
    rw [eventFrame_cascShown.modSess, cascShown_host]
    exact foldl_keep _ cascShown (fun t p => eventFrame_cascShown.sendVcp t c.peer p) ps s
  clear_value w v ps t u
  split
  · exact (cascShown_endSession k).trans hw
  · exact hw

/-- The end of a session's command leaves the cascade as it was. -/
theorem cascShown_jobOver (slot : Fin 1024) (id seq op obj status : Nat) (result : List Nat) :
    cascShown (jobOver { origin := .session slot id seq, op := op, obj := obj } status result s) = cascShown s := by
  simp only [jobOver]
  rw [eventFrame_cascShown.blot, eventFrame_cascShown.logEvent]
  rfl

theorem cascShown_casc {t : State} (h : cascShown t = cascShown s) : t.casc = s.casc := congrArg Prod.fst h

/-! ### A message at the head of the inbox -/

variable {l typ : Nat} {m : List Byte} {rest : List (List Byte)} {act : List Byte → State → State}

/-- A message of the type that is for this member is acted on, taken out of the inbox. -/
theorem onMessage_own (hin : (s.clink l).inbox = m :: rest) (htyp : msgType m = typ) (hdst : msgDst m = s.cascMember) :
    onMessage l typ act s = act m (s.modClink l (fun c => { c with inbox := rest })) := by
  have hown : msgDst m = (s.modClink l (fun c => { c with inbox := rest })).cascMember := hdst
  simp only [onMessage, takeMessage, hin, htyp, if_true]
  exact if_pos hown

/-! ### Relayed commands -/

theorem relayServed_known {op : HostFn} (hst : s.cascSt = .aligned)
    (hop : hostFn (Crypto.beNat (((m.drop 8).map BitVec.toNat).take 4) % 65536) = some op) :
    relayServed l m s = (
      let body := (m.drop 8).map BitVec.toNat
      let c : HostCtx :=
        { rights := bits (Crypto.beNat (body.take 4)) 20 16, params := body.drop 8, slot := none, wrap := [], origin := .relay (msgSrc m) (msgTag m) }
      let r := guarded (Crypto.beNat (body.take 4) % 65536) op c s
      cascSend 2 (msgSrc m) (msgTag m) (beWord r.status ++ r.result) r.state) := by
  have hserves : ¬ (s.cascSt = .off ∨ s.cascSt = .master) := by rw [hst]; decide
  simp only [relayServed, hserves, if_false, hop]

theorem relayReplied_relays {r : Relay} (hr : s.relayOf m false = some r) :
    (relayReplied l m s).casc.relays =
      s.casc.relays.filter (· != r) ++ if msgStatus m = vAccepted then [{ r with accepted := true }] else [] := by
  have hlist : (if msgStatus m = vAccepted then s.casc.relays.filter (· != r) ++ [{ r with accepted := true }] else s.casc.relays.filter (· != r)) =
      s.casc.relays.filter (· != r) ++ if msgStatus m = vAccepted then [{ r with accepted := true }] else [] := by
    split
    · rfl
    · exact (List.append_nil _).symm
  unfold relayReplied
  simp only [hr]
  rw [hlist]
  generalize (s.casc.relays.filter (· != r) ++ if msgStatus m = vAccepted then [{ r with accepted := true }] else []) = kept
  split
  · exact congrArg CascSt.relays (cascShown_casc (cascShown_storeReply ..))
  · rfl

theorem relayEnded_relays {r : Relay} (hr : s.relayOf m true = some r) :
    (relayEnded l m s).casc.relays = s.casc.relays.filter (· != r) := by
  simp only [relayEnded, hr]
  exact congrArg CascSt.relays (cascShown_casc (cascShown_jobOver ..))

/-- A relayed command that is ended leaves the cascade as the removal of its entry and the error flag leave it. -/
theorem cascShown_relayAborted (r : Relay) :
    cascShown (relayAborted s r) =
      cascShown ((s.modCasc (fun c => { c with relays := c.relays.filter (· != r) })).flag F.cascErrRelayTimeout) := by
  simp only [relayAborted]
  split
  · exact cascShown_jobOver ..
  · split
    · exact cascShown_storeReply ..
    · rfl

theorem relayAborted_leaves (r : Relay) :
    (relayAborted s r).casc.relays = s.casc.relays.filter (· != r) ∧ (relayAborted s r).get F.cascErrRelayTimeout = 1 ∧
      (relayAborted s r).near = s.near := by
  have h := cascShown_relayAborted (s := s) r
  generalize relayAborted s r = t at h
  simp only [cascShown, Prod.mk.injEq] at h
  obtain ⟨hcasc, hmembers, herr, hnear⟩ := h
  refine ⟨congrArg CascSt.relays hcasc, ?_, hnear⟩
  rw [get_of_word F.cascErrRelayTimeout 0 0 herr]
  exact get_put_lt _ F.cascErrRelayTimeout 0 0 (by decide) (by decide) (by decide)

/-! ### Members -/

/-- What the loss of a member shows, which the end of its relayed commands leaves. -/
def lostShown (s : State) := (s.casc.gone, s.word .cascMembers, s.get F.cascErrMemberLost, s.near)

theorem lostShown_relayAborted (r : Relay) : lostShown (relayAborted s r) = lostShown s := by
  have h := cascShown_relayAborted (s := s) r
  generalize relayAborted s r = t at h
  simp only [cascShown, Prod.mk.injEq] at h
  obtain ⟨hcasc, hmembers, herr, hnear⟩ := h
  have hlost : t.get F.cascErrMemberLost = s.get F.cascErrMemberLost := by
    rw [get_of_word F.cascErrMemberLost 0 0 herr]
    exact get_put_other_bits _ F.cascErrRelayTimeout F.cascErrMemberLost 1 0 0 rfl (by decide) (by decide) (by decide)
  have hmask : t.word .cascMembers = s.word .cascMembers :=
    hmembers.trans (word_put_other _ F.cascErrRelayTimeout 1 0 0 .cascMembers 0 0 (by decide))
  rw [lostShown, hcasc, hnear, hlost, hmask]
  rfl

theorem lostShown_raise (e : Ev) (o v : Nat) : lostShown (s.raise e o v) = lostShown s := by
  have hframe : EventFrame lostShown := by
    refine ⟨fun _ _ => rfl, fun _ _ => rfl, fun _ _ => rfl, fun s f v h => ?_⟩
    have hm : RegName.cascMembers ≠ f.reg := by
      intro e
      rw [← e] at h
      revert h
      decide
    have he : RegName.cascErr ≠ f.reg := by
      intro e
      rw [← e] at h
      revert h
      decide
    rw [lostShown, word_put_other s f v 0 0 .cascMembers 0 0 hm, get_put_other_reg s f F.cascErrMemberLost v 0 0 0 0 he]
    rfl
  exact hframe.raise s e o v

/-- A member's bits in the two masks, as the two writes leave them. -/
def withMember (k : Nat) (present aligned : Bool) (s : State) : State :=
  let s := s.put F.cascMembersPresent (maskBit (s.get F.cascMembersPresent) k present)
  s.put F.cascMembersAligned (maskBit (s.get F.cascMembersAligned) k aligned)

theorem withMember_present {k : Nat} (hk : k < 16) (p a : Bool) : ((withMember k p a s).get F.cascMembersPresent).testBit k = p := by
  have hpresent : maskBit (s.get F.cascMembersPresent) k p < 2 ^ 16 := maskBit_lt p (bits_lt _ 15 0) hk
  rw [withMember, get_put_other_bits _ F.cascMembersAligned F.cascMembersPresent _ 0 0 rfl (by decide) (by decide) (by decide),
    get_put_lt s F.cascMembersPresent 0 0 (by decide) (by decide) hpresent, maskBit_testBit_same]

theorem withMember_aligned {k : Nat} (hk : k < 16) (p a : Bool) : ((withMember k p a s).get F.cascMembersAligned).testBit k = a := by
  have haligned (t : State) : maskBit (t.get F.cascMembersAligned) k a < 2 ^ 16 := maskBit_lt a (bits_lt _ 31 16) hk
  rw [withMember, get_put_lt _ F.cascMembersAligned 0 0 (by decide) (by decide) (haligned _), maskBit_testBit_same]

/-- A member present is told lost: its bit falls, the flag is set and it is among those gone. -/
theorem memberLost_leaves (m : Fin 16) (hst : s.cascSt = .master) (hpresent : (s.get F.cascMembersPresent).testBit m = true) :
    ∃ t : State, exec (.cascMemberLost m) s = .next t ∧ (t.get F.cascMembersPresent).testBit m = false ∧ t.get F.cascErrMemberLost = 1 ∧
      t.casc.gone = s.casc.gone ++ [m.val] ∧ t.mem = s.mem ∧ t.near = s.near := by
  let lost := (((withMember m false false s).modCasc
    (fun c => { c with rollVia := Tab.put 0 c.rollVia m 0, gone := c.gone ++ [m.val] })).flag F.cascErrMemberLost).raise .cascMemberLost 0 m
  have hexec : exec (.cascMemberLost m) s = .next ((lost.casc.relays.filter (fun r => r.member == m.val)).foldl relayAborted lost) :=
    congrArg Host.Outcome.next (if_pos ⟨hst, hpresent⟩)
  have hmem : ((lost.casc.relays.filter (fun r => r.member == m.val)).foldl relayAborted lost).mem = s.mem :=
    (foldl_keep _ State.mem (fun t r => (relayAborted_untouched t r).1) _ _).trans (raise_mem ..)
  have hlost : lostShown lost = (s.casc.gone ++ [m.val], (withMember m false false s).word .cascMembers, 1, s.near) := by
    rw [lostShown_raise, lostShown, State.flag, get_put_lt _ F.cascErrMemberLost 0 0 (by decide) (by decide) (by decide),
      word_put_other _ F.cascErrMemberLost 1 0 0 .cascMembers 0 0 (by decide)]
    rfl
  have hshown := (foldl_keep relayAborted lostShown (fun t r => lostShown_relayAborted r) (lost.casc.relays.filter (fun r => r.member == m.val)) lost).trans
    hlost
  rw [hexec]
  generalize (lost.casc.relays.filter (fun r => r.member == m.val)).foldl relayAborted lost = t at hshown hmem ⊢
  simp only [lostShown, Prod.mk.injEq] at hshown
  obtain ⟨hgone, hmask, hflag, hnear⟩ := hshown
  refine ⟨t, rfl, ?_, hflag, hgone, hmem, hnear⟩
  rw [get_of_word F.cascMembersPresent 0 0 hmask]
  exact withMember_present m.isLt false false

/-- A roll message by the link its sender has come by before, or the first of its sender. -/
theorem rollSeen_leaves {l : Nat} {m : List Byte} (hst : s.cascSt = .master) (hvia : Tab.get 0 s.casc.rollVia (msgSrc m) = 0) :
    ((rollSeen l m s).get F.cascMembersPresent).testBit (msgSrc m) = true ∧
      ((rollSeen l m s).get F.cascMembersAligned).testBit (msgSrc m) = decide (bits (ofBytes ((m.drop 8).take 4).reverse) 31 29 = 3) ∧
      (rollSeen l m s).near = s.near := by
  let seen := withMember (msgSrc m) true (decide (bits (ofBytes ((m.drop 8).take 4).reverse) 31 29 = 3))
    (s.modCasc (fun c => { c with rollVia := Tab.put 0 c.rollVia (msgSrc m) (l + 1), gone := c.gone.filter (· != msgSrc m) }))
  have hmaster : ¬ s.cascSt ≠ .master := fun h => h hst
  have hnodup : (decide ((0 : Nat) ≠ 0) && decide (0 ≠ l + 1)) = false := rfl
  have heq : rollSeen l m s = if s.casc.gone.contains (msgSrc m) then seen.raise .cascMemberBack 0 (msgSrc m) else seen := by
    unfold rollSeen
    rw [if_neg hmaster]
    simp only [hvia, hnodup, Bool.false_eq_true, false_and, if_false]
    rfl
  have hseen : (seen.get F.cascMembersPresent).testBit (msgSrc m) = true ∧
      (seen.get F.cascMembersAligned).testBit (msgSrc m) = decide (bits (ofBytes ((m.drop 8).take 4).reverse) 31 29 = 3) ∧ seen.near = s.near :=
    ⟨withMember_present (msgSrc_lt m) .., withMember_aligned (msgSrc_lt m) .., rfl⟩
  rw [heq]
  clear_value seen
  split
  · rw [get_raise _ _ _ _ _ _ _ (by decide), get_raise _ _ _ _ _ _ _ (by decide), raise_near]
    exact hseen
  · exact hseen

end

/-- Settles O38: each message at the head of the inbox that is for this member is acted on, and what ends a relayed command leaves the cascade's
own state as it was. -/
theorem cascadeMessagesComplete : Obligations.CascadeMessagesComplete := by
  unfold Obligations.CascadeMessagesComplete
  refine ⟨?_, ?_, ?_, ?_, ?_, ?_, ?_⟩
  · intro l m rest f s hroom hin htyp hdst hst hop
    have hexec : exec (.cascReq l) s = .next (if s.roomForCommand then onMessage l 1 (relayServed l) s else s) := rfl
    rw [hexec, if_pos hroom, onMessage_own hin htyp hdst]
    exact congrArg Host.Outcome.next (relayServed_known hst hop)
  · intro l m rest r s hin htyp hdst hr
    have hexec : exec (.cascRsp l) s = .next (onMessage l 2 (relayReplied l) s) := rfl
    rw [hexec, onMessage_own hin htyp hdst]
    exact ⟨_, rfl, (relayReplied_untouched ..).1, relayReplied_relays hr⟩
  · intro l m rest r s hin htyp hdst hr
    have hexec : exec (.cascDone l) s = .next (onMessage l 3 (relayEnded l) s) := rfl
    rw [hexec, onMessage_own hin htyp hdst]
    exact ⟨_, rfl, (relayEnded_untouched ..).1, relayEnded_relays hr⟩
  · intro l m rest s hst hin htyp hdst hvia
    have hexec : exec (.cascRoll l) s = .next (onMessage l 4 (rollSeen l) s) := rfl
    obtain ⟨hpresent, haligned, hnear⟩ := rollSeen_leaves (s := s.modClink l (fun c => { c with inbox := rest })) (l := l) hst hvia
    rw [hexec, onMessage_own hin htyp hdst]
    exact ⟨_, rfl, hpresent, haligned, (rollSeen_untouched ..).1, hnear⟩
  · intro l s hst hroute
    have hsend : exec .rollTimer s = .next (cascSend 4 0 0 (beWord (s.get F.cascStatusState * 2 ^ 29 + s.cascMember)) s) := by
      change execRollTimer s = _
      rcases hst with h | h | h | h <;> simp only [execRollTimer, h]
    rw [hsend, cascSend, hroute]
  · intro m s hst hpresent
    exact memberLost_leaves m hst hpresent
  · intro r rest s hrelays
    have hexec : exec .relayTimeout s = .next (relayAborted s r) := by
      change execRelayTimeout s = _
      rw [execRelayTimeout, hrelays]
    obtain ⟨hkept, hflag, hnear⟩ := relayAborted_leaves (s := s) r
    exact ⟨_, hexec, hkept, hflag, (relayAborted_untouched s r).1, hnear⟩

end Sys2Proof.Machine
end


/-!
The monitor (O41; 19 R603 to R607).
-/
section
namespace Sys2Proof.Machine

section
variable {s : State} {run : State → State}

theorem monCommand_always (h : s.monServes = true) : monCommand false run s = .next (run s) := by
  simp only [monCommand, h, Bool.false_and, Bool.true_eq_false, Bool.false_eq_true, if_false]

theorem monCommand_open (h : s.monServes = true) (hopen : s.bit F.dbgStatusLocked = false) : monCommand true run s = .next (run s) := by
  simp only [monCommand, h, hopen, Bool.and_false, Bool.true_eq_false, Bool.false_eq_true, if_false]

end

/-- Settles O41: a command that the monitor serves is what it runs, and one of those shut by lock-out runs before it. -/
theorem monitorCommandsComplete : Obligations.MonitorCommandsComplete := by
  unfold Obligations.MonitorCommandsComplete
  refine ⟨?_, ?_, ?_, ?_, ?_, ?_, ?_⟩
  · intro s h
    refine ⟨?_, ?_, ?_⟩
    · exact monCommand_always (run := fun s => monAnswer vOk (List.range (if s.bit F.dbgStatusLocked then 5 else 10)) s) h
    · change execMonStatus s = _
      rw [execMonStatus, monCommand_always h]
    · change execMonSensors s = _
      rw [execMonSensors, monCommand_always h]
  · intro n s h hlo hhi
    have hcount : ¬ (n = 0 ∨ 64 < n) := by omega
    change execMonBlotter n s = _
    rw [execMonBlotter, monCommand_always h, if_neg hcount]
  · intro rate s h hrate
    change execMonBaud rate s = _
    rw [execMonBaud, monCommand_always h, if_pos hrate]
    rfl
  · intro a v s h hopen
    refine ⟨fun hok => ?_, fun hok => ?_⟩
    · change execMonRd a s = _
      rw [execMonRd, monCommand_open h hopen]
      exact congrArg Host.Outcome.next (if_pos hok)
    · change execMonWr a v s = _
      rw [execMonWr, monCommand_open h hopen]
      dsimp only
      rw [hok, statusReply]
  · intro key s h hopen hlen hfree hotp
    have hshort : ¬ key.length ≠ 32 := fun h => h hlen
    have hclosed : ¬ ((Tab.get {} s.otp.ops 0).st ≠ 0 ∨ s.otpWritable = false) := by simp only [hfree, hotp]; decide
    let entry : OpKey := { st := 1, key := key.map BitVec.toNat, rights := 31 }
    let taken := { s with otp := { s.otp with ops := Tab.put {} s.otp.ops 0 entry } }
    have hexec : exec (.monOwnerkey key true) s = .next (monAnswer vOk [] taken) := by
      change execMonOwnerkey key true s = _
      rw [execMonOwnerkey, monCommand_open h hopen, if_neg hshort, if_neg hclosed]
      rfl
    have hsame : Tab.get {} taken.otp.ops 0 = entry :=
      tab_get_put_same {} s.otp.ops 0 entry
    have hothers (k : Nat) (hk : k ≠ 0) : Tab.get {} taken.otp.ops k = Tab.get {} s.otp.ops k :=
      tab_get_put_other {} {} s.otp.ops 0 k entry hk
    exact ⟨_, hexec, hsame, hothers, rfl, rfl⟩
  · intro s h hopen hkey hotp
    have hserial : ¬ s.pair .scmSerialLo .scmSerialHi ≠ s.pair .scmSerialLo .scmSerialHi := fun h => h rfl
    have hclosed : ¬ ((Tab.get {} s.otp.ops 0).st ≠ 1 ∨ s.otpWritable = false) := by simp only [hkey, hotp]; decide
    have hexec : exec (.monLockout (s.pair .scmSerialLo .scmSerialHi)) s = .next (monAnswer vOk []
        (({ s with otp := { s.otp with locked := true } }).blot 0xC11 1 (s.pair .scmSerialLo .scmSerialHi % 2 ^ 32))) := by
      change execMonLockout _ s = _
      rw [execMonLockout, monCommand_open h hopen, if_neg hserial, if_neg hclosed]
    refine ⟨_, hexec, ?_⟩
    generalize s.pair .scmSerialLo .scmSerialHi % 2 ^ 32 = detail
    refine ⟨blot_otp .., ?_, blot_mem .., blot_flash ..⟩
    have hget := get_blot (s := { s with otp := { s.otp with locked := true } }) 0xC11 1 detail F.dbgStatusLocked 0 0 (by decide)
    exact (congrArg (fun n => n != 0) hget).trans hopen
  · intro s h hopen
    change execMonReset s = _
    rw [execMonReset, monCommand_open h hopen]
    rfl

end Sys2Proof.Machine
end


/-!
The test access port (O39; 19 R580 to R590).
-/
section
namespace Sys2Proof.Machine

section
variable {s : State}

/-! ### Instructions -/

theorem extest_modDbg_ir (code : Nat) : (s.modDbg (fun d => { d with ir := code })).extest = (code == 0x00 || code == 0x04 || code == 0x05) := rfl

/-- An instruction that does not drive the pins, selected from one that does not, changes the instruction register alone. -/
theorem takeIr_quiet {code : Nat} (hwas : s.extest = false) (hcode : (code == 0x00 || code == 0x04 || code == 0x05) = false) :
    takeIr code s = s.modDbg (fun d => { d with ir := code }) := by
  simp only [takeIr, extest_modDbg_ir, hwas, hcode, Bool.false_and, Bool.and_false, Bool.false_eq_true, if_false]

/-- Pins that are driven already stay so. -/
theorem takeIr_driving {code : Nat} (hwas : s.extest = true) (hcode : (code == 0x00 || code == 0x04 || code == 0x05) = true) :
    takeIr code s = s.modDbg (fun d => { d with ir := code }) := by
  simp only [takeIr, extest_modDbg_ir, hwas, hcode, Bool.not_true, Bool.false_and, Bool.and_false, Bool.false_eq_true, if_false]

theorem takeIr_dbg {code : Nat} (hcode : (code == 0x00 || code == 0x04 || code == 0x05) = true) :
    (takeIr code s).dbg = { s.dbg with ir := code } := by
  cases hwas : s.extest with
  | true => rw [takeIr_driving hwas hcode]; rfl
  | false =>
    have htaken : takeIr code s = pinsTaken (s.modDbg (fun d => { d with ir := code })) := by
      simp only [takeIr, extest_modDbg_ir, hwas, hcode, Bool.not_false, Bool.and_self, if_true]
    rw [htaken, pinsTaken_dbg]
    rfl

/-- An instruction of EXTEST's kind while the debug function is not shut: it is selected, and the boundary register scanned. -/
theorem bsDrive_leaves {code : Nat} (pins shift : List (BsCell × Bool)) (hshut : s.shut = false)
    (hcode : (code == 0x00 || code == 0x04 || code == 0x05) = true) :
    (bsDrive code pins shift s).dbg = { s.dbg with ir := code, captured := pins, cells := shiftCells shift s.dbg.cells } ∧
      (bsDrive code pins shift s).mem = s.mem := by
  have hopen : bsDrive code pins shift s =
      (bsScan pins shift (takeIr code s)).emit (.bsPins (bsScan pins shift (takeIr code s)).dbg.cells) := by
    simp only [bsDrive, hshut, Bool.false_eq_true, if_false]
  have hdbg := takeIr_dbg (s := s) hcode
  have hmem := (takeIr_untouched code s).1
  rw [hopen]
  generalize takeIr code s = t at hdbg hmem
  refine ⟨?_, hmem⟩
  change { t.dbg with captured := pins, cells := shiftCells shift t.dbg.cells } = _
  rw [hdbg]

/-! ### Debug accesses -/

theorem dbgScan_shut {c : DbgCmd} {addr : Nat} (hshut : s.shut = true) : dbgScan c addr s = (takeIr 0xFF s).emit (.tdo 1 0) := by
  simp only [dbgScan, hshut, if_true]

/-- A scan of the debug instruction starts its access on the state that has shifted the last result out. -/
theorem dbgScan_open {c : DbgCmd} {addr : Nat} (hshut : s.shut = false) (hextest : s.extest = false) :
    dbgScan c addr s = dbgStart c addr (dbgCapture { s with dbg := { s.dbg with ir := 0x10 } }) := by
  have hquiet : takeIr 0x10 s = { s with dbg := { s.dbg with ir := 0x10 } } := takeIr_quiet hextest rfl
  simp only [dbgScan, hshut, Bool.false_eq_true, if_false, hquiet]

theorem dbgStart_nop {addr : Nat} (hidle : s.dbg.running = none) : dbgStart .nop addr s = dbgResult 0 0 false s := by
  simp only [dbgStart, hidle, Option.isSome_none, Bool.false_eq_true, if_false, if_true]

/-- An access to an aligned register address begins at once. -/
theorem dbgStart_register {c : DbgCmd} {addr : Nat} (hidle : s.dbg.running = none) (hc : c ≠ .nop) (halign : addr % 4 = 0) (hlt : addr < 0x1000000) :
    dbgStart c addr s = dbgRegister c addr s := by
  have hofs : offsetOf addr = addr := Nat.mod_eq_of_lt (by omega)
  have hkey : keyId addr = 0 := by simp only [keyId]; omega
  have hreg : addr < 0x1100000 := by omega
  simp only [dbgStart, hofs, hkey, hidle, hc, halign, hreg, Option.isSome_none, Bool.false_eq_true, ne_eq, not_true_eq_false, and_false, if_false,
    if_true]

theorem dbgRegister_block_write {v : Word} {addr : Nat} (hblock : addr / 0x100000 = 0xF) :
    dbgRegister (.write v) addr s = dbgResult 0 0 false (dbgBlockWrite addr v s) :=
  if_pos hblock

theorem dbgRegister_block_read {c : DbgCmd} {addr : Nat} (hblock : addr / 0x100000 = 0xF) (hread : ∀ v, c ≠ .write v) :
    dbgRegister c addr s = dbgResult 0 (dbgBlockRead addr s) false s := by
  cases c with
  | write v => exact absurd rfl (hread v)
  | read | consume | nop => exact if_pos hblock

section
variable {addr : Nat} (hblock : addr / 0x100000 ≠ 0xF) (hup : s.clk.held = false) (hclk : s.mgmtClocked = true)
include hblock hup hclk

theorem dbgRegister_write {v : Word} :
    dbgRegister (.write v) addr s = dbgResult (statusCode (regWrite addr v s).2) 0 false (regWrite addr v s).1 := by
  have hup' : ¬ (s.clk.held || !s.mgmtClocked) = true := by rw [hup, hclk]; decide
  exact (if_neg hblock).trans (if_neg hup')

theorem dbgRegister_consume :
    dbgRegister .consume addr s = dbgResult (statusCode (regRead addr false s).1) (regRead addr false s).2.1 false (regRead addr false s).2.2 := by
  have hup' : ¬ (s.clk.held || !s.mgmtClocked) = true := by rw [hup, hclk]; decide
  exact (if_neg hblock).trans (if_neg hup')

theorem dbgRegister_read :
    dbgRegister .read addr s = dbgResult (statusCode (regRead addr true s).1) (regRead addr true s).2.1 false (regRead addr true s).2.2 := by
  have hup' : ¬ (s.clk.held || !s.mgmtClocked) = true := by rw [hup, hclk]; decide
  exact (if_neg hblock).trans (if_neg hup')

end

/-! ### The unlock's challenge -/

/-- What a fresh challenge leaves alone: the access port, whether it is unlocked, and the memory. -/
def challengeShown (s : State) := (s.dbg, s.get F.dbgStatusUnlocked, s.mem)

/-- One word of a fresh challenge. -/
def challengeWord (s : State) (i : Nat) : State := (s.fresh 32).2.put F.dbgChalVal (s.fresh 32).1 i

theorem challengeWord_shown (i : Nat) : challengeShown (challengeWord s i) = challengeShown s := by
  rw [challengeShown, challengeWord, get_put_other_reg _ F.dbgChalVal F.dbgStatusUnlocked _ i 0 0 0 (by decide)]
  rfl

theorem challengeWords_free (is : List Nat) : (is.foldl challengeWord s).free = s.free + is.length := by
  induction is generalizing s with
  | nil => rfl
  | cons i is ih =>
    rw [List.foldl_cons, ih, List.length_cons, Nat.add_comm is.length, ← Nat.add_assoc]
    rfl

/-- A reset of the port: IDCODE is selected, the debugger detached and the unlock undone. -/
theorem tapReset_leaves (hextest : s.extest = false) :
    ∃ t, exec .tapReset s = .next t ∧ t.dbg.ir = 2 ∧ t.get F.dbgStatusUnlocked = 0 ∧ t.get F.dbgStatusAttached = 0 ∧
      t.get F.dbgCtrlAttach = 0 ∧ t.dbg.answer = [] ∧ t.mem = s.mem ∧ t.near = s.near := by
  let u := (((s.modDbg (fun d => { d with ir := 2 })).clear F.dbgCtrlAttach).clear F.dbgStatusAttached).clear F.dbgStatusUnlocked
  have hexec : exec .tapReset s = .next (u.modDbg (fun d => { d with answer := [], readIndex := 0 })) := by
    change execTapReset s = _
    rw [execTapReset, takeIr_quiet hextest rfl]
  have hunlocked : u.get F.dbgStatusUnlocked = 0 := get_put_lt _ F.dbgStatusUnlocked 0 0 (by decide) (by decide) (by decide)
  have hattached : u.get F.dbgStatusAttached = 0 :=
    (get_put_other_bits _ F.dbgStatusUnlocked F.dbgStatusAttached 0 0 0 rfl (by decide) (by decide) (by decide)).trans
      (get_put_lt _ F.dbgStatusAttached 0 0 (by decide) (by decide) (by decide))
  have hattach : u.get F.dbgCtrlAttach = 0 :=
    (get_put_other_reg _ F.dbgStatusUnlocked F.dbgCtrlAttach 0 0 0 0 0 (by decide)).trans
      ((get_put_other_reg _ F.dbgStatusAttached F.dbgCtrlAttach 0 0 0 0 0 (by decide)).trans
        (get_put_lt _ F.dbgCtrlAttach 0 0 (by decide) (by decide) (by decide)))
  have hkept : u.dbg.ir = 2 ∧ u.mem = s.mem ∧ u.near = s.near := ⟨rfl, rfl, rfl⟩
  clear_value u
  obtain ⟨hir, hmem, hnear⟩ := hkept
  exact ⟨_, hexec, hir, hunlocked, hattached, hattach, rfl, hmem, hnear⟩

end

/-- Settles O39: each instruction of the port selects itself first, and what it does then is that of the state it leaves. -/
theorem accessPortCommandsComplete : Obligations.AccessPortCommandsComplete := by
  unfold Obligations.AccessPortCommandsComplete
  refine ⟨?_, ?_, ?_, ?_, ?_, ?_, ?_, ?_, ?_⟩
  · intro s hextest
    refine ⟨?_, ?_, tapReset_leaves hextest⟩
    · change execIdcode s = _
      rw [execIdcode, takeIr_quiet hextest rfl]
      rfl
    · change execBypass s = _
      rw [execBypass, takeIr_quiet hextest rfl]
      rfl
  · intro pins shift s hextest
    change execSamplePreload pins shift s = _
    rw [execSamplePreload, takeIr_quiet hextest rfl]
    rfl
  · intro pins shift s hshut
    have hdrive {code : Nat} (hcode : (code == 0x00 || code == 0x04 || code == 0x05) = true) :=
      bsDrive_leaves pins shift hshut hcode
    intro c
    refine ⟨⟨bsDrive 0 pins shift s, rfl, ?_⟩, ⟨bsDrive 4 pins shift s, rfl, ?_⟩, ⟨bsDrive 5 pins shift s, rfl, ?_⟩, fun hextest => ?_⟩
    · obtain ⟨hdbg, hmem⟩ := hdrive (code := 0) rfl
      rw [hdbg]
      exact ⟨rfl, rfl, rfl, hmem⟩
    · obtain ⟨hdbg, hmem⟩ := hdrive (code := 4) rfl
      rw [hdbg]
      exact ⟨rfl, rfl, rfl, hmem⟩
    · obtain ⟨hdbg, hmem⟩ := hdrive (code := 5) rfl
      rw [hdbg]
      exact ⟨rfl, rfl, rfl, hmem⟩
    · change execExtest pins shift s = _
      have hopen : ¬ s.shut = true := by rw [hshut]; decide
      rw [execExtest, bsDrive, if_neg hopen, takeIr_driving (code := 0) hextest rfl]
      rfl
  · intro pins shift s hshut hextest a v
    have hbypass : takeIr 0xFF s = { s with dbg := { s.dbg with ir := 0xFF } } := takeIr_quiet hextest rfl
    have hdrive (code : Nat) : bsDrive code pins shift s = { s with dbg := { s.dbg with ir := 0xFF } }.emit (.tdo 1 0) := by
      rw [bsDrive, if_pos hshut, hbypass]
    have hscan (c : DbgCmd) (addr : Nat) : dbgScan c addr s = { s with dbg := { s.dbg with ir := 0xFF } }.emit (.tdo 1 0) := by
      rw [dbgScan_shut hshut, hbypass]
    exact ⟨congrArg Host.Outcome.next (hdrive 0), congrArg Host.Outcome.next (hdrive 4), congrArg Host.Outcome.next (hdrive 5),
      congrArg Host.Outcome.next (hscan .read a.toNat), congrArg Host.Outcome.next (hscan (.write v) a.toNat),
      congrArg Host.Outcome.next (hscan .consume a.toNat), congrArg Host.Outcome.next (hscan .nop 0)⟩
  · intro a v s hshut hextest hidle
    have hscan (c : DbgCmd) (addr : Nat) := dbgScan_open (c := c) (addr := addr) hshut hextest
    have hidle' : (dbgCapture { s with dbg := { s.dbg with ir := 0x10 } }).dbg.running = none := hidle
    intro u
    have hup {h : Bool} (hheld : s.clk.held = h) : u.clk.held = h := hheld
    have hclk {c : Bool} (hclocked : s.mgmtClocked = c) : u.mgmtClocked = c := hclocked
    have hu : dbgCapture { s with dbg := { s.dbg with ir := 0x10 } } = u := rfl
    rw [hu] at hidle'
    have haccess (c : DbgCmd) (hc : c ≠ .nop) (halign : a.toNat % 4 = 0) (hlt : a.toNat < 0x1000000) :
        dbgScan c a.toNat s = dbgRegister c a.toNat u := by
      rw [hscan, hu, dbgStart_register hidle' hc halign hlt]
    refine ⟨?_, fun hlo hhi halign => ?_, fun hlt halign hheld hclocked => ?_⟩
    · have hnop : dbgScan .nop 0 s = dbgResult 0 0 false u := by rw [hscan, hu, dbgStart_nop hidle']
      exact congrArg Host.Outcome.next hnop
    · have hblock : a.toNat / 0x100000 = 0xF := by omega
      have hread := (haccess .read (by decide) halign hhi).trans (dbgRegister_block_read hblock (fun _ => by simp))
      have hconsume := (haccess .consume (by decide) halign hhi).trans (dbgRegister_block_read hblock (fun _ => by simp))
      have hwrite := (haccess (.write v) (by simp) halign hhi).trans (dbgRegister_block_write hblock)
      exact ⟨congrArg Host.Outcome.next hread, congrArg Host.Outcome.next hconsume, congrArg Host.Outcome.next hwrite⟩
    · have hblock : a.toNat / 0x100000 ≠ 0xF := by omega
      have hlt' : a.toNat < 0x1000000 := by omega
      have hread := (haccess .read (by decide) halign hlt').trans (dbgRegister_read hblock (hup hheld) (hclk hclocked))
      have hconsume := (haccess .consume (by decide) halign hlt').trans (dbgRegister_consume hblock (hup hheld) (hclk hclocked))
      have hwrite := (haccess (.write v) (by simp) halign hlt').trans (dbgRegister_write hblock (hup hheld) (hclk hclocked))
      exact ⟨congrArg Host.Outcome.next hread, congrArg Host.Outcome.next hconsume, congrArg Host.Outcome.next hwrite⟩
  · intro r s hrun
    have hbusy : s.dbg.running.isSome = true := by rw [hrun]; rfl
    change execDbgAccessTimeout s = _
    rw [execDbgAccessTimeout, if_pos hbusy]
    rfl
  · intro v s hshut hextest hopen
    have hclosed : ¬ s.shut = true := by rw [hshut]; decide
    have hlocked : (({ s with dbg := { s.dbg with ir := 0x11 } }.emit (.tdo 4 (s.word .dbgConnect).toNat)).bit F.dbgStatusLocked) = false := hopen
    have hv : v.toNat % 16 = v.toNat := Nat.mod_eq_of_lt v.isLt
    have hquiet : takeIr 0x11 s = { s with dbg := { s.dbg with ir := 0x11 } } := takeIr_quiet hextest rfl
    change execDbgConnect v s = _
    rw [execDbgConnect, if_neg hclosed, hquiet, dbgConnectWrite, hlocked]
    simp only [Bool.false_eq_true, if_false, hv]
  · intro s hextest
    let u := (List.range 4).foldl challengeWord (s.modDbg (fun d => { d with ir := 0x12 }))
    have hexec : exec .dbgUnlockSelect s = .next (u.modDbg (fun d => { d with answer := [], readIndex := 0 })) := by
      change execDbgUnlockSelect s = _
      rw [execDbgUnlockSelect, takeIr_quiet hextest rfl]
      rfl
    have hshown : challengeShown u = challengeShown (s.modDbg (fun d => { d with ir := 0x12 })) :=
      foldl_keep _ challengeShown (fun t i => challengeWord_shown i) _ _
    have hfree : u.free = s.free + 4 := challengeWords_free _
    clear_value u
    simp only [challengeShown, Prod.mk.injEq] at hshown
    obtain ⟨hdbg, hunlocked, hmem⟩ := hshown
    exact ⟨_, hexec, congrArg DbgSt.ir hdbg, rfl, rfl, hfree, hmem, hunlocked⟩
  · intro i v s hir hi hfail
    have hselected : ¬ s.dbg.ir ≠ 0x12 := fun h => h hir
    have hopen : ¬ 3 ≤ s.get F.dbgStatusUnlockFail := by omega
    change execDbgUnlockAnswer i v s = _
    rw [execDbgUnlockAnswer, if_neg hselected]
    exact congrArg Host.Outcome.next ((if_neg hopen).trans (if_neg hi))

end Sys2Proof.Machine
end


/-!
The debugger's block: attachment, and halts, steps, resumes and registers of cores (O40; 19 R591 to R602).
-/
section
namespace Sys2Proof.Machine

/-! ### A write by the access codes, field by field -/

/-- A field of plain read-write bits takes the value's own bits. -/
theorem codedWord_field {n : RegInfo} {hi lo : Nat} (locked : Bool) (old v : Word) (h32 : hi < 32)
    (hrw : ∀ k ≤ hi, lo ≤ k → n.rw.testBit k = true ∧ n.w1c.testBit k = false) :
    bits (codedWord n locked old v).toNat hi lo = bits v.toNat hi lo := by
  refine Nat.eq_of_testBit_eq fun k => ?_
  rw [bits, bits, Nat.testBit_mod_two_pow, Nat.testBit_mod_two_pow, Nat.testBit_shiftRight, Nat.testBit_shiftRight]
  by_cases hk : k < hi + 1 - lo
  · obtain ⟨hset, hplain⟩ := hrw (lo + k) (by omega) (by omega)
    have hbit := codedWord_getLsbD n locked old v (k := lo + k) (by omega)
    simp only [hset, hplain, Bool.true_or, Bool.not_true, Bool.and_false, Bool.and_true, Bool.false_or, Bool.not_false] at hbit
    rw [← BitVec.getLsbD, ← BitVec.getLsbD, hbit]
    cases v.getLsbD (lo + k) <;> rfl
  · simp only [hk, decide_false, Bool.false_and]

section
variable {s : State}

/-! ### A write of the debugger's block -/

/-- The debug function takes commands: it is not shut, the pins are the logic's, no access runs. -/
structure PortFree (s : State) : Prop where
  shut : s.shut = false
  extest : s.extest = false
  idle : s.dbg.running = none

/-- The state on which a scan of the debug instruction makes its access. -/
def scanned (s : State) : State := dbgCapture { s with dbg := { s.dbg with ir := 0x10 } }

theorem dbgPoke_block {addr : Nat} {v : Word} (h : PortFree s) (halign : addr % 4 = 0) (hlo : 0xF00000 ≤ addr) (hhi : addr < 0x1000000) :
    dbgPoke addr v s = dbgResult 0 0 false (dbgBlockWrite addr v (scanned s)) := by
  have hidle : (scanned s).dbg.running = none := h.idle
  have hblock : addr / 0x100000 = 0xF := by omega
  exact (dbgScan_open h.shut h.extest).trans ((dbgStart_register hidle (by simp) halign hhi).trans (dbgRegister_block_write hblock))

/-- A write of a plain register of the block. -/
theorem dbgBlockWrite_ctrl (v : Word) : dbgBlockWrite 0xF00000 v s = dbgCtrlWrite v s := by
  have hreg : regIn regsDbg 0xF00000 = some (.dbgCtrl, 0, 0) := by decide
  rw [dbgBlockWrite, hreg]

theorem dbgBlockWrite_cmd (v : Word) : dbgBlockWrite 0xF00014 v s = qcWrite v.toNat s := by
  have hreg : regIn regsDbg 0xF00014 = some (.dbgQcCmd, 0, 0) := by decide
  rw [dbgBlockWrite, hreg]

theorem dbgBlockWrite_freeze (v : Word) : dbgBlockWrite 0xF00008 v s = (codedWrite .dbgFreeze 0 0 v s).1 := by
  have hreg : regIn regsDbg 0xF00008 = some (.dbgFreeze, 0, 0) := by decide
  rw [dbgBlockWrite, hreg]

theorem dbgBlockWrite_sel (v : Word) : dbgBlockWrite 0xF00010 v s = (codedWrite .dbgQcSel 0 0 v s).1 := by
  have hreg : regIn regsDbg 0xF00010 = some (.dbgQcSel, 0, 0) := by decide
  rw [dbgBlockWrite, hreg]

/-! ### A core named -/

/-- A core named to the block: what the naming leaves. -/
structure Named (s t : State) (n : Nat) : Prop where
  free : PortFree t
  core : t.get F.dbgQcSelCore = n
  bank : t.bit F.dbgQcSelBank = s.bit F.dbgQcSelBank
  word : ∀ r i j, r ≠ .dbgQcSel → t.word r i j = s.word r i j
  cores : t.cores = s.cores
  doms : t.doms = s.doms
  mem : t.mem = s.mem
  near : t.near = s.near

theorem sel_core {old : Word} {n : Nat} (locked : Bool) (hn : n < 256) :
    bits (codedWord RegName.dbgQcSel.info locked old (BitVec.ofNat 32 (setBits old.toNat 7 0 n))).toNat 7 0 = n := by
  have hset : setBits old.toNat 7 0 n < 2 ^ 32 := setBits_lt _ _ _ _ (by decide) (by decide) old.isLt
  rw [codedWord_field (n := RegName.dbgQcSel.info) locked old _ (by decide) (by decide), BitVec.toNat_ofNat, Nat.mod_eq_of_lt hset,
    bits_setBits_same _ _ _ _ (by decide)]
  exact Nat.mod_eq_of_lt hn

theorem sel_bank {old : Word} {n : Nat} (locked : Bool) :
    bits (codedWord RegName.dbgQcSel.info locked old (BitVec.ofNat 32 (setBits old.toNat 7 0 n))).toNat 8 8 = bits old.toNat 8 8 := by
  have hset : setBits old.toNat 7 0 n < 2 ^ 32 := setBits_lt _ _ _ _ (by decide) (by decide) old.isLt
  rw [codedWord_field (n := RegName.dbgQcSel.info) locked old _ (by decide) (by decide), BitVec.toNat_ofNat, Nat.mod_eq_of_lt hset,
    bits_setBits_other _ _ _ _ _ _ (by decide) (by decide)]

theorem selectCore_named {n : Nat} (h : PortFree s) (hn : n < 256) : Named s (selectCore n s) n := by
  have hsel : selectCore n s = dbgResult 0 0 false
      (codedWrite .dbgQcSel 0 0 (BitVec.ofNat 32 (setBits (s.word .dbgQcSel).toNat 7 0 n)) (scanned s)).1 := by
    rw [selectCore, dbgPoke_block h (by decide) (by decide) (by decide), dbgBlockWrite_sel]
  have hother (r : RegName) (i j : Nat) (hr : r ≠ .dbgQcSel) : (selectCore n s).word r i j = s.word r i j := by
    rw [hsel]
    exact word_setWord_other _ _ _ _ _ _ _ _ hr
  have hown : (selectCore n s).word .dbgQcSel = codedWord RegName.dbgQcSel.info (s.lockedBlock .dbg) (s.word .dbgQcSel)
      (BitVec.ofNat 32 (setBits (s.word .dbgQcSel).toNat 7 0 n)) := by
    rw [hsel]
    exact word_setWord_same ..
  have hbit (f : Fld) (hf : f.reg = .dbgStatus) : (selectCore n s).bit f = s.bit f :=
    bit_of_word f 0 0 (hother _ 0 0 (by rw [hf]; decide))
  exact {
    free := {
      shut := by
        rw [State.shut, hbit F.dbgStatusLocked rfl, hbit F.dbgStatusUnlocked rfl]
        exact h.shut
      extest := by rw [hsel]; rfl
      idle := by rw [hsel]; exact h.idle }
    core := (congrArg (fun w : Word => bits w.toNat 7 0) hown).trans (sel_core _ hn)
    bank := congrArg (fun b => b != 0) ((congrArg (fun w : Word => bits w.toNat 8 8) hown).trans (sel_bank _))
    word := hother
    cores := by rw [hsel]; rfl
    doms := by rw [hsel]; rfl
    mem := by rw [hsel]; rfl
    near := by rw [hsel]; rfl }

/-! ### Commands of the block -/

/-- A command written, on the state its scan leaves. -/
theorem dbgPoke_cmd {v : Word} (h : PortFree s) (hcmd : bits v.toNat 5 1 ≠ 0) :
    dbgPoke 0xF00014 v s = dbgResult 0 0 false
      ((qcCommand v.toNat (scanned s)).2.put F.dbgQcStatResult (qcCommand v.toNat (scanned s)).1.code) := by
  rw [dbgPoke_block h (by decide) (by decide) (by decide), dbgBlockWrite_cmd, qcWrite, if_neg hcmd]

/-- What a command leaves beside its result: the state it left itself. -/
structure Done (u t : State) (r : QcResult) : Prop where
  result : t.get F.dbgQcStatResult = r.code
  word : ∀ r i j, r ≠ .dbgQcStat → t.word r i j = u.word r i j
  cores : t.cores = u.cores
  mem : t.mem = u.mem
  near : t.near = u.near

theorem dbgPoke_done {v : Word} {r : QcResult} {u : State} (h : PortFree s) (hcmd : bits v.toNat 5 1 ≠ 0)
    (hrun : qcCommand v.toNat (scanned s) = (r, u)) : Done u (dbgPoke 0xF00014 v s) r := by
  have hdone : dbgPoke 0xF00014 v s = dbgResult 0 0 false (u.put F.dbgQcStatResult r.code) := by rw [dbgPoke_cmd h hcmd, hrun]
  have hresult : (u.put F.dbgQcStatResult r.code).get F.dbgQcStatResult = r.code :=
    get_put_lt u F.dbgQcStatResult 0 0 (by decide) (by decide) (by cases r <;> decide)
  rw [hdone]
  exact {
    result := hresult
    word := fun q i j hq => word_put_other u F.dbgQcStatResult _ 0 0 q i j hq
    cores := rfl
    mem := rfl
    near := rfl }

theorem Done.get {u t : State} {r : QcResult} (h : Done u t r) (f : Fld) (i j : Nat) (hf : f.reg ≠ .dbgQcStat) : t.get f i j = u.get f i j :=
  get_of_word f i j (h.word _ i j hf)

theorem Done.core {u t : State} {r : QcResult} (h : Done u t r) (n : Nat) : t.core n = u.core n := core_of_cores h.cores n

theorem Done.cbank {u t : State} {r : QcResult} (h : Done u t r) (n : Nat) : t.cbank n = u.cbank n := by
  rw [State.cbank, State.cbank, h.core, qSt_of_word (h.word .qcStatus n 0 (by decide))]

theorem nameable_core {n : Nat} (hn : n < 128) : s.nameable n = true := by
  simp only [State.nameable, hn, decide_true, Bool.true_or]

section
variable {n : Nat} (hsel : s.get F.dbgQcSelCore = n) (hn : n < 128)
include hsel hn

theorem qcCommand_halt (hattached : s.bit F.dbgStatusAttached = true) : qcCommand 2 s = (.ok, haltRequest n s) := by
  have hcmd : bits 2 5 1 = 1 ∧ bitAt 2 0 = false := by decide
  simp only [qcCommand, hsel, hcmd, qcAll, hattached, List.any_cons, List.any_nil, nameable_core hn, Bool.not_true, Bool.or_false, Bool.false_eq_true,
    Bool.true_eq_false, or_self, if_false, if_true, List.foldl_cons, List.foldl_nil]

theorem qcCommand_resume (hattached : s.bit F.dbgStatusAttached = true) (hhalted : s.coreHalted n = true) :
    qcCommand 4 s = (.ok, coreResume n s) := by
  have hcmd : bits 4 5 1 = 2 ∧ bitAt 4 0 = false := by decide
  simp only [qcCommand, hsel, hcmd, qcAll, hattached, List.any_cons, List.any_nil, nameable_core hn, Bool.not_true, Bool.or_false, Bool.false_eq_true,
    Bool.true_eq_false, or_self, if_false, if_true, List.foldl_cons, List.foldl_nil, List.all_cons, List.all_nil, hhalted, Bool.and_self]

theorem qcCommand_step (hattached : s.bit F.dbgStatusAttached = true) (hhalted : s.coreHalted n = true) (hbank : s.bankSelected n = true) :
    qcCommand 8 s = (.ok, (s.clear F.qcStatusHalted n).modCore n (fun c => { c with stepping := true })) := by
  have hcmd : bits 8 5 1 = 4 := by decide
  have hcore : n ≠ 128 := by omega
  simp only [qcCommand, hsel, hcmd, hattached, nameable_core hn, Bool.true_eq_false, or_self, if_false, hhalted, if_true, coreStepStart, hcore, hbank]

theorem qcCommand_read : qcCommand 0x10 s = qcRegRead n s := by
  have hcmd : bits 0x10 5 1 = 8 := by decide
  simp only [qcCommand, hsel, hcmd, nameable_core hn, if_true]

theorem qcCommand_write : qcCommand 0x20 s = qcRegWrite n s := by
  have hcmd : bits 0x20 5 1 = 16 := by decide
  simp only [qcCommand, hsel, hcmd, nameable_core hn, if_true]

end

/-! ### Registers of a halted core -/

theorem reg_setReg_same (b : CoreBank) {k : Nat} (hk : k ≠ 0) (v : Word) : (b.setReg k v).reg k = v := by
  rw [CoreBank.setReg, if_neg hk, CoreBank.reg, if_neg hk, tab_get_put_same, BitVec.ofNat_toNat, BitVec.setWidth_eq]

theorem reg_setReg_other (b : CoreBank) {j k : Nat} (hj : j ≠ k) (v : Word) : (b.setReg k v).reg j = b.reg j := by
  rw [CoreBank.setReg]
  split
  · rfl
  · rw [CoreBank.reg, CoreBank.reg, tab_get_put_other 0 0 b.x k j v.toNat hj]

theorem cbank_item {n : Nat} (h : s.qSt n = .item) : s.cbank n = (s.core n).norm := by
  rw [State.cbank, h]
  rfl

theorem cbank_setQSt_item (n : Nat) : (s.setQSt n .item).cbank n = (s.core n).norm := cbank_item (qSt_setQSt ..)

/-- A register written in the bank of the item that a core runs. -/
theorem cbank_written {n k : Nat} (h : s.qSt n = .item) (v : Word) :
    ((setX n k v (s.setQSt n .item)).setQSt n .item).cbank n = (s.cbank n).setReg k v := by
  have hq : (s.setQSt n .item).qSt n ≠ .urgent := by rw [qSt_setQSt]; decide
  rw [cbank_setQSt_item, setX, State.modCbank, if_neg hq, core_modCore, cbank_item h]
  rfl

/-- The bank of the item that a core runs, selected and given back: what was done to it. -/
theorem inBank_item {α : Type} {n : Nat} {f : State → α × State} (h : s.qSt n = .item) :
    inBank n false f s = ((f (s.setQSt n .item)).1, (f (s.setQSt n .item)).2.setQSt n .item) := by
  simp only [inBank, h, Bool.false_eq_true, if_false]

section
variable {n k : Nat} (hn : n < 128) (hhalted : s.coreHalted n = true) (hitem : s.qSt n = .item) (hbank : s.bit F.dbgQcSelBank = false)
  (hno : s.get F.dbgQcRegnoVal = 0x1000 + k) (hk : k < 32)
include hn hhalted hitem hbank hno hk

theorem qcRegRead_gpr : qcRegRead n s =
    (.ok, ((s.setQSt n .item).setQSt n .item).put F.dbgQcDataVal ((s.cbank n).reg k).toNat) := by
  have hcore : n ≠ 128 := by omega
  have hcsr : ¬ 0x1000 + k < 0x1000 := by omega
  have hgpr : 0x1000 + k < 0x1020 := by omega
  have hidx : 0x1000 + k - 0x1000 = k := by omega
  have hget : dbgRegGet n (0x1000 + k) (s.setQSt n .item) = (some ((s.cbank n).reg k).toNat, s.setQSt n .item) := by
    simp only [dbgRegGet, hcsr, hgpr, if_false, if_true, hidx, cbank_setQSt_item, cbank_item hitem]
  simp only [qcRegRead, hhalted, Bool.true_eq_false, if_false, hcore, hbank, hno, inBank_item hitem, hget]

theorem qcRegWrite_gpr (hk0 : k ≠ 0) : qcRegWrite n s =
    (.ok, (setX n k (BitVec.ofNat 32 (s.get F.dbgQcDataVal)) (s.setQSt n .item)).setQSt n .item) := by
  have hcore : n ≠ 128 := by omega
  have hcsr : ¬ 0x1000 + k < 0x1000 := by omega
  have hzero : 0x1000 + k ≠ 0x1000 := by omega
  have hgpr : 0x1000 + k < 0x1020 := by omega
  have hidx : 0x1000 + k - 0x1000 = k := by omega
  simp only [qcRegWrite, hhalted, Bool.true_eq_false, if_false, hcore, hbank, hno, inBank_item hitem, dbgRegPut, hcsr, hzero, hgpr, if_true, hidx]

end

theorem qcRegWrite_zero {n : Nat} (hn : n < 128) (hhalted : s.coreHalted n = true) (hitem : s.qSt n = .item) (hbank : s.bit F.dbgQcSelBank = false)
    (hno : s.get F.dbgQcRegnoVal = 0x1000) : qcRegWrite n s = (.badReg, s) := by
  have hcore : n ≠ 128 := by omega
  simp only [qcRegWrite, hhalted, Bool.true_eq_false, if_false, hcore, hbank, hno, inBank_item hitem, dbgRegPut, Nat.lt_irrefl, if_true,
    Bool.false_eq_true]

/-- The registers of a halted core, through the block, where the bank of its item is selected. -/
theorem registers_leave {k : Nat} (h : PortFree s) (hn : s.get F.dbgQcSelCore < 128) (hhalted : s.coreHalted (s.get F.dbgQcSelCore) = true)
    (hitem : s.qSt (s.get F.dbgQcSelCore) = .item) (hbank : s.bit F.dbgQcSelBank = false) (hno : s.get F.dbgQcRegnoVal = 0x1000 + k) (hk : k < 32) :
    (∃ t, exec .dbgRegRead s = .next t ∧ t.get F.dbgQcDataVal = ((s.cbank (s.get F.dbgQcSelCore)).reg k).toNat ∧ t.get F.dbgQcStatResult = 0 ∧
        t.mem = s.mem) ∧
      (k ≠ 0 → ∃ t, exec .dbgRegWrite s = .next t ∧ ((t.cbank (s.get F.dbgQcSelCore)).reg k).toNat = s.get F.dbgQcDataVal ∧
        t.get F.dbgQcStatResult = 0 ∧ (∀ j, j ≠ k → (t.cbank (s.get F.dbgQcSelCore)).reg j = (s.cbank (s.get F.dbgQcSelCore)).reg j) ∧
        t.mem = s.mem) ∧
      (k = 0 → ∃ t, exec .dbgRegWrite s = .next t ∧ t.cbank (s.get F.dbgQcSelCore) = s.cbank (s.get F.dbgQcSelCore) ∧
        t.get F.dbgQcStatResult = 2 ∧ t.mem = s.mem) := by
  generalize hsel : s.get F.dbgQcSelCore = n at hn hhalted hitem ⊢
  refine ⟨?_, fun hk0 => ?_, fun hk0 => ?_⟩
  · have hread := (qcCommand_read (s := scanned s) hsel hn).trans (qcRegRead_gpr (s := scanned s) hn hhalted hitem hbank hno hk)
    have hdone := dbgPoke_done (v := 0x10) h (by decide) hread
    have hexec : exec .dbgRegRead s = .next (dbgPoke 0xF00014 0x10 s) := rfl
    refine ⟨_, hexec, ?_, hdone.result, hdone.mem⟩
    rw [hdone.get F.dbgQcDataVal 0 0 (by decide)]
    exact get_put_lt _ F.dbgQcDataVal 0 0 (by decide) (by decide) (BitVec.isLt _)
  · have hwrite := (qcCommand_write (s := scanned s) hsel hn).trans (qcRegWrite_gpr (s := scanned s) hn hhalted hitem hbank hno hk hk0)
    have hdone := dbgPoke_done (v := 0x20) h (by decide) hwrite
    have hexec : exec .dbgRegWrite s = .next (dbgPoke 0xF00014 0x20 s) := rfl
    have hset := (hdone.cbank n).trans (cbank_written (s := scanned s) (k := k) hitem (BitVec.ofNat 32 (s.get F.dbgQcDataVal)))
    have hold : (scanned s).cbank n = s.cbank n := rfl
    refine ⟨_, hexec, ?_, hdone.result, fun j hj => ?_, ?_⟩
    · rw [hset, reg_setReg_same _ hk0, BitVec.toNat_ofNat]
      exact Nat.mod_eq_of_lt (bits_lt _ 31 0)
    · rw [hset, reg_setReg_other _ hj, hold]
    · exact hdone.mem.trans (setX_untouched ..).1
  · have hzero : s.get F.dbgQcRegnoVal = 0x1000 := by rw [hno, hk0]
    have hwrite := (qcCommand_write (s := scanned s) hsel hn).trans (qcRegWrite_zero (s := scanned s) hn hhalted hitem hbank hzero)
    have hdone := dbgPoke_done (v := 0x20) h (by decide) hwrite
    have hexec : exec .dbgRegWrite s = .next (dbgPoke 0xF00014 0x20 s) := rfl
    refine ⟨_, hexec, ?_, hdone.result, hdone.mem⟩
    rw [hdone.cbank]
    rfl

/-! ### Attachment, halts and freezing -/

theorem sel_word_kept {t : State} {n : Nat} (h : Named s t n) (f : Fld) (i j : Nat) (hf : f.reg ≠ .dbgQcSel) :
    (scanned t).bit f i j = s.bit f i j := bit_of_word f i j (h.word _ i j hf)

theorem Named.halted {t : State} {n k : Nat} (h : Named s t n) (hk : k < 128) : (scanned t).coreHalted k = s.coreHalted k := by
  have hcore : k ≠ 128 := by omega
  rw [State.coreHalted, State.coreHalted, if_neg hcore, if_neg hcore, sel_word_kept h F.qcStatusHalted k 0 (by decide)]

theorem Named.qSt {t : State} {n : Nat} (h : Named s t n) (k : Nat) : (scanned t).qSt k = s.qSt k :=
  qSt_of_word (t := scanned t) (h.word .qcStatus k 0 (by decide))

theorem Named.waits {t : State} {n : Nat} (h : Named s t n) (k : Nat) : (scanned t).waitsRelease k = s.waitsRelease k := by
  have hdom : (scanned t).groupOn (k / 8) = s.groupOn (k / 8) := by
    rw [State.groupOn, State.groupOn, State.dom, State.dom, ← h.doms]
    rfl
  rw [State.waitsRelease, State.waitsRelease, h.qSt, hdom]

theorem Named.selected {t : State} {n : Nat} (h : Named s t n) (k : Nat) : (scanned t).bankSelected k = s.bankSelected k := by
  have hbank : (scanned t).bit F.dbgQcSelBank = s.bit F.dbgQcSelBank := h.bank
  rw [State.bankSelected, State.bankSelected, h.qSt, hbank]

theorem Named.core_kept {t : State} {n : Nat} (h : Named s t n) (k : Nat) : (scanned t).core k = s.core k := core_of_cores (t := scanned t) h.cores k

section
variable {n : Fin 129} (h : PortFree s) (hattached : s.bit F.dbgStatusAttached = true) (hn : n.val < 128)
include h hattached hn

theorem halt_leaves (hruns : s.coreHalted n = false) (hin : s.waitsRelease n = false) :
    ∃ t, exec (.dbgHalt n) s = .next t ∧ (t.core n).haltReq = true ∧ t.get F.dbgQcStatResult = 0 ∧ t.get F.dbgQcSelCore = n ∧ t.mem = s.mem ∧
      t.near = s.near := by
  have hnamed := selectCore_named h (n := n.val) (by omega)
  have hexec : exec (.dbgHalt n) s = .next (dbgPoke 0xF00014 2 (selectCore n s)) := rfl
  rw [hexec]
  generalize selectCore n.val s = u at hnamed ⊢
  have hcore : n.val ≠ 128 := by omega
  have hrequest : haltRequest n (scanned (u)) = (scanned (u)).modCore n (fun c => { c with haltReq := true }) := by
    simp only [haltRequest, hnamed.halted hn, hruns, hnamed.waits, hin, hcore, Bool.false_eq_true, if_false]
  have hrun := (qcCommand_halt (s := scanned (u)) hnamed.core hn ((sel_word_kept hnamed F.dbgStatusAttached 0 0 (by decide)).trans hattached)).trans
    (congrArg (Prod.mk QcResult.ok) hrequest)
  have hdone := dbgPoke_done (v := 2) hnamed.free (by decide) hrun
  refine ⟨_, rfl, ?_, hdone.result, ?_, hdone.mem.trans hnamed.mem, hdone.near.trans hnamed.near⟩
  · rw [hdone.core, core_modCore]
  · exact (hdone.get F.dbgQcSelCore 0 0 (by decide)).trans hnamed.core

theorem resume_leaves (hhalted : s.coreHalted n = true) :
    ∃ t, exec (.dbgResume n) s = .next t ∧ t.get F.qcStatusHalted n = 0 ∧ (t.core n).stepping = false ∧ t.get F.dbgQcStatResult = 0 ∧
      (t.core n).norm = (s.core n).norm ∧ t.mem = s.mem := by
  have hnamed := selectCore_named h (n := n.val) (by omega)
  have hexec : exec (.dbgResume n) s = .next (dbgPoke 0xF00014 4 (selectCore n s)) := rfl
  rw [hexec]
  generalize selectCore n.val s = u at hnamed ⊢
  have hcore : n.val ≠ 128 := by omega
  have hresume : coreResume n (scanned (u)) =
      ((scanned (u)).clear F.qcStatusHalted n).modCore n (fun c => { c with stepping := false, haltReq := false }) := if_neg hcore
  have hrun := (qcCommand_resume (s := scanned (u)) hnamed.core hn
    ((sel_word_kept hnamed F.dbgStatusAttached 0 0 (by decide)).trans hattached) ((hnamed.halted hn).trans hhalted)).trans
    (congrArg (Prod.mk QcResult.ok) hresume)
  have hnorm : ((scanned u).core n).norm = (s.core n).norm := congrArg CoreSt.norm (hnamed.core_kept n)
  have hdone := dbgPoke_done (v := 4) hnamed.free (by decide) hrun
  refine ⟨_, rfl, ?_, ?_, hdone.result, ?_, hdone.mem.trans hnamed.mem⟩
  · rw [hdone.get F.qcStatusHalted n 0 (by decide)]
    exact get_put_lt _ F.qcStatusHalted n 0 (by decide) (by decide) (by decide)
  · rw [hdone.core, core_modCore]
  · rw [hdone.core, core_modCore]
    exact hnorm

theorem step_leaves (hhalted : s.coreHalted n = true) (hbank : s.bankSelected n = true) :
    ∃ t, exec (.dbgStep n) s = .next t ∧ t.get F.qcStatusHalted n = 0 ∧ (t.core n).stepping = true ∧ t.get F.dbgQcStatResult = 0 ∧
      (t.core n).norm = (s.core n).norm ∧ t.mem = s.mem := by
  have hnamed := selectCore_named h (n := n.val) (by omega)
  have hexec : exec (.dbgStep n) s = .next (dbgPoke 0xF00014 8 (selectCore n s)) := rfl
  rw [hexec]
  generalize selectCore n.val s = u at hnamed ⊢
  have hrun := qcCommand_step (s := scanned (u)) hnamed.core hn
    ((sel_word_kept hnamed F.dbgStatusAttached 0 0 (by decide)).trans hattached) ((hnamed.halted hn).trans hhalted)
    ((hnamed.selected n).trans hbank)
  have hnorm : ((scanned u).core n).norm = (s.core n).norm := congrArg CoreSt.norm (hnamed.core_kept n)
  have hdone := dbgPoke_done (v := 8) hnamed.free (by decide) hrun
  refine ⟨_, rfl, ?_, ?_, hdone.result, ?_, hdone.mem.trans hnamed.mem⟩
  · rw [hdone.get F.qcStatusHalted n 0 (by decide)]
    exact get_put_lt _ F.qcStatusHalted n 0 (by decide) (by decide) (by decide)
  · rw [hdone.core, core_modCore]
  · rw [hdone.core, core_modCore]
    exact hnorm

end

/-- What a write of DBG_CTRL leaves beside a reset that it asks for. -/
theorem dbgCtrlWrite_leaves (v : Word) :
    (dbgCtrlWrite v s).get F.dbgStatusAttached = v.toNat % 2 ∧ (dbgCtrlWrite v s).get F.dbgCtrlAttach = v.toNat % 2 ∧
      (dbgCtrlWrite v s).clk.resetDue = (if bitAt v.toNat 31 then s.clk.resetDue ||| 8 else s.clk.resetDue) ∧
      (bitAt v.toNat 31 = false → (dbgCtrlWrite v s).clk = s.clk) ∧ (dbgCtrlWrite v s).mem = s.mem ∧ (dbgCtrlWrite v s).near = s.near := by
  let t := (codedWrite .dbgCtrl 0 0 v s).1
  let u := t.putBit F.dbgStatusAttached (bitAt v.toNat 0)
  have hlow : b2n (bitAt v.toNat 0) = v.toNat % 2 := by rw [← bits_self]; simp only [bits, Nat.shiftRight_zero, Nat.sub_zero, Nat.zero_add, Nat.pow_one]
  have hattached : u.get F.dbgStatusAttached = v.toNat % 2 := by
    refine Eq.trans (get_put_lt t F.dbgStatusAttached 0 0 (by decide) (by decide) ?_) hlow
    rw [hlow]
    exact Nat.mod_lt _ (by decide)
  have hattach : u.get F.dbgCtrlAttach = v.toNat % 2 := by
    have hword : t.word .dbgCtrl = codedWord RegName.dbgCtrl.info (s.lockedBlock .dbg) (s.word .dbgCtrl) v := word_setWord_same ..
    have hfield : t.get F.dbgCtrlAttach = bits v.toNat 0 0 :=
      (congrArg (fun w : Word => bits w.toNat 0 0) hword).trans (codedWord_field (n := RegName.dbgCtrl.info) _ _ _ (by decide) (by decide))
    have hother : u.get F.dbgCtrlAttach = t.get F.dbgCtrlAttach := get_put_other_reg t F.dbgStatusAttached F.dbgCtrlAttach _ 0 0 0 0 (by decide)
    rw [hother, hfield, bits_self, hlow]
  have heq : dbgCtrlWrite v s = if bitAt v.toNat 31 then resetFor 8 u else u := rfl
  have hkept : u.clk = s.clk ∧ u.mem = s.mem ∧ u.near = s.near := ⟨rfl, rfl, rfl⟩
  clear_value u
  obtain ⟨hclk, hmem, hnear⟩ := hkept
  rw [heq, ← hclk, ← hmem, ← hnear]
  split
  · exact ⟨hattached, hattach, rfl, fun hno => absurd hno (by simp [*]), rfl, rfl⟩
  · exact ⟨hattached, hattach, rfl, fun _ => rfl, rfl, rfl⟩

theorem attach_leaves {v : Word} (h : PortFree s) (hv : bits v.toNat 31 31 = 0) :
    ∃ t, exec (.dbgAttach v) s = .next t ∧ t.get F.dbgStatusAttached = v.toNat % 2 ∧ t.get F.dbgCtrlAttach = v.toNat % 2 ∧
      t.clk = s.clk ∧ t.mem = s.mem ∧ t.near = s.near := by
  have hexec : exec (.dbgAttach v) s = .next (dbgResult 0 0 false (dbgCtrlWrite v (scanned s))) := by
    rw [← dbgBlockWrite_ctrl, ← dbgPoke_block h (by decide) (by decide) (by decide)]
    rfl
  have hno : bitAt v.toNat 31 = false := by
    rw [bits_self] at hv
    cases hbit : bitAt v.toNat 31 with
    | false => rfl
    | true => rw [hbit] at hv; exact absurd hv (by decide)
  obtain ⟨hattached, hattach, -, hclk, hmem, hnear⟩ := dbgCtrlWrite_leaves (s := scanned s) v
  generalize dbgCtrlWrite v (scanned s) = t at hexec hattached hattach hclk hmem hnear
  exact ⟨_, hexec, hattached, hattach, hclk hno, hmem, hnear⟩

theorem sysrst_leaves {v : Word} (h : PortFree s) :
    ∃ t, exec (.dbgSysrstReq v) s = .next t ∧ t.clk.resetDue = s.clk.resetDue ||| 8 ∧ t.mem = s.mem ∧ t.near = s.near := by
  have hexec : exec (.dbgSysrstReq v) s = .next (dbgResult 0 0 false (dbgCtrlWrite (v ||| 0x80000000) (scanned s))) := by
    rw [← dbgBlockWrite_ctrl, ← dbgPoke_block h (by decide) (by decide) (by decide)]
    rfl
  have hset : bitAt (v ||| 0x80000000).toNat 31 = true := by
    have htop : (0x80000000 : Word).toNat.testBit 31 = true := by decide
    rw [bitAt, BitVec.toNat_or, Nat.testBit_or, htop, Bool.or_true]
  obtain ⟨-, -, hdue, -, hmem, hnear⟩ := dbgCtrlWrite_leaves (s := scanned s) (v ||| 0x80000000)
  rw [if_pos hset] at hdue
  generalize dbgCtrlWrite (v ||| 0x80000000) (scanned s) = t at hexec hdue hmem hnear
  exact ⟨_, hexec, hdue, hmem, hnear⟩

theorem freeze_leaves {v : Word} (h : PortFree s) :
    ∃ t, exec (.dbgFreezeWrite v) s = .next t ∧ t.get F.dbgFreezeOn = bits v.toNat 31 31 ∧ t.get F.dbgFreezeTrig = bits v.toNat 16 16 ∧
      t.get F.dbgFreezeScrub = bits v.toNat 2 2 ∧ t.get F.dbgFreezeWxDispatch = bits v.toNat 0 0 ∧ t.mem = s.mem ∧ t.near = s.near := by
  have hexec : exec (.dbgFreezeWrite v) s = .next (dbgResult 0 0 false (codedWrite .dbgFreeze 0 0 v (scanned s)).1) := by
    rw [← dbgBlockWrite_freeze, ← dbgPoke_block h (by decide) (by decide) (by decide)]
    rfl
  have hword : (dbgResult 0 0 false (codedWrite .dbgFreeze 0 0 v (scanned s)).1).word .dbgFreeze =
      codedWord RegName.dbgFreeze.info (s.lockedBlock .dbg) (s.word .dbgFreeze) v := word_setWord_same ..
  have hfield (k : Nat) (h32 : k < 32) (hrw : ∀ i ≤ k, k ≤ i → RegName.dbgFreeze.info.rw.testBit i = true ∧ RegName.dbgFreeze.info.w1c.testBit i = false) :
      bits ((dbgResult 0 0 false (codedWrite .dbgFreeze 0 0 v (scanned s)).1).word .dbgFreeze).toNat k k = bits v.toNat k k := by
    rw [hword, codedWord_field (n := RegName.dbgFreeze.info) _ _ _ h32 hrw]
  exact ⟨_, hexec, hfield 31 (by decide) (by decide), hfield 16 (by decide) (by decide), hfield 2 (by decide) (by decide),
    hfield 0 (by decide) (by decide), rfl, rfl⟩

/-- A core's halt leaves its two banks as they were. -/
theorem haltCore_leaves (n cause : Nat) :
    (haltCore n cause s).get F.qcStatusHalted n = 1 ∧
      (haltCore n cause s).core n = { s.core n with haltReq := false, haltPending := false, stepping := false, haltCause := cause } ∧
      Tab.look (haltCore n cause s).resv n = none := by
  have hcut : (windowCut n s).cores = s.cores := by
    simp only [windowCut]
    split
    · simp only [nextTarget]
      split <;> rfl
    · rfl
  let t := (windowCut n s).flag F.qcStatusHalted n
  have hflag : t.get F.qcStatusHalted n = 1 := get_put_lt _ F.qcStatusHalted n 0 (by decide) (by decide) (by decide)
  have hcore : t.core n = s.core n := core_of_cores (t := t) hcut n
  refine ⟨hflag, ?_, tab_look_del_same ..⟩
  have hmod := core_modCore t n (fun c => { c with haltReq := false, haltPending := false, stepping := false, haltCause := cause })
  rw [hcore] at hmod
  exact hmod

end

/-- Settles O40: a command of the block runs on the state that its scans leave, in which no register but those of the port has changed. -/
theorem coreDebugCommandsComplete : Obligations.CoreDebugCommandsComplete := by
  unfold Obligations.CoreDebugCommandsComplete
  refine ⟨?_, ?_, ?_, ?_, ?_, ?_, ?_⟩
  · intro v s hshut hextest hidle hv
    exact attach_leaves ⟨hshut, hextest, hidle⟩ hv
  · intro v s hshut hextest hidle
    exact sysrst_leaves ⟨hshut, hextest, hidle⟩
  · intro n s hshut hextest hidle hattached hn hruns hin
    exact halt_leaves ⟨hshut, hextest, hidle⟩ hattached hn hruns hin
  · intro n s hclk hn hreq hpend hruns
    have hexec : exec (.coreHalted n) s = .next (haltCore n 1 s) := by
      have hcore : n.val ≠ 128 := by omega
      change execCoreHalted n s = _
      simp only [execCoreHalted, whenClocked, hcore, hclk, hreq, hpend, hruns, and_self, if_true, if_false]
    obtain ⟨hhalted, hcore, hresv⟩ := haltCore_leaves (s := s) n.val 1
    have hmem := (haltCore_untouched n.val 1 s).1
    rw [hexec]
    generalize haltCore n 1 s = t at hhalted hcore hresv hmem ⊢
    refine ⟨t, rfl, hhalted, ?_, ?_, hresv, hmem, ?_, ?_⟩ <;> rw [hcore]
  · intro n s hshut hextest hidle hattached hn hhalted
    exact ⟨resume_leaves ⟨hshut, hextest, hidle⟩ hattached hn hhalted, step_leaves ⟨hshut, hextest, hidle⟩ hattached hn hhalted⟩
  · intro k s n hshut hextest hidle hn hhalted hitem hbank hno hk
    exact registers_leave ⟨hshut, hextest, hidle⟩ hn hhalted hitem hbank hno hk
  · intro v s hshut hextest hidle
    exact freeze_leaves ⟨hshut, hextest, hidle⟩

end Sys2Proof.Machine
end
